-- ==== Sys2Proof/Word.lean ====
section
/-! DEFINITION. The word types of the VX96 and their plainest arithmetic (spec/00_scope R4, R9). -/

namespace Sys2Proof

/-- A register of BAR0 (R4). -/
abbrev Word := BitVec 32
/-- An engine register or a 64-bit value. -/
abbrev Dword := BitVec 64
/-- A byte of a frame, a record or a memory. -/
abbrev Byte := BitVec 8

/-- Bits hi to lo of a number, right-aligned. -/
def bits (n hi lo : Nat) : Nat := (n / 2 ^ lo) % 2 ^ (hi + 1 - lo)

/-- Bit i of a number. -/
def bitOf (n i : Nat) : Bool := n / 2 ^ i % 2 == 1

/-- The number 1 or 0 of a truth value. -/
def b2n (b : Bool) : Nat := if b then 1 else 0

/-- The smallest multiple count: n divided by k, rounded up. -/
def ceilDiv (n k : Nat) : Nat := (n + (k - 1)) / k

end Sys2Proof
end

