-- ==== Sys2Proof/Syntax.lean ====
section
/-! DEFINITION. The commands of the VX96, one constructor per row of spec/opcode_table.json, and the types of their operands.
A row's doc comment is the table's own summary of it, with its rule. -/

namespace Sys2Proof

/-- Who makes a register access: the line-card CPU or the management subsystem (R5). -/
inductive Requester where
  | host
  | mss
  deriving DecidableEq, Repr

/-- A stop-change-restart register (R42) by its function. -/
inductive ScrId where
  | line (g : Fin 12)
  | flx (f : Fin 12)
  | ave (p : Fin 17)
  | lkp
  | tcm
  | bpm
  | sch (c : Fin 512)
  | fab
  deriving DecidableEq, Repr

/-- An activation slot (R36) by its function. -/
inductive SlotId where
  | flxCal (f : Fin 12)
  | pg
  | avePs
  | lkpUpd (w : Fin 2)
  | pat
  | shp
  | fabLset
  | pmuSnap
  deriving DecidableEq, Repr

/-- A marker-lock machine (R55, R325): a PCS lane of a port, a PHY of a FlexE group, a FlexO member of a port group or a
fabric lane. -/
inductive LockId where
  | pcs (p : Fin 96) (l : Fin 32)
  | phy (f : Fin 12) (k : Fin 8)
  | flexo (g : Fin 12) (i : Fin 16)
  | fab (l : Fin 128)
  deriving DecidableEq, Repr

/-- Where a codeword was decoded (R51): an Ethernet port or FlexE PHY, or the FlexO interface of a port group. -/
inductive FecSource where
  | port (p : Fin 96)
  | flexo (g : Fin 12)
  deriving DecidableEq, Repr

/-- A thread by its physical avenue, its physical engine and its number (R110). -/
structure Tid where
  ave : Fin 17
  eng : Fin 35
  thr : Fin 8
  deriving DecidableEq, Repr

/-- What the check codes of the code bank and of the engine's own memories found in one issue (R517). -/
inductive Ecc where
  | clean
  | codeCorrected
  | codeBad
  | dataCorrected (loc : BitVec 32)
  | dataBad (loc : BitVec 32)
  deriving DecidableEq, Repr


/-- What a start finds of the hardware (R431, R435, R539): the factory area's CRC right, the flash's size in MiB as SFDP gives it (0 when it
does not answer), its header right, single-wire reading only, the loader valid, the crossing and the DRAM channels trained, the core rails
set, and the STEP at which the start comes to a stand, 9 when it does not. -/
structure BootHw where
  eepromOk : Bool
  flashMib : BitVec 16
  flashHdr : Bool
  slow : Bool
  loaderOk : Bool
  crossOk : Bool
  dramOk : Bool
  railOk : Bool
  hang : Fin 10
  deriving DecidableEq, Repr

/-- A finding of a sweep of the on-die memories (R528): corrected findings name the unit, the code and the instance of their report. -/
inductive ScrubFind where
  /-- A word of lookup SRAM with bad parity. -/
  | lookup (word : BitVec 21)
  /-- A TCAM entry of a slice whose row differs from its check copy, or whose check copy has bad parity. -/
  | tcamRow (slice : Fin 17) (table : Fin 8) (idx : BitVec 16)
  | tcamParity (slice : Fin 17) (table : Fin 8) (idx : BitVec 16)
  /-- A bundle of a code bank, corrected or not. -/
  | code (ave : Fin 17) (bankB : Bool) (addr : BitVec 15) (corrected : Bool)
  /-- A word of a graph bank's copy, corrected or not. -/
  | graph (ave : Fin 17) (word : BitVec 16) (corrected : Bool)
  /-- A policer record, corrected or not. -/
  | policer (x : BitVec 20) (corrected : Bool)
  /-- A word of a configuration memory, one copy or both. -/
  | config (unit : Byte) (mem : BitVec 12) (word : Word) (both : Bool)
  /-- A word of MSS SRAM or of always-on SRAM, corrected or not. -/
  | mss (word : Word) (corrected : Bool)
  | alwaysOn (word : Word) (corrected : Bool)
  /-- The end of a sweep, and whether it overran its period. -/
  | sweepEnd (late : Bool)
  deriving DecidableEq, Repr

/-- A TAP instruction: the ones that R546 names, or another by its code. -/
inductive TapInstr where
  | bypass
  | idcode
  | sample
  | other (code : Byte)
  deriving DecidableEq, Repr

/-- A reference clock (R545). -/
inductive RefClock where
  | sysRef
  | lref (k : Fin 3)
  | fref (k : Fin 2)
  | pcieRef
  | aonClk
  deriving DecidableEq, Repr

/-- A row operation's slice, and whether the check-store word that a block move reads in it has wrong parity (R232, R238). -/
structure RowStep where
  slice : Fin 17
  bad : Bool
  deriving DecidableEq, Repr

/-- The table of a READ, and whether the check-store word that it reads has wrong parity (R234, R238). -/
structure CheckRead where
  table : Fin 8
  bad : Bool
  deriving DecidableEq, Repr

/-- The commands of the block: the rows of spec/opcode_table.json, in its order. -/
inductive Instr where
  /-- REGISTER_WRITE (R8): A host or firmware write to a register that has no row of its own sets, clears or ignores its fields by their access types, apply-at-boundary and stopped-only rules. -/
  | registerWrite (r : Requester) (a : BitVec 28) (v : Word)
  /-- UNSUPPORTED_REQUEST_ACCESS (R4): A BAR0 access that is not a naturally aligned 32-bit access completes with Unsupported Request, changes nothing and is logged. -/
  | unsupportedRequestAccess (r : Requester) (a : BitVec 28) (size : Nat) (wr : Bool)
  /-- UNMAPPED_ACCESS (R20): An aligned access to an offset with no register returns 0 or is ignored and is counted as unmapped. -/
  | unmappedAccess (r : Requester) (a : BitVec 28) (wr : Bool)
  /-- LATCHING_LOW_HALF_READ (R5): A read of the low half of a 64-bit value latches the high half for that requester. -/
  | latchingLowHalfRead (r : Requester) (a : BitVec 28)
  /-- HIGH_HALF_WRITE (R6): A write of the high half of a 64-bit value makes the whole value take effect. -/
  | highHalfWrite (r : Requester) (a : BitVec 28) (v : Word)
  /-- READ_CLEAR_READ (R8): A read of an RC register returns the value as before the clock and then clears it, keeping that clock's events. -/
  | readClearRead (r : Requester) (a : BitVec 28)
  /-- BEAT_BOUNDARY (R31): At clock 0 of each beat the module swaps double buffers, applies due activations and boundary changes, advances rotating priorities and makes due stop-change-restart transitions. -/
  | beatBoundary (overs : List (Fin 10)) (bad : List (BitVec 27 × Fin 3))
  /-- CROSSING_DELIVERY (R12): The flits handed over at one boundary are delivered to the other die at the next boundary, carrying records, control and the beat word. -/
  | crossingDelivery (toTm : Bool) (badData : List Nat) (badCtl : Bool)
  /-- EPOCH_LOAD (R26): At the first TAI second boundary after the time subsystem first locks, the beat number is loaded from TAI and EPOCH_SET is set. -/
  | epochLoad
  /-- REALIGN (R28): A write of REALIGN requests loading of the TAI-derived beat number at the next TAI second boundary. -/
  | realign
  /-- REALIGN_LOAD (R28): At the first TAI second boundary after REALIGN the beat number is loaded from TAI and pending activation targets are re-evaluated. -/
  | realignLoad
  /-- ARM (R37): A write of ARM to an activation slot arms the shadow change for the TARGET beat, or for the next beat with LATE when the target is not ahead, or is rejected while PENDING. -/
  | arm (k : SlotId) (cancelToo : Bool)
  /-- CANCEL (R38): A write of CANCEL disarms the pending change of an activation slot unless the boundary that applies it has come. -/
  | cancel (k : SlotId)
  /-- START (R43): A write of CMD = START to a stop-change-restart register is checked and, when accepted, begins the start sequence at the next boundary. -/
  | start (f : ScrId)
  /-- STOP (R43): A write of CMD = STOP is checked and, when accepted, aborts a start or begins the drain at the next boundary, or returns FAULTED to STOPPED. -/
  | stop (f : ScrId)
  /-- INVALID_CMD (R44): A write of CMD = 3 is rejected with reason INVALID. -/
  | invalidCmd (f : ScrId)
  /-- START_SEQUENCE_COMPLETE (R43): A function's start sequence completes and sync-complete is set, and STATE becomes RUNNING at the boundary. -/
  | startSequenceComplete (f : ScrId) (fault : BitVec 8)
  /-- DRAIN_COMPLETE (R43): A draining function finds itself drained at a boundary and STATE becomes STOPPED. -/
  | drainComplete (f : ScrId)
  /-- START_TIMEOUT (R77): A start sequence that has not completed within its bound sends STATE to FAULTED with FAULT_CODE 0xFE. -/
  | startTimeout (f : ScrId)
  /-- DRAIN_TIMEOUT (R78): A drain that has not completed within 1 ms sends STATE to FAULTED with FAULT_CODE 0xFF. -/
  | drainTimeout (f : ScrId)
  /-- DEADLINE (R33): A packet whose 1,024 clocks end without a disposition is cut off, its work discarded and it receives the deadline disposition. -/
  | deadline (p : Fin 17) (slot : Fin 1024)
  /-- SIGNAL_DETECT_LOSS (R58): Signal detect absent on a lane of a port for 1 µs sets LOS and takes the port receive down. -/
  | signalDetectLoss (lane : Fin 96)
  /-- SIGNAL_DETECT_RETURN (R58): Signal detect present on every lane of a port for 10 ms clears LOS. -/
  | signalDetectReturn (port : Fin 96)
  /-- MARKER_SEARCH_FIND (R55): A marker pattern found at a position in SEARCH moves the lock instance to CONFIRM at that position. -/
  | markerSearchFind (k : LockId) (pos : Nat)
  /-- MARKER_PERIOD (R55): At each marker period the lock instance tests the marker position and moves between CONFIRM, LOCKED and SEARCH by finds and misses. -/
  | markerPeriod (k : LockId) (found laneOk deskewOk : Bool)
  /-- FEC_UNCORRECTABLE (R51): An RS(544,514) codeword that cannot be corrected marks all its blocks as errors so overlapping frames are dropped. -/
  | fecUncorrectable (src : FecSource) (ctxs : List (Fin 192))
  /-- SER_WINDOW_END (R58): At the end of each codeword window the port judges HI_SER and DEG_SER against their limits. -/
  | serWindowEnd (port : Fin 96) (corr : Nat)
  /-- LOCAL_FAULT_RECEIVED (R58): Local-fault sequences from the PCS set LF, take the port receive down and send remote fault. -/
  | localFaultReceived (port : Fin 96)
  /-- REMOTE_FAULT_RECEIVED (R58): Received remote-fault sequences set RF and take the port transmit down. -/
  | remoteFaultReceived (port : Fin 96)
  /-- FAULT_SEQUENCES_ABSENT (R58): 128 consecutive columns without fault sequences clear LF or RF. -/
  | faultSequencesAbsent (port : Fin 96) (isLocal : Bool)
  /-- RDEG_RECEIVED (R58): The far end signalling degraded SER sets or clears RDEG. -/
  | rdegReceived (port : Fin 96) (on : Bool)
  /-- FRAME_HEADER_TO_KERB (R52): The first 256 bytes of a frame at 200 Gb/s or more reach the kerb, which stores it, computes its steering and queues its header. -/
  | frameHeaderToKerb (m : Fin 192) (head : List Byte)
  /-- FRAME_DATA_ARRIVAL (R84): Further bytes of a frame reach the kerb and take kerb-store blocks, or lose storage when none is free. -/
  | frameDataArrival (m : Fin 192) (data : List Byte)
  /-- FRAME_END (R52): The end of a frame is received and the frame is judged for runt, oversize and FCS error. -/
  | frameEnd (m : Fin 192) (len : Nat) (fcsOk : Bool)
  /-- GATHER_FRAME_COMPLETE (R53): A frame below 200 Gb/s is complete in the gather buffer and is dropped as oversize or FCS error or passed to the MAC at 200 Gb/s. -/
  | gatherFrameComplete (m : Fin 192) (fcsOk : Bool)
  /-- AVENUE_ADMISSION (R113): In each clock an avenue takes one header from its kerb queue into slot (k mod 4) × 256 + c. -/
  | avenueAdmission (l : Fin 16)
  /-- EGRESS_FRAME_TRANSMIT (R60): An egress record delivered to the FE is sent by its MAC context, or dropped with reason port down when the context is not up. -/
  | egressFrameTransmit
  /-- CR_RECEIVED (R69): A calendar request from the far end is acknowledged with CA only when the requested calendar fits the enabled clients, else CAL_MM is set. -/
  | crReceived (f : Fin 12) (calB : Bool)
  /-- CA_RECEIVED (R68): CA for the requested calendar on every PHY makes transmit switch at the next overhead multiframe boundary, flipping the C bit. -/
  | caReceived (f : Fin 12) (k : Fin 8) (calB : Bool)
  /-- C_BIT_FLIP_RECEIVED (R68): A received C bit flip switches the receive calendar and RX_ACTIVE. -/
  | cBitFlipReceived (f : Fin 12)
  /-- CA_TIMEOUT (R68): No CA within TMO_MS withdraws CR, keeps the active calendar and sets CA_TMO. -/
  | caTimeout (f : Fin 12)
  /-- FLEXE_OVERHEAD_FRAME (R71): A received FlexE overhead frame is checked for group number, PHY map, calendar and remote PHY fault, setting the group's defects. -/
  | flexeOverheadFrame (f : Fin 12) (k : Fin 8) (group : BitVec 20) (phyMap : BitVec 256) (mfOk : Bool) (rpf : Bool) (skewNs : Nat) (cal : List (BitVec 16))
  /-- OTN_CALENDAR_SWITCH (R74): Under CARRIER 1 the transmitter switches calendars at the first OPUCn multiframe boundary after the target beat and flips the indicator. -/
  | otnCalendarSwitch (g : Fin 12) (transmit : Bool)
  /-- OTN_MULTIFRAME_RECEIVED (R75): A received OTUCn multiframe is checked for TTI, BDI, maintenance signals and calendar indicator, setting defects and signal fail. -/
  | otnMultiframeReceived (g : Fin 12) (aligned : Bool) (smTti pmTti : BitVec 512) (smBdi pmBdi : Bool) (smBip pmBip smBei pmBei : Nat) (maint : Bool)
  /-- OTN_SECOND (R75): At each second the errored BIP-8 blocks are judged for SM_DEG and PM_DEG. -/
  | otnSecond (g : Fin 12)
  /-- HEADER_VECTOR_COMPLETE (R86): 64 clocks after admission the parser completes the header vector by walking the parse graph, and the packet becomes eligible or receives its parse-error action. -/
  | headerVectorComplete (p : Fin 17) (slot : Fin 1024) (memErr : Option Nat)
  /-- RECIRCULATION_QUEUE_TRANSFER (R103): Up to 2 headers per clock move from an avenue's recirculation queue into its kerb queue. -/
  | recirculationQueueTransfer (l : Fin 16)
  /-- PG_CHECK (R107): A write of CHECK in PG_CHK_CTL starts a check of the named graph bank, or is ignored while a check runs. -/
  | pgCheck (bankB : Bool)
  /-- PG_CHECK_COMPLETE (R107): The graph bank check ends, setting CLEAN when no fault was found and reporting the first fault. -/
  | pgCheckComplete
  /-- DISPATCH (R114): In each clock up to 2 eligible packets are dispatched oldest first to the engines with most FREE threads, initialising the threads. -/
  | dispatch (p : Fin 17)
  /-- BUNDLE_ISSUE (R119): Each engine issues one bundle per clock from its least recently issued READY thread, faulting on slot-rule breaches. -/
  | bundleIssue (p : Fin 17) (e : Fin 35) (ecc : Ecc)
  /-- NOP (R169): Does nothing. -/
  | nop (t : Tid) (gd : BitVec 4)
  /-- ADD (R170): ALU function: rd = ra + rb modulo 2^64. -/
  | add (t : Tid) (gd : BitVec 4) (rd ra rb : BitVec 5)
  /-- SUB (R170): ALU function: rd = ra − rb modulo 2^64. -/
  | sub (t : Tid) (gd : BitVec 4) (rd ra rb : BitVec 5)
  /-- AND (R170): ALU function: rd = ra AND rb. -/
  | and (t : Tid) (gd : BitVec 4) (rd ra rb : BitVec 5)
  /-- OR (R170): ALU function: rd = ra OR rb. -/
  | or (t : Tid) (gd : BitVec 4) (rd ra rb : BitVec 5)
  /-- XOR (R170): ALU function: rd = ra XOR rb. -/
  | xor (t : Tid) (gd : BitVec 4) (rd ra rb : BitVec 5)
  /-- ANDN (R170): ALU function: rd = ra AND NOT rb. -/
  | andn (t : Tid) (gd : BitVec 4) (rd ra rb : BitVec 5)
  /-- SHL (R170): ALU function: rd = ra shifted left by rb[5:0]. -/
  | shl (t : Tid) (gd : BitVec 4) (rd ra rb : BitVec 5)
  /-- SHR (R170): ALU function: rd = ra shifted right logically by rb[5:0]. -/
  | shr (t : Tid) (gd : BitVec 4) (rd ra rb : BitVec 5)
  /-- SAR (R170): ALU function: rd = ra shifted right arithmetically by rb[5:0]. -/
  | sar (t : Tid) (gd : BitVec 4) (rd ra rb : BitVec 5)
  /-- ROL (R170): ALU function: rd = ra rotated left by rb[5:0]. -/
  | rol (t : Tid) (gd : BitVec 4) (rd ra rb : BitVec 5)
  /-- MIN (R170): ALU function: signed minimum of ra and rb. -/
  | min (t : Tid) (gd : BitVec 4) (rd ra rb : BitVec 5)
  /-- MAX (R170): ALU function: signed maximum of ra and rb. -/
  | max (t : Tid) (gd : BitVec 4) (rd ra rb : BitVec 5)
  /-- MINU (R170): ALU function: unsigned minimum of ra and rb. -/
  | minu (t : Tid) (gd : BitVec 4) (rd ra rb : BitVec 5)
  /-- MAXU (R170): ALU function: unsigned maximum of ra and rb. -/
  | maxu (t : Tid) (gd : BitVec 4) (rd ra rb : BitVec 5)
  /-- MUL (R170): ALU function: low 64 bits of ra × rb. -/
  | mul (t : Tid) (gd : BitVec 4) (rd ra rb : BitVec 5)
  /-- MULHU (R170): ALU function: high 64 bits of the unsigned product. -/
  | mulhu (t : Tid) (gd : BitVec 4) (rd ra rb : BitVec 5)
  /-- CLZ (R170): ALU function: leading zeros of ra. -/
  | clz (t : Tid) (gd : BitVec 4) (rd ra : BitVec 5)
  /-- POPC (R170): ALU function: number of set bits of ra. -/
  | popc (t : Tid) (gd : BitVec 4) (rd ra : BitVec 5)
  /-- BSWAP (R170): ALU function: ra with its bytes reversed. -/
  | bswap (t : Tid) (gd : BitVec 4) (rd ra : BitVec 5)
  /-- CSADD (R170): ALU function: ones'-complement sum of the 16-bit words of ra and rb. -/
  | csadd (t : Tid) (gd : BitVec 4) (rd ra rb : BitVec 5)
  /-- CRC32 (R170): ALU function: CRC-32 of the 8 bytes of rb from initial value ra[31:0]. -/
  | crc32 (t : Tid) (gd : BitVec 4) (rd ra rb : BitVec 5)
  /-- ADDI (R169): rd = ra + imm12. -/
  | addi (t : Tid) (gd : BitVec 4) (rd ra : BitVec 5) (imm : BitVec 12)
  /-- ANDI (R169): rd = ra AND imm12. -/
  | andi (t : Tid) (gd : BitVec 4) (rd ra : BitVec 5) (imm : BitVec 12)
  /-- ORI (R169): rd = ra OR imm12. -/
  | ori (t : Tid) (gd : BitVec 4) (rd ra : BitVec 5) (imm : BitVec 12)
  /-- XORI (R169): rd = ra XOR imm12. -/
  | xori (t : Tid) (gd : BitVec 4) (rd ra : BitVec 5) (imm : BitVec 12)
  /-- SHLI (R169): rd = ra shifted left by imm[5:0]. -/
  | shli (t : Tid) (gd : BitVec 4) (rd ra : BitVec 5) (sh : BitVec 6)
  /-- SHRI (R169): rd = ra shifted right logically by imm[5:0]. -/
  | shri (t : Tid) (gd : BitVec 4) (rd ra : BitVec 5) (sh : BitVec 6)
  /-- SARI (R169): rd = ra shifted right arithmetically by imm[5:0]. -/
  | sari (t : Tid) (gd : BitVec 4) (rd ra : BitVec 5) (sh : BitVec 6)
  /-- EXT (R169): rd = a bit field of ra. -/
  | ext (t : Tid) (gd : BitVec 4) (rd ra : BitVec 5) (pos len1 : BitVec 6)
  /-- INS (R169): Inserts the low bits of ra into a bit field of rd. -/
  | ins (t : Tid) (gd : BitVec 4) (rd ra : BitVec 5) (pos len1 : BitVec 6)
  /-- MOVI (R169): rd = sign-extended imm17. -/
  | movi (t : Tid) (gd : BitVec 4) (rd : BitVec 5) (imm : BitVec 17)
  /-- LIMM (R169): rd = the sign-extended literal of the next slot. -/
  | limm (t : Tid) (gd : BitVec 4) (rd : BitVec 5) (lit : Word)
  /-- LIMMH (R169): rd bits 63:32 = the literal of the next slot. -/
  | limmh (t : Tid) (gd : BitVec 4) (rd : BitVec 5) (lit : Word)
  /-- CMP (R171): pd = the condition on ra and rb. -/
  | cmp (t : Tid) (gd : BitVec 4) (cond : BitVec 7) (pd : BitVec 3) (ra rb : BitVec 5)
  /-- CMPEQI (R171): pd = ra equals imm12. -/
  | cmpeqi (t : Tid) (gd : BitVec 4) (pd : BitVec 3) (ra : BitVec 5) (imm : BitVec 12)
  /-- CMPNEI (R171): pd = ra differs from imm12. -/
  | cmpnei (t : Tid) (gd : BitVec 4) (pd : BitVec 3) (ra : BitVec 5) (imm : BitVec 12)
  /-- CMPLTI (R171): pd = ra below imm12, signed. -/
  | cmplti (t : Tid) (gd : BitVec 4) (pd : BitVec 3) (ra : BitVec 5) (imm : BitVec 12)
  /-- CMPGEI (R171): pd = ra at or above imm12, signed. -/
  | cmpgei (t : Tid) (gd : BitVec 4) (pd : BitVec 3) (ra : BitVec 5) (imm : BitVec 12)
  /-- CMPLTUI (R171): pd = ra below imm12, unsigned. -/
  | cmpltui (t : Tid) (gd : BitVec 4) (pd : BitVec 3) (ra : BitVec 5) (imm : BitVec 12)
  /-- CMPGEUI (R171): pd = ra at or above imm12, unsigned. -/
  | cmpgeui (t : Tid) (gd : BitVec 4) (pd : BitVec 3) (ra : BitVec 5) (imm : BitVec 12)
  /-- TSTI (R171): pd = (ra AND imm12) not 0. -/
  | tsti (t : Tid) (gd : BitVec 4) (pd : BitVec 3) (ra : BitVec 5) (imm : BitVec 12)
  /-- PLOG (R171): pd = a logic function of predicates pa and pb. -/
  | plog (t : Tid) (gd : BitVec 4) (fn : BitVec 7) (pd pa pb : BitVec 3)
  /-- MOVP (R169): rd bits 7:0 = p7 to p0. -/
  | movp (t : Tid) (gd : BitVec 4) (rd : BitVec 5)
  /-- PMOV (R169): p7 to p0 = ra bits 7:0. -/
  | pmov (t : Tid) (gd : BitVec 4) (ra : BitVec 5)
  /-- RDS (R169): rd = shared register s[n]. -/
  | rds (t : Tid) (gd : BitVec 4) (rd n : BitVec 5)
  /-- WRS (R169): Shared register s[n] = rb. -/
  | wrs (t : Tid) (gd : BitVec 4) (n rb : BitVec 5)
  /-- FADDS (R162): Atomically returns s[n] and adds rb to it. -/
  | fadds (t : Tid) (gd : BitVec 4) (rd n rb : BitVec 5)
  /-- HLD (R166): Loads header-vector bytes into rd, faulting HV_RANGE out of range. -/
  | hld (t : Tid) (gd : BitVec 4) (rd ra : BitVec 5) (imm : BitVec 12)
  /-- HST (R166): Stores rd into a writable header-vector area, faulting HV_RANGE otherwise. -/
  | hst (t : Tid) (gd : BitVec 4) (rd ra : BitVec 5) (imm : BitVec 12)
  /-- LLD (R168): Loads local-memory bytes into rd, faulting LM_RANGE out of range or misaligned. -/
  | lld (t : Tid) (gd : BitVec 4) (rd ra : BitVec 5) (imm : BitVec 12)
  /-- LST (R168): Stores rd into local memory, faulting LM_RANGE out of range or misaligned. -/
  | lst (t : Tid) (gd : BitVec 4) (rd ra : BitVec 5) (imm : BitVec 12)
  /-- EPUT (R177): Appends ra as the next edit-script word, faulting SCRIPT at length 8. -/
  | eput (t : Tid) (gd : BitVec 4) (ra : BitVec 5)
  /-- ESET (R177): Replaces edit-script word k with ra, faulting SCRIPT at or past the length. -/
  | eset (t : Tid) (gd : BitVec 4) (ra : BitVec 5) (k : BitVec 3)
  /-- ECLR (R169): Sets the edit-script length to 0. -/
  | eclr (t : Tid) (gd : BitVec 4)
  /-- LKP (R172): Sends a key to the table named by its identity through the roundabout, or faults LOOKUP_ERR. -/
  | lkp (t : Tid) (gd : BitVec 4) (rd ra : BitVec 5) (table : BitVec 10)
  /-- TCS (R173): Sends a header-vector key to the avenue's TCAM slice under a search profile. -/
  | tcs (t : Tid) (gd : BitVec 4) (rd : BitVec 5) (hoff : BitVec 6) (prof : BitVec 8)
  /-- POL (R174): Sends a policer request with index, arriving colour and byte count. -/
  | pol (t : Tid) (gd : BitVec 4) (rd ra : BitVec 5)
  /-- STAT (R175): Adds 1 packet and a byte count to a statistics counter pair, or is discarded when high bits are set. -/
  | stat (t : Tid) (gd : BitVec 4) (ra rb : BitVec 5)
  /-- WAITR (R169): Blocks the thread until no request of it is outstanding. -/
  | waitr (t : Tid) (gd : BitVec 4)
  /-- SEND (R176): Stages ra on a channel and commits the message when LAST is set. -/
  | send (t : Tid) (gd : BitVec 4) (ra : BitVec 5) (last : Bool) (ch : BitVec 4)
  /-- RECV (R176): Receives the next message of a channel into rd to rd + 3, blocking while it is empty. -/
  | recv (t : Tid) (gd : BitVec 4) (rd : BitVec 5) (ch : BitVec 4)
  /-- RECVT (R169): Receives a message when one is present and sets pd accordingly, without blocking. -/
  | recvt (t : Tid) (gd : BitVec 4) (rd : BitVec 5) (pd : BitVec 3) (ch : BitVec 4)
  /-- ABORT (R132): A supervisor thread aborts a packet thread, handled as a fault with code ABORT. -/
  | abort (t : Tid) (gd : BitVec 4) (ra : BitVec 5)
  /-- BRK (R141): Halts the thread when its engine is isolated, otherwise only counts a PMU event. -/
  | brk (t : Tid) (gd : BitVec 4)
  /-- BR (R169): Branches to the target. -/
  | br (t : Tid) (gd : BitVec 4) (target : BitVec 15)
  /-- CALL (R169): Saves program counter + 1 in rl and branches to the target. -/
  | call (t : Tid) (gd : BitVec 4) (rl : BitVec 5) (target : BitVec 15)
  /-- LOOP (R169): Decrements rl and branches to the target while it is not 0. -/
  | loop (t : Tid) (gd : BitVec 4) (rl : BitVec 5) (target : BitVec 15)
  /-- JMP (R169): Jumps to rl[14:0]. -/
  | jmp (t : Tid) (gd : BitVec 4) (rl : BitVec 5)
  /-- FWD (R180): Disposition forward: ends the program with queue, destination, colour and scan profile, carrying the edit script. -/
  | fwd (t : Tid) (gd : BitVec 4) (ra : BitVec 5)
  /-- REPL (R180): Disposition replicate: ends the program naming a replication list. -/
  | repl (t : Tid) (gd : BitVec 4) (ra : BitVec 5)
  /-- PUNT (R180): Disposition punt: ends the program, sending the frame to a host ring with a reason. -/
  | punt (t : Tid) (gd : BitVec 4) (ra : BitVec 5)
  /-- RECIRC (R180): Disposition recirculate: ends the program and requests another pass. -/
  | recirc (t : Tid) (gd : BitVec 4) (ra : BitVec 5)
  /-- DROP (R180): Disposition drop: ends the program and drops the packet with a reason. -/
  | drop (t : Tid) (gd : BitVec 4) (ra : BitVec 5)
  /-- LOOKUP_RESPONSE (R163): A table lookup response arrives and writes its registers, waking a waiting thread, or faults on an errored response. -/
  | lookupResponse (t : Tid) (k : Fin 8) (bad : Option (BitVec 28))
  /-- TCAM_SEARCH_RESPONSE (R227): A TCAM search completes and writes its response word to the thread. -/
  | tcamSearchResponse (t : Tid) (k : Fin 8) (falseAt : List (BitVec 16)) (parity : Bool)
  /-- POLICER_RESPONSE (R242): A policer request is served at its bank, updating the record and returning the colour. -/
  | policerResponse (t : Tid) (k : Fin 8) (bad : Bool)
  /-- CHANNEL_COMMIT (R125): A staged message blocked on a full channel is committed in the first clock with room. -/
  | channelCommit (p : Fin 17) (e : Fin 35) (ch : Fin 16)
  /-- ALL_THREADS_BLOCKED (R133): All 8 threads of an engine in BLOCKED_INT with nothing outstanding fire a notice to the supervisor's ch1. -/
  | allThreadsBlocked (p : Fin 17) (e : Fin 35)
  /-- ISO (R135): A write of ISO isolates an engine from ordinary dispatch, or is rejected beyond 4 engines or on the supervisor. -/
  | iso (p : Fin 17) (e : Fin 35) (on : Bool)
  /-- HALT (R138): A HALT command halts a thread at its next bundle boundary when isolated or forced, else sets DBG_REJ. -/
  | halt (p : Fin 17) (e : Fin 35) (mask : BitVec 8)
  /-- RESUME (R140): A RESUME command returns a HALTED thread to its prior state, or a HALTED_DL thread to FREE. -/
  | resume (p : Fin 17) (e : Fin 35) (mask : BitVec 8)
  /-- STEP (R140): A STEP command lets a HALTED thread issue one bundle and halt again. -/
  | step (p : Fin 17) (e : Fin 35) (mask : BitVec 8)
  /-- CODE_DATA3_WRITE (R142): A write of AVE_CODE_DATA3 commits a bundle to the named bank of every avenue not self-testing, or is ignored on a protected bank. -/
  | codeData3Write (r : Requester) (v : Word)
  /-- CODE_DATA0_READ (R142): A read of AVE_CODE_DATA0 fetches the bundle at ADDR from the window's avenue copy. -/
  | codeData0Read (r : Requester) (p : Fin 17)
  /-- PS_CHECK (R144): A write of CHECK in AVE_PS_CHK starts a check of the named code bank. -/
  | psCheck (bankB : Bool)
  /-- PS_CHECK_COMPLETE (R144): The code bank check ends, setting CLEAN when every bundle passes. -/
  | psCheckComplete (eccAt : Option (Fin 17 × BitVec 15))
  /-- ENGINE_REMAP (R148): A write of AVE_ENG_MAP_k while RUNNING maps a spare engine in place of an isolated idle one, or sets MAP_IGNORED. -/
  | engineRemap (p : Fin 17) (k : Fin 32) (phys : BitVec 6)
  /-- BIST_FAIL (R155): Self-test of a stopped avenue finds a fault, sets BIST_FAIL and retires the failing engine. -/
  | bistFail (p : Fin 17) (e : Fin 35)
  /-- EDIT_END (R178): Script command END ends the edit script. -/
  | editEnd
  /-- EDIT_DEL (R178): Script command DEL removes LEN bytes at OFF. -/
  | editDel (off : BitVec 16) (len : Byte)
  /-- EDIT_INS (R178): Script command INS inserts N bytes before OFF. -/
  | editIns (off : BitVec 16) (data : List Byte)
  /-- EDIT_OVR (R178): Script command OVR overwrites N bytes at OFF. -/
  | editOvr (off : BitVec 16) (data : List Byte)
  /-- DEC4 (R178): Script command DEC4 decrements an IPv4 TTL and updates the checksum. -/
  | dec4 (off : BitVec 16)
  /-- DEC6 (R178): Script command DEC6 decrements an IPv6 hop limit. -/
  | dec6 (off : BitVec 16)
  /-- DECM (R178): Script command DECM decrements an MPLS TTL. -/
  | decm (off : BitVec 16)
  /-- PCOPY (R178): Script command PCOPY overwrites bytes with the copy's per-copy data. -/
  | pcopy (off : BitVec 16) (n : Byte)
  /-- BANK_QUEUE_ENTRY (R188): A lookup read waiting at its avenue's lookup unit enters its bank queue in the first clock with room. -/
  | bankQueueEntry (l : Fin 16) (bank : Fin 64)
  /-- POLICER_QUEUE_ENTRY (R191): A policer request waiting at the lookup unit enters its policer bank queue when there is room. -/
  | policerQueueEntry (l : Fin 16) (bank : Fin 16)
  /-- INSERT (R203): Hash command INSERT places an entry in its buckets, moving up to 8 residents if needed, or fails DUPLICATE or FULL. -/
  | insert (r : Requester) (w : Fin 2) (table : Byte) (static : Bool)
  /-- REPLACE (R203): Hash command REPLACE rewrites the result and STATIC of a present entry. -/
  | replace (r : Requester) (w : Fin 2) (table : Byte) (static : Bool)
  /-- DELETE (R203): Hash command DELETE clears an entry's VALID. -/
  | delete (r : Requester) (w : Fin 2) (table : Byte)
  /-- FIND (R203): Hash command FIND returns an entry's result. -/
  | find (r : Requester) (w : Fin 2) (table : Byte)
  /-- WINDOW_READ (R556): A table window read operation returns the target word into DATA. -/
  | windowRead (r : Requester) (w : Fin 2) (target : Fin 4)
  /-- WINDOW_WRITE (R556): A table window write operation stages an SRAM write or writes statistics, replication or DRAM at once. -/
  | windowWrite (r : Requester) (w : Fin 2) (target : Fin 4)
  /-- COMMIT (R216): A write of COMMIT makes the writer's staged overlay entries committed at the next boundary. -/
  | commit (w : Fin 2)
  /-- DISCARD (R216): A write of DISCARD removes the writer's staged overlay entries. -/
  | discard (w : Fin 2)
  /-- OVERLAY_DRAIN (R218): The maintenance port writes a committed overlay entry into its bank and frees it. -/
  | overlayDrain (bank : Fin 65)
  /-- ROUTE_DELTA (R213): Mailbox command ROUTE_DELTA applies a route-delta batch to the FIB and writes its result area. -/
  | routeDelta
  /-- SHADOW_COMPARE (R223): Firmware compares each routed-table word with its shadow at least every 2 s and rewrites mismatches. -/
  | shadowCompare (word : BitVec 28) (found : BitVec 512)
  /-- TCAM_QUEUE_ENTRY (R229): A TCAM search waiting in its engine enters its table queue when there is room. -/
  | tcamQueueEntry (p : Fin 17) (e : Fin 35) (t : Fin 8)
  /-- TCAM_ROW_OPERATION (R232): A slice's update engine performs one WRITE, VALIDATE or INVALIDATE row operation in a free search slot. -/
  | tcamRowOperation (p : RowStep)
  /-- TCAM_WRITE (R234): TCAM command WRITE replaces entry i with the window's value, mask and action. -/
  | tcamWrite (r : Requester) (w : Fin 2) (table : Fin 8)
  /-- TCAM_INSERT (R235): TCAM command INSERT places a new entry before entry i by a block move. -/
  | tcamInsert (r : Requester) (w : Fin 2) (table : Fin 8)
  /-- TCAM_DELETE (R234): TCAM command DELETE invalidates entry i. -/
  | tcamDelete (r : Requester) (w : Fin 2) (table : Fin 8)
  /-- TCAM_READ (R234): TCAM command READ returns an entry from the check store of the selected slice. -/
  | tcamRead (r : Requester) (w : Fin 2) (table : CheckRead)
  /-- TCAM_CLEAR (R234): TCAM command CLEAR invalidates every entry of the table. -/
  | tcamClear (r : Requester) (w : Fin 2) (table : Fin 8)
  /-- TCAM_COMMAND_COMPLETE (R231): A TCAM command completes when the last slice has finished it and BUSY falls. -/
  | tcamCommandComplete (w : Fin 2)
  /-- POLICER_REFRESH (R243): The module refreshes each valid policer at least once every 60 s with a token-free update. -/
  | policerRefresh (x : BitVec 20)
  /-- POLICER_WINDOW_READ (R244): Policer window operation read returns a policer record into D0 to D3. -/
  | policerWindowRead (r : Requester) (w : Fin 2) (bad : Bool)
  /-- POLICER_WINDOW_WRITE (R244): Policer window operation write replaces a record in a free or clock-128 slot of its bank. -/
  | policerWindowWrite (r : Requester) (w : Fin 2)
  /-- PATTERN_SCAN (R246): An automaton unit scans a copied frame with its profile's pattern set, writing match records or abandoning on an error. -/
  | patternScan (u : Fin 4) (err : Option (BitVec 32))
  /-- PAT_WIN_WRITE (R249): A write of PAT_WIN_DATA_HI writes 8 bytes into an image slot, or is ignored on the active or protected slot. -/
  | patWinWrite (r : Requester) (v : Word)
  /-- PAT_CHECK (R249): A write of CHECK in PAT_CHK starts a check of an image slot. -/
  | patCheck (slotB : Bool)
  /-- PAT_CHECK_COMPLETE (R249): The image slot check ends, setting CLEAN when header, CRC, size and range pass. -/
  | patCheckComplete
  /-- PAT_OLD_PROT_END (R249): When every scan begun on the previous image slot has ended, OLD_PROT is cleared. -/
  | patOldProtEnd
  /-- PAT_REC0_READ (R247): A read of PAT_REC0 latches the oldest match record. -/
  | patRec0Read (r : Requester)
  /-- PAT_REC3_READ (R247): A read of PAT_REC3 removes the latched match record from the queue. -/
  | patRec3Read (r : Requester)
  /-- LEARN_EXECUTE (R258): The learning unit executes a queued candidate or ageing deletion as a hash command and writes its learn record. -/
  | learnExecute (ager : Bool)
  /-- FREEZE_EXPIRY (R261): FREEZE_S seconds after a freeze the key is unfrozen and an UNFROZEN record written. -/
  | freezeExpiry (key : BitVec 62)
  /-- UNFREEZE (R261): A write of LRN_UNF_HI unfreezes the named key or every frozen key. -/
  | unfreeze (r : Requester) (v : Word)
  /-- EPOCH_ADVANCE (R262): Every EPOCH_S seconds the epoch advances and the ager sweeps the MAC table, queueing deletions of aged entries. -/
  | epochAdvance
  /-- LRN_REC0_READ (R264): A read of LRN_REC0 latches the oldest learn record, or returns 0 to the non-owner. -/
  | lrnRec0Read (r : Requester)
  /-- LRN_REC7_READ (R264): A read of LRN_REC7 removes the latched learn record from the queue. -/
  | lrnRec7Read (r : Requester)
  /-- RECORD_LANDING (R267): A record delivered from the crossing is checked, allocated handle, buffer and descriptors, written to landing SRAM and enqueued. -/
  | recordLanding
  /-- QUEUE_READ (R280): Queue window operation 1 reads a queue's configuration and depth. -/
  | queueRead (r : Requester) (w : Fin 2)
  /-- QUEUE_WRITE (R280): Queue window operation 2 writes a queue's configuration, applying at the next boundary. -/
  | queueWrite (r : Requester) (w : Fin 2)
  /-- FLUSH (R281): Queue window operation FLUSH detaches a queue's chain at the next boundary and frees its PDs at 4,096 per beat. -/
  | flush (r : Requester) (w : Fin 2)
  /-- MOVE (R283): The mover copies a due landing-SRAM handle to a DRAM buffer and switches the handle, or abandons or fails the move. -/
  | move
  /-- REPLICATION_ENGINE (R285): The replication engine makes up to 16,384 copies per beat from lists, checking each copy's queue, then frees the hold PD. -/
  | replicationEngine
  /-- FREE (R286): A free of a PD from a requester is checked for owner and handle and returns PD, buffer and charge or quarantines. -/
  | free (req : Fin 64) (pd : BitVec 27)
  /-- QUARANTINE_RELEASE (R287): A write of BPM_REL releases a quarantined handle with its buffer, PDs and charge. -/
  | quarantineRelease (h : BitVec 27)
  /-- EGRESS_EDIT (R289): The egress editor applies a taken PD's edit script and per-copy data and hands the egress record to the crossing at the next boundary. -/
  | egressEdit (err : Option (Fin 3))
  /-- SCHEDULER_DECISION (R301): A scheduler decision walks from an output down the tree, picks a queue's head PD, charges shapers, deficits and budget and applies AQM. -/
  | schedulerDecision (o : Fin 194) (bad : Option Bool)
  /-- SAMPLE_READ (R317): Sample window operation read returns a queue's sample record and clears minima, maxima and SAMPLES when CLR is 1. -/
  | sampleRead (r : Requester) (w : Fin 2) (clr : Bool)
  /-- NODE_READ (R319): Node window operation read returns a node record and its token and deficit state. -/
  | nodeRead (r : Requester) (w : Fin 2) (level : Fin 8)
  /-- NODE_WRITE (R319): Node window operation write changes a node record at the next boundary, refusing attachment changes under running channels. -/
  | nodeWrite (r : Requester) (w : Fin 2) (level : Fin 8)
  /-- FABRIC_FRAME_RECEIVED (R324): A lane frame is received and FEC-decoded, discarding its cells when uncorrectable. -/
  | fabricFrameReceived (l : Fin 128) (pattern : BitVec 64) (flags : Byte) (body : BitVec 40) (crc : BitVec 16) (bad : Bool)
  /-- CELL_RECEIVED (R336): A received cell is checked for CRC, stamp window, destination and buffer and accepted into its stream or discarded. -/
  | cellReceived (l : Fin 128) (hdr : BitVec 128) (payload : List Byte)
  /-- REQUEST (R342): A received REQUEST message turns a source's request for an egress index on or off. -/
  | request (src : Fin 64) (e : BitVec 10) (on : Bool)
  /-- GRANT (R343): A received GRANT message adds credit to the CB of the DEST, capped at CB_MAX. -/
  | grant (src : Fin 64) (e : BitVec 10) (units : BitVec 20)
  /-- HEARTBEAT (R350): A received fabric HEARTBEAT from the mate sets LAST_SEQ and restarts AGE_MS. -/
  | heartbeat (src : Fin 64) (seq : BitVec 16) (mstate health : Byte)
  /-- STATUS (R345): A received STATUS message sets FAB_REACH of the sending module. -/
  | status (src : Fin 64) (planes : Byte)
  /-- EMPTY_MESSAGE (R344): A control message of MTYPE 0 is ignored, and MTYPE 5 to 15 is discarded as a cell error. -/
  | emptyMessage (src : Fin 64) (mtype : BitVec 4)
  /-- REQUEST_REPEAT (R341): An ON request is sent again every 64 beats while it stays ON. -/
  | requestRepeat (dest : BitVec 16)
  /-- STATUS_REFRESH (R345): The module sends STATUS to every other module at least once every 1,024 beats. -/
  | statusRefresh
  /-- STATUS_TIMEOUT (R345): No control cell from a module for STATUS_TMO beats clears its REACH and its credit balances. -/
  | statusTimeout (m : Fin 64)
  /-- LANE_ENABLE (R346): A write of FAB_LANE_EN powers lanes up into TRAINING or down to OFF. -/
  | laneEnable (n : Fin 4) (v : Word)
  /-- LANE_FAIL (R348): Loss of signal, lock, excess frame errors or peer RF make a lane FAILED, after which it retrains. -/
  | laneFail (l : Fin 128) (cause : Fin 5)
  /-- LANE_DRAIN_END (R346): 16 beats after entering DRAINING a lane goes to READY or OFF. -/
  | laneDrainEnd (l : Fin 128)
  /-- LANE_RETURN (R349): A lane of the active set READY for RET_HOLD beats enters IN at the next boundary whose beat is a multiple of 16. -/
  | laneReturn (l : Fin 128)
  /-- DRAM_REQUEST (R359): An agent's DRAM request is split into bursts and accepted into pseudo-channel queues, or refused for a reserved or untrained range. -/
  | dramRequest (tm : Bool) (agent : Fin 8) (addr : BitVec 37) (len : BitVec 16) (data : Option (List Byte))
  /-- DRAM_QUEUE_ENTRY (R359): A burst waiting for a full pseudo-channel queue is accepted when room appears. -/
  | dramQueueEntry (c : Fin 128) (p : Fin 2) (write : Bool)
  /-- BURST_SERVICE (R360): A pseudo-channel serves one queued burst chosen by drain state, row hits, age and the age cap. -/
  | burstService (c : Fin 128) (p : Fin 2) (err : Fin 3)
  /-- OPEN_ROW_TIMEOUT (R364): A row kept open is precharged after OPEN_MAX clocks with no burst to its bank. -/
  | openRowTimeout (c : Fin 128) (p : Fin 2) (bank : Fin 16)
  /-- BANK_REFRESH (R365): Each bank receives its refresh per interval, postponed or pulled in within POSTPONE, forced when the debt is reached. -/
  | bankRefresh (c : Fin 128) (p : Fin 2) (bank : Fin 16)
  /-- SELF_REFRESH_ENTRY (R367): A parked TM channel idle for IDLE × 8 clocks precharges all banks to begin self-refresh entry. -/
  | selfRefreshEntry (c : Fin 128)
  /-- SELF_REFRESH_ENTRY_COMMAND (R367): 23 clocks after the precharge the self-refresh entry command issues unless a request cancelled it. -/
  | selfRefreshEntryCommand (c : Fin 128)
  /-- SELF_REFRESH_EXIT_COMPLETE (R368): A channel woken from self-refresh completes its exit, serves the waiting request first and counts the wake. -/
  | selfRefreshExitComplete (c : Fin 128)
  /-- STACK_TEMPERATURE_SAMPLE (R369): Every 1 ms each stack's temperature is read and thermal parking begins or ends at its thresholds. -/
  | stackTemperatureSample (k : Fin 4) (temp : Byte)
  /-- DRAM_SCRUB_READ (R371): A scrub read of a burst corrects and rewrites, or reports an uncorrectable error. -/
  | dramScrubRead (c : Fin 128) (p : Fin 2) (bank : Fin 16) (row : Fin 24576) (col : Fin 16) (err : Fin 3)
  /-- REMAP_DATA_WRITE (R372): A write of HBM_CH_REMAP_DATA sets a remap entry and starts copying the row, or is refused with REMAP_REJ. -/
  | remapDataWrite (c : Fin 128) (v : Word)
  /-- REMAP_COPY_COMPLETE (R372): The copy of a remapped row ends and held bursts are served from the spare row. -/
  | remapCopyComplete (c : Fin 128) (entry : Fin 64) (err : List (Fin 3))
  /-- WRITE_THEN_COMPARE (R374): Training helper operation 1 writes the pattern over the training rows and compares it. -/
  | writeThenCompare (c : Fin 128) (pc : Fin 2) (pattern : BitVec 4)
  /-- COMPARE_ONLY (R374): Training helper operation 2 compares the training rows with the pattern. -/
  | compareOnly (c : Fin 128) (pc : Fin 2) (pattern : BitVec 4)
  /-- WRITE_ONLY (R374): Training helper operation 3 writes the pattern over the training rows. -/
  | writeOnly (c : Fin 128) (pc : Fin 2) (pattern : BitVec 4)
  /-- TRAINING_HELPER_COMPLETE (R374): The training helper finishes and reports per-lane compare failures. -/
  | trainingHelperComplete (c : Fin 128) (lmask : Word) (spmask : BitVec 6) (ecnt : Word)
  /-- PERST_N_ASSERT (R380): PERST_N asserted takes the link down and resets configuration space, rings, vectors and mailboxes. -/
  | perstNAssert
  /-- PERST_N_RELEASE (R430): Release of PERST_N, once boot step 6 has passed, starts link training. -/
  | perstNRelease
  /-- HOT_RESET (R380): A hot reset or data-link-layer link down resets configuration space, rings, vectors and mailboxes. -/
  | hotReset (linkDown : Bool)
  /-- FUNCTION_LEVEL_RESET (R380): A Function Level Reset abandons DMA and resets the host side except link settings. -/
  | functionLevelReset
  /-- D3HOT_ENTRY (R380): Entering D3hot stops punts, injects and messages while keeping state. -/
  | d3hotEntry
  /-- D0_RETURN (R380): Return to D0 resumes rings and messages. -/
  | d0Return
  /-- BUS_MASTER_ENABLE_CLEAR (R380): Clearing Bus Master Enable stops DMA and messages while keeping state. -/
  | busMasterEnableClear
  /-- HOST_READ_TIMEOUT (R379): A host read not completed within 50 ms completes with Completer Abort and is counted. -/
  | hostReadTimeout (addr : BitVec 28)
  /-- RING_ENABLE (R384): Writing a ring's EN from 0 to 1 clears HEAD, TAIL, ACK and HALTED. -/
  | ringEnable (inj : Bool) (r : Fin 64) (v : Word)
  /-- RING_DISABLE (R384): Clearing a ring's EN stops new punts or fetches while finishing accepted work. -/
  | ringDisable (inj : Bool) (r : Fin 64) (v : Word)
  /-- PUNT_WRITE (R392): The DMA engine writes an accepted punt's data and descriptor back to its ring and advances HEAD. -/
  | puntWrite
  /-- DESCRIPTOR_FETCH (R385): A ring descriptor fetch completes, or ends with an error that halts the ring. -/
  | descriptorFetch (inj : Bool) (r : Fin 64) (ok : Bool) (w0 w1 w2 w3 : Dword)
  /-- INJECT_READ (R394): A fetched inject descriptor's packet is checked and read and built into a crossing record as requester 16. -/
  | injectRead (ok : Bool) (bytes : List Byte)
  /-- MODERATION_TIMER (R398): TIME_US after a ring's pending count rose from 0 its moderation condition holds. -/
  | moderationTimer (inj : Bool) (r : Fin 64)
  /-- VECTOR_EOI (R397): A write of HIF_VEC_EOI clears the vector's PEND, re-raising it at once when a cause is still active. -/
  | vectorEoi (v : Fin 64)
  /-- MSIX_UNMASK (R397): Unmasking a vector with its PBA bit set sends its message. -/
  | msixUnmask (v : Fin 64)
  /-- MAILBOX_POST (R400): A write of TAG posts the staged pointer and tag as a message, or sets SEND_REJ when the mailbox is full. -/
  | mailboxPost (r : Requester) (m : Fin 32) (tag : Word)
  /-- POP (R401): A write of POP takes the message, clears FULL and sets EMPTIED. -/
  | pop (r : Requester) (m : Fin 32)
  /-- WITHDRAW (R403): A write of WITHDRAW clears FULL without EMPTIED, or sets WD_REJ. -/
  | withdraw (r : Requester) (m : Fin 32)
  /-- COMMAND_TAKE (R410): Firmware takes the next full command mailbox, reads the block header and pops it. -/
  | commandTake (ok : Bool) (c0 c3 : Dword) (payload : List Byte)
  /-- ANSWER_POST (R409): Firmware writes an answer and C1 and posts the notice on the answer mailbox once it is empty. -/
  | answerPost (m : Fin 16) (ok : Bool)
  /-- GET_INFO (R412): Command GET_INFO returns image version, epoch, mode and boot reason. -/
  | getInfo
  /-- ECHO (R412): Command ECHO returns its payload. -/
  | echo
  /-- ROUTE_STAT (R412): Command ROUTE_STAT returns the last accepted SEQ, its beat and prefix counts. -/
  | routeStat
  /-- CMIS_READ (R412): Command CMIS_READ reads bytes of an optics module. -/
  | cmisRead (ok : Bool) (data : List Byte)
  /-- CMIS_WRITE (R412): Command CMIS_WRITE writes bytes of an optics module. -/
  | cmisWrite (ok : Bool)
  /-- OPTICS_CFG (R414): Command OPTICS_CFG sets polling, host control and bus mode for a port group. -/
  | opticsCfg
  /-- BFD_SET (R415): Command BFD_SET creates or changes a BFD session. -/
  | bfdSet
  /-- BFD_DEL (R412): Command BFD_DEL deletes a BFD session. -/
  | bfdDel
  /-- BFD_GET (R412): Command BFD_GET returns session states. -/
  | bfdGet
  /-- LACP_SET (R412): Command LACP_SET configures an aggregation. -/
  | lacpSet
  /-- LACP_GET (R412): Command LACP_GET returns actor and partner state per member. -/
  | lacpGet
  /-- RESP_SET (R412): Command RESP_SET adds an ARP or ND responder address. -/
  | respSet
  /-- RESP_DEL (R412): Command RESP_DEL removes a responder address. -/
  | respDel
  /-- MEP_SET (R412): Command MEP_SET configures a CFM maintenance end point. -/
  | mepSet
  /-- MEP_GET (R412): Command MEP_GET returns remote-MEP state and delay and loss results. -/
  | mepGet
  /-- IPFIX_SET (R412): Command IPFIX_SET configures an IPFIX collector. -/
  | ipfixSet
  /-- SENSOR_READ (R418): Command SENSOR_READ returns sensor values, alarms and maxima. -/
  | sensorRead
  /-- SENSOR_THR (R419): Command SENSOR_THR sets a sensor's WARN and CRIT thresholds. -/
  | sensorThr
  /-- LOG_READ (R422): Command LOG_READ returns event records from the ring, retained or flash log. -/
  | logRead
  /-- ID_READ (R412): Command ID_READ returns the EEPROM factory area. -/
  | idRead
  /-- TAG_READ (R412): Command TAG_READ returns bytes of the tag area. -/
  | tagRead
  /-- TAG_WRITE (R425): Command TAG_WRITE writes the tag area in 32-byte pages. -/
  | tagWrite
  /-- KEY_ENROL (R427): Command KEY_ENROL enrols a public key into an empty slot when allowed. -/
  | keyEnrol
  /-- KEY_REVOKE (R427): Command KEY_REVOKE revokes an enrolled key slot under a valid signature. -/
  | keyRevoke
  /-- KEY_LIST (R412): Command KEY_LIST returns the key-enrolment area. -/
  | keyList
  /-- EVPN_READ (R412): Command EVPN_READ returns EVPN table entries. -/
  | evpnRead
  /-- SUP_SEND (R417): Command SUP_SEND delivers a message to ch3 of a logical avenue's supervisor, waiting up to 1 ms for room. -/
  | supSend (late : Bool)
  /-- OPTICS_POLL (R413): At each polling interval firmware polls the optics modules of a port group. -/
  | opticsPoll (g : Fin 12) (evs : List (Fin 8 × BitVec 2 × Byte))
  /-- BFD_RECEIVE_CHECK (R416): The supervisor's BFD library checks a received control packet and sends KIND 1 and KIND 2 messages on ch4. -/
  | bfdReceiveCheck (l : Fin 16) (byAddr : Option (BitVec 15)) (st : BitVec 2) (poll fin : Bool) (mult : Byte) (my your tx rx echo : Word)
  /-- SUPERVISOR_MESSAGE (R417): Firmware receives a ch4 message from a supervisor and acts by its SERVICE. -/
  | supervisorMessage (l : Fin 16)
  /-- BFD_DETECTION_TIMEOUT (R416): A session's detection timer expires and firmware declares it Down with diagnostic 1. -/
  | bfdDetectionTimeout (sess : BitVec 15)
  /-- BFD_TRANSMIT (R415): At each jittered transmit interval firmware sends a BFD control packet from the session template. -/
  | bfdTransmit (sess : BitVec 15) (jitter : Fin 26)
  /-- LACP_PERIODIC_TRANSMIT (R413): At each fast or slow interval firmware sends LACPDUs on member ports. -/
  | lacpPeriodicTransmit (port : Fin 96) (queue : BitVec 20) (frame : List Byte)
  /-- RESPONDER_REQUEST (R413): Firmware answers an ARP request or neighbour solicitation for a configured address, or delivers it to the host. -/
  | responderRequest (af : Bool) (vrf : BitVec 12) (addr : BitVec 128) (ctx : Byte) (queue : BitVec 20) (reply : List Byte) (ring : Fin 64) (frame : List Byte)
  /-- SENSOR_SAMPLE (R418): Every 10 ms the housekeeping core samples every sensor and raises or lowers alarms. -/
  | sensorSample (vs : List Word)
  /-- POWER_LOSS (R429): Loss of a supply resets everything including the always-on domain and starts a boot. -/
  | powerLoss
  /-- RESET_N (R429): RESET_N held low for 10 µs resets all but the always-on domain and starts a boot. -/
  | resetN
  /-- MODULE_RESET (R429): A write of MODULE_RESET resets all but the always-on domain and starts a boot. -/
  | moduleReset (r : Requester)
  /-- FW_RESTART (R429): A write of FW_RESTART reloads and restarts firmware while the data plane forwards on. -/
  | fwRestart (r : Requester)
  /-- BOOT_START (R435): Once rails, clocks and RESET_N allow, the boot ROM runs the boot steps to FORWARDING, minimal or recovery mode. -/
  | bootStart (hw : BootHw)
  /-- CONFIRM (R441): A write of CONFIRM confirms the start, clearing ATTEMPTS and PENDING and writing the boot-state record. -/
  | confirm
  /-- CLR_ATTEMPTS (R443): A write of CLR_ATTEMPTS clears ATTEMPTS and PENDING in SRAM and the record. -/
  | clrAttempts
  /-- KICK (R439): A firmware write of KICK restarts the watchdog period. -/
  | kick
  /-- WATCHDOG_EXPIRY (R439): The watchdog expires and causes a module reset before confirmation or a firmware restart after it. -/
  | watchdogExpiry
  /-- BOOT_TIMEOUT (R439): FORWARDING not reached BOOT_TMO_S after firmware starts causes a module reset with code 0x16. -/
  | bootTimeout
  /-- UPD_BEGIN (R451): Command UPD_BEGIN checks an image header and opens a session. -/
  | updBegin (flashOk : Bool)
  /-- UPD_DATA (R455): Command UPD_DATA receives a body chunk at its offset. -/
  | updData (flashOk : Bool)
  /-- UPD_VERIFY (R455): Command UPD_VERIFY checks the body digest and sections. -/
  | updVerify
  /-- UPD_ACTIVATE (R457): Command UPD_ACTIVATE writes a main image, arms a program image or writes a configuration image. -/
  | updActivate
  /-- UPD_ABORT (R455): Command UPD_ABORT closes the session. -/
  | updAbort
  /-- UPD_CONFIRM (R460): Command UPD_CONFIRM confirms an image on trial. -/
  | updConfirm
  /-- UPD_STATUS (R454): Command UPD_STATUS returns the session state and trial time. -/
  | updStatus
  /-- TRIAL_WARNING (R460): 60 s before an unconfirmed trial ends UPD_STAT.EVENT is set. -/
  | trialWarning
  /-- TRIAL_EXPIRY (R460): An unconfirmed trial timer ends, recording failure 0x18 and causing a module reset. -/
  | trialExpiry
  /-- TIME_TICK (R466): Each 800 MHz tick advances the TAI counter by 1.25 ns × (1 + F), carrying into seconds. -/
  | timeTick
  /-- TIME_NS_READ (R467): A read of TIM_TIME_NS latches fraction and seconds for the requester. -/
  | timeNsRead (r : Requester)
  /-- TIME_SET (R468): MODE 1 of TIM_SET_CTL sets the counter to the given value at the next tick. -/
  | timeSet
  /-- TIME_ADD (R468): MODE 2 of TIM_SET_CTL adds a signed offset to the counter at the next tick. -/
  | timeAdd
  /-- REFERENCE_PPS_EDGE (R471): A PPS edge on a KIND 1 reference is captured and measured. -/
  | referencePpsEdge (n : Fin 3)
  /-- REFERENCE_OFFSET_SUBMIT (R471): A write of TIM_REF_OFS_HI submits a KIND 2 offset measurement. -/
  | referenceOffsetSubmit (n : Fin 3) (v : Word)
  /-- REFERENCE_EDGE_MISSING (R471): No PPS edge within 1.1 s invalidates the channel and sets LOS_SEEN. -/
  | referenceEdgeMissing (n : Fin 3)
  /-- VOTE (R472): At nanosecond 500,000,000 of each second the voter judges valid channels and the servo steers or steps and the state moves. -/
  | vote
  /-- TRIGGER_ENABLE (R481): Writing a trigger's EN to 1 records its target as the anchor. -/
  | triggerEnable (t : Fin 8) (v : Word)
  /-- TRIGGER_FIRE (R480): A trigger whose target is reached fires, acts by ACTION and takes its next periodic target or disarms. -/
  | triggerFire (t : Fin 8)
  /-- TEVT_EDGE (R484): A selected edge on a TEVT pin appends a capture record. -/
  | tevtEdge (n : Fin 4) (rising : Bool)
  /-- QUEUE_FIRST_WORD_READ (R484): A read of the first word of the capture or transmit time-stamp queue latches its oldest record. -/
  | queueFirstWordRead (r : Requester) (tx : Bool)
  /-- QUEUE_LAST_WORD_READ (R484): A read of the last word of the capture or transmit time-stamp queue removes the record. -/
  | queueLastWordRead (r : Requester) (tx : Bool)
  /-- MATE_ENABLE (R493): Writing MATE_CFG.EN 1 sends the mate unit to SYNCING, and 0 to OFF with the claim released. -/
  | mateEnable (v : Word)
  /-- SYNC (R499): A write of SYNC moves SYNCING to STANDBY and starts a primary's wait-to-restore. -/
  | sync
  /-- RELEASE (R495): A write of RELEASE sends an ACTIVE module to RELEASING, releasing its claim. -/
  | release
  /-- FORCE_TAKE (R498): A write of FORCE_TAKE ends the wait-to-restore countdown. -/
  | forceTake
  /-- MATE_KICK (R487): A firmware write of MATE_KICK restarts the kick timer, leaving FAULTED for SYNCING. -/
  | mateKick (r : Requester)
  /-- KICK_TIMEOUT (R487): KICK_MS without a kick releases the claim, stops heartbeats and enters FAULTED. -/
  | kickTimeout
  /-- HEARTBEAT_SEND (R489): In the beat of each whole TAI millisecond, or on an MSTATE change, a heartbeat is sent on the direct and fabric paths. -/
  | heartbeatSend
  /-- DIRECT_HEARTBEAT (R490): A direct heartbeat frame with a good CRC is accepted, setting LAST_SEQ, AGE_MS and the mate's state. -/
  | directHeartbeat (f : BitVec 96)
  /-- MATE_DECLARED_FAILED (R492): Both heartbeat ages exceeding DETECT_MS declare the mate failed; one alone sets PATH_LOSS. -/
  | mateDeclaredFailed
  /-- CLAIM (R494): A STANDBY module meeting its conditions with MATE_SEEN_N high drives its claim and enters CLAIMING. -/
  | claim
  /-- CLAIM_HOLD_END (R488): MATE_SEEN_N high for the whole 10 µs hold moves CLAIMING to ACTIVE. -/
  | claimHoldEnd
  /-- MATE_SEEN_LOW (R488): MATE_SEEN_N going low during the hold withdraws, persists or conflicts by role. -/
  | mateSeenLow
  /-- CLAIM_BACKOFF_END (R488): The claim back-off after a withdrawal or conflict ends. -/
  | claimBackoffEnd
  /-- RELEASING_TIMEOUT (R493): 50 ms after entering RELEASING, or on seeing the mate ACTIVE, the module goes to STANDBY. -/
  | releasingTimeout
  /-- WTR_EXPIRY (R498): A primary's wait-to-restore countdown reaches 0 and it sets TAKE in its heartbeats. -/
  | wtrExpiry
  /-- SELF_TEST_FRAME (R501): Every 100 ms in STANDBY firmware sends a self-test frame through the data path. -/
  | selfTestFrame (frame : List Byte)
  /-- SELF_TEST_TIMEOUT (R501): A self-test frame not returned within 10 ms counts as a failure. -/
  | selfTestTimeout
  /-- LIVE_VALUE_READ (R505): Counter window operation 1 reads a counter's live value. -/
  | liveValueRead (r : Requester) (w : Fin 2)
  /-- SNAPSHOT_VALUE_READ (R506): Counter window operation 2 reads a counter's snapshot value. -/
  | snapshotValueRead (r : Requester) (w : Fin 2)
  /-- SMP_REC0_READ (R512): A read of PMU_SMP_REC0 latches the oldest sample record, or returns 0 to the non-owner. -/
  | smpRec0Read (r : Requester)
  /-- SMP_REC31_READ (R512): A read of PMU_SMP_REC31 removes the latched sample record. -/
  | smpRec31Read (r : Requester)
  /-- TRACE_ENABLE (R515): A write of PMU_TRC_CTL.EN starts or ends a trace, clearing the buffer when set. -/
  | traceEnable (l : Fin 16) (k : Fin 2) (v : Word)
  /-- TRACE_READ (R516): A write of PMU_TRC_IDX reads a trace entry, or is ignored while RUNNING or beyond COUNT. -/
  | traceRead (l : Fin 16) (k : Fin 2) (n : BitVec 12)
  /-- ERROR_REPORT (R521): A unit's error report reaches the error unit, is counted by class and recorded, rate-limited for class 0. -/
  | errorReport (rs : List (Byte × Byte × BitVec 12 × Dword))
  /-- FATAL_HOLD_EXPIRY (R519): FATAL_HOLD_MS after a fatal report with FATAL_ACT 1 the module resets. -/
  | fatalHoldExpiry
  /-- ERR_REC0_READ (R523): A read of ERR_REC0 latches the oldest error record, or returns 0 to the non-owner. -/
  | errRec0Read (r : Requester)
  /-- ERR_REC5_READ (R523): A read of ERR_REC5 removes the latched error record. -/
  | errRec5Read (r : Requester)
  /-- ON_DIE_SCRUB (R528): Each scrub period the module reads every on-die memory word in spare slots and repairs or reports findings. -/
  | onDieScrub (f : ScrubFind)
  /-- INJECTION_ARM (R530): A write of ARM in ERR_INJ arms a check-bit error injection on the next write to the named memory. -/
  | injectionArm (r : Requester) (v : Word)
  /-- MARGIN_LOW (R533): A monitor below MARGIN_LOW for 60 s makes firmware raise its die's core rail by STEP_MV. -/
  | marginLow (mon : Fin 34) (margin : Byte) (pmbOk : Bool)
  /-- MARGIN_CRIT (R534): A monitor below MARGIN_CRIT for 60 s at MAX_MV is reported and may re-home its avenue. -/
  | marginCrit (mon : Fin 34) (margin : Byte)
  /-- CROSSING_WIRE_FLAG (R535): A crossing wire needing correction in over 1,000 flits in a second is recorded in ERR_XW and reported. -/
  | crossingWireFlag (dir : Fin 2) (link : Fin 64) (wire : BitVec 6)
  /-- RAIL_OUT_OF_TOLERANCE (R540): A rail outside 92 % to 108 % of its set value for 5 µs acts as a power loss. -/
  | railOutOfTolerance
  /-- REFERENCE_CLOCK_LOSS (R545): A reference clock absent or out of limits acts as its table row states. -/
  | referenceClockLoss (c : RefClock) (back : Bool)
  /-- THERMAL_STOP (R549): A die sensor reaching 110 °C stops forwarding, powers down SerDes, parks DRAM and drives THERM_N. -/
  | thermalStop
  /-- BOUNDARY_SCAN_INSTRUCTION (R546): A TAP instruction is executed through the boundary-scan chain, acting as BYPASS while RESET_N is high except IDCODE and SAMPLE. -/
  | boundaryScanInstruction (tm : Bool) (ir : TapInstr) (resetHigh : Bool)
  /-- SIGNAL_DETECT_GAIN (R55): Signal detect gained on a line lane sends its lock instances to SEARCH and sets SIG_DET. -/
  | signalDetectGain (lane : Fin 96)
  /-- MATE_SEEN_HIGH (R488): MATE_SEEN_N going high lets a PRIMARY module that kept driving in CLAIMING start its claim hold again, and frees a claim barred by CLAIM_BLOCKED. -/
  | mateSeenHigh
  /-- CROSSING_TRAINING_LOSS (R527): The die-to-die crossing loses training, GEN_CROSS_STAT.UP falls and a class 3 report is raised. -/
  | crossingTrainingLoss
  /-- PCIE_LINK_UP (R430): PCI Express link training completes, LINK_UP is set and configuration requests are answered. -/
  | pcieLinkUp (speed width : Fin 16) (bme : Bool)
  /-- FLASH_OPERATION_END (R448): A flash program or erase, or the loader's image write, ends; a held MODULE_RESET or FW_RESTART takes effect and a KIND 1 activation goes on to its reset or to ACT_FAILED. -/
  | flashOperationEnd (res : Fin 3)
  /-- LACPDU_RECEIVED (R413): Firmware takes an LACPDU punted on a firmware-owned ring and updates and logs member state. -/
  | lacpduReceived (port : Fin 96) (actor partner : Byte) (system : BitVec 64) (key pnum : BitVec 16)
  /-- CFM_FRAME_RECEIVED (R413): Firmware takes a CFM or Y.1731 frame punted on a firmware-owned ring and answers or records it for its MEP. -/
  | cfmFrameReceived (mep : BitVec 13) (op : Fin 4) (v : Dword) (queue : BitVec 20) (reply : List Byte)
  /-- CCM_TRANSMIT (R413): At each MEP's CCM interval firmware sends a continuity check message. -/
  | ccmTransmit (mep : BitVec 13) (queue : BitVec 20) (frame : List Byte)
  /-- IPFIX_EXPORT (R413): A flow whose ACTIVE_S or IDLE_S timeout runs out is exported to its IPFIX collector. -/
  | ipfixExport (c : Fin 4) (n : BitVec 20) (frame : List Byte)
  deriving DecidableEq, Repr

end Sys2Proof
end

