-- ==== Sys2Proof/Machine/Tab.lean ====
section
/-! DEFINITION. Sparse tables: sorted lists of key and value pairs in one canonical form. A key that is not listed reads as
the table's default, and no listed value equals the default, so equal tables are equal data. -/

namespace Sys2Proof.Machine

/-- A sparse table from numbers to values. -/
abbrev Tab (α : Type) := List (Nat × α)

/-- The value at key n; d gives what an unlisted key reads as. -/
def Tab.at {α : Type} (d : Nat → α) : Tab α → Nat → α
  | [], n => d n
  | (k, v) :: t, n => if n = k then v else Tab.at d t n

/-- The table without key n. -/
def Tab.without {α : Type} : Tab α → Nat → Tab α
  | [], _ => []
  | (k, v) :: t, n => if k = n then Tab.without t n else (k, v) :: Tab.without t n

/-- The table with a pair entered before the first higher key. -/
def Tab.enter {α : Type} : Tab α → Nat → α → Tab α
  | [], n, x => [(n, x)]
  | (k, v) :: t, n, x => if n < k then (n, x) :: (k, v) :: t else (k, v) :: Tab.enter t n x

/-- The table with value x at key n, in canonical form again. -/
def Tab.put {α : Type} [DecidableEq α] (d : Nat → α) (t : Tab α) (n : Nat) (x : α) : Tab α :=
  if x = d n then Tab.without t n else Tab.enter (Tab.without t n) n x

/-- The canonical form: keys strictly rising and above lo, no value equal to the default. -/
def Tab.wfFrom {α : Type} [DecidableEq α] (d : Nat → α) : Nat → Tab α → Bool
  | _, [] => true
  | lo, (k, v) :: t => decide (lo ≤ k) && decide (v ≠ d k) && Tab.wfFrom d (k + 1) t

/-- The canonical form of a whole table. -/
def Tab.wf {α : Type} [DecidableEq α] (d : Nat → α) (t : Tab α) : Bool := Tab.wfFrom d 0 t

/-- Reading a table whose unlisted keys all read as x. -/
def Tab.get {α : Type} (x : α) (t : Tab α) (n : Nat) : α := Tab.at (fun _ => x) t n

/-- Writing a table whose unlisted keys all read as x. -/
def Tab.set {α : Type} [DecidableEq α] (x : α) (t : Tab α) (n : Nat) (v : α) : Tab α := Tab.put (fun _ => x) t n v

/-- Several writes at consecutive keys, the first at n. -/
def Tab.setList {α : Type} [DecidableEq α] (x : α) (t : Tab α) (n : Nat) : List α → Tab α
  | [] => t
  | v :: vs => Tab.setList x (Tab.set x t n v) (n + 1) vs

/-- Reads of k consecutive keys, the first at n. -/
def Tab.getList {α : Type} (x : α) (t : Tab α) (n : Nat) : Nat → List α
  | 0 => []
  | k + 1 => Tab.get x t n :: Tab.getList x t (n + 1) k

/-- The table without the keys from lo up to, but not including, hi. -/
def Tab.clear {α : Type} (t : Tab α) (lo hi : Nat) : Tab α := t.filter fun e => decide (e.1 < lo) || decide (hi ≤ e.1)

/-- A byte memory: pairs of address and byte (Host.Cell), unlisted addresses reading as 0. -/
abbrev Mem := Tab Byte

/-- Bytes of a little-endian number, least significant first (R9). -/
def leBytes (n : Nat) : Nat → List Byte
  | 0 => []
  | k + 1 => BitVec.ofNat 8 n :: leBytes (n / 256) k

/-- The number that little-endian bytes spell (R9). -/
def leNat : List Byte → Nat
  | [] => 0
  | b :: bs => b.toNat + 256 * leNat bs

/-- The number that bytes in network order spell (R9). -/
def beNat (bs : List Byte) : Nat := bs.foldl (fun a b => a * 256 + b.toNat) 0

/-- Bytes of a number in network order (R9). -/
def beBytes (n k : Nat) : List Byte := (leBytes n k).reverse

/-- Byte i of a list; past its end 0. -/
def byteAt (bs : List Byte) (i : Nat) : Nat := ((bs[i]?).getD 0).toNat

/-- k bytes of a list from place i; past its end 0. -/
def sliceAt (bs : List Byte) (i : Nat) : Nat → List Byte
  | 0 => []
  | k + 1 => (bs[i]?).getD 0 :: sliceAt bs (i + 1) k

/-- The first place of a list that satisfies a test. -/
def findIdx? {α : Type} (p : α → Bool) (l : List α) : Option Nat := go 0 l
where
  go (i : Nat) : List α → Option Nat
    | [] => none
    | x :: t => if p x then some i else go (i + 1) t

/-- A list with place i replaced; unchanged past its end. -/
def setAt {α : Type} : List α → Nat → α → List α
  | [], _, _ => []
  | _ :: t, 0, x => x :: t
  | y :: t, n + 1, x => y :: setAt t n x

/-- A list without place i. -/
def dropAt {α : Type} : List α → Nat → List α
  | [], _ => []
  | _ :: t, 0 => t
  | y :: t, n + 1 => y :: dropAt t n

/-- The rotating order of R41: n requesters, the one of index b mod n first. -/
def rotOrder (b n : Nat) : List Nat := (List.range n).map fun i => (b % n + i) % n

end Sys2Proof.Machine
end

