-- ==== Sys2Proof/Machine/IsaCode.lean ====
section
/-! DEFINITION. The encodings of the engine instruction set: operation words and bundles (spec/06_engine_isa R156 to R160, R169 to
R171). -/

namespace Sys2Proof.Machine

/-- A register number of an operand field. -/
abbrev Rg := BitVec 5
/-- A predicate number. -/
abbrev Pr := BitVec 3

/-- The functions of ALU (R170). -/
inductive AluFn where
  | add | sub | and | or | xor | andn | shl | shr | sar | rol | min | max | minu | maxu | mul | mulhu | clz | popc | bswap
  | csadd | crc32
  deriving DecidableEq, Repr

/-- The functions with a 12-bit immediate (R169, OP 0x02 to 0x05). -/
inductive ImmFn where
  | addi | andi | ori | xori
  deriving DecidableEq, Repr

/-- The shifts by an immediate (R169, OP 0x06 to 0x08). -/
inductive ShiftFn where
  | shli | shri | sari
  deriving DecidableEq, Repr

/-- The accesses to the header vector and to local memory (R169, OP 0x20 to 0x23). -/
inductive MemFn where
  | hld | hst | lld | lst
  deriving DecidableEq, Repr

/-- An operation, its operand fields as encoded (R169). -/
inductive Op where
  | nop
  | alu (fn : AluFn) (rd ra rb : Rg)
  | imm (fn : ImmFn) (rd ra : Rg) (v : BitVec 12)
  | shift (fn : ShiftFn) (rd ra : Rg) (sh : BitVec 6)
  | ext (rd ra : Rg) (pos len1 : BitVec 6)
  | ins (rd ra : Rg) (pos len1 : BitVec 6)
  | movi (rd : Rg) (v : BitVec 17)
  | limm (rd : Rg)
  | limmh (rd : Rg)
  | cmp (cond : BitVec 7) (pd : Pr) (ra rb : Rg)
  | cmpi (cond : BitVec 3) (pd : Pr) (ra : Rg) (v : BitVec 12)
  | plog (fn : BitVec 7) (pd pa pb : Pr)
  | movp (rd : Rg)
  | pmov (ra : Rg)
  | rds (rd n : Rg)
  | wrs (n rb : Rg)
  | fadds (rd n rb : Rg)
  | mem (fn : MemFn) (rd ra : Rg) (v : BitVec 12)
  | eput (ra : Rg)
  | eset (ra : Rg) (k : BitVec 3)
  | eclr
  | lkp (rd ra : Rg) (table : BitVec 10)
  | tcs (rd : Rg) (hoff : BitVec 6) (prof : BitVec 8)
  | pol (rd ra : Rg)
  | stat (ra rb : Rg)
  | waitr
  | send (ra : Rg) (last : Bool) (ch : BitVec 4)
  | recv (rd : Rg) (ch : BitVec 4)
  | recvt (rd : Rg) (pd : Pr) (ch : BitVec 4)
  | abort (ra : Rg)
  | brk
  | br (target : BitVec 15)
  | call (rl : Rg) (target : BitVec 15)
  | loop (rl : Rg) (target : BitVec 15)
  | jmp (rl : Rg)
  | disp (kind : BitVec 3) (ra : Rg)
  deriving DecidableEq, Repr

/-- The function code of an ALU function (R170). -/
def aluCode : AluFn → Nat
  | .add => 0x00 | .sub => 0x01 | .and => 0x02 | .or => 0x03 | .xor => 0x04 | .andn => 0x05 | .shl => 0x06 | .shr => 0x07
  | .sar => 0x08 | .rol => 0x09 | .min => 0x0A | .max => 0x0B | .minu => 0x0C | .maxu => 0x0D | .mul => 0x10 | .mulhu => 0x11
  | .clz => 0x18 | .popc => 0x19 | .bswap => 0x1A | .csadd => 0x1B | .crc32 => 0x1C

/-- The ALU function of a code; none where the code is not listed (R170). -/
def aluOf : Nat → Option AluFn
  | 0x00 => some .add | 0x01 => some .sub | 0x02 => some .and | 0x03 => some .or | 0x04 => some .xor | 0x05 => some .andn
  | 0x06 => some .shl | 0x07 => some .shr | 0x08 => some .sar | 0x09 => some .rol | 0x0A => some .min | 0x0B => some .max
  | 0x0C => some .minu | 0x0D => some .maxu | 0x10 => some .mul | 0x11 => some .mulhu | 0x18 => some .clz | 0x19 => some .popc
  | 0x1A => some .bswap | 0x1B => some .csadd | 0x1C => some .crc32 | _ => none

/-- Functions of one operand: rb must be 0 (R170). -/
def aluUnary : AluFn → Bool
  | .clz => true | .popc => true | .bswap => true | _ => false

/-- The operands of an operation lie in the ranges that its encoding allows (R158, R169). -/
def Op.ok : Op → Bool
  | .alu fn _ _ rb => !aluUnary fn || rb == 0
  | .ext _ _ pos len1 => pos.toNat + len1.toNat + 1 ≤ 64
  | .ins _ _ pos len1 => pos.toNat + len1.toNat + 1 ≤ 64
  | .cmp cond _ _ _ => cond.toNat ≤ 6
  | .cmpi cond _ _ _ => cond.toNat ≤ 6
  | .plog fn _ _ _ => fn.toNat ≤ 6
  | .rds _ n => n.toNat ≤ 15
  | .wrs n _ => n.toNat ≤ 15
  | .fadds _ n _ => n.toNat ≤ 15
  | .recv rd _ => rd.toNat ≤ 28
  | .recvt rd _ _ => rd.toNat ≤ 28
  | .disp kind _ => kind.toNat ≤ 4
  | _ => true

/-- Operand bits by field places: rd in 21:17, ra in 16:12, then the low 12 bits. -/
def opBits (op rd ra low : Nat) : Nat := op * 2 ^ 22 + rd * 2 ^ 17 + ra * 2 ^ 12 + low

/-- Bits 27:0 of an operation's word (R157, R169). -/
def Op.code : Op → Nat
  | .nop => 0
  | .alu fn rd ra rb => opBits 0x01 rd.toNat ra.toNat (rb.toNat * 2 ^ 7 + aluCode fn)
  | .imm .addi rd ra v => opBits 0x02 rd.toNat ra.toNat v.toNat
  | .imm .andi rd ra v => opBits 0x03 rd.toNat ra.toNat v.toNat
  | .imm .ori rd ra v => opBits 0x04 rd.toNat ra.toNat v.toNat
  | .imm .xori rd ra v => opBits 0x05 rd.toNat ra.toNat v.toNat
  | .shift .shli rd ra sh => opBits 0x06 rd.toNat ra.toNat sh.toNat
  | .shift .shri rd ra sh => opBits 0x07 rd.toNat ra.toNat sh.toNat
  | .shift .sari rd ra sh => opBits 0x08 rd.toNat ra.toNat sh.toNat
  | .ext rd ra pos len1 => opBits 0x09 rd.toNat ra.toNat (pos.toNat * 2 ^ 6 + len1.toNat)
  | .ins rd ra pos len1 => opBits 0x0A rd.toNat ra.toNat (pos.toNat * 2 ^ 6 + len1.toNat)
  | .movi rd v => opBits 0x0B rd.toNat 0 v.toNat
  | .limm rd => opBits 0x0C rd.toNat 0 0
  | .limmh rd => opBits 0x0D rd.toNat 0 0
  | .cmp cond pd ra rb => opBits 0x0E pd.toNat ra.toNat (rb.toNat * 2 ^ 7 + cond.toNat)
  | .cmpi cond pd ra v => opBits (0x10 + cond.toNat) pd.toNat ra.toNat v.toNat
  | .plog fn pd pa pb => opBits 0x17 pd.toNat pa.toNat (pb.toNat * 2 ^ 7 + fn.toNat)
  | .movp rd => opBits 0x18 rd.toNat 0 0
  | .pmov ra => opBits 0x19 0 ra.toNat 0
  | .rds rd n => opBits 0x1A rd.toNat n.toNat 0
  | .wrs n rb => opBits 0x1B n.toNat 0 (rb.toNat * 2 ^ 7)
  | .fadds rd n rb => opBits 0x1C rd.toNat n.toNat (rb.toNat * 2 ^ 7)
  | .mem .hld rd ra v => opBits 0x20 rd.toNat ra.toNat v.toNat
  | .mem .hst rd ra v => opBits 0x21 rd.toNat ra.toNat v.toNat
  | .mem .lld rd ra v => opBits 0x22 rd.toNat ra.toNat v.toNat
  | .mem .lst rd ra v => opBits 0x23 rd.toNat ra.toNat v.toNat
  | .eput ra => opBits 0x28 0 ra.toNat 0
  | .eset ra k => opBits 0x29 0 ra.toNat k.toNat
  | .eclr => opBits 0x2A 0 0 0
  | .lkp rd ra table => opBits 0x30 rd.toNat ra.toNat table.toNat
  | .tcs rd hoff prof => opBits 0x31 rd.toNat 0 (hoff.toNat * 2 ^ 11 + prof.toNat)
  | .pol rd ra => opBits 0x32 rd.toNat ra.toNat 0
  | .stat ra rb => opBits 0x33 0 ra.toNat (rb.toNat * 2 ^ 7)
  | .waitr => opBits 0x35 0 0 0
  | .send ra last ch => opBits 0x38 0 ra.toNat (b2n last * 2 ^ 4 + ch.toNat)
  | .recv rd ch => opBits 0x39 rd.toNat 0 ch.toNat
  | .recvt rd pd ch => opBits 0x3A rd.toNat 0 (pd.toNat * 2 ^ 8 + ch.toNat)
  | .abort ra => opBits 0x3B 0 ra.toNat 0
  | .brk => opBits 0x3C 0 0 0
  | .br target => opBits 0x3E 0 0 target.toNat
  | .call rl target => opBits 0x3E rl.toNat 0 (2 ^ 15 + target.toNat)
  | .loop rl target => opBits 0x3E rl.toNat 0 (2 * 2 ^ 15 + target.toNat)
  | .jmp rl => opBits 0x3E rl.toNat 0 (3 * 2 ^ 15)
  | .disp kind ra => opBits 0x3F 0 ra.toNat kind.toNat

/-- The operation word of a guard and an operation (R157). -/
def opWord (gd : BitVec 4) (o : Op) : Word := BitVec.ofNat 32 (gd.toNat * 2 ^ 28 + o.code)

/-- An operation is kept when a condition on unused bits holds. -/
def whenOp (c : Bool) (o : Op) : Option Op := if c then some o else none

/-- The operation of bits 27:0 of a word, before the range checks of its operands; none for an undefined encoding (R169). -/
def opOfBits (w : Nat) : Option Op :=
  let rd : Rg := BitVec.ofNat 5 (bits w 21 17)
  let ra : Rg := BitVec.ofNat 5 (bits w 16 12)
  let rb : Rg := BitVec.ofNat 5 (bits w 11 7)
  let lo := w % 2 ^ 12
  let v : BitVec 12 := BitVec.ofNat 12 lo
  let pd : Pr := BitVec.ofNat 3 (bits w 19 17)
  let fn := w % 128
  match bits w 27 22 with
  | 0x00 => whenOp (w % 2 ^ 22 == 0) .nop
  | 0x01 => (aluOf fn).map fun f => .alu f rd ra rb
  | 0x02 => some (.imm .addi rd ra v)
  | 0x03 => some (.imm .andi rd ra v)
  | 0x04 => some (.imm .ori rd ra v)
  | 0x05 => some (.imm .xori rd ra v)
  | 0x06 => whenOp (lo < 64) (.shift .shli rd ra (BitVec.ofNat 6 lo))
  | 0x07 => whenOp (lo < 64) (.shift .shri rd ra (BitVec.ofNat 6 lo))
  | 0x08 => whenOp (lo < 64) (.shift .sari rd ra (BitVec.ofNat 6 lo))
  | 0x09 => some (.ext rd ra (BitVec.ofNat 6 (lo / 64)) (BitVec.ofNat 6 lo))
  | 0x0A => some (.ins rd ra (BitVec.ofNat 6 (lo / 64)) (BitVec.ofNat 6 lo))
  | 0x0B => some (.movi rd (BitVec.ofNat 17 w))
  | 0x0C => whenOp (w % 2 ^ 17 == 0) (.limm rd)
  | 0x0D => whenOp (w % 2 ^ 17 == 0) (.limmh rd)
  | 0x0E => whenOp (bits w 21 20 == 0) (.cmp (BitVec.ofNat 7 fn) pd ra rb)
  | 0x10 => whenOp (bits w 21 20 == 0) (.cmpi 0 pd ra v)
  | 0x11 => whenOp (bits w 21 20 == 0) (.cmpi 1 pd ra v)
  | 0x12 => whenOp (bits w 21 20 == 0) (.cmpi 2 pd ra v)
  | 0x13 => whenOp (bits w 21 20 == 0) (.cmpi 3 pd ra v)
  | 0x14 => whenOp (bits w 21 20 == 0) (.cmpi 4 pd ra v)
  | 0x15 => whenOp (bits w 21 20 == 0) (.cmpi 5 pd ra v)
  | 0x16 => whenOp (bits w 21 20 == 0) (.cmpi 6 pd ra v)
  | 0x17 => whenOp (bits w 21 20 == 0 && bits w 16 15 == 0 && bits w 11 10 == 0)
      (.plog (BitVec.ofNat 7 fn) pd (BitVec.ofNat 3 (bits w 14 12)) (BitVec.ofNat 3 (bits w 9 7)))
  | 0x18 => whenOp (w % 2 ^ 17 == 0) (.movp rd)
  | 0x19 => whenOp (rd == 0 && lo == 0) (.pmov ra)
  | 0x1A => whenOp (lo == 0) (.rds rd ra)
  | 0x1B => whenOp (ra == 0 && fn == 0) (.wrs rd rb)
  | 0x1C => whenOp (fn == 0) (.fadds rd ra rb)
  | 0x20 => some (.mem .hld rd ra v)
  | 0x21 => some (.mem .hst rd ra v)
  | 0x22 => some (.mem .lld rd ra v)
  | 0x23 => some (.mem .lst rd ra v)
  | 0x28 => whenOp (rd == 0 && lo == 0) (.eput ra)
  | 0x29 => whenOp (rd == 0 && lo < 8) (.eset ra (BitVec.ofNat 3 lo))
  | 0x2A => whenOp (w % 2 ^ 22 == 0) .eclr
  | 0x30 => whenOp (lo < 1024) (.lkp rd ra (BitVec.ofNat 10 lo))
  | 0x31 => whenOp (bits w 10 8 == 0) (.tcs rd (BitVec.ofNat 6 (bits w 16 11)) (BitVec.ofNat 8 w))
  | 0x32 => whenOp (lo == 0) (.pol rd ra)
  | 0x33 => whenOp (rd == 0 && fn == 0) (.stat ra rb)
  | 0x35 => whenOp (w % 2 ^ 22 == 0) .waitr
  | 0x38 => whenOp (rd == 0 && lo < 32) (.send ra (bitOf w 4) (BitVec.ofNat 4 w))
  | 0x39 => whenOp (ra == 0 && lo < 16) (.recv rd (BitVec.ofNat 4 w))
  | 0x3A => whenOp (ra == 0 && bits w 11 11 == 0 && bits w 7 4 == 0)
      (.recvt rd (BitVec.ofNat 3 (bits w 10 8)) (BitVec.ofNat 4 w))
  | 0x3B => whenOp (rd == 0 && lo == 0) (.abort ra)
  | 0x3C => whenOp (w % 2 ^ 22 == 0) .brk
  | 0x3E =>
    let target : BitVec 15 := BitVec.ofNat 15 w
    match bits w 16 15 with
    | 0 => whenOp (rd == 0) (.br target)
    | 1 => some (.call rd target)
    | 2 => some (.loop rd target)
    | _ => whenOp (target == 0) (.jmp rd)
  | 0x3F => whenOp (rd == 0 && lo < 8) (.disp (BitVec.ofNat 3 w) ra)
  | _ => none

/-- The operation of a word; none where the word is undefined or an operand is out of the range of its encoding. The whole word
of NOP is 0 (R158, R169). -/
def opOf (w : Word) : Option (BitVec 4 × Op) :=
  let gd : BitVec 4 := BitVec.ofNat 4 (w.toNat / 2 ^ 28)
  match opOfBits (w.toNat % 2 ^ 28) with
  | some o => if o.ok && (o != .nop || gd == 0) then some (gd, o) else none
  | none => none

/-- A guard and an operation that a word can hold. -/
def opFits (gd : BitVec 4) (o : Op) : Bool := o.ok && (o != .nop || gd == 0)

/-! ## Bundles (R156, R160) -/

/-- One operation of a bundle: its slot, its guard and its literal, where it has one. -/
structure SlotOp where
  slot : Nat
  gd : BitVec 4
  op : Op
  lit : Word := 0
  deriving DecidableEq, Repr

/-- Word i of a bundle. -/
def bundleWord (b : BitVec 128) (i : Nat) : Word := BitVec.ofNat 32 (b.toNat / 2 ^ (32 * i))

def Op.literal : Op → Bool
  | .limm _ => true | .limmh _ => true | _ => false

/-- The slots from i on: operations, and the slots whose word faults. A literal operation takes the next slot's word, which is
not decoded; in slot 3 it faults (R160, R169). -/
def bundleSlots (b : BitVec 128) : Nat → Nat → List SlotOp × List Nat
  | 0, _ => ([], [])
  | n + 1, i =>
    match opOf (bundleWord b i) with
    | none => let r := bundleSlots b n (i + 1); (r.1, i :: r.2)
    | some (gd, o) =>
      if o.literal then
        match n with
        | 0 => ([], [i])
        | m + 1 =>
          let r := bundleSlots b m (i + 2)
          ({ slot := i, gd := gd, op := o, lit := bundleWord b (i + 1) } :: r.1, r.2)
      else let r := bundleSlots b n (i + 1); ({ slot := i, gd := gd, op := o } :: r.1, r.2)

/-- The slots in which an operation may stand (R160). -/
def Op.slotOk : Op → Nat → Bool
  | .limm _, i => i ≤ 2
  | .limmh _, i => i ≤ 2
  | .rds _ _, i => i ≤ 1 | .wrs _ _, i => i ≤ 1 | .fadds _ _ _, i => i ≤ 1 | .mem _ _ _ _, i => i ≤ 1
  | .eput _, i => i ≤ 1 | .eset _ _, i => i ≤ 1 | .eclr, i => i ≤ 1
  | .lkp _ _ _, i => i == 2 | .tcs _ _ _, i => i == 2 | .pol _ _, i => i == 2 | .stat _ _, i => i == 2 | .waitr, i => i == 2
  | .send _ _ _, i => i == 2 | .recv _ _, i => i == 2 | .recvt _ _ _, i => i == 2 | .abort _, i => i == 2 | .brk, i => i == 2
  | .br _, i => i == 3 | .call _ _, i => i == 3 | .loop _ _, i => i == 3 | .jmp _, i => i == 3 | .disp _ _, i => i == 3
  | _, _ => true

/-- The operations of which a bundle holds at most one (R160). -/
def Op.script : Op → Bool
  | .eput _ => true | .eset _ _ => true | .eclr => true | _ => false

/-- Registers that an operation writes: g n as n, p n as 100 + n, s n as 200 + n; rw gives the response words of a table (R160). -/
def Op.writes (rw : Nat → Nat) : Op → List Nat
  | .alu _ rd _ _ => [rd.toNat] | .imm _ rd _ _ => [rd.toNat] | .shift _ rd _ _ => [rd.toNat]
  | .ext rd _ _ _ => [rd.toNat] | .ins rd _ _ _ => [rd.toNat] | .movi rd _ => [rd.toNat]
  | .limm rd => [rd.toNat] | .limmh rd => [rd.toNat]
  | .cmp _ pd _ _ => [100 + pd.toNat] | .cmpi _ pd _ _ => [100 + pd.toNat] | .plog _ pd _ _ => [100 + pd.toNat]
  | .movp rd => [rd.toNat] | .pmov _ => (List.range 8).map (100 + ·)
  | .rds rd _ => [rd.toNat] | .wrs n _ => [200 + n.toNat] | .fadds rd n _ => [rd.toNat, 200 + n.toNat]
  | .mem .hld rd _ _ => [rd.toNat] | .mem .lld rd _ _ => [rd.toNat]
  | .lkp rd _ t => (List.range (rw t.toNat)).map (rd.toNat + ·)
  | .tcs rd _ _ => [rd.toNat] | .pol rd _ => [rd.toNat]
  | .recv rd _ => (List.range 4).map (rd.toNat + ·)
  | .recvt rd pd _ => (100 + pd.toNat) :: (List.range 4).map (rd.toNat + ·)
  | .call rl _ => [rl.toNat] | .loop rl _ => [rl.toNat]
  | _ => []

/-- g registers that an operation reads; kw gives the key words of a table. -/
def Op.reads (kw : Nat → Nat) : Op → List Nat
  | .alu fn _ ra rb => if aluUnary fn then [ra.toNat] else [ra.toNat, rb.toNat]
  | .imm _ _ ra _ => [ra.toNat] | .shift _ _ ra _ => [ra.toNat] | .ext _ ra _ _ => [ra.toNat] | .ins rd ra _ _ => [rd.toNat, ra.toNat]
  | .limmh rd => [rd.toNat] | .cmp _ _ ra rb => [ra.toNat, rb.toNat] | .cmpi _ _ ra _ => [ra.toNat] | .pmov ra => [ra.toNat]
  | .wrs _ rb => [rb.toNat] | .fadds _ _ rb => [rb.toNat]
  | .mem .hld _ ra _ => [ra.toNat] | .mem .lld _ ra _ => [ra.toNat]
  | .mem .hst rd ra _ => [rd.toNat, ra.toNat] | .mem .lst rd ra _ => [rd.toNat, ra.toNat]
  | .eput ra => [ra.toNat] | .eset ra _ => [ra.toNat]
  | .lkp _ ra t => (List.range (kw t.toNat)).map (ra.toNat + ·)
  | .pol _ ra => [ra.toNat] | .stat ra rb => [ra.toNat, rb.toNat] | .send ra _ _ => [ra.toNat] | .abort ra => [ra.toNat]
  | .loop rl _ => [rl.toNat] | .jmp rl => [rl.toNat] | .disp _ ra => [ra.toNat]
  | _ => []

/-- Slots at which the one-script and the writes limits are first exceeded, in rising slot order (R160). -/
def limitFaults (rw : Nat → Nat) : List SlotOp → List Nat → Bool → List Nat
  | [], _, _ => []
  | o :: t, seen, scr =>
    let w := o.op.writes rw
    let bad := (scr && o.op.script) || w.any (fun r => seen.contains r)
    (if bad then [o.slot] else []) ++ limitFaults rw t (seen ++ w) (scr || o.op.script)

/-- A bundle's operations and the slots that its own bits make fault (R158, R160). -/
def decodeBundle (rw : Nat → Nat) (b : BitVec 128) : List SlotOp × List Nat :=
  let r := bundleSlots b 4 0
  (r.1, r.2 ++ (r.1.filter fun o => !o.op.slotOk o.slot).map (·.slot) ++ limitFaults rw r.1 [] false)

/-- The first slot in which an operation may stand. -/
def Op.homeSlot (o : Op) : Nat := ((List.range 4).find? o.slotOk).getD 0

/-- The bundle that holds one operation in its home slot and NOP elsewhere. -/
def soloBundle (gd : BitVec 4) (o : Op) (lit : Word) : BitVec 128 :=
  BitVec.ofNat 128 ((opWord gd o).toNat * 2 ^ (32 * o.homeSlot) + (if o.literal then lit.toNat * 2 ^ (32 * (o.homeSlot + 1)) else 0))

end Sys2Proof.Machine
end

