-- ==== Sys2Proof/Machine/Regs.lean ====
section
/-! DEFINITION. The register map of BAR0: one row per register or register array of the spec's register tables, with its
offset, its reset value and the access type of its bits (R8, R21). A bit in none of the three masks is read-only or reserved:
a write leaves it (R7, R8). Write-only command bits are in no mask: they read 0 and their rows are commands of their own. -/

namespace Sys2Proof.Machine

/-- A register or register array: element i of dimension k lies at i times that dimension's stride (widest stride first). -/
structure RegRow where
  name : String
  base : Nat
  dims : List (Nat × Nat)
  reset : Nat
  /-- Read-write bits. -/
  rw : Nat
  /-- Bits that a written 1 clears. -/
  w1c : Nat
  /-- Bits that a read clears. -/
  rc : Nat
  /-- Bits that take a written value at the boundary after the write (R31). -/
  bnd : Nat := 0
  /-- Stopped-only bits, and the first stop-change-restart register that guards them (R45). -/
  stp : Nat := 0
  scr : Nat := 0
  /-- How much the reset value rises from one element of the last dimension to the next. -/
  inc : Nat := 0
  /-- Only firmware writes it: a host write is ignored and counted as an unmapped access. -/
  fw : Bool := false
  deriving DecidableEq, Repr

/-- A row of the map without special rules. -/
def mkReg (name : String) (base : Nat) (dims : List (Nat × Nat)) (reset rw w1c rc : Nat) : RegRow :=
  { name, base, dims, reset, rw, w1c, rc }

/-- Part 0 of the register map: the register tables of the chapters, in the order of the chapters. -/
def regRows0 : List RegRow := [
  mkReg "GEN_ID" 0x0 [] 0x56960001 0x0 0x0 0x0,
  mkReg "GEN_SERIAL_LO" 0x8 [] 0x0 0x0 0x0 0x0,
  mkReg "GEN_SERIAL_HI" 0xC [] 0x0 0x0 0x0 0x0,
  mkReg "GEN_CROSS_STAT" 0x40 [] 0x0 0x0 0xE 0x0,
  mkReg "BEAT_NUM_LO" 0x100000 [] 0x0 0x0 0x0 0x0,
  mkReg "BEAT_NUM_HI" 0x100004 [] 0x0 0x0 0x0 0x0,
  mkReg "BEAT_SUB" 0x100008 [] 0x0 0x0 0x0 0x0,
  mkReg "BEAT_CTRL" 0x100010 [] 0x1 0x1 0x0 0x0,
  mkReg "BEAT_STAT" 0x100014 [] 0x0 0x0 0x74 0x0,
  mkReg "BEAT_TAI_DIFF" 0x100018 [] 0x0 0x0 0x0 0x0,
  mkReg "BEAT_PHASE" 0x10001C [] 0x0 0x0 0x0 0x0,
  mkReg "BEAT_ALIGN_LIM" 0x100020 [] 0x14 0xFFFF 0x0 0x0,
  { mkReg "BEAT_DL_CFG" 0x100030 [] 0x0 0x3FFFFF 0x0 0x0 with bnd := 0x3FFFFF },
  mkReg "BEAT_LATE_CNT" 0x100040 [] 0x0 0x0 0x0 0xFFFFFFFF,
  mkReg "PMU_STAT" 0x500000 [] 0x0 0x0 0x1F 0x0,
  mkReg "PMU_SNAP_ACT_TGT" 0x500008 [] 0x0 0xFFFFFFFF 0x0 0x0,
  mkReg "PMU_SNAP_ACT_CTL" 0x50000C [] 0x0 0x0 0xE0 0x0,
  mkReg "PMU_SNAP_SEQ" 0x500010 [] 0x0 0x0 0x0 0x0,
  mkReg "PMU_SNAP_BEAT_LO" 0x500014 [] 0x0 0x0 0x0 0x0,
  mkReg "PMU_SNAP_BEAT_HI" 0x500018 [] 0x0 0x0 0x0 0x0,
  mkReg "PMU_WIN_ID" 0x501000 [(2, 0x100)] 0x0 0xFFFFFFF 0x0 0x0,
  mkReg "PMU_WIN_CTL" 0x501004 [(2, 0x100)] 0x0 0x0 0x0 0x0,
  mkReg "PMU_WIN_D" 0x501008 [(2, 0x100), (4, 0x4)] 0x0 0x0 0x0 0x0,
  { mkReg "PMU_SMP_CFG" 0x500100 [] 0x1000 0xC0FFFFFF 0x0 0x0 with bnd := 0xC0FFFFFF }]

/-- Part 1 of the register map: the register tables of the chapters, in the order of the chapters. -/
def regRows1 : List RegRow := [
  { mkReg "PMU_SMP_LIM" 0x500104 [] 0x10 0xFF 0x0 0x0 with bnd := 0xFF },
  mkReg "PMU_SMP_STAT" 0x500108 [] 0x0 0x0 0x0 0x0,
  { mkReg "PMU_SMP_CTX" 0x500110 [(6, 0x4)] 0x0 0xFFFFFFFF 0x0 0x0 with bnd := 0xFFFFFFFF },
  mkReg "PMU_SMP_REC" 0x500200 [(32, 0x4)] 0x0 0x0 0x0 0x0,
  mkReg "PMU_TRC_CTL" 0x502000 [(16, 0x80), (2, 0x40)] 0x0 0xC0FF0100 0x0 0x0,
  mkReg "PMU_TRC_PC" 0x502004 [(16, 0x80), (2, 0x40)] 0x0 0xFFFFFFFF 0x0 0x0,
  mkReg "PMU_TRC_STAT" 0x502008 [(16, 0x80), (2, 0x40)] 0x0 0x0 0x0 0x0,
  mkReg "PMU_TRC_IDX" 0x50200C [(16, 0x80), (2, 0x40)] 0x0 0xFFF 0x0 0x0,
  mkReg "PMU_TRC_D" 0x502010 [(16, 0x80), (2, 0x40), (6, 0x4)] 0x0 0x0 0x0 0x0,
  mkReg "ERR_STAT" 0x400000 [] 0x0 0x0 0x3C 0x0,
  mkReg "ERR_CFG" 0x400004 [] 0x10064 0x8001FFFF 0x0 0x0,
  mkReg "ERR_PEND" 0x400008 [] 0x0 0x0 0xF 0x0,
  mkReg "ERR_IRQ_EN" 0x40000C [] 0xE 0xF 0x0 0x0,
  mkReg "ERR_CNT" 0x400010 [(4, 0x4)] 0x0 0x0 0x0 0xFFFFFFFF,
  mkReg "ERR_UNIT" 0x400020 [(8, 0x4)] 0x0 0x0 0xFFFFFFFF 0x0,
  mkReg "ERR_ACC_UNMAPPED" 0x400040 [] 0x0 0x0 0x0 0xFFFFFFFF,
  mkReg "ERR_ACC_UNALIGNED" 0x400044 [] 0x0 0x0 0x0 0xFFFFFFFF,
  mkReg "ERR_ACC_CA" 0x400048 [] 0x0 0x0 0x0 0xFFFFFFFF,
  mkReg "ERR_REC_CNT" 0x400050 [] 0x0 0x0 0x0 0x0,
  mkReg "ERR_REC" 0x400060 [(6, 0x4)] 0x0 0x0 0x0 0x0,
  mkReg "ERR_XW" 0x400080 [(2, 0x4)] 0x0 0x0 0x0 0x0,
  mkReg "ERR_INJ" 0x400090 [] 0x0 0x3FFF0FF 0x0 0x0,
  mkReg "ERR_LIFE_CFG" 0x4000A0 [] 0x42850C19 0xCFFFFFFF 0x0 0x0,
  mkReg "ERR_LIFE_STAT" 0x4000A4 [] 0x0 0x0 0x0 0x0]

/-- Part 2 of the register map: the register tables of the chapters, in the order of the chapters. -/
def regRows2 : List RegRow := [
  mkReg "ERR_SCRUB_CFG" 0x4000B0 [] 0x8000000A 0x8000FFFF 0x0 0x0,
  mkReg "ERR_SCRUB_STAT" 0x4000B4 [] 0x0 0x0 0x1 0x0,
  mkReg "LINE_PG_SCR" 0x1000000 [(12, 0x1000)] 0x0 0x0 0x300 0x0,
  { mkReg "LINE_PG_MODE" 0x1000004 [(12, 0x1000)] 0xF 0x11F0F 0x0 0x0 with stp := 0x11F0F, scr := 0x1000000 },
  mkReg "LINE_LN_CFG" 0x1010000 [(96, 0x20)] 0x30 0xF0FFFFFF 0x0 0x0,
  mkReg "LINE_LN_STAT" 0x1010004 [(96, 0x20)] 0x0 0x0 0x18 0x0,
  mkReg "LINE_PT_DEF_LIVE" 0x1020000 [(96, 0x40)] 0x0 0x0 0x0 0x0,
  mkReg "LINE_PT_DEF_LATCH" 0x1020004 [(96, 0x40)] 0x0 0x0 0x1FF 0x0,
  mkReg "LINE_PT_SER_CFG" 0x1020008 [(96, 0x40)] 0x17701388 0xFFFFFFFF 0x0 0x0,
  mkReg "LINE_PT_HISER" 0x102000C [(96, 0x40)] 0x10 0x3FF 0x0 0x0,
  mkReg "LINE_PT_FEC" 0x1020010 [(96, 0x40), (4, 0x4)] 0x0 0x0 0x0 0x0,
  { mkReg "LINE_MAC_CFG" 0x1030000 [(192, 0x40)] 0x2800 0x2F003FFF 0x0 0x0 with bnd := 0x2F003FFF },
  mkReg "LINE_MAC_STAT" 0x1030004 [(192, 0x40)] 0x0 0x0 0x4 0x0,
  mkReg "LINE_MAC_CNT" 0x1030010 [(192, 0x40), (10, 0x4)] 0x0 0x0 0x0 0x0,
  { mkReg "LINE_KERB_SEED" 0x1040000 [] 0xFFFFFFFF 0xFFFFFFFF 0x0 0x0 with bnd := 0xFFFFFFFF },
  mkReg "LINE_KERB_STAT" 0x1040004 [] 0x80000000 0x0 0x7 0x0,
  mkReg "LINE_KERB_RSV" 0x1040008 [] 0x400 0xFFF 0x0 0x0,
  { mkReg "LINE_KERB_STEER_EVEN" 0x1040100 [(16, 0x8)] 0x76543210 0xFFFFFFFF 0x0 0x0 with bnd := 0xFFFFFFFF },
  { mkReg "LINE_KERB_STEER_ODD" 0x1040104 [(16, 0x8)] 0xFEDCBA98 0xFFFFFFFF 0x0 0x0 with bnd := 0xFFFFFFFF },
  mkReg "FLX_SCR" 0x1080000 [(12, 0x1000)] 0x0 0x0 0x300 0x0,
  { mkReg "FLX_CFG" 0x1080004 [(12, 0x1000)] 0x0 0xFFFFF300 0x0 0x0 with stp := 0xFFFFF300, scr := 0x1080000 },
  { mkReg "FLX_PHY" 0x1080010 [(12, 0x1000), (8, 0x4)] 0x0 0x807F00FF 0x0 0x0 with stp := 0x807F00FF, scr := 0x1080000 },
  mkReg "FLX_CAL_STAT" 0x1080040 [(12, 0x1000)] 0x0 0x0 0xC 0x0,
  mkReg "FLX_CAL_TMO" 0x1080044 [(12, 0x1000)] 0x14 0xFFFF 0x0 0x0]

/-- Part 3 of the register map: the register tables of the chapters, in the order of the chapters. -/
def regRows3 : List RegRow := [
  mkReg "FLX_CAL_ACT_TGT" 0x1080048 [(12, 0x1000)] 0x0 0xFFFFFFFF 0x0 0x0,
  mkReg "FLX_CAL_ACT_CTL" 0x108004C [(12, 0x1000)] 0x0 0x0 0xE0 0x0,
  mkReg "FLX_DEF_LIVE" 0x1080050 [(12, 0x1000)] 0x0 0x0 0x0 0x0,
  mkReg "FLX_DEF_LATCH" 0x1080054 [(12, 0x1000)] 0x0 0x0 0xFF 0x0,
  mkReg "FLX_SKEW" 0x1080058 [(12, 0x1000)] 0x0 0x0 0x0 0x0,
  mkReg "FLX_CLI" 0x1080100 [(12, 0x1000), (32, 0x4)] 0x0 0x83FFFFFF 0x0 0x0,
  mkReg "FLX_CAL_A" 0x1080400 [(12, 0x1000), (160, 0x4)] 0x0 0xFFFFFFFF 0x0 0x0,
  mkReg "FLX_CAL_B" 0x1080800 [(12, 0x1000), (160, 0x4)] 0x0 0xFFFFFFFF 0x0 0x0,
  mkReg "OTN_CFG" 0x10C0000 [(12, 0x1000)] 0x3 0x3 0x0 0x0,
  mkReg "OTN_DEG" 0x10C0004 [(12, 0x1000)] 0x271007 0xFFFFFF0F 0x0 0x0,
  mkReg "OTN_DEF_LIVE" 0x10C0010 [(12, 0x1000)] 0x0 0x0 0x0 0x0,
  mkReg "OTN_DEF_LATCH" 0x10C0014 [(12, 0x1000)] 0x0 0x0 0x3FF 0x0,
  mkReg "OTN_CNT" 0x10C0020 [(12, 0x1000), (4, 0x4)] 0x0 0x0 0x0 0xFFFFFFFF,
  mkReg "OTN_SM_TTI_TX" 0x10C0100 [(12, 0x1000), (16, 0x4)] 0x0 0xFFFFFFFF 0x0 0x0,
  mkReg "OTN_SM_TTI_EXP" 0x10C0140 [(12, 0x1000), (16, 0x4)] 0x0 0xFFFFFFFF 0x0 0x0,
  mkReg "OTN_SM_TTI_RX" 0x10C0180 [(12, 0x1000), (16, 0x4)] 0x0 0x0 0x0 0x0,
  mkReg "OTN_PM_TTI_TX" 0x10C0200 [(12, 0x1000), (16, 0x4)] 0x0 0xFFFFFFFF 0x0 0x0,
  mkReg "OTN_PM_TTI_EXP" 0x10C0240 [(12, 0x1000), (16, 0x4)] 0x0 0xFFFFFFFF 0x0 0x0,
  mkReg "OTN_PM_TTI_RX" 0x10C0280 [(12, 0x1000), (16, 0x4)] 0x0 0x0 0x0 0x0,
  mkReg "PG_CFG" 0x2000000 [] 0x0 0x3F0300 0x0 0x0,
  mkReg "PG_ERR_ACT" 0x2000004 [] 0x45554 0xFFFFF 0x0 0x0,
  mkReg "PG_STAT" 0x2000008 [] 0x0 0x0 0x70 0x0,
  mkReg "PG_CHK_CTL" 0x200000C [] 0x0 0x10 0x0 0x0,
  mkReg "PG_CHK_RES" 0x2000010 [] 0x0 0x0 0x0 0x0]

/-- Part 4 of the register map: the register tables of the chapters, in the order of the chapters. -/
def regRows4 : List RegRow := [
  mkReg "PG_ACT_TGT" 0x2000018 [] 0x0 0xFFFFFFFF 0x0 0x0,
  mkReg "PG_ACT_CTL" 0x200001C [] 0x0 0x0 0xE0 0x0,
  mkReg "PG_TAG" 0x2000020 [(2, 0x4)] 0x0 0xFFFFFFFF 0x0 0x0,
  { mkReg "PG_RC_RATE" 0x2000030 [] 0x10000800 0x1FFF0FFF 0x0 0x0 with bnd := 0x1FFF0FFF },
  mkReg "PG_RC_STAT" 0x2000034 [] 0x5000 0x0 0xE0000000 0x0,
  mkReg "PG_RD_SEL" 0x2000040 [] 0x0 0x1F 0x0 0x0,
  mkReg "PG_NODE0" 0x2100000 [(2, 0x80000), (512, 0x10)] 0x0 0xFFFFFF00 0x0 0x0,
  mkReg "PG_NODE1" 0x2100004 [(2, 0x80000), (512, 0x10)] 0x0 0xFFFFFEFF 0x0 0x0,
  mkReg "PG_NODE2" 0x2100008 [(2, 0x80000), (512, 0x10)] 0x0 0xFFFFEFFF 0x0 0x0,
  mkReg "PG_NODE3" 0x210000C [(2, 0x80000), (512, 0x10)] 0x0 0xFFC00000 0x0 0x0,
  mkReg "PG_TRANS0" 0x2110000 [(2, 0x80000), (4096, 0x8)] 0x0 0xFFFFFFFF 0x0 0x0,
  mkReg "PG_TRANS1" 0x2110004 [(2, 0x80000), (4096, 0x8)] 0x0 0x3FF0000 0x0 0x0,
  mkReg "PG_START" 0x2120000 [(2, 0x80000), (192, 0x4)] 0x0 0x1FF 0x0 0x0,
  mkReg "AVE_SCR" 0x3000000 [(17, 0x100000)] 0x0 0x0 0x300 0x0,
  { mkReg "AVE_MAP" 0x3000004 [(16, 0x100000)] 0x10 0x1F 0x0 0x0 with stp := 0x1F, scr := 0x3000000, inc := 1 },
  { mkReg "AVE_MAP_16" 0x4000004 [] 0x0 0x1F 0x0 0x0 with stp := 0x1F, scr := 0x4000000 },
  mkReg "AVE_STAT" 0x300000C [(17, 0x100000)] 0x0 0x0 0x1BE 0x0,
  mkReg "AVE_BIST" 0x3000010 [(17, 0x100000)] 0x0 0x1 0x0 0x0,
  mkReg "AVE_DBG_FEED" 0x3000014 [(17, 0x100000)] 0x0 0x80001FFF 0x0 0x0,
  { mkReg "AVE_ENG_MAP" 0x3000100 [(17, 0x100000), (32, 0x4)] 0x0 0x3F 0x0 0x0 with stp := 0x3F, scr := 0x3000000, inc := 1 },
  mkReg "AVE_ENG_STATE" 0x3000200 [(17, 0x100000), (35, 0x4)] 0x0 0x0 0x0 0x0,
  mkReg "AVE_DBG_CTL" 0x3000400 [(17, 0x100000), (35, 0x10)] 0x0 0x3000000 0x0 0x0,
  mkReg "AVE_DBG_SEL" 0x3000404 [(17, 0x100000), (35, 0x10)] 0x0 0x7FF 0x0 0x0,
  mkReg "AVE_DBG_DATA" 0x3000408 [(17, 0x100000), (35, 0x10), (2, 0x4)] 0x0 0x0 0x0 0x0]

/-- Part 5 of the register map: the register tables of the chapters, in the order of the chapters. -/
def regRows5 : List RegRow := [
  mkReg "AVE_PS_ACT_TGT" 0x30F0000 [] 0x0 0xFFFFFFFF 0x0 0x0,
  mkReg "AVE_PS_ACT_CTL" 0x30F0004 [] 0x0 0x0 0xE0 0x0,
  mkReg "AVE_PS_STAT" 0x30F0008 [] 0x0 0x0 0x70 0x0,
  mkReg "AVE_PS_CHK" 0x30F000C [] 0x0 0x10 0x0 0x0,
  mkReg "AVE_PS_CHK_RES" 0x30F0010 [] 0x0 0x0 0x0 0x0,
  mkReg "AVE_ENTRY" 0x30F0014 [(2, 0x4)] 0x0 0x7FFF7FFF 0x0 0x0,
  mkReg "AVE_SUP_ENTRY" 0x30F001C [(2, 0x4)] 0x0 0x7FFF 0x0 0x0,
  mkReg "AVE_PS_TAG" 0x30F0024 [(2, 0x4)] 0x0 0xFFFFFFFF 0x0 0x0,
  mkReg "AVE_CODE_ADDR" 0x30F0030 [] 0x0 0x17FFF 0x0 0x0,
  mkReg "AVE_CODE_DATA" 0x30F0034 [(4, 0x4)] 0x0 0xFFFFFFFF 0x0 0x0,
  { mkReg "AVE_FLT_CFG" 0x30F0100 [(16, 0x4)] 0x0 0x3F3FF9 0x0 0x0 with bnd := 0x3F3FF9 },
  mkReg "LKP_SCR" 0x5000000 [] 0x0 0x0 0x300 0x0,
  { mkReg "LKP_REPL_CFG" 0x5000014 [] 0x10000 0x1FFFF 0x0 0x0 with stp := 0x1FFFF, scr := 0x5000000 },
  { mkReg "LKP_TD0" 0x5001000 [(256, 0x20)] 0x0 0xFFC3FFF0 0x0 0x0 with stp := 0xFFC3FFF0, scr := 0x5000000 },
  { mkReg "LKP_TD1" 0x5001004 [(256, 0x20)] 0x0 0xF8000000 0x0 0x0 with stp := 0xF8000000, scr := 0x5000000 },
  { mkReg "LKP_TD2" 0x5001008 [(256, 0x20)] 0x0 0xFFFFFFFF 0x0 0x0 with stp := 0xFFFFFFFF, scr := 0x5000000 },
  { mkReg "LKP_TD3" 0x500100C [(256, 0x20)] 0x0 0xFFFFFFFF 0x0 0x0 with stp := 0xFFFFFFFF, scr := 0x5000000 },
  { mkReg "LKP_TD45" 0x5001010 [(256, 0x20), (2, 0x4)] 0x0 0xFFFFFFFF 0x0 0x0 with bnd := 0xFFFFFFFF },
  { mkReg "LKP_TD67" 0x5001018 [(256, 0x20), (2, 0x4)] 0x0 0x1FFFFF 0x0 0x0 with stp := 0x1FFFFF, scr := 0x5000000 },
  mkReg "LKP_STAT" 0x5000004 [] 0x0 0x0 0x7F 0x0,
  mkReg "LKP_ERR_ADDR" 0x5000008 [] 0x0 0x0 0x0 0x0,
  { mkReg "LKP_DRAM_CFG" 0x500000C [] 0x40 0x7F 0x0 0x0 with bnd := 0x7F },
  mkReg "LKP_OVL_STAT" 0x5000010 [] 0x0 0x0 0x0 0x0,
  mkReg "LKP_UPD_CTL" 0x5000020 [(2, 0x4)] 0x0 0x0 0x0 0x0]

/-- Part 6 of the register map: the register tables of the chapters, in the order of the chapters. -/
def regRows6 : List RegRow := [
  mkReg "LKP_UPD_ACT_TGT" 0x5000030 [(2, 0x8)] 0x0 0xFFFFFFFF 0x0 0x0,
  mkReg "LKP_UPD_ACT_CTL" 0x5000034 [(2, 0x8)] 0x0 0x0 0xE0 0x0,
  mkReg "LKP_WIN_CTL" 0x6000000 [(2, 0x1000)] 0x0 0x30 0x0 0x0,
  mkReg "LKP_WIN_ADDR" 0x6000004 [(2, 0x1000)] 0x0 0x7FFFFFF 0x0 0x0,
  mkReg "LKP_WIN_MASK" 0x6000008 [(2, 0x1000), (2, 0x4)] 0x0 0xFFFFFFFF 0x0 0x0,
  mkReg "LKP_WIN_HCMD" 0x6000010 [(2, 0x1000)] 0x0 0x0 0x0 0x0,
  mkReg "LKP_WIN_DATA" 0x6000040 [(2, 0x1000), (16, 0x4)] 0x0 0xFFFFFFFF 0x0 0x0,
  mkReg "TCM_SCR" 0x8000000 [] 0x0 0x0 0x300 0x0,
  mkReg "TCM_STAT" 0x8000004 [] 0x0 0x0 0xFE 0x0,
  mkReg "TCM_ERR" 0x8000008 [] 0x0 0x0 0x0 0x0,
  mkReg "TCM_RD_SEL" 0x800000C [] 0x0 0x1F 0x0 0x0,
  mkReg "TCM_POL_ERR" 0x8000010 [] 0x0 0x0 0x0 0x0,
  { mkReg "TCM_TBL" 0x8000100 [(8, 0x4)] 0x0 0x80000F37 0x0 0x0 with stp := 0x80000F37, scr := 0x8000000 },
  { mkReg "TCM_PROF0" 0x8010000 [(256, 0x10)] 0x0 0x80000007 0x0 0x0 with bnd := 0x80000007 },
  { mkReg "TCM_PROF1" 0x8010004 [(256, 0x10)] 0x0 0xFFFFFFFF 0x0 0x0 with bnd := 0xFFFFFFFF },
  { mkReg "TCM_PROF2" 0x8010008 [(256, 0x10)] 0x0 0xFF 0x0 0x0 with bnd := 0xFF },
  mkReg "TCM_PROF3" 0x801000C [(256, 0x10)] 0x0 0x0 0x0 0x0,
  mkReg "TCM_WIN_CMD" 0x8020000 [(2, 0x1000)] 0x0 0x0 0x0 0x0,
  mkReg "TCM_WIN_IDX" 0x8020004 [(2, 0x1000)] 0x0 0xFFFF 0x0 0x0,
  mkReg "TCM_WIN_RES" 0x8020008 [(2, 0x1000)] 0x0 0x0 0x0 0x0,
  mkReg "TCM_WIN_ACT_LO" 0x802000C [(2, 0x1000)] 0x0 0xFFFFFFFF 0x0 0x0,
  mkReg "TCM_WIN_ACT_HI" 0x8020010 [(2, 0x1000)] 0x0 0xFF 0x0 0x0,
  mkReg "TCM_WIN_VAL" 0x8020040 [(2, 0x1000), (20, 0x4)] 0x0 0xFFFFFFFF 0x0 0x0,
  mkReg "TCM_WIN_MSK" 0x8020090 [(2, 0x1000), (20, 0x4)] 0x0 0xFFFFFFFF 0x0 0x0]

/-- Part 7 of the register map: the register tables of the chapters, in the order of the chapters. -/
def regRows7 : List RegRow := [
  mkReg "TCM_POL_PROF" 0x8040000 [(4096, 0x10), (4, 0x4)] 0x0 0xFFFFFFF 0x0 0x0,
  mkReg "TCM_POL_WIN_CTL" 0x8050000 [(2, 0x100)] 0x0 0x0 0x0 0x0,
  mkReg "TCM_POL_WIN_IDX" 0x8050004 [(2, 0x100)] 0x0 0xFFFFF 0x0 0x0,
  mkReg "TCM_POL_WIN_D" 0x8050010 [(2, 0x100), (4, 0x4)] 0x0 0xFFFFFFFF 0x0 0x0,
  mkReg "PAT_STAT" 0x9000000 [] 0x0 0x0 0x3B0 0x0,
  mkReg "PAT_IMG" 0x9000010 [(4, 0x4)] 0x0 0x1FFFFF 0x0 0x0,
  mkReg "PAT_CHK" 0x9000020 [] 0x0 0x10 0x0 0x0,
  mkReg "PAT_CHK_RES" 0x9000024 [] 0x0 0x0 0x0 0x0,
  mkReg "PAT_ACT_TGT" 0x9000028 [] 0x0 0xFFFFFFFF 0x0 0x0,
  mkReg "PAT_ACT_CTL" 0x900002C [] 0x0 0x0 0xE0 0x0,
  mkReg "PAT_PROF0" 0x9000100 [] 0x0 0x0 0x0 0x0,
  { mkReg "PAT_PROF" 0x9000104 [(15, 0x4)] 0x0 0x9FFFF1FF 0x0 0x0 with bnd := 0x9FFFF1FF },
  mkReg "PAT_WIN_ADDR" 0x9000200 [] 0x0 0x9FFFFFFF 0x0 0x0,
  mkReg "PAT_WIN_DATA" 0x9000204 [(2, 0x4)] 0x0 0x0 0x0 0x0,
  mkReg "PAT_REC" 0x9000300 [(4, 0x4)] 0x0 0x0 0x0 0x0,
  mkReg "PAT_REC_CFG" 0x9000310 [] 0x8000000 0xFFFF0000 0x0 0x0,
  mkReg "LRN_CFG" 0xA000000 [] 0x600 0xFF07 0x0 0x0,
  mkReg "LRN_STAT" 0xA000004 [] 0x0 0x0 0x3FF 0x0,
  mkReg "LRN_AGE_CFG" 0xA000008 [] 0x6403 0xFFFF 0x0 0x0,
  mkReg "LRN_AGE_STAT" 0xA00000C [] 0x0 0x0 0x0 0x0,
  { mkReg "LRN_MOVE_CFG" 0xA000010 [] 0x3C08 0xFFFFFF 0x0 0x0 with bnd := 0xFFFFFF },
  mkReg "LRN_UNF" 0xA000018 [(2, 0x4)] 0x0 0x0 0x0 0x0,
  mkReg "LRN_REC_CFG" 0xA000020 [] 0x10000000 0xFFFF0000 0x0 0x0,
  mkReg "LRN_REC" 0xA000030 [(8, 0x4)] 0x0 0x0 0x0 0x0]

/-- Part 8 of the register map: the register tables of the chapters, in the order of the chapters. -/
def regRows8 : List RegRow := [
  { mkReg "LRN_CTX" 0xA001000 [(192, 0x4)] 0x0 0x800FFFFF 0x0 0x0 with bnd := 0x800FFFFF },
  mkReg "QM_STAT" 0xB000000 [] 0x0 0x0 0x1F 0x0,
  { mkReg "QM_MOVE_CFG" 0xB000004 [] 0x1908 0x7FFF 0x0 0x0 with bnd := 0x7FFF },
  mkReg "QM_QWIN_CTL" 0xB010000 [(2, 0x100)] 0x0 0x0 0x0 0x0,
  mkReg "QM_QWIN_IDX" 0xB010004 [(2, 0x100)] 0x0 0xFFFFF 0x0 0x0,
  mkReg "QM_QWIN_CFG0" 0xB010008 [(2, 0x100)] 0x0 0xE0FFFFFF 0x0 0x0,
  mkReg "QM_QWIN_CFG1" 0xB01000C [(2, 0x100)] 0x0 0xFFFFF 0x0 0x0,
  mkReg "QM_QWIN_DEPTH" 0xB010010 [(2, 0x100), (2, 0x4)] 0x0 0x0 0x0 0x0,
  mkReg "BPM_SCR" 0xC000000 [] 0x0 0x0 0x300 0x0,
  mkReg "BPM_STAT" 0xC000004 [] 0x0 0x0 0x1F 0x0,
  mkReg "BPM_FREE_LOG" 0xC000008 [(2, 0x4)] 0x0 0x0 0x0 0x0,
  mkReg "BPM_QUAR_CNT" 0xC000010 [] 0x0 0x0 0x0 0x0,
  mkReg "BPM_REL" 0xC000014 [] 0x0 0x0 0x0 0x0,
  { mkReg "BPM_GRANT_MAX" 0xC000018 [] 0x1900 0xFFFF 0x0 0x0 with bnd := 0xFFFF },
  { mkReg "BPM_CLASS_0" 0xC000020 [] 0x100 0x3FFF 0x0 0x0 with stp := 0x3FFF, scr := 0xC000000 },
  { mkReg "BPM_CLASS_1" 0xC000024 [] 0x400 0x3FFF 0x0 0x0 with stp := 0x3FFF, scr := 0xC000000 },
  { mkReg "BPM_CLASS_2" 0xC000028 [] 0x1000 0x3FFF 0x0 0x0 with stp := 0x3FFF, scr := 0xC000000 },
  { mkReg "BPM_CLASS_3" 0xC00002C [] 0x2800 0x3FFF 0x0 0x0 with stp := 0x3FFF, scr := 0xC000000 },
  { mkReg "BPM_POOL_CNT_0_0" 0xC000040 [] 0x8000 0x3FFFFFF 0x0 0x0 with stp := 0x3FFFFFF, scr := 0xC000000 },
  { mkReg "BPM_POOL_CNT_0_1" 0xC000044 [] 0x4000 0x3FFFFFF 0x0 0x0 with stp := 0x3FFFFFF, scr := 0xC000000 },
  { mkReg "BPM_POOL_CNT_0_2" 0xC000048 [] 0x1000 0x3FFFFFF 0x0 0x0 with stp := 0x3FFFFFF, scr := 0xC000000 },
  { mkReg "BPM_POOL_CNT_0_3" 0xC00004C [] 0x800 0x3FFFFFF 0x0 0x0 with stp := 0x3FFFFFF, scr := 0xC000000 },
  { mkReg "BPM_POOL_CNT_1_0" 0xC000050 [] 0x2000000 0x3FFFFFF 0x0 0x0 with stp := 0x3FFFFFF, scr := 0xC000000 },
  { mkReg "BPM_POOL_CNT_1_1" 0xC000054 [] 0x1000000 0x3FFFFFF 0x0 0x0 with stp := 0x3FFFFFF, scr := 0xC000000 }]

/-- Part 9 of the register map: the register tables of the chapters, in the order of the chapters. -/
def regRows9 : List RegRow := [
  { mkReg "BPM_POOL_CNT_1_2" 0xC000058 [] 0x400000 0x3FFFFFF 0x0 0x0 with stp := 0x3FFFFFF, scr := 0xC000000 },
  { mkReg "BPM_POOL_CNT_1_3" 0xC00005C [] 0x300000 0x3FFFFFF 0x0 0x0 with stp := 0x3FFFFFF, scr := 0xC000000 },
  mkReg "BPM_POOL_FREE" 0xC000060 [(2, 0x10), (4, 0x4)] 0x0 0x0 0x0 0x0,
  { mkReg "BPM_QUOTA" 0xC001000 [(64, 0x8)] 0xFFFFFFFF 0xFFFFFFFF 0x0 0x0 with bnd := 0xFFFFFFFF },
  mkReg "BPM_CHARGE" 0xC001004 [(64, 0x8)] 0x0 0x0 0x0 0x0,
  mkReg "SCH_STAT" 0xD000000 [] 0x0 0x0 0x3F 0x0,
  { mkReg "SCH_HOST_RATE" 0xD000004 [] 0x28 0x3F 0x0 0x0 with bnd := 0x3F },
  { mkReg "SCH_SMP_CFG" 0xD000008 [] 0x4 0xF 0x0 0x0 with bnd := 0xF },
  mkReg "SCH_FAB_BUDGET" 0xD00000C [] 0x0 0x0 0x0 0x0,
  mkReg "SCH_AQM0" 0xD000100 [(2, 0x4)] 0x0 0x0 0x0 0x0,
  { mkReg "SCH_AQM" 0xD000108 [(15, 0x8), (2, 0x4)] 0x0 0x803FFFFF 0x0 0x0 with bnd := 0x803FFFFF },
  mkReg "SCH_CH_SCR" 0xD010000 [(512, 0x10)] 0x0 0x0 0x300 0x0,
  { mkReg "SCH_CH_CFG" 0xD010004 [(512, 0x10)] 0x0 0xBFFFE3FF 0x0 0x0 with bnd := 0x8FE003FF, stp := 0x301FE000, scr := 0xD010000 },
  mkReg "SCH_NWIN_CTL" 0xD020000 [(2, 0x100)] 0x0 0x70 0x0 0x0,
  mkReg "SCH_NWIN_IDX" 0xD020004 [(2, 0x100)] 0x0 0xFFFFF 0x0 0x0,
  mkReg "SCH_NWIN_D0" 0xD020008 [(2, 0x100)] 0x0 0xF0FFFFFF 0x0 0x0,
  mkReg "SCH_NWIN_D1" 0xD02000C [(2, 0x100)] 0x0 0xFFFF0FFF 0x0 0x0,
  mkReg "SCH_NWIN_D2" 0xD020010 [(2, 0x100), (3, 0x4)] 0x0 0x0 0x0 0x0,
  mkReg "SCH_SWIN_CTL" 0xD030000 [(2, 0x100)] 0x0 0x100 0x0 0x0,
  mkReg "SCH_SWIN_IDX" 0xD030004 [(2, 0x100)] 0x0 0xFFFFF 0x0 0x0,
  mkReg "SCH_SWIN_D" 0xD030008 [(2, 0x100), (7, 0x4)] 0x0 0x0 0x0 0x0,
  mkReg "SHP_STAT" 0xD800000 [] 0x0 0x0 0x2 0x0,
  mkReg "SHP_ACT_TGT" 0xD800008 [] 0x0 0xFFFFFFFF 0x0 0x0,
  mkReg "SHP_ACT_CTL" 0xD80000C [] 0x0 0x0 0xE0 0x0]

/-- Part 10 of the register map: the register tables of the chapters, in the order of the chapters. -/
def regRows10 : List RegRow := [
  { mkReg "SHP_PROF" 0xD810000 [(2, 0x10000), (4096, 0x10), (4, 0x4)] 0x0 0xFFFFFFF 0x0 0x0 with bnd := 0xFFFFFFF },
  mkReg "FAB_SCR" 0xE000000 [] 0x0 0x0 0x300 0x0,
  { mkReg "FAB_CFG" 0xE000004 [] 0x81000 0xFFFFF 0x0 0x0 with bnd := 0xFF40, stp := 0xF00BF, scr := 0xE000000 },
  mkReg "FAB_STAT" 0xE000008 [] 0x0 0x0 0x3FF 0x0,
  { mkReg "FAB_LINK_CFG" 0xE00000C [] 0x1016E4 0xFFFFFF 0x0 0x0 with bnd := 0xFFFFFF },
  mkReg "FAB_LSET_ACT_TGT" 0xE000010 [] 0x0 0xFFFFFFFF 0x0 0x0,
  mkReg "FAB_LSET_ACT_CTL" 0xE000014 [] 0x0 0x0 0xE0 0x0,
  mkReg "FAB_LSET_SH" 0xE000020 [(4, 0x4)] 0x0 0xFFFFFFFF 0x0 0x0,
  mkReg "FAB_LSET" 0xE000030 [(4, 0x4)] 0x0 0x0 0x0 0x0,
  mkReg "FAB_LANE_EN" 0xE000040 [(4, 0x4)] 0x0 0x0 0x0 0x0,
  mkReg "FAB_MATE" 0xE000050 [] 0x0 0x8000003F 0x0 0x0,
  mkReg "FAB_HB_STAT" 0xE000054 [] 0xFFFF 0x0 0x0 0x0,
  { mkReg "FAB_CR_CFG" 0xE000058 [] 0x400400 0xFFFFFFFF 0x0 0x0 with bnd := 0xFFFFFFFF },
  { mkReg "FAB_CTL_CFG" 0xE00005C [] 0x16E4 0xFFFF 0x0 0x0 with bnd := 0xFFFF },
  mkReg "FAB_LANE" 0xE010000 [(128, 0x10)] 0x0 0x0 0x40 0x0,
  mkReg "FAB_REACH" 0xE020000 [(64, 0x4)] 0x0 0x0 0x0 0x0,
  { mkReg "FAB_EQMAP" 0xE030000 [(1024, 0x4)] 0x0 0x800FFFFF 0x0 0x0 with bnd := 0x800FFFFF },
  { mkReg "FAB_CG0" 0xE040000 [(1024, 0x8)] 0x0 0xFFFFFFF 0x0 0x0 with bnd := 0xFFFFFFF },
  { mkReg "FAB_CG1" 0xE040004 [(1024, 0x8)] 0x0 0xFFFFF 0x0 0x0 with bnd := 0xFFFFF },
  mkReg "HBM_HALF0_CFG" 0xF000000 [] 0x0 0x80000700 0x0 0x0,
  mkReg "HBM_HALF1_CFG" 0xF000020 [] 0x300 0x80000700 0x0 0x0,
  { mkReg "HBM_HALF0_SCHED" 0xF000004 [] 0x303010 0xFFFFFFFF 0x0 0x0 with bnd := 0xFFFFFFFF },
  { mkReg "HBM_HALF1_SCHED" 0xF000024 [] 0x1003010 0xFFFFFFFF 0x0 0x0 with bnd := 0xFFFFFFFF },
  mkReg "HBM_HALF_STAT" 0xF000008 [(2, 0x20)] 0x0 0x0 0x7E 0x0]

/-- Part 11 of the register map: the register tables of the chapters, in the order of the chapters. -/
def regRows11 : List RegRow := [
  mkReg "HBM_HALF_SCRUB" 0xF00000C [(2, 0x20)] 0x801 0xFF01 0x0 0x0,
  mkReg "HBM_HALF_UE_ADDR_LO" 0xF000010 [(2, 0x20)] 0x0 0x0 0x0 0x0,
  mkReg "HBM_HALF_UE_ADDR_HI" 0xF000014 [(2, 0x20)] 0x0 0x0 0x0 0x0,
  { mkReg "HBM_PRED_CFG" 0xF000040 [] 0x1000 0xFFF3 0x0 0x0 with bnd := 0xFFF3 },
  mkReg "HBM_REF_CFG" 0xF000044 [] 0x8 0x10F 0x0 0x0,
  { mkReg "HBM_STK_CFG" 0xF010000 [(4, 0x20)] 0x8325F5A 0xFFFFFFFF 0x0 0x0 with bnd := 0xFFFFFFFF },
  mkReg "HBM_STK_STAT" 0xF010004 [(4, 0x20)] 0x0 0x0 0x10 0x0,
  mkReg "HBM_STK_WAKE" 0xF010008 [(4, 0x20)] 0x0 0x0 0x0 0xFFFFFFFF,
  mkReg "HBM_STK_WAKES" 0xF01000C [(4, 0x20)] 0x0 0x0 0x0 0xFFFFFFFF,
  mkReg "HBM_CH_STAT" 0xF020000 [(128, 0x400)] 0x0 0x1 0x0 0x0,
  mkReg "HBM_CH_CE" 0xF020004 [(128, 0x400)] 0x0 0x0 0x0 0xFFFFFFFF,
  mkReg "HBM_CH_REMAP_IDX" 0xF020010 [(128, 0x400)] 0x0 0x3F 0x0 0x0,
  mkReg "HBM_CH_REMAP_DATA" 0xF020014 [(128, 0x400)] 0x0 0x0 0x0 0x0,
  mkReg "HBM_TRN_CTL" 0xF020020 [(128, 0x400)] 0x0 0x1F0 0x0 0x0,
  mkReg "HBM_TRN_USER_LO" 0xF020028 [(128, 0x400)] 0x0 0xFFFFFFFF 0x0 0x0,
  mkReg "HBM_TRN_USER_HI" 0xF02002C [(128, 0x400)] 0x0 0xFFFFFFFF 0x0 0x0,
  mkReg "HBM_TRN_LMASK" 0xF020030 [(128, 0x400)] 0x0 0x0 0x0 0x0,
  mkReg "HBM_TRN_SPMASK" 0xF020034 [(128, 0x400)] 0x0 0x0 0x0 0x0,
  mkReg "HBM_TRN_ECNT" 0xF020038 [(128, 0x400)] 0x0 0x0 0x0 0x0,
  mkReg "HBM_CH_SPARE" 0xF020040 [(128, 0x400), (2, 0x4)] 0x3F3F 0x3F3F 0x0 0x0,
  mkReg "HBM_CH_DLY" 0xF020100 [(128, 0x400), (2, 0x100), (38, 0x4)] 0x80202000 0xFFFFFF00 0x0 0x0,
  mkReg "HIF_STAT" 0x600000 [] 0x0 0x0 0xE 0x0,
  mkReg "HIF_PCIE_STAT" 0x600004 [] 0x0 0x0 0x0 0x0,
  mkReg "HIF_PR_BASE_LO" 0x601000 [(64, 0x40)] 0x0 0xFFFFFFC0 0x0 0x0]

/-- Part 12 of the register map: the register tables of the chapters, in the order of the chapters. -/
def regRows12 : List RegRow := [
  mkReg "HIF_PR_BASE_HI" 0x601004 [(64, 0x40)] 0x0 0xFFFFFFFF 0x0 0x0,
  mkReg "HIF_PR_CFG" 0x601008 [(64, 0x40)] 0x0 0xC01F0000 0x0 0x0,
  mkReg "HIF_PR_TAIL" 0x60100C [(64, 0x40)] 0x0 0xFFFF 0x0 0x0,
  mkReg "HIF_PR_HEAD" 0x601010 [(64, 0x40)] 0x0 0x0 0x0 0x0,
  mkReg "HIF_PR_ACK" 0x601014 [(64, 0x40)] 0x0 0xFFFF 0x0 0x0,
  mkReg "HIF_PR_IRQ" 0x601018 [(64, 0x40)] 0x1 0xFFFF00FF 0x0 0x0,
  mkReg "HIF_PR_STAT" 0x60101C [(64, 0x40)] 0x0 0x0 0xF 0x0,
  mkReg "HIF_PR_DROP" 0x601020 [(64, 0x40)] 0x0 0x0 0x0 0xFFFFFFFF,
  mkReg "HIF_IR_BASE_LO" 0x602000 [(64, 0x40)] 0x0 0xFFFFFFC0 0x0 0x0,
  mkReg "HIF_IR_BASE_HI" 0x602004 [(64, 0x40)] 0x0 0xFFFFFFFF 0x0 0x0,
  mkReg "HIF_IR_CFG" 0x602008 [(64, 0x40)] 0x0 0xC01F0000 0x0 0x0,
  mkReg "HIF_IR_TAIL" 0x60200C [(64, 0x40)] 0x0 0xFFFF 0x0 0x0,
  mkReg "HIF_IR_HEAD" 0x602010 [(64, 0x40)] 0x0 0x0 0x0 0x0,
  mkReg "HIF_IR_ACK" 0x602014 [(64, 0x40)] 0x0 0xFFFF 0x0 0x0,
  mkReg "HIF_IR_IRQ" 0x602018 [(64, 0x40)] 0x1 0xFFFF00FF 0x0 0x0,
  mkReg "HIF_IR_STAT" 0x60201C [(64, 0x40)] 0x0 0x0 0xF 0x0,
  mkReg "HIF_SRC_MAP" 0x603000 [(192, 0x4)] 0x0 0xC000003F 0x0 0x0,
  mkReg "HIF_SRC_ACT" 0x603400 [(6, 0x4)] 0x0 0x0 0x0 0x0,
  mkReg "HIF_VEC_EOI" 0x603500 [] 0x0 0x0 0x0 0x0,
  mkReg "HIF_VEC_PEND" 0x603508 [(2, 0x4)] 0x0 0x0 0x0 0x0,
  mkReg "HIF_MSIX_ADDR_LO" 0x610000 [(64, 0x10)] 0x0 0xFFFFFFFC 0x0 0x0,
  mkReg "HIF_MSIX_ADDR_HI" 0x610004 [(64, 0x10)] 0x0 0xFFFFFFFF 0x0 0x0,
  mkReg "HIF_MSIX_DATA" 0x610008 [(64, 0x10)] 0x0 0xFFFFFFFF 0x0 0x0,
  mkReg "HIF_MSIX_CTRL" 0x61000C [(64, 0x10)] 0x1 0x1 0x0 0x0]

/-- Part 13 of the register map: the register tables of the chapters, in the order of the chapters. -/
def regRows13 : List RegRow := [
  mkReg "HIF_PBA" 0x610800 [(2, 0x4)] 0x0 0x0 0x0 0x0,
  mkReg "MBX_PTR_LO" 0x700000 [(32, 0x20)] 0x0 0xFFFFFFFF 0x0 0x0,
  mkReg "MBX_PTR_HI" 0x700004 [(32, 0x20)] 0x0 0xFFFFFFFF 0x0 0x0,
  mkReg "MBX_TAG" 0x700008 [(32, 0x20)] 0x0 0x0 0x0 0x0,
  mkReg "MBX_CTL" 0x70000C [(32, 0x20)] 0x0 0x0 0xF0 0x0,
  mkReg "MBX_MSG_PTR_LO" 0x700010 [(32, 0x20)] 0x0 0x0 0x0 0x0,
  mkReg "MBX_MSG_PTR_HI" 0x700014 [(32, 0x20)] 0x0 0x0 0x0 0x0,
  mkReg "MBX_MSG_TAG" 0x700018 [(32, 0x20)] 0x0 0x0 0x0 0x0,
  mkReg "MBX_STAT" 0x701000 [] 0x0 0x0 0x0 0x0,
  mkReg "MBX_FW_BEAT" 0x701004 [] 0x0 0x0 0x0 0x0,
  mkReg "MSS_STAT" 0x900000 [] 0x0 0x0 0x4 0x0,
  mkReg "MSS_TEMP" 0x900004 [] 0x0 0x0 0x0 0x0,
  mkReg "MSS_LOG_SEQ" 0x900008 [] 0x0 0x0 0x0 0x0,
  mkReg "MSS_LOG_ACK" 0x90000C [] 0x0 0xFFFFFFFF 0x0 0x0,
  { mkReg "MSS_PR_OWN" 0x900010 [(2, 0x4)] 0x0 0xFFFFFFFF 0x0 0x0 with fw := true },
  mkReg "BOOT_STAT" 0x800000 [] 0x0 0x0 0x11 0x0,
  mkReg "BOOT_REASON" 0x800004 [] 0x0 0x0 0x0 0x0,
  mkReg "BOOT_CTL" 0x800008 [] 0x0 0x0 0x0 0x0,
  mkReg "BOOT_TIME" 0x800010 [(12, 0x4)] 0x0 0x0 0x0 0x0,
  { mkReg "BOOT_WDT" 0x800040 [] 0x7D0 0x8000FFFF 0x0 0x0 with fw := true },
  mkReg "BOOT_FLASH" 0x800044 [] 0x0 0x0 0x0 0x0,
  mkReg "BOOT_BCR_SEQ" 0x800048 [] 0x0 0x0 0x0 0x0,
  { mkReg "UPD_STAT" 0x801000 [] 0x0 0x0 0x10000 0x0 with fw := true },
  { mkReg "UPD_RECV" 0x801004 [] 0x0 0x0 0x0 0x0 with fw := true }]

/-- Part 14 of the register map: the register tables of the chapters, in the order of the chapters. -/
def regRows14 : List RegRow := [
  { mkReg "UPD_TRIAL" 0x801008 [] 0x0 0x0 0x0 0x0 with fw := true },
  { mkReg "UPD_PROG" 0x80100C [] 0x0 0x0 0x0 0x0 with fw := true },
  { mkReg "UPD_IMG_VER_LO" 0x801010 [] 0x0 0x0 0x0 0x0 with fw := true },
  { mkReg "UPD_IMG_VER_HI" 0x801014 [] 0x0 0x0 0x0 0x0 with fw := true },
  { mkReg "UPD_IMG_INFO" 0x801018 [] 0x0 0x0 0x0 0x0 with fw := true },
  { mkReg "UPD_ACT_BEAT_LO" 0x801020 [] 0x0 0x0 0x0 0x0 with fw := true },
  { mkReg "UPD_ACT_BEAT_HI" 0x801024 [] 0x0 0x0 0x0 0x0 with fw := true },
  mkReg "TIM_CTL" 0x200000 [] 0x3 0x3 0x0 0x0,
  mkReg "TIM_STAT" 0x200004 [] 0x0 0x0 0xF0 0x0,
  mkReg "TIM_EVENT" 0x200008 [] 0x0 0x0 0x3F 0x0,
  mkReg "TIM_IRQ_EN" 0x20000C [] 0x0 0x3F 0x0 0x0,
  mkReg "TIM_TIME_NS" 0x200010 [] 0x0 0x0 0x0 0x0,
  mkReg "TIM_TIME_FRAC" 0x200014 [] 0x0 0x0 0x0 0x0,
  mkReg "TIM_TIME_SEC_LO" 0x200018 [] 0x0 0x0 0x0 0x0,
  mkReg "TIM_TIME_SEC_HI" 0x20001C [] 0x0 0x0 0x0 0x0,
  mkReg "TIM_SET_NS" 0x200020 [] 0x0 0x3FFFFFFF 0x0 0x0,
  mkReg "TIM_SET_SEC_LO" 0x200024 [] 0x0 0xFFFFFFFF 0x0 0x0,
  mkReg "TIM_SET_SEC_HI" 0x200028 [] 0x0 0xFFFF 0x0 0x0,
  mkReg "TIM_SET_CTL" 0x20002C [] 0x0 0x0 0x0 0x0,
  mkReg "TIM_FREQ" 0x200030 [] 0x0 0xFFFFFFFF 0x0 0x0,
  mkReg "TIM_SERVO" 0x200034 [] 0x80014 0xFFFFFF 0x0 0x0,
  mkReg "TIM_VOTE_CFG" 0x200038 [] 0x3E80064 0xFFFFFFFF 0x0 0x0,
  mkReg "TIM_VOTE" 0x20003C [] 0x0 0x0 0x0 0x0,
  mkReg "TIM_UTC" 0x200040 [] 0x0 0xFFFF 0x0 0x0]

/-- Part 15 of the register map: the register tables of the chapters, in the order of the chapters. -/
def regRows15 : List RegRow := [
  mkReg "TIM_REF_CFG" 0x200100 [(3, 0x20)] 0x0 0x80FFFF03 0x0 0x0,
  mkReg "TIM_REF_OFS_LO" 0x200104 [(3, 0x20)] 0x0 0xFFFFFFFF 0x0 0x0,
  mkReg "TIM_REF_OFS_HI" 0x200108 [(3, 0x20)] 0x0 0xFFFFFFFF 0x0 0x0,
  mkReg "TIM_REF_MEAS" 0x20010C [(3, 0x20)] 0x0 0x0 0x0 0x0,
  mkReg "TIM_REF_STAT" 0x200110 [(3, 0x20)] 0x0 0x0 0xA 0x0,
  mkReg "TIM_REF_DIS_CNT" 0x200114 [(3, 0x20)] 0x0 0x0 0x0 0xFFFFFFFF,
  mkReg "TIM_TRG_CTL" 0x200200 [(8, 0x20)] 0x0 0xE0000107 0x0 0x0,
  mkReg "TIM_TRG_SEC" 0x200204 [(8, 0x20)] 0x0 0xFFFFFFFF 0x0 0x0,
  mkReg "TIM_TRG_NS" 0x200208 [(8, 0x20)] 0x0 0x3FFFFFFF 0x0 0x0,
  mkReg "TIM_TRG_PER_S" 0x20020C [(8, 0x20)] 0x0 0xFFFFFFFF 0x0 0x0,
  mkReg "TIM_TRG_PER_NS" 0x200210 [(8, 0x20)] 0x0 0x3FFFFFFF 0x0 0x0,
  mkReg "TIM_TRG_WIDTH" 0x200214 [(8, 0x20)] 0x0 0xFFFF 0x0 0x0,
  mkReg "TIM_TRG_STAT" 0x200218 [(8, 0x20)] 0x0 0x0 0x1F 0x0,
  mkReg "TIM_CAP_CFG" 0x200300 [] 0x0 0xFF 0x0 0x0,
  mkReg "TIM_CAP_CNT" 0x200304 [] 0x0 0x0 0x0 0x0,
  mkReg "TIM_CAP" 0x200310 [(3, 0x4)] 0x0 0x0 0x0 0x0,
  mkReg "TIM_TXTS" 0x200400 [(4, 0x4)] 0x0 0x0 0x0 0x0,
  mkReg "TIM_TXTS_CNT" 0x200410 [] 0x0 0x0 0x0 0x0,
  { mkReg "TIM_MC_CFG" 0x201000 [(192, 0x10)] 0x0 0xE0000000 0x0 0x0 with bnd := 0xE0000000 },
  { mkReg "TIM_MC_RXDLY" 0x201004 [(192, 0x10)] 0x0 0xFFFFFFFF 0x0 0x0 with bnd := 0xFFFFFFFF },
  { mkReg "TIM_MC_TXDLY" 0x201008 [(192, 0x10)] 0x0 0xFFFFFFFF 0x0 0x0 with bnd := 0xFFFFFFFF },
  mkReg "MATE_CFG" 0x300000 [] 0x30000 0xFF3FF3 0x0 0x0,
  mkReg "MATE_CTL" 0x300004 [] 0x0 0x0 0x0 0x0,
  mkReg "MATE_KICK" 0x300008 [] 0x0 0x0 0x0 0x0]

/-- Part 16 of the register map: the register tables of the chapters, in the order of the chapters. -/
def regRows16 : List RegRow := [
  mkReg "MATE_STAT" 0x30000C [] 0x0 0x0 0x0 0x0,
  mkReg "MATE_EVENT" 0x300010 [] 0x0 0x0 0x3F 0x0,
  mkReg "MATE_IRQ_EN" 0x300014 [] 0x0 0x3F 0x0 0x0,
  mkReg "MATE_HEALTH" 0x300018 [] 0x7F00 0x7F7F 0x0 0x0,
  mkReg "MATE_HB_DIR" 0x30001C [] 0xFFFF 0x0 0x0 0x0,
  mkReg "MATE_WTR" 0x300020 [] 0x12C 0xFFFF 0x0 0x0,
  mkReg "MATE_TEST" 0x300024 [] 0x0 0xFFFFF 0x0 0x0,
  mkReg "GEN_PWR_STAT" 0x50 [] 0x0 0x0 0x200 0x0,
  { mkReg "GEN_CORE" 0x58 [(2, 0x4)] 0x2EE 0xFFFF 0x0 0x0 with fw := true }]

/-- The whole register map of BAR0 (R21). -/
def regRows : List RegRow :=
  regRows0 ++ regRows1 ++ regRows2 ++ regRows3 ++ regRows4 ++ regRows5 ++ regRows6 ++ regRows7 ++ regRows8 ++ regRows9 ++ regRows10 ++ regRows11 ++ regRows12 ++ regRows13 ++ regRows14 ++ regRows15 ++ regRows16

/-- The indices of the element at a distance from the array's base. -/
def regIndex : List (Nat × Nat) → Nat → Option (List Nat)
  | [], off => if off = 0 then some [] else none
  | (c, st) :: ds, off => if off / st < c then (regIndex ds (off % st)).map (fun ix => off / st :: ix) else none

/-- The offset that stands for an offset: the common block of the avenue windows is one set of registers, reached through
the window of any physical avenue (spec/05_engines, AVE registers). -/
def canonAddr (a : Nat) : Nat :=
  if 0x3000000 ≤ a && a < 0x4100000 && 0xF0000 ≤ a % 0x100000 then 0x3000000 + a % 0x100000 else a

/-- The row and the element of the register at an offset; none where no register is defined (R20). -/
def regLookup (a : Nat) : Option (RegRow × List Nat) :=
  regRows.findSome? fun r => if r.base ≤ a then (regIndex r.dims (a - r.base)).map (fun ix => (r, ix)) else none

/-- The reset value of the register at an offset. -/
def regReset (a : Nat) : Word :=
  match regLookup a with
  | some (r, ix) => BitVec.ofNat 32 (r.reset + r.inc * ix.getLastD 0)
  | none => 0

/-- The stop-change-restart register that guards a register's stopped-only bits: the one of the same first index, where there is one for each
index, as for port groups, avenues and channels; LKP_SCR and TCM_SCR guard all descriptors. -/
def regScr (r : RegRow) (ix : List Nat) : Nat :=
  if r.scr = 0x5000000 || r.scr = 0x8000000 then r.scr
  else match r.dims, ix with
  | (_, st) :: _, i :: _ => r.scr + i * st
  | _, _ => r.scr

end Sys2Proof.Machine
end

