-- ==== Sys2Proof/Config.lean ====
section
/-! DEFINITION. What an implementation fixes and what the spec leaves open: constants without a body, of which no proof can
see a value (a free value). -/

namespace Sys2Proof

/-- The unit's serial number, from the factory area of the identity EEPROM (GEN_SERIAL_LO and _HI, spec/01_module). -/
opaque Config.serial : BitVec 48

/-- The draw of a logical avenue's sampling generator: the sequence itself is not given (R509). Arguments: the logical
avenue and how many draws were made since reset. -/
opaque Config.sampleDraw : Nat → Nat → BitVec 24

/-- Word 1 of a two-word response to a lookup that misses: the miss response is one word (R202). Argument: the draw. -/
opaque Config.missWord : Nat → BitVec 64

/-- A response word past the end of a table's entry (R197, R201 give an entry's words only). Argument: the draw. -/
opaque Config.entryPast : Nat → BitVec 64

/-- The root that the route-install agent gives a FIB: node addresses are not visible (R205). Argument: the draw. -/
opaque Config.fibRoot : Nat → BitVec 32

/-- The place of the node that a FIB lookup reads at a depth: the agent's layout is not visible (R205). Arguments: the key words, the depth. -/
opaque Config.fibNode : Nat → Nat → Nat → Nat → Nat

/-- A word of a FIB's banks as the agent wrote it: node and leaf formats are not visible (R205). Arguments: the number of publications, the
word. -/
opaque Config.fibWord : Nat → Nat → BitVec 512

/-- The line of a full statistics cache that gives way to a new one: the spec does not say which (R192). Argument: the draw. -/
opaque Config.statVictim : Nat → Nat

/-- Whether the agent holds a prefix's leaf in DRAM when others are used as much (R209). Arguments: the VRF, the length and the address. -/
opaque Config.fibLeafDram : Nat → Nat → Nat → Bool

/-- The matches of a scan, as pattern number and end offset, in order: the automaton is the toolchain's (R248). Arguments: the
draw and the pattern set. -/
opaque Config.patMatches : Nat → Nat → List (BitVec 16 × BitVec 14)

/-- The payload bytes of a cell past its last used one (R328). Argument: the place after the used bytes. -/
opaque Config.cellFill : Nat → Byte

/-- The bits of an idle cell below its TYPE (R328, R329). Arguments: the beat, the lane and the slot. -/
opaque Config.idleCell : Nat → Nat → Nat → BitVec 2174

/-- Bits 59 to 0 of a control-message slot that carries no message (R344). Argument: the slot's place among the empty ones. -/
opaque Config.emptyMessage : Nat → BitVec 60

/-- The data of a burst read with an uncorrectable error, flagged as errored (R370). Argument: the draw. -/
opaque Config.erroredBurst : Nat → BitVec 512

/-- Severity and code of an event that the spec has logged and for which it gives no code (R421). Argument: the model's number of the
event: 1 a clock step, 2 a failed device access, 3 a boot reason or a failed start, 4 a PMBus failure, 5 a failed activation, 6 a bad
EEPROM, 7 a logged crossing wire, 8 FORWARDING, 9 a host-side reset, 10 and 11 a sensor's rise and fall, 12 an optics event, 13 a host-defined
message, 14 an EVPN event, 15 a shadow mismatch, 16 a LACP event, 17 a failed activation or flash
write, 18 a DRAM repair. -/
opaque Config.eventSev : Nat → BitVec 4
opaque Config.eventCode : Nat → BitVec 16

/-- An argument of an event record, or a detail of an error report, of which the spec does not give the layout. Argument: the draw. -/
opaque Config.eventArg : Nat → BitVec 64

/-- The flow that a sample record belongs to: firmware's flow key is not given (R413). -/
opaque Config.flowKey : List Byte → List Byte

/-- The boot ROM's version (R412). -/
opaque Config.romVersion : BitVec 63

/-- Bytes of the EEPROM's factory area that R424 leaves to the unit. Argument: the offset. -/
opaque Config.factory : Nat → Byte

/-- The answer for a BFD session that does not exist (R412). Argument: the session. -/
opaque Config.noSession : Nat → BitVec 64

/-- The 16 bytes that LACP_GET answers for a member port: their layout is not given (R412). Arguments: the actor's and the partner's
state, the partner's system, key and port. -/
opaque Config.lacpView : Nat → Nat → Nat → Nat → Nat → BitVec 128

/-- ARG1 of event 0x0201: how it holds the actor's and the partner's state is not given (R421). -/
opaque Config.lacpArg : Nat → Nat → BitVec 64

/-- What MEP_GET answers: its layout is not given (R412). Arguments: the remote MEP's state, the last delay and the last loss result. -/
opaque Config.mepView : Nat → Nat → Nat → List Byte

/-- The kind of a sensor as SENSOR_READ codes it (R418), the nominal current of a current monitor in 10 mA, and the default thresholds
of current and ageing monitors, WARN and CRIT, in hundredths of the sensor's unit (R418). -/
opaque Config.sensorKind : Nat → BitVec 4
opaque Config.nominalCurrent : Nat → Nat
opaque Config.sensorThr : Nat → Nat × Nat

/-- The fused nominal of each die's core rail above 720 mV, 0 FE, 1 TM: it lies between 720 and 780 mV (R539). -/
opaque Config.fusedMv : Nat → BitVec 16

/-- Malgondi's public key in the boot ROM (R453). -/
opaque Config.vendorKey : List Byte

/-- Whole nanoseconds of a time that is no whole number of them: the rounding is not given (R471, R472). -/
opaque Config.roundNs : Int → Int

/-- F as the servo chooses it before its limits: its law is not given (R473). Arguments: the voted offset in 1/65,536 ns, TAU_S, F and
the draw. -/
opaque Config.servoF : Int → Nat → Int → Nat → Int

/-- Milliseconds from time 0 to the start of a step of the boot, before its latest time and its predecessor's bound it (R435). Argument: the
draw. -/
opaque Config.bootMs : Nat → BitVec 32

/-- Clocks to the next overhead multiframe boundary of a FlexE group's transmitter: the spec does not give where it stands (R68). Argument: the
draw. -/
opaque Config.multiframeWait : Nat → Nat

/-- The node that a start word read in error names (R109). Arguments: the physical avenue and the clock. -/
opaque Config.startNode : Nat → Nat → BitVec 9

/-- NEXT of a PD that no other follows in its queue (R274). Argument: the PD. -/
opaque Config.lastPd : BitVec 27 → BitVec 27

/-- Which packet of a MAC context has bytes in a block of the kerb store: the spec does not say how blocks are given out (R84, R517). Arguments: the
block, the draw. -/
opaque Config.storeVictim : Nat → Nat → Nat

/-- Malgondi's manufacturer identity in IDCODE (R546). -/
opaque Config.jtagMaker : BitVec 11

/-- UPD_PROG while the loader writes a main image: how far it has come is not told by any command (R457). Argument: the clock. -/
opaque Config.updProg : Nat → BitVec 16

end Sys2Proof
end

