-- ==== Sys2Proof/Machine/StCore.lean ====
section
/-! DEFINITION. State of the register bus, the beat, the performance counters and the error unit
(spec/00_scope, 01_module, 02_beat, 20_counters_sampling, 21_errors). -/

namespace Sys2Proof.Machine

/-- How a register access completes (R4, R379). -/
inductive CplStatus where
  | ok
  | unsupportedRequest
  | completerAbort
  deriving DecidableEq, Repr

/-- The last completion that the bus returned. -/
structure Completion where
  req : Requester
  addr : Nat
  data : Word
  status : CplStatus
  deriving DecidableEq, Repr

/-- An event that a started or stopping function has reported and that takes effect at the next boundary (R43). -/
inductive ScrEvent where
  | startDone
  | fault (code : BitVec 8)
  | drainDone
  deriving DecidableEq, Repr

/-- What a stop-change-restart function waits to do at the next boundary: the accepted command (0 none, 1 START, 2 STOP)
and the event reported (R43, R44). -/
structure ScrSt where
  cmd : Nat := 0
  ev : Option ScrEvent := none
  /-- One more than the clock at which STARTING or DRAINING was entered; 0 in the other states. -/
  since : Nat := 0
  deriving DecidableEq, Repr

/-- An armed change: its target and whether the target lay in the past when it was armed (R37). -/
structure Armed where
  target : BitVec 32
  late : Bool
  deriving DecidableEq, Repr

/-- The register bus and the beat (spec/00_scope R4-R8, 02_beat). -/
structure BusState where
  /-- Registers by BAR0 offset; an unlisted register holds its reset value. -/
  regs : Tab Word := []
  /-- Writes to fields marked at boundary, oldest first: offset, mask and value (R31). -/
  pendRegs : List (Nat × Nat × Nat) := []
  /-- High halves latched by a low-half read, by requester and offset of the high half (R5). -/
  latch : Tab (Option Word) := []
  /-- Low halves written and not yet completed by the high half, by offset (R6). -/
  lowHalf : Tab Word := []
  /-- The beat number (R25). -/
  beat : BitVec 64 := 0
  /-- The clock within the beat (R24). -/
  clk : BitVec 8 := 0
  /-- Core clocks since reset; the model's own count, by which latencies are measured. -/
  ticks : Nat := 0
  /-- Beats since reset; the model's own count, by which durations in beats are measured: a load of the beat number leaves it (R26, R28). -/
  beats : Nat := 0
  /-- Events of RC counts in the current clock, by offset: they are added when the clock ends (R8). -/
  rcNow : Tab Nat := []
  /-- The values that registers keep in force to the end of the clock in which they are written (R135, R136, R148). -/
  late : Tab (Option Word) := []
  /-- What has been used in the current clock of the resources that serve so many in a clock, by the resource's key (Use). -/
  used : Tab Nat := []
  /-- Register changes of the last boundaries, newest first: the first beat (as beats counts) under the new value, the offset and the old
  value. A packet admitted earlier finishes under the old one (R40). -/
  before : List (Nat × Nat × Word) := []
  /-- Stop-change-restart functions by the offset of their register (R43). -/
  scrs : Tab ScrSt := []
  /-- Armed activation slots by the offset of their target register (R36, R37). -/
  armed : Tab (Option Armed) := []
  /-- The last completion returned. -/
  cpl : Option Completion := none
  deriving DecidableEq, Repr

/-- What the sampler has noted of one tagged packet (R510, R511). -/
structure Sample where
  ctx : Nat := 0
  lave : Nat := 0
  passes : Nat := 0
  frameLen : Nat := 0
  dram : Bool := false
  admBeat : Nat := 0
  admClk : Nat := 0
  queue : Nat := 0
  disp : Nat := 7
  exitB : Nat := 0xFFFF
  land : Nat := 0xFFFF
  sched : Nat := 0xFFFF
  run : Nat := 0
  wait : Nat := 0
  lookups : Nat := 0
  engine : Nat := 0
  head : List Byte := []
  /-- Copies of the packet not yet gone; a replicated packet's record closes with its first close event. -/
  live : Bool := false
  deriving DecidableEq, Repr

/-- One trace buffer (R513 to R516): entries oldest first, each of three 64-bit words. -/
structure Trace where
  entries : List (BitVec 64 × BitVec 64 × BitVec 64) := []
  deriving DecidableEq, Repr

/-- Counters, sampling and traces (spec/20_counters_sampling). -/
structure PmuState where
  /-- Events of the current beat by identity (R504). -/
  now : Tab Nat := []
  /-- The value of each counter, OVF and CNT together (R503). -/
  cnt : Tab Nat := []
  /-- The snapshot store (R506). -/
  snap : Tab Nat := []
  /-- Sample slots in use, by slot (R509, R510). -/
  slots : Tab Sample := []
  /-- Tags used in the current beat (R509). -/
  tags : Nat := 0
  /-- Closed records, oldest first, each of 128 bytes (R510, R511). -/
  queue : List (List Byte) := []
  /-- The record latched by a read of REC0 (R512). -/
  latched : Option (List Byte) := none
  /-- The sequence number of the next record (R511). -/
  seq : Nat := 0
  /-- Trace buffers, by avenue x 2 + engine (R513). -/
  traces : Tab Trace := []
  deriving DecidableEq, Repr

/-- A unit's error report (R520, R523, R527). -/
structure ErrReport where
  unit : Nat
  code : Nat
  cls : Nat
  inst : Nat
  detail : Nat
  deriving DecidableEq, Repr

/-- The error unit (spec/21_errors). -/
structure ErrState where
  /-- Records kept, oldest first, each of 24 bytes (R521, R523). -/
  queue : List (List Byte) := []
  /-- The record latched by a read of ERR_REC0 (R523). -/
  latched : Option (List Byte) := none
  /-- The sequence number of the next record (R523). -/
  seq : Nat := 0
  /-- Reports discarded since the last record that entered (R521). -/
  lost : Nat := 0
  /-- Reports of TM units waiting for the control flits, oldest first (R520). -/
  tmBuf : List ErrReport := []
  /-- Pairs of unit and code, of class 0, that have entered the queue in the second secOf (R522). -/
  pairs : List (Nat × Nat) := []
  /-- The TAI second that pairs belongs to (R522). -/
  secOf : Nat := 0
  /-- The clock at which the hold after a class 3 report began, while it runs (R519). -/
  hold : Option Nat := none
  /-- Uncorrectable-error times of packet engines, in TAI seconds, by engine (R531). -/
  engErr : Tab Nat := []
  /-- Seconds of the last margin step per die, 0 for none (R533). -/
  stepAt : Tab Nat := []
  /-- Rise of each die's core rail in mV, as logged (R533). -/
  raised : Tab Nat := []
  /-- Crossing wires logged: direction x 64 + link, and wire (R535). -/
  wires : List (Nat × Nat) := []
  /-- Engines that firmware has isolated and has yet to replace (R531). -/
  remap : List Nat := []
  /-- Engines that firmware has taken out of service, until their avenue's self-test passes (R531). -/
  out : List Nat := []
  /-- The avenue being re-homed, the spare, and the step that firmware is at (R534). -/
  rehome : Option (Nat × Nat × Nat) := none
  deriving DecidableEq, Repr

end Sys2Proof.Machine
end

