-- ==== Sys2Proof/Machine/StFront.lean ====
section
/-! DEFINITION. State of the line side, the kerb, the parser, the avenues and their engines
(spec/03_line, 04_parse_graph, 05_engines, 06_engine_isa). -/

namespace Sys2Proof.Machine

/-- The states of marker lock (R55). -/
inductive LockState where
  | search
  | confirm
  | locked
  deriving DecidableEq, Repr

/-- One lock machine: its state, the position under test and the finds or misses counted (R55). -/
structure Lock where
  st : LockState := .search
  pos : Nat := 0
  finds : Nat := 0
  misses : Nat := 0
  /-- A lane-number mismatch was seen after lock (R56). -/
  orderDefect : Bool := false
  deriving DecidableEq, Repr

/-- A packet on the FE, from its first bytes at the kerb to its hand-over (R52, R84, R105). -/
structure Pkt where
  /-- MAC context. -/
  ctx : Nat := 0
  /-- Bytes stored in the kerb store, without FCS. -/
  data : List Byte := []
  /-- Bytes that have arrived, without FCS. -/
  len : Nat := 0
  /-- The frame's end has arrived. -/
  ended : Bool := false
  /-- The LINE drop code with which the packet is dropped at the exit of its window; 0 for none (R52, R59, R84). -/
  bad : Nat := 0
  /-- A codeword that overlaps the frame could not be corrected (R51). -/
  fec : Bool := false
  /-- The frame's bytes are kept in the kerb store (R84). -/
  stored : Bool := true
  /-- Kerb-store blocks held (R84). -/
  blocks : Nat := 0
  /-- Logical avenue of the current pass. -/
  lave : Nat := 0
  /-- Steering hash (R81). -/
  hash : Nat := 0
  /-- Pass number, 1 to 3 (R104). -/
  pass : Nat := 1
  tsSec : Nat := 0
  tsNs : Nat := 0
  /-- Beat and clock of the first pass's admission. -/
  admBeat : Nat := 0
  admClk : Nat := 0
  /-- Sample slot of a tagged packet (R509). -/
  tag : Option Nat := none
  /-- Frame offset of the window and first node of a later pass (R100). -/
  winBase : Nat := 0
  startNode : Nat := 0
  /-- The carry area of the previous pass (R104, R105). -/
  carry : List Byte := []
  /-- The clock in which the header entered its kerb queue: the avenue takes it in a later one (R22). -/
  kerbTick : Nat := 0
  /-- The clock of the frame's first byte at the kerb (R84). -/
  firstTick : Nat := 0
  /-- MAX_FRAME of the context as the header came to the kerb (R82). -/
  maxFrame : Nat := 10240
  /-- Bytes of the frame in the kerb store are uncorrectable (R517). -/
  storeBad : Bool := false
  deriving DecidableEq, Repr

/-- An egress record delivered to a transmit MAC (R60, R290). -/
structure EgressRec where
  /-- Target MAC context. -/
  target : Nat
  frame : List Byte
  deriving DecidableEq, Repr

/-- A frame sent by a transmit MAC, FCS left out: context, bytes after padding, and the send time. -/
structure SentFrame where
  ctx : Nat
  bytes : List Byte
  sec : Nat
  ns : Nat
  deriving DecidableEq, Repr

/-- The line side and the kerb (spec/03_line). -/
structure LineState where
  locks : Tab Lock := []
  /-- Uncorrectable codewords of the current window, by port (R58). -/
  uncWin : Tab Nat := []
  /-- Consecutive windows at or below the limit, by port: for HI_SER and for DEG_SER (R58). -/
  hiGood : Tab Nat := []
  degGood : Tab Nat := []
  /-- Packets on the FE by number; an unlisted number is a packet that is gone. -/
  pkts : Tab Pkt := []
  /-- The number of the next packet. -/
  nextPkt : Nat := 1
  /-- The packet in reception of each MAC context: 0 none, 1 discarded, 2 discarded and not counted by the MAC, else its number plus 2 (R52,
  R59, R555). -/
  rx : Tab Nat := []
  /-- Gather buffers by MAC context (R53). -/
  gather : Tab (List Byte) := []
  /-- A codeword that overlaps the frame in the gather buffer could not be corrected (R51). -/
  gatherFec : Tab Bool := []
  /-- The frame in the gather buffer was in flight at a calendar switch that lost it (R70). -/
  gatherFcs : Tab Bool := []
  /-- Frames of a context, after the one in reception, that an uncorrectable codeword overlaps (R51). -/
  fecNext : Tab Nat := []
  /-- The clock in which each lane's signal detect was gained, plus 1 (R58). -/
  sigAt : Tab Nat := []
  /-- Defects that the last overhead frame of each PHY showed, by group x 8 + PHY, in the places of FLX_DEF_LIVE (R71). -/
  flxDef : Tab Nat := []
  /-- Kerb-store blocks in use by port group (R84). -/
  used : Tab Nat := []
  /-- Headers that wait at their port group, which delivers 2 in a clock (R83). -/
  kerbWait : List Nat := []
  /-- Packets that have taken a block of the shared area in this clock, the last first (R84). -/
  blkNow : List Nat := []
  /-- Kerb queues by logical avenue (R83). -/
  kerbQ : Tab (List Nat) := []
  /-- Recirculation queues by logical avenue (R103). -/
  recQ : Tab (List Nat) := []
  /-- Egress records delivered and not yet sent, oldest first (R60). -/
  egress : List EgressRec := []
  /-- Frames sent since the last beat boundary, newest first. -/
  sent : List SentFrame := []
  /-- Client settings in force, by group x 32 + client (R68). -/
  cli : Tab Word := []
  /-- Client settings under which the receiver runs, by group x 32 + client (R70). -/
  rxCli : Tab Word := []
  /-- Calendar that a sent CR names: 0 none, 1 A, 2 B; by group (R68). -/
  crSent : Tab Nat := []
  /-- The clock in which the CR was first sent, by group (R68). -/
  crAt : Tab Nat := []
  /-- The clock of the overhead multiframe boundary at which transmit switches, plus 1; 0 for none; by group (R68). -/
  txAt : Tab Nat := []
  /-- Skew of each PHY in ns, by group x 8 + PHY (R66). -/
  skew : Tab Nat := []
  /-- Client numbers of the slots of each PHY as its overhead shows them, instance by instance, by group x 8 + PHY (R71). -/
  rxCal : Tab (List (BitVec 16)) := []
  /-- Clients that disagreed with the calendar of the last failed switch or CR, as a bit set; by group (R69, R71). -/
  calFail : Tab Nat := []
  /-- The received calendar names a client number that no client has; by group (R71). -/
  calUnknown : Tab Bool := []
  /-- PHYs whose CA has been received, as a bit set; by group (R68). -/
  caMask : Tab Nat := []
  /-- CA sent to the far end: 0 none, 1 for A, 2 for B; by group (R69). -/
  caSent : Tab Nat := []
  /-- A switch at the next OPUCn multiframe waits; by group (R74). -/
  otnSw : Tab Bool := []
  /-- The calendar indicator, or C bit, sent; by group (R68, R74). -/
  cBit : Tab Bool := []
  /-- Clients in calendar mismatch, as a bit set; by group (R71). -/
  calMm : Tab Nat := []
  /-- Consecutive bad and good seconds of SM and PM, by port group (R75). -/
  smBad : Tab Nat := []
  smGood : Tab Nat := []
  pmBad : Tab Nat := []
  pmGood : Tab Nat := []
  /-- Errored BIP-8 blocks of the current second, by port group (R75). -/
  smSec : Tab Nat := []
  pmSec : Tab Nat := []
  /-- Uncorrectable FlexO codewords of the current second, by port group (R75). -/
  fecSec : Tab Nat := []
  /-- Trail-trace candidates and how often each came in a row, by port group (R75). -/
  smTti : Tab (BitVec 512 × Nat) := []
  pmTti : Tab (BitVec 512 × Nat) := []
  deriving DecidableEq, Repr

/-- A disposition (R180), or the one that the module gives in its place (R33, R99, R130). -/
inductive Disp where
  | fwd (queue dest colour scan : Nat)
  | repl (list colour : Nat)
  /-- A punt to a ring; REASON and cause of the punt descriptor, whether the script travels, and the drop taken when the ring
  is full: unit and code, unit 0x06 for a refusal that the host side counts itself. -/
  | punt (ring reason cause : Nat) (script : Bool) (fullUnit fullCode : Nat)
  | recirc
  /-- A drop: unit and code of R507, or the program's REASON when prog holds. -/
  | drop (unit code : Nat) (prog : Bool)
  deriving DecidableEq, Repr

/-- Where a packet stands in its window (R113, R114). -/
inductive SlotPhase where
  | parsing
  | eligible
  | running (eng thr : Nat)
  | done
  deriving DecidableEq, Repr

/-- A learn candidate (R252): the key (MAC address in bits 47:0, FID in bits 61:48), the context, its learned DEST, the logical
avenue and the outcome. -/
structure Cand where
  key : Nat
  ctx : Nat
  dest : Nat
  lave : Nat
  /-- The outcome that the probe saw: DEST and STATIC of the entry, or none of a miss. -/
  seen : Option (Nat × Bool) := none
  deriving DecidableEq, Repr

/-- A slot of an avenue (R113). -/
structure Slot where
  pkt : Nat := 0
  admBeat : Nat := 0
  admClk : Nat := 0
  admTick : Nat := 0
  /-- Admission beat by the count of beats since reset (R32, R40). -/
  admB : Nat := 0
  /-- Code bank and graph bank of the packet, B when true (R87, R142). -/
  cbank : Bool := false
  gbank : Bool := false
  phase : SlotPhase := .parsing
  /-- FRAME_LEN of the header vector: 0 when the frame's end had not arrived at admission (R96). -/
  frameLen : Nat := 0
  /-- Clocks at which the header vector was complete and the thread was dispatched. -/
  eligTick : Nat := 0
  dispTick : Nat := 0
  /-- AVE_DBG_FEED as it was in force when the packet became eligible (R136). -/
  feed : Nat := 0
  /-- The header vector (R95). -/
  hv : Mem := []
  /-- The edit script, a multiple of 8 bytes (R177). -/
  script : List Byte := []
  disp : Option Disp := none
  /-- The pass has had its learn probe (R251), and the candidate that it formed (R252). -/
  probed : Bool := false
  cand : Option Cand := none
  deriving DecidableEq, Repr

/-- A packet that has left its slot and waits for the boundary (R113). -/
structure Exit where
  pkt : Nat
  admBeat : Nat
  admClk : Nat
  /-- Clock and beat of admission since reset, which give the order and the boundary of the exit (R32). -/
  admTick : Nat
  admB : Nat
  disp : Disp
  script : List Byte
  hv : Mem
  cand : Option Cand
  deriving DecidableEq, Repr

/-- The kinds of request that a thread issues (R121). -/
inductive ReqKind where
  | lkp
  | tcs
  | pol
  | stat
  deriving DecidableEq, Repr

/-- A request's turn at a unit that serves it: a lookup bank 0 to 63, a policer bank 64 to 79, or a TCAM table 128 to 135 (R187, R191,
R229). -/
structure Turn where
  bank : Nat
  /-- The word of lookup SRAM that is read. -/
  word : Nat := 0
  /-- The clock in which it came to the queue, and the one in which it entered it; none while it waits for room. -/
  since : Nat := 0
  inAt : Option Nat := none
  /-- The word as it was read; none until the turn is served. -/
  got : Option (BitVec 512) := none
  deriving DecidableEq, Repr

/-- A request outstanding (R121, R172 to R175). -/
structure Req where
  kind : ReqKind := .lkp
  /-- Destination registers. -/
  rd : Nat := 0
  rw : Nat := 0
  /-- Table identity, search profile or policer. -/
  id : Nat := 0
  /-- Key words, or operands. -/
  key : List Dword := []
  /-- Key bytes of a TCAM search. -/
  bytes : List Byte := []
  tick : Nat := 0
  pc : Nat := 0
  cbank : Bool := false
  /-- The first learn probe of its packet's pass (R251). -/
  probe : Bool := false
  /-- Its turns, in the order in which they were asked for (R188, R191, R229). -/
  turns : List Turn := []
  /-- Its read of the lookup extension: 0 none yet, 1 accepted, 2 waits for the next beat (R190). -/
  dram : Nat := 0
  /-- Entries that a search found when it was served, lowest index first: index, action, and whether the check copy does not match (R226,
  R237). -/
  found : List (Nat × Nat × Bool) := []
  deriving DecidableEq, Repr

/-- The states of a thread (R120). -/
inductive ThrState where
  | free
  | ready
  | blockedInt
  | blockedExt
  | halted
  | haltedDl
  deriving DecidableEq, Repr

/-- A response held for a halted thread (R138): its request, its words, and DETAIL when it was flagged as errored. -/
structure Held where
  q : Req
  words : List Dword
  err : Option Nat := none
  deriving DecidableEq, Repr

/-- What a blocked thread waits for (R120, R121, R125, R163): the registers that wait for a response, every request, room for a ninth
request (of a STAT, with its pair and bytes), a message, room on a channel. -/
inductive Wait where
  | none
  | reg (rs : List Nat)
  | all
  | ninth (q : Req)
  | recv (ch rd : Nat)
  | commit (ch : Nat)
  deriving DecidableEq, Repr

/-- One thread (R116, R120, R161). -/
structure Thr where
  st : ThrState := .free
  /-- State before a halt (R140). -/
  prior : ThrState := .free
  g : Tab Dword := []
  p : BitVec 8 := 0
  pc : BitVec 15 := 0
  cbank : Bool := false
  slot : Nat := 0
  /-- Staged words, and the channel they are staged for (R124). -/
  stage : List Dword := []
  stageCh : Nat := 0
  reqs : List Req := []
  wait : Wait := .none
  waitSince : Nat := 0
  /-- Clock at which each g register written with a latency above 1 may be read (R163, R169). -/
  gReady : Tab Nat := []
  /-- Clock of the last issue or of dispatch (R119). -/
  lastTick : Nat := 0
  dispTick : Nat := 0
  /-- Earliest clock of the next issue (R164). -/
  nextTick : Nat := 0
  /-- Responses held for a halted thread, in the order of their arrival (R138). -/
  held : List Held := []
  /-- Bundle address last issued. -/
  lastPc : BitVec 15 := 0
  /-- A STEP lets the thread issue one bundle, at which it halts again (R140). -/
  stepping : Bool := false
  /-- The edit script of a supervisor thread, which has no packet (R177, R182). -/
  script : List Byte := []
  deriving DecidableEq, Repr

/-- A check of a bank in progress: the bank, and whether it was written since (R107, R144). -/
structure BankCheck where
  bankB : Bool
  dirty : Bool
  deriving DecidableEq, Repr

/-- The avenues and their engines (spec/05_engines, 06_engine_isa). -/
structure EngState where
  /-- Slots by physical avenue x 1024 + slot (R113). -/
  slots : Tab (Option Slot) := []
  /-- Exit buffers by physical avenue, in admission order (R113). -/
  exits : Tab (List Exit) := []
  /-- Threads by (physical avenue x 35 + engine) x 8 + thread (R110). -/
  thr : Tab Thr := []
  /-- Shared registers by (physical avenue x 35 + engine) x 16 + register (R161). -/
  sreg : Tab Dword := []
  /-- Local memories by (physical avenue x 35 + engine) x 2^18 + byte address (R122). -/
  lm : Mem := []
  /-- Messages on channels by (physical avenue x 35 + engine) x 16 + channel (R123, R127). -/
  chan : Tab (List (List Dword)) := []
  /-- Fault records lost on ch0, by physical avenue (R128, R131). -/
  lost : Tab Nat := []
  /-- Detectors that have fired and not rearmed, by physical avenue x 35 + engine (R134). -/
  fired : Tab Bool := []
  /-- Code banks by (physical avenue x 2 + bank) x 32768 + address (R142). -/
  code : Tab (BitVec 128) := []
  /-- The code check in progress (R144). -/
  chk : Option BankCheck := none
  /-- The graph check in progress (R107). -/
  pgChk : Option BankCheck := none
  /-- The bank under OLD_PROT and the beat that ends it (R146). -/
  oldProt : Option (Bool × Nat) := none
  /-- Retired engines by physical avenue x 35 + engine (R149). -/
  retired : Tab Bool := []
  /-- The physical avenue that a starting one is rebuilt from, plus 1; 0 for none (R153). -/
  rebuild : Tab Nat := []
  /-- Words of an avenue's copy of the parse graph that differ from what was written last, since a write passed the avenue by while it ran
  its self-test: by avenue x 2^20 + offset from 0x2100000 (R109, R153, R155). -/
  graphOld : Tab (Option Word) := []
  deriving DecidableEq, Repr

end Sys2Proof.Machine
end

