-- ==== Sys2Proof/Machine/StBack.lean ====
section
/-! DEFINITION. State of the units behind the crossing. -/

namespace Sys2Proof.Machine

/-- A STAT update on its way into the statistics cache (R175, R192). -/
structure StatUpdate where
  pair : Nat
  bytes : Nat
  /-- The thread that holds it outstanding, while it waits for the queue, and the clock of its issue. -/
  thr : Option (Nat × Nat × Nat)
  tick : Nat := 0
  deriving DecidableEq, Repr

/-- A 64-byte word of lookup SRAM, of the lookup extension or of replication memory: byte j in bits 8j + 7 to 8j. -/
abbrev Line := BitVec 512

/-- An entry of the update overlay (R215 to R218). -/
structure Ovl where
  /-- 0 host window, 1 firmware window, 2 hash commands and learning. -/
  writer : Nat
  /-- Word address: lookup SRAM below 2^21, word n of the lookup extension at 2^21 + n. -/
  word : Nat
  data : Line
  /-- Bytes written, bit j for byte j. -/
  mask : BitVec 64
  committed : Bool
  /-- A staged entry that is committed at the next boundary whatever its writer does (R204, R221, R222). -/
  go : Bool
  /-- Written into its bank in this clock: it is free in the next (R218). -/
  drained : Bool := false
  deriving DecidableEq, Repr

/-- A hash command (R203, R204): OP 1 INSERT, 2 REPLACE, 3 DELETE, 4 FIND; of requester 2 (win 2) also 5, a candidate's, 6, a deletion of
the ager's, and 7, a word written as 0 after a bridged table's error (R221, R257). -/
structure HashCmd where
  win : Nat
  op : Nat
  table : Nat
  key : List Nat
  res : List Nat
  static : Bool
  /-- The clock of its arrival: it starts in a later one (R204). -/
  tick : Nat := 0
  /-- The candidate that it executes (R257). -/
  cand : Option Cand := none
  deriving DecidableEq, Repr

/-- A prefix of a FIB (R205): VRF, length, address (32 or 128 bits), result, and whether the result names an ECMP group. -/
structure Prefix where
  vrf : Nat
  plen : Nat
  addr : Nat
  result : Nat
  ecmp : Bool
  /-- The leaf's hit bit since the last sample, and the samples that have shown it (R209). -/
  hit : Bool := false
  used : Nat := 0
  deriving DecidableEq, Repr

/-- A FIB of one address family: the prefixes under the root and under the previous root, and the beat of the last switch, as beats are
counted since reset (R208). -/
structure Fib where
  cur : List Prefix := []
  prev : List Prefix := []
  at? : Option Nat := none
  deriving DecidableEq, Repr

/-- A batch that waits for its publication beat (R214): the beat and the prefixes of each family that it changes. -/
structure FibPub where
  beat : Nat
  v4 : Option (List Prefix)
  v6 : Option (List Prefix)
  deriving DecidableEq, Repr

/-- A bank's assignment (R196): the table identity, KIND, ESIZE, FIRST_BANK and NBANKS of the descriptor that holds it. -/
structure BankUse where
  table : Nat
  kind : Nat
  esize : Nat
  first : Nat
  nbanks : Nat
  deriving DecidableEq, Repr

/-- The roundabout and the tables (spec/07_tables). -/
structure TblState where
  /-- STAT updates by logical avenue, oldest first; the first 64 are in the queue (R192). -/
  statQ : Tab (List StatUpdate) := []
  /-- Lines of the statistics cache by pair: packet and byte deltas (R192). -/
  statCache : Tab (Nat × Nat) := []
  /-- Lines selected for flushing at the last boundary, and lines evicted since. -/
  statSel : Tab (Nat × Nat) := []
  statEv : Tab (Nat × Nat) := []
  /-- Counter pairs in DRAM: packets and bytes (R192). -/
  statDram : Tab (Nat × Nat) := []
  /-- Lookup SRAM by word address (R185). -/
  sram : Tab Line := []
  /-- The lookup extension by word index (R190). -/
  dram : Tab Line := []
  /-- The update overlay: committed entries, oldest commit first, and staged entries. -/
  ovl : List Ovl := []
  /-- Replication memory by word index (R199). -/
  repl : Tab Line := []
  /-- Hash commands that wait for their clock or for overlay room, oldest first (R204, R219). -/
  hashQ : List HashCmd := []
  /-- Windows whose hash command is complete and not yet committed (R204). -/
  hashBusy : List Nat := []
  fib4 : Fib := {}
  fib6 : Fib := {}
  /-- Words of routed tables that firmware is to rewrite from the shadow (R222, R223). -/
  rewrite : List Nat := []
  /-- The agent's last publication, by which the FIB's nodes and leaves are told, plus 1; 0 before the first (R205, R223). -/
  fibGen : Nat := 0
  /-- The TAI second of the last sample of the leaves' hit bits (R209). -/
  fibSec : Nat := 0
  /-- Batches not yet published, in order (R214). -/
  pubs : List FibPub := []
  /-- The sequence number of the last accepted batch, and the beat of its publication (R211, R213). -/
  lastSeq : Nat := 0
  lastPub : Nat := 0
  /-- DRAM lookup reads accepted in this beat: by logical avenue within its share, and of the remainder (R190). -/
  shareUsed : Tab Nat := []
  remUsed : Nat := 0
  /-- Bank assignments under which the last START was accepted, by bank (R196); none before the first. -/
  assigned : Option (List (Option BankUse)) := none
  /-- The shadow of routed tables in the MSS region, by word as in the overlay (R223). -/
  shadow : Tab Line := []
  deriving DecidableEq, Repr

/-- A row of a TCAM bank, and beside it its word of the check store: the copy of value and mask, the action of the entry that starts in the
row, and whether that word's parity is wrong (R224). -/
structure TcamRow where
  valid : Bool := false
  val : BitVec 80 := 0
  msk : BitVec 80 := 0
  act : BitVec 40 := 0
  cval : BitVec 80 := 0
  cmsk : BitVec 80 := 0
  cbad : Bool := false
  deriving DecidableEq, Repr

/-- A TCAM command as accepted (R231, R234): OP 1 WRITE, 2 INSERT, 3 DELETE, 4 READ, 5 CLEAR. -/
structure TcamCmd where
  win : Nat
  op : Nat
  table : Nat
  idx : Nat
  val : List (BitVec 80)
  msk : List (BitVec 80)
  act : BitVec 40
  /-- A READ whose check-store word has wrong parity (R238). -/
  bad : Bool := false
  deriving DecidableEq, Repr

/-- A row operation of a slice that no command asked for: a row rewritten in place from its check copy (R237), or an entry with a bad check
copy invalidated, rewritten from another slice and made valid again (R238). -/
inductive RowFix where
  | inPlace (t i : Nat)
  | invalidate (t i : Nat)
  | rewrite (t i : Nat)
  | validate (t i : Nat)
  deriving DecidableEq, Repr

/-- A slice's place in the command list (R231): commands executed, row operations done of the next one, and where its INSERT
found its gap. -/
structure SliceProg where
  done : Nat := 0
  step : Nat := 0
  gap : Option Nat := none
  /-- The clocks in which rows were invalidated, by bank and row, within the last 32 clocks (R233). -/
  inval : List (Nat × Nat) := []
  /-- The clock since which its next row operation has waited (R232). -/
  since : Nat := 0
  /-- Row operations that no command asked for, which come first (R237, R238). -/
  fixes : List RowFix := []
  deriving DecidableEq, Repr

/-- A copy of a frame in an automaton unit's buffer (R245). -/
structure ScanCopy where
  frame : List Byte
  profile : Nat
  /-- PAT_PROF as it stood when the copy was taken. -/
  cfg : Nat
  /-- Slot of the image active when the copy was taken, B when true. -/
  slotB : Bool
  /-- First byte past the headers (R246). -/
  hdrEnd : Nat
  ctx : Nat
  admBeat : Nat
  admClk : Nat
  hash : Nat
  deriving DecidableEq, Repr

/-- A window write of a policer record that waits for a slot of its bank (R244): the window, the policer, the record as written, the clock
of the write. -/
structure PolWrite where
  win : Nat
  idx : Nat
  val : BitVec 128
  since : Nat
  deriving DecidableEq, Repr

/-- Classification (spec/08_tcam_patterns). -/
structure ClsState where
  /-- Rows by (slice x 8 + bank) x 8,192 + row. -/
  rows : Tab TcamRow := []
  /-- Commands accepted since the last START, oldest first; and how many before the first of them are complete in every slice. -/
  cmds : List TcamCmd := []
  base : Nat := 0
  prog : Tab SliceProg := []
  /-- Policer records by index (R240). -/
  pol : Tab (BitVec 128) := []
  /-- Window writes of policer records that wait for their slot, oldest first (R244). -/
  polPend : List PolWrite := []
  /-- Copies waiting in the automaton units, by unit (R245). -/
  scans : Tab (List ScanCopy) := []
  /-- The match queue, oldest first, and the latched record (R247). -/
  recs : List (List Byte) := []
  latched : Option (List Byte) := none
  /-- The check in progress: the slot, and whether it was written since. -/
  chk : Option BankCheck := none
  deriving DecidableEq, Repr

/-- A tracker entry of the learning unit (R259, R260). -/
structure Track where
  key : Nat
  count : Nat
  /-- Clocks at which the window opened and of the last move, and at which the key froze. -/
  opened : Nat
  last : Nat
  frozen : Option Nat
  deriving DecidableEq, Repr

/-- Address learning and ageing (spec/09_learning). -/
structure LrnState where
  queue : List Cand := []
  /-- Keys that the ager's sweep has queued for deletion (R262). -/
  aged : List Nat := []
  /-- Candidates executed in the last 16 beats: key, DEST and beat (R256). -/
  recent : List (Nat × Nat × Nat) := []
  /-- Commands executed in the current beat (R257). -/
  ran : Nat := 0
  tracks : List Track := []
  recs : List (List Byte) := []
  latched : Option (List Byte) := none
  seq : Nat := 0
  lost : Nat := 0
  /-- The clock of the last epoch advance, and a setting of LRN_AGE_CFG that waits for the next (R262). -/
  epochAt : Nat := 0
  agePend : Option Nat := none
  deriving DecidableEq, Repr

end Sys2Proof.Machine
end

