-- ==== Sys2Proof/Machine/StTm.lean ====
section
/-! DEFINITION. State of the TM: the crossing, the square, the scheduler and the fabric interface (spec/01_module R12 to R18,
10_queues_buffers, 11_scheduling, 12_fabric). -/

namespace Sys2Proof.Machine

/-- A record of the FE for the crossing (R266), with what the FE keeps of it. -/
structure XRec where
  kind : Nat
  queue : Nat
  dest : Nat
  colour : Nat
  req : Nat
  script : List Byte
  frame : List Byte
  /-- The FE's packet, 0 for none. -/
  pkt : Nat
  tag : Option Nat
  /-- The inject descriptor that it came from: ring and its place (R394). -/
  inj : Option (Nat × Nat)
  /-- Of a FWD disposition: SCAN, the end of the headers and the hash that a copy for a scan carries (R245, R246). -/
  scan : Nat := 0
  hdrEnd : Nat := 0
  hash : Nat := 0
  /-- Its frame was read from the kerb store with an uncorrectable error: its first flit is sent marked (R517). -/
  bad : Bool := false
  deriving DecidableEq, Repr

/-- An egress record of the TM (R290), and the PD that is freed when it is handed over (R289). -/
structure ERec where
  req : Nat
  target : Nat
  host : Bool
  queue : Nat
  colour : Nat
  dest : Nat
  frame : List Byte
  tag : Option Nat
  pd : Nat
  deriving DecidableEq, Repr

/-- The crossing (R12 to R18). -/
structure CrossState where
  /-- Spill buffers by requester: FE to TM, TM to FE (R17). -/
  spillTm : Tab (List XRec) := []
  spillFe : Tab (List ERec) := []
  /-- Records placed at the last boundary, each with its first byte in the data flits, whose flits have not been checked yet. -/
  flyTm : List (Nat × XRec) := []
  flyFe : List (Nat × ERec) := []
  /-- Records whose flits were checked in this beat; the next boundary delivers them (R12). -/
  dueTm : List XRec := []
  dueFe : List ERec := []
  /-- A control flit of this beat towards the FE is sent again in the next (R18). -/
  ctlBad : Bool := false
  /-- Records of the host and of MSS packet generation that wait for the next hand-off. -/
  offer : List XRec := []
  /-- Data flits of flyTm that were sent marked uncorrectable (R517). -/
  marked : List Nat := []
  deriving DecidableEq, Repr

/-- States of a handle (R273). -/
inductive HandleState where
  | free
  | held
  | quarantined
  deriving DecidableEq, Repr

/-- A handle with its buffer's contents (R270, R273). -/
structure Handle where
  ref : Nat := 0
  gen : Nat := 0
  st : HandleState := .free
  charge : Nat := 0
  len : Nat := 0
  slen : Nat := 0
  colour : Nat := 0
  /-- In TM DRAM. -/
  dram : Bool := false
  cls : Nat := 0
  moving : Bool := false
  buf : Nat := 0
  script : List Byte := []
  frame : List Byte := []
  /-- Beat of landing; due for a move, by depth or since it first was (R282); the beat from which a failed move may be tried again (R283). -/
  land : Nat := 0
  deep : Bool := false
  retry : Nat := 0
  tag : Option Nat := none
  /-- Unit and code of the last drop among its entries (R510). -/
  drop : Nat × Nat := (0, 0)
  deriving DecidableEq, Repr

/-- A packet descriptor (R274). NEXT is the order of the queue's list. -/
structure Pd where
  handle : Nat := 0
  gen : Nat := 0
  copy : Bool := false
  /-- Requester entitled to free it; 63 for a free PD. -/
  owner : Nat := 63
  pclen : Nat := 0
  dest : Nat := 0
  /-- Beat in which it was enqueued; LAND is its low 22 bits. -/
  land : Nat := 0
  /-- The same beat by the count of beats since reset (R29, R305). -/
  landB : Nat := 0
  pcdata : List Byte := []
  quar : Bool := false
  deriving DecidableEq, Repr

/-- A replication list begun (R285): its hold PD, the first copy entry, copies made and copies in all, the beat it began. -/
structure ReplJob where
  hold : Nat
  base : Nat
  made : Nat
  count : Nat
  deriving DecidableEq, Repr

/-- A PD taken by the scheduler for the egress editor, or for fabric transmit (R305, R284): when it is taken up, the decision's beat. -/
structure Taken where
  pd : Nat
  queue : Nat
  mark : Bool
  aqm : Nat
  ready : Nat
  deriving DecidableEq, Repr

/-- The egress editor's work on its oldest PD (R178, R179): script bytes not yet read, edited bytes, the end of the previous range,
a broken rule. -/
structure EditJob where
  rest : List Byte
  out : List Byte
  pos : Nat
  bad : Bool
  fin : Bool
  deriving DecidableEq, Repr

/-- A grant (R276): the beat it was issued in, the units given and the units left, lost on the way. -/
structure Grant where
  beat : Nat
  req : Nat
  units : Nat
  left : Nat
  lost : Bool
  deriving DecidableEq, Repr

/-- A packet of a complete fabric stream (R337): source module, egress index, colour, COPY, script, per-copy data, frame. -/
structure FabPkt where
  smod : Nat
  eidx : Nat
  colour : Nat
  copy : Bool
  script : List Byte
  pcdata : List Byte
  frame : List Byte
  deriving DecidableEq, Repr

/-- The square (spec/10_queues_buffers). -/
structure SqState where
  /-- The free lists are built: BPM_SCR has completed a START. -/
  built : Bool := false
  handles : Tab Handle := []
  pds : Tab Pd := []
  /-- Queues as lists of PDs, head first. -/
  queues : Tab (List Nat) := []
  /-- Queue configurations CFG0 and CFG1, and writes of them that wait for the boundary (R280). -/
  cfg0 : Tab Nat := []
  cfg1 : Tab Nat := []
  cfgPend : List (Nat × Nat × Nat) := []
  /-- Flushes that act at the next boundary, and detached PDs not yet freed (R281). -/
  flushAt : List Nat := []
  flushing : List Nat := []
  grants : List Grant := []
  /-- Units of each requester's grants not closed (R276). -/
  reserved : Tab Nat := []
  /-- Records delivered and not landed; packets of the fabric not landed (R267, R268). -/
  arrivals : List XRec := []
  fabIn : List FabPkt := []
  repl : List ReplJob := []
  /-- Copies made and bytes moved in this beat (R282, R285). -/
  replRan : Nat := 0
  moved : Nat := 0
  /-- PDs taken by the egress editor, oldest first, and its work on the first. -/
  editQ : List Taken := []
  edit : Option EditJob := none
  /-- Egress records for the next boundary (R289). -/
  out : List ERec := []
  /-- Handles whose packets landed in the clock landTick, in order (R272). -/
  landed : List Nat := []
  landTick : Nat := 0
  /-- Landing-SRAM buffers of packets that were moved while they were read: class, buffer, the PDs whose reads go on (R283). -/
  linger : List (Nat × Nat × List Nat) := []
  /-- Words of 8 bytes of replication memory that are uncorrectable (R517). -/
  replBad : List Nat := []
  deriving DecidableEq, Repr

/-- A node record (R296): D0 and D1. -/
structure SchNode where
  d0 : Nat := 0
  d1 : Nat := 0
  deriving DecidableEq, Repr

/-- Tokens of a shaped node in 1/256 byte (R299). -/
structure Tokens where
  ct : Int := 0
  pt : Int := 0
  deriving DecidableEq, Repr

/-- The two pointers of a weighted group (R302): GPTR, DPTR, and whether the child at DPTR has had its quantum. -/
structure Ptrs where
  g : Nat := 0
  d : Nat := 0
  had : Bool := false
  deriving DecidableEq, Repr

/-- A queue's sample record (R316). -/
structure QSample where
  dmin : Nat := 0
  dmax : Nat := 0
  dew : Nat := 0
  lmin : Nat := 0
  lmax : Nat := 0
  lew : Nat := 0
  n : Nat := 0
  /-- A sample was taken since reset. -/
  any : Bool := false
  deriving DecidableEq, Repr

/-- The scheduler (spec/11_scheduling). Nodes are numbered level x 2^20 + index. -/
structure SchState where
  nodes : Tab SchNode := []
  /-- Node writes that wait for the boundary, oldest first (R319). -/
  pend : List (Nat × SchNode) := []
  tokens : Tab Tokens := []
  deficit : Tab Int := []
  /-- Pointers by node; an output's group is 2^24 + output. -/
  ptrs : Tab Ptrs := []
  /-- Budgets by output in 1/3 byte: 0 to 191 MAC contexts, 192 host, 193 fabric (R311). -/
  budget : Tab Int := []
  /-- Decisions of the current clock: the clock, of the fabric side, of the egress side, and by channel (R304). -/
  clock : Nat := 0
  ranFab : Nat := 0
  ranEgr : Nat := 0
  ranChan : Tab Nat := []
  samples : Tab QSample := []
  /-- Captures of the last boundary: queue, depth and delay (R315). -/
  caps : List (Nat × Nat × Nat) := []
  deriving DecidableEq, Repr

/-- A cell of a receive stream (R328, R336). -/
structure RxCell where
  seq : Nat
  last : Bool
  bytes : List Byte
  deriving DecidableEq, Repr

/-- A receive stream (R337). -/
structure RxStream where
  smod : Nat
  stamp : Nat
  cells : List RxCell
  deriving DecidableEq, Repr

/-- A cell placed in a slot: lane, slot, and its 272 bytes (R328). -/
structure TxCell where
  lane : Nat
  slot : Nat
  bytes : List Byte
  deriving DecidableEq, Repr

/-- A fabric lane beside its register (R346, R348, R349). -/
structure FabLane where
  /-- Consecutive good frames with SYNC, and consecutive markers with RF. -/
  good : Nat := 0
  rf : Nat := 0
  /-- Frames received, and the numbers of the uncorrectable ones among the last 1,024. -/
  frames : Nat := 0
  bad : List Nat := []
  /-- Beat since which the lane has been READY, and in which it entered DRAINING. -/
  ready : Nat := 0
  drain : Nat := 0
  /-- The last frame had a codeword that the FEC could not correct: its cells are discarded (R326). -/
  lastBad : Bool := false
  /-- Its markers carry RF. -/
  sendRf : Bool := false
  deriving DecidableEq, Repr

/-- The fabric interface (spec/12_fabric). -/
structure FabState where
  /-- Credit balance and demand by DEST (R340), and whether the request is ON and when it was last sent (R341). -/
  cb : Tab Int := []
  demand : Tab Nat := []
  reqOn : Tab Bool := []
  reqAt : Tab Nat := []
  /-- Requests of source modules, by egress index x 64 + module (R342). -/
  srcOn : Tab Bool := []
  bucket : Tab Nat := []
  /-- The module after the one granted last, by egress index. -/
  next : Tab Nat := []
  /-- Control messages by destination module: the clock each joined, the message (R344). -/
  ctl : Tab (List (Nat × BitVec 64)) := []
  /-- PDs taken by fabric transmit: of new decisions, and of carried streams by module (R335). -/
  taken : List Taken := []
  carried : Tab (List Nat) := []
  /-- Cells in the slots of the current beat. -/
  tx : List TxCell := []
  rx : List RxStream := []
  lanes : Tab FabLane := []
  /-- Lanes that are FAILED in this clock. -/
  failed : List Nat := []
  /-- Beat of the last control cell of each module, plus 1 (R345), and of the last STATUS sent to it. -/
  heard : Tab Nat := []
  statusAt : Tab Nat := []
  /-- The clock of the last heartbeat of the mate (R350), and the number of the next one to send. -/
  hbAt : Option Nat := none
  hbSeq : Nat := 0
  deriving DecidableEq, Repr

end Sys2Proof.Machine
end

