-- ==== Sys2Proof/Machine/StMore.lean ====
section
/-! DEFINITION. State of the stacked-DRAM controller and of the host interface (spec/13_stacked_dram, 14_host). -/

namespace Sys2Proof.Machine

/-- A burst of a DRAM request (R359): the half (TM true), the agent, the pseudo-channel as channel x 2 + p, its place, its half address,
the direction, the bytes written and which of them, the clock of its acceptance and its number in order of acceptance. -/
structure Burst where
  tm : Bool
  agent : Nat
  pc : Nat
  bank : Nat
  row : Nat
  col : Nat
  addr : Nat
  write : Bool
  data : Line
  mask : BitVec 64
  since : Nat
  id : Nat
  deriving DecidableEq, Repr

/-- What a read burst, or a refused access, answered: the agent, the half address, the data, errored. -/
structure DramReply where
  agent : Nat
  addr : Nat
  data : Line
  err : Bool
  deriving DecidableEq, Repr

/-- A bank's row and its page-close counter (R364). -/
structure DramBank where
  row : Option Nat := none
  kept : Bool := false
  keptAt : Nat := 0
  ctr : Nat := 2
  /-- The clock at which a refresh ends (R365). -/
  busy : Nat := 0
  /-- Refreshes issued since the channel's schedule began. -/
  refs : Nat := 0
  deriving DecidableEq, Repr

/-- A remap entry in use, and the row it is copied from while the copy runs (R372). -/
structure Remap where
  pc : Nat
  bank : Nat
  row : Nat
  spare : Nat
  from? : Option Nat
  deriving DecidableEq, Repr

/-- Self-refresh of a channel (R367, R368). -/
inductive Park where
  | awake
  /-- Every bank precharged at a clock; the entry command is to come. -/
  | entering (at' : Nat)
  /-- In self-refresh since a clock; the clock of the request that wakes it. -/
  | asleep (since : Nat) (wake : Option Nat)
  deriving DecidableEq, Repr

/-- A channel (R355). -/
structure DramChan where
  park : Park := .awake
  /-- The clock of the last burst served. -/
  last : Nat := 0
  /-- The burst to be served first after an exit. -/
  first : Option Nat := none
  /-- Where the refresh schedule began (R368). -/
  base : Nat := 0
  /-- Clocks of the row activations of the last microsecond, and the limit while thermally parked (R369). -/
  acts : List Nat := []
  limit : Nat := 0
  /-- Remap entries in use, by number (R372). -/
  remap : Tab (Option Remap) := []
  /-- The training helper's operation while it runs (R374). -/
  helper : Nat := 0
  deriving DecidableEq, Repr

/-- The stacked-DRAM controller (spec/13_stacked_dram). -/
structure HbmState where
  /-- Bursts by place: ((pseudo-channel x 16 + bank) x 24,576 + row) x 16 + column. -/
  mem : Tab Line := []
  /-- Bursts with a symbol in error (1) or uncorrectable, the poison of R370 among them (2). -/
  flaw : Tab Nat := []
  /-- Bursts accepted, by pseudo-channel, in order of acceptance; bursts that wait for room or for EN, in order (R359, R375). -/
  queue : Tab (List Burst) := []
  waiting : List Burst := []
  /-- The number of the next burst. -/
  next : Nat := 0
  /-- Pseudo-channels whose write queue is being drained (R360). -/
  drain : Tab Bool := []
  /-- Banks by pseudo-channel x 16 + bank. -/
  banks : Tab DramBank := []
  chans : Tab DramChan := []
  /-- Refresh time of each stack in half intervals of 2,925 clocks, carried in clocks, up to a clock (R365). -/
  refAcc : Tab Nat := []
  refAt : Nat := 0
  /-- The training pattern last written to each pseudo-channel, and the user pattern (R374). -/
  train : Tab (Option (Nat × Nat)) := []
  /-- The last response to an agent. -/
  reply : Option DramReply := none
  deriving DecidableEq, Repr

/-- A punt accepted and not yet written back (R386, R387, R389). -/
structure Punt where
  kind : Nat
  reason : Nat
  ctx : Nat
  pass : Nat
  adm : Nat
  sec : Nat
  ns : Nat
  colour : Nat
  script : List Byte
  frame : List Byte
  tag : Option Nat
  deriving DecidableEq, Repr

/-- A descriptor as fetched: W0 to W3 (R386, R393). -/
structure RingDesc where
  w0 : Dword
  w1 : Dword
  w2 : Dword
  w3 : Dword
  deriving DecidableEq, Repr

/-- A DMA ring beside its registers (R381 to R385). -/
structure Ring where
  /-- Punts accepted, oldest first. -/
  punts : List Punt := []
  /-- Descriptors fetched and not yet used, from HEAD on. -/
  fetched : List RingDesc := []
  /-- Inject descriptors taken whose write-back is due in order: the outcome when known; the number of the first of them. -/
  prog : List (Option Nat) := []
  base : Nat := 0
  /-- The clock at which HEAD - ACK last rose from 0 (R398). -/
  rose : Option Nat := none
  deriving DecidableEq, Repr

/-- A write of the DMA engine: into MSS SRAM (R407) or host memory, the address, the bytes (R383). -/
structure DmaWrite where
  mss : Bool
  addr : Nat
  bytes : List Byte
  deriving DecidableEq, Repr

/-- What took effect at a mailbox in the clock tick: a POP, a WITHDRAW, a TAG write that found it full, with SEND_REJ as it stood before (R403). -/
structure MbxNow where
  tick : Nat := 0
  popped : Bool := false
  withdrawn : Bool := false
  again : Option (Nat × Nat × Nat) := none
  rej : Bool := false
  deriving DecidableEq, Repr

/-- The host interface (spec/14_host). -/
structure HifState where
  pr : Tab Ring := []
  ir : Tab Ring := []
  /-- The ring after the one served last: punts of PRIO 1, of PRIO 0, injects of PRIO 1, of PRIO 0 (R392, R395). -/
  turn : Tab Nat := []
  /-- The injects' budget in 1/3 byte (R395). -/
  budget : Nat := 0
  /-- Punts of the boundary to come: host-bound egress and firmware, each with its ring (R389). -/
  egress : List (Nat × Punt) := []
  firmware : List (Nat × Punt) := []
  /-- Writes of the DMA engine since the last beat boundary, oldest first. -/
  dma : List DmaWrite := []
  /-- MSI-X messages sent, by vector (R397). -/
  msix : Tab Nat := []
  /-- The place up to which the punt writer is busy, in 1/50 clock (R392). -/
  puntBusy : Nat := 0
  /-- What took effect at the mailboxes in their last clocks (R403). -/
  mbxNow : Tab MbxNow := []
  /-- The pins: INT_N driven low (R399), PERST_N asserted. -/
  intN : Bool := false
  perst : Bool := true
  deriving DecidableEq, Repr

end Sys2Proof.Machine
end

