-- ==== Sys2Proof/Machine/StEnd.lean ====
section
/-! DEFINITION. State of the time subsystem, the mate unit, the management subsystem, the flash, the update session and the
lands (spec/15_management to 19_mated_pair, 22_electrical). -/

namespace Sys2Proof.Machine

/-- The time subsystem (spec/18_time). -/
structure TimState where
  /-- TAI time: seconds, nanoseconds and 1/65,536 ns (R466). -/
  sec : Nat := 0
  ns : Nat := 0
  frac : Nat := 0
  /-- What a tick adds below 1/65,536 ns, carried, in parts of 65,536,000,000. -/
  res : Nat := 0
  /-- Ticks of the time clock since reset: the model's own count, by which freshness is judged. -/
  ticks : Nat := 0
  /-- MODE of a write of TIM_SET_CTL that waits for its tick (R468): 1 set, 2 add, 0 none. -/
  setMode : Nat := 0
  /-- The vote of the current second has been taken (R472). -/
  voted : Bool := false
  /-- Consecutive votes within and beyond LOCK_NS, and whether STATE was ever LOCKED (R475). -/
  good : Nat := 0
  bad : Nat := 0
  everLocked : Bool := false
  /-- F after each vote of the last 60 s of LOCKED, newest first, and the holdover frequency (R473, R475). -/
  hist : List Int := []
  holdF : Int := 0
  /-- The last measurement of each channel in 1/65,536 ns and its tick (R471). -/
  meas : Tab (Option (Int × Nat)) := []
  /-- Anchors of the triggers in ns, as SEC x 1,000,000,000 + NS (R481). -/
  anchor : Tab Nat := []
  /-- The capture queue and the transmit queue, oldest first, as their words, and their latched records (R478, R484). -/
  caps : List (List Nat) := []
  capLatch : List Nat := []
  txts : List (List Nat) := []
  txLatch : List Nat := []
  /-- The tick of the last edge of each SRC (R484). -/
  edge : Tab (Option Nat) := []
  /-- FRAC and seconds latched by a read of TIM_TIME_NS, by requester (R467). -/
  latch : Tab (Nat × Nat) := []
  /-- Pulses on TPPS_OUT0 and TPPS_OUT1: ticks left (R483). -/
  pulse : Tab Nat := []
  /-- Telemetry export cycles that triggers asked firmware for (R483). -/
  telemetry : Nat := 0
  deriving DecidableEq, Repr

/-- The mate unit (spec/19_mated_pair). -/
structure MateState where
  /-- The clock of the last MATE_KICK, and whether the timer has run out (R487). -/
  kickAt : Nat := 0
  expired : Bool := false
  /-- The clock at which the claim hold began; none while it waits for MATE_SEEN_N (R488). -/
  holdAt : Option Nat := none
  /-- The clock before which no claim may be made (R488). -/
  backoff : Nat := 0
  /-- The clock of entry into RELEASING (R493). -/
  relAt : Nat := 0
  /-- The wait-to-restore countdown: the clock at which it ends while it runs, the clocks left while it stands still, and TAKE (R498). -/
  wtrAt : Option Nat := none
  wtrLeft : Option Nat := none
  take : Bool := false
  /-- The clock of the last direct heartbeat (R490). -/
  dirAt : Option Nat := none
  /-- The last frame sent on MATE_HB_TX (R490). -/
  sent : BitVec 96 := 0
  /-- The TAI millisecond of the last periodic heartbeat (R489). -/
  lastMs : Option Nat := none
  /-- The self-test frame that has not returned; the clock of the last sending (R501). -/
  test : Option (List Byte) := none
  testAt : Option Nat := none
  deriving DecidableEq, Repr

/-- A command taken from a mailbox (R408, R410): its answer once it is executed is the STATUS and the answer bytes; dead where its header
could not be read (R409). -/
structure MssCmd where
  mb : Nat
  ptr : Nat
  tag : Nat
  op : Nat
  len : Nat
  cap : Nat
  payload : List Byte
  dead : Bool
  ans : Option (Nat × List Byte)
  deriving DecidableEq, Repr

/-- A BFD session (R415, R416): STATE 0 AdminDown, 1 Down, 2 Init, 3 Up. -/
structure Bfd where
  b0 : Nat
  b1 : Nat
  b2 : Nat
  b3 : Nat
  tmpl : List Byte
  state : Nat
  diag : Nat
  remDisc : Nat
  /-- Desired transmit and required receive intervals of the far end in us, and its multiplier; 0 before a packet told them. -/
  remTx : Nat
  remRx : Nat
  remMult : Nat
  /-- A poll sequence runs; a packet with the final bit is owed. -/
  poll : Bool
  fin : Bool
  /-- The clocks at which the detection timer restarted and at which the last packet was sent. -/
  heard : Nat
  sentAt : Nat
  deriving DecidableEq, Repr

/-- A member port's LACP state: actor and partner state and partner identity, and when each side was last heard and sent. -/
structure LacpPort where
  actor : Nat := 0
  partner : Nat := 0
  system : Nat := 0
  key : Nat := 0
  port : Nat := 0
  heard : Nat := 0
  sentAt : Nat := 0
  deriving DecidableEq, Repr

/-- A maintenance end point (R412, R413): its settings, its remote MEP and the last delay and loss results. -/
structure Mep where
  w0 : Nat
  maid : List Byte
  remote : Nat
  heard : Nat
  delay : Nat
  loss : Nat
  sentAt : Nat
  seq : Nat
  deriving DecidableEq, Repr

/-- An IPFIX flow (R413): its key, its packets and octets, and when it began and was last seen. -/
structure Flow where
  key : List Byte
  pkts : Nat
  octets : Nat
  first : Nat
  last : Nat
  deriving DecidableEq, Repr

/-- A sensor (R418, R419): value, ALARM, maximum, thresholds, samples below each threshold. -/
structure Sensor where
  value : Int := 0
  alarm : Nat := 0
  max : Option Int := none
  warn : Option Int := none
  crit : Option Int := none
  belowWarn : Nat := 0
  belowCrit : Nat := 0
  deriving DecidableEq, Repr

/-- A key slot of the key-enrolment area (R426) is held in the EEPROM bytes. The management subsystem (spec/15_management). -/
structure MssState where
  /-- Commands taken and not yet answered, oldest first; the last mailbox taken (R410). -/
  taken : List MssCmd := []
  turn : Nat := 15
  bfd : Tab (Option Bfd) := []
  /-- Aggregations: the payload words of LACP_SET (R412). -/
  lacp : Tab (Option (List Nat)) := []
  lport : Tab LacpPort := []
  /-- Responder addresses by INDEX: the payload words of RESP_SET. -/
  resp : Tab (Option (List Nat)) := []
  mep : Tab (Option Mep) := []
  /-- Collectors: the payload of IPFIX_SET; the flow cache. -/
  ipfix : Tab (List Byte) := []
  flows : List Flow := []
  /-- Learned addresses: MAC + FID x 2^48, and DEST. -/
  evpn : Tab (Option Nat) := []
  /-- OPTICS_CFG by port group; modules by port: 0 absent, 1 present, 3 brought to ModuleReady, 7 data path active too (R414). -/
  optics : Tab Nat := []
  module : Tab Nat := []
  /-- Answers of the responder in the current TAI second, and that second (R413). -/
  answers : Nat := 0
  answersAt : Nat := 0
  sensor : Tab Sensor := []
  /-- The event log's ring and the retained log, oldest first (R422). -/
  ring : List (List Byte) := []
  retained : List (List Byte) := []
  /-- The identity EEPROM's tag and key-enrolment areas, by EEPROM offset; an unlisted byte reads 0xFF (R423). -/
  eeprom : Tab Byte := []
  /-- Host-side events of which firmware was told: 1 PERST_N, 2 hot reset or link down, 3 Function Level Reset, 4 D3hot. -/
  told : List Nat := []
  /-- Frames that services sent (R413), oldest first, not yet in the crossing; and frames sent on the management port since the last beat boundary. -/
  mgmtOut : List (List Byte) := []
  deriving DecidableEq, Repr

/-- A copy of the boot-state record (R434). -/
structure BootRec where
  seq : Nat
  attempts : Nat
  pending : Bool
  lastFail : Nat
  failStep : Nat
  trial : Bool
  deriving DecidableEq, Repr

/-- The attached flash, the identity of what was started and the boot's own state (spec/16_start, 17_update). -/
structure BootState where
  rec0 : Option BootRec := none
  rec1 : Option BootRec := none
  /-- BCR copies A and B: header and entries as bytes (R437); none where nothing is written. -/
  bcrA : Option (List Byte) := none
  bcrB : Option (List Byte) := none
  /-- The main image: header and body; none where its first sector is erased or incomplete. -/
  image : Option (List Byte × List Byte) := none
  /-- The flash event log, oldest first (R422). -/
  flashLog : List (List Byte) := []
  /-- PENDING as always-on SRAM holds it, and the CAUSE of the start to come. -/
  pend : Bool := false
  cause : Nat := 1
  /-- The clocks of time 0, of firmware's launch, of the last KICK; whether a trial timer runs and the clock of its end. -/
  zero : Nat := 0
  launch : Nat := 0
  kick : Nat := 0
  trialEnd : Option Nat := none
  /-- A reset held until a flash operation ends (R448): 1 MODULE_RESET, 2 FW_RESTART, with its CAUSE; the operation in progress. -/
  held : Option (Nat × Nat) := none
  flashBusy : Bool := false
  /-- Held in reset until BOOT_START. -/
  inReset : Bool := true
  /-- The code with which recovery mode was entered. -/
  recCode : Nat := 0
  /-- A failure code was recorded since a start was last counted; the STEP at which a start was interrupted (R428, R445). -/
  coded : Bool := false
  atStep : Nat := 0
  /-- The factory area failed its CRC at this start: the serial number reads 0 (R424). -/
  noSerial : Bool := false
  /-- Row remaps and spare lanes that firmware keeps in its log, by channel x 64 + entry and by channel x 2 + pseudo-channel (R372, R373). -/
  repairs : Tab (Option Remap) := []
  spares : Tab Nat := []
  deriving DecidableEq, Repr

/-- An update session (spec/17_update). -/
structure UpdState where
  header : List Byte := []
  body : List Byte := []
  /-- A KIND 2 activation: the units armed (bit 0 code, 1 graph, 2 pattern, 3 table), the target beat, and the units re-armed for it + 8 after
  another refused (R461, R462). -/
  armed : Nat := 0
  target : Nat := 0
  back : Option Nat := none
  /-- The main image, or the BCR copy (B when true), that a flash write in progress will have written. -/
  writing : Option (List Byte × List Byte) := none
  bcr : Option (Bool × List Byte) := none
  deriving DecidableEq, Repr

/-- The lands and supplies (spec/22_electrical). -/
structure ElecState where
  /-- The instruction in force in each die's TAP, FE and TM (R546). -/
  tapFe : TapInstr := .idcode
  tapTm : TapInstr := .idcode
  /-- Reference clocks out of limits (R545). -/
  clkBad : List RefClock := []
  /-- SerDes powered and engine clocks running (R549). -/
  serdesOn : Bool := true
  deriving DecidableEq, Repr

end Sys2Proof.Machine
end

