-- ==== Sys2Proof/Machine/State.lean ====
section
/-! DEFINITION. The state of the VX96 module, the reasons for which a step can stop, and the state after reset. -/

namespace Sys2Proof.Machine

/-- Why the block stops on a command. -/
inductive Fault where
  /-- Raised by a command of which the spec gives the operands a range, when an operand lies outside it (a header window of
  more than 256 bytes, for example): nothing on the part can present such a command. Safe: the model stops where the part
  has no behaviour at all. -/
  | illFormed
  deriving DecidableEq, Repr

/-- Why the model has no meaning for a command. -/
inductive Refusal where
  /-- Raised by an arm of exec whose command has no meaning yet. Safe: nothing is claimed of the command. -/
  | notModelled (mnemonic : String)
  deriving DecidableEq, Repr

/-- The state of the module. -/
structure State where
  bus : BusState
  pmu : PmuState
  err : ErrState
  line : LineState
  eng : EngState
  tim : TimState
  tbl : TblState
  cls : ClsState
  lrn : LrnState
  cross : CrossState
  sq : SqState
  sch : SchState
  fab : FabState
  hbm : HbmState
  hif : HifState
  mate : MateState
  mss : MssState
  boot : BootState
  upd : UpdState
  elec : ElecState
  /-- The model's own count of free values drawn: it selects the next free value and stands for no state of the part. -/
  fresh : Nat
  /-- The commands that wait, first in, first out. -/
  pending : List Instr
  deriving DecidableEq, Repr

/-- The module right after reset. -/
def State.reset : State :=
  { bus := { }, pmu := { }, err := { }, line := { }, eng := { }, tim := { }, tbl := { }, cls := { }, lrn := { }, cross := { }, sq := { }, sch := { },
    fab := { }, hbm := { }, hif := { }, mate := { }, mss := { }, boot := { }, upd := { }, elec := { }, fresh := 0, pending := [] }

end Sys2Proof.Machine
end

