-- ==== Sys2Proof/Machine/Ops.lean ====
section
/-! DEFINITION. Named operations over the state that every unit shares: registers and their fields, the count of clocks, the
performance counters, error reports, sample records and the disposal of packets. -/

namespace Sys2Proof.Machine

/-! ## Registers -/

/-- The value that the register at an offset holds. -/
def State.reg (s : State) (a : Nat) : Nat := (Tab.at regReset s.bus.regs a).toNat

/-- The state with a register's value replaced. -/
def State.setReg (s : State) (a v : Nat) : State :=
  { s with bus := { s.bus with regs := Tab.put regReset s.bus.regs a (BitVec.ofNat 32 v) } }

/-- Bits hi to lo of a register. -/
def State.fld (s : State) (a hi lo : Nat) : Nat := bits (s.reg a) hi lo

/-- Bit i of a register. -/
def State.flag (s : State) (a i : Nat) : Bool := bitOf (s.reg a) i

/-- A number with its bits hi to lo replaced by v. -/
def putBits (n hi lo v : Nat) : Nat :=
  n - bits n hi lo * 2 ^ lo + v % 2 ^ (hi + 1 - lo) * 2 ^ lo

/-- The state with bits hi to lo of a register replaced. -/
def State.setFld (s : State) (a hi lo v : Nat) : State := s.setReg a (putBits (s.reg a) hi lo v)

/-- The state with one bit of a register replaced. -/
def State.setFlag (s : State) (a i : Nat) (b : Bool) : State := s.setFld a i i (b2n b)

/-- The state with a status bit set, which only a write of 1 or a read clears (R8). -/
def State.raise (s : State) (a i : Nat) : State := s.setFlag a i true

/-- n events of an RC count: they are added when the clock ends, so that a read in the same clock neither returns nor clears them (R8). -/
def State.bumpReg (s : State) (a n : Nat) : State :=
  { s with bus := { s.bus with rcNow := Tab.set 0 s.bus.rcNow a (Tab.get 0 s.bus.rcNow a + n) } }

/-- The clock's events of RC counts added, each count stopping at 0xFFFF_FFFF (R8). -/
def State.rcMerge (s : State) : State :=
  s.bus.rcNow.foldl (fun s e => s.setReg e.1 (min (s.reg e.1 + e.2) 0xFFFFFFFF)) ({ s with bus := { s.bus with rcNow := [] } } : State)

/-- A register as the packets see it that were admitted in a beat (as beats counts): a later change is not for them (R40). -/
def State.regAs (s : State) (adm a : Nat) : Nat :=
  match (s.bus.before.reverse.find? fun e => e.2.1 = a && adm < e.1) with
  | some e => e.2.2.toNat
  | none => s.reg a

/-- A register is about to be written whose old value stays in force to the end of the clock (R135, R136, R148). -/
def State.holdOld (s : State) (a : Nat) : State :=
  match Tab.get none s.bus.late a with
  | some _ => s
  | none => { s with bus := { s.bus with late := Tab.set none s.bus.late a (some (BitVec.ofNat 32 (s.reg a))) } }

/-- The value of a register that is in force in this clock. -/
def State.regLate (s : State) (a : Nat) : Nat :=
  match Tab.get none s.bus.late a with
  | some v => v.toNat
  | none => s.reg a

/-! ## Resources that serve so many requests in a clock -/

/-- The keys of the resources whose use in a clock is counted: dispatches of a physical avenue and of one of its engines (R114), an engine's
issue (R119), headers of a port group into the kerb (R83), headers out of a logical avenue's recirculation queue (R103), an avenue's
statistics entries (R192), the maintenance port of a lookup bank (R185, R218), a policer bank's slot (R191), the search slot of a slice's
table (R229), a slice's row operations and the headers that its avenue admits (R232). -/
inductive Use where
  | dispatch (p : Nat)
  | dispatchTo (p e : Nat)
  | issue (p e : Nat)
  | kerb (g : Nat)
  | recirc (l : Nat)
  | stat (l : Nat)
  | bankMaint (bank : Nat)
  | policer (bank : Nat)
  | search (p t : Nat)
  | rowOp (p : Nat)
  | header (p : Nat)
  deriving DecidableEq, Repr

/-- A key's number. -/
def Use.key : Use → Nat
  | .dispatch p => p * 16
  | .dispatchTo p e => (p * 64 + e) * 16 + 1
  | .issue p e => (p * 64 + e) * 16 + 2
  | .kerb g => g * 16 + 3
  | .recirc l => l * 16 + 4
  | .stat l => l * 16 + 5
  | .bankMaint b => b * 16 + 7
  | .policer b => b * 16 + 8
  | .search p t => (p * 16 + t) * 16 + 9
  | .rowOp p => p * 16 + 10
  | .header p => p * 16 + 11

/-- How often a resource has been used in the current clock. -/
def State.uses (s : State) (k : Use) : Nat := Tab.get 0 s.bus.used k.key

/-- One more use of a resource in the current clock. -/
def State.use (s : State) (k : Use) : State :=
  { s with bus := { s.bus with used := Tab.set 0 s.bus.used k.key (s.uses k + 1) } }

/-- The 64-bit value whose low half lies at an offset and whose high half lies 4 above. -/
def State.reg64 (s : State) (a : Nat) : Nat := s.reg a + s.reg (a + 4) * 2 ^ 32

/-- The state with a 64-bit counter's two halves replaced, wrapping at 2^64. -/
def State.setReg64 (s : State) (a v : Nat) : State :=
  (s.setReg a (v % 2 ^ 32)).setReg (a + 4) (v / 2 ^ 32 % 2 ^ 32)

/-- Registers from an offset on written with consecutive 32-bit words. -/
def State.setRegs (s : State) (a : Nat) (vs : List Nat) : State := (vs.zipIdx).foldl (fun s v => s.setReg (a + v.2 * 4) v.1) s

/-- A 32-bit register as a signed number. -/
def signed32 (n : Nat) : Int := if n % 2 ^ 32 < 2 ^ 31 then Int.ofNat (n % 2 ^ 32) else Int.ofNat (n % 2 ^ 32) - 2 ^ 32

/-- The time counter in 1/65,536 ns. -/
def State.now65536 (s : State) : Nat := (s.tim.sec * 1000000000 + s.tim.ns) * 65536 + s.tim.frac

/-- Registers of a range that do not hold their reset value. -/
def State.listed (s : State) (lo hi : Nat) : List (Nat × Nat) :=
  (s.bus.regs.filter fun e => lo ≤ e.1 && e.1 < hi).map fun e => (e.1, e.2.toNat)

/-- A read completed with a value (R4). -/
def State.answer (s : State) (r : Requester) (a v : Nat) : State :=
  { s with bus := { s.bus with cpl := some { req := r, addr := a, data := BitVec.ofNat 32 v, status := .ok } } }

/-- A write completed, or a read that returns 0. -/
def State.done (s : State) (r : Requester) (a : Nat) : State := s.answer r a 0

/-- Word i of a record of bytes, or 0 when there is none. -/
def recWord (o : Option (List Byte)) (i : Nat) : Nat := leNat (sliceAt (o.getD []) (4 * i) 4)

/-- GEN_SERIAL: the factory area's serial number, or 0 when its CRC failed at this start (R424). -/
def State.serial (s : State) : Nat := if s.boot.noSerial then 0 else Config.serial.toNat

/-- The fused nominal of a die's core rail in mV, 0 FE, 1 TM (GEN_CORE_d). -/
def nominalMv (d : Nat) : Nat := 720 + (Config.fusedMv d).toNat % 61

/-- The beat number as a number. -/
def State.beatN (s : State) : Nat := s.bus.beat.toNat

/-! ## Counters (R503 to R508) -/

/-- The identity of a counter (R505). -/
def pmuId (unit ev inst : Nat) : Nat := unit * 2 ^ 20 + ev % 256 * 2 ^ 12 + inst % 4096

/-- Events of the current beat, at most 2^32 − 1 of one identity (R504). -/
def State.count (s : State) (unit ev inst n : Nat) : State :=
  let k := pmuId unit ev inst
  { s with pmu := { s.pmu with now := Tab.set 0 s.pmu.now k (min (Tab.get 0 s.pmu.now k + n) (2 ^ 32 - 1)) } }

/-! ## Stop-change-restart state (R42) -/

def scrAddr : ScrId → Nat
  | .line g => 0x1000000 + g.val * 0x1000
  | .flx f => 0x1080000 + f.val * 0x1000
  | .ave p => 0x3000000 + p.val * 0x100000
  | .lkp => 0x5000000
  | .tcm => 0x8000000
  | .bpm => 0xC000000
  | .sch c => 0xD010000 + c.val * 0x10
  | .fab => 0xE000000

/-- STATE of the function whose register lies at an offset: 0 STOPPED, 1 STARTING, 2 RUNNING, 3 DRAINING, 4 FAULTED. -/
def State.scrState (s : State) (a : Nat) : Nat := s.fld a 2 0

def State.scrRunning (s : State) (k : ScrId) : Bool := s.scrState (scrAddr k) == 2

def State.scrStopped (s : State) (k : ScrId) : Bool := s.scrState (scrAddr k) == 0

/-- Every port group reads STOPPED (R106, R143). -/
def State.allLineStopped (s : State) : Bool :=
  (List.range 12).all fun g => s.scrState (0x1000000 + g * 0x1000) == 0

/-! ## Error reports (R518 to R526) -/

/-- MATE_KICK has run out, or acts as if it had: the claim is released, heartbeats stop and the state is FAULTED (R487, R493, R519). -/
def State.mateExpire (s : State) : State :=
  if s.fld 0x30000C 2 0 = 0 then s
  else
    let s := if s.fld 0x30000C 2 0 = 6 then s else (s.setFld 0x30000C 2 0 6).raise 0x300010 0
    { (s.setFlag 0x30000C 6 false) with mate := { s.mate with expired := true, take := false, wtrAt := none, wtrLeft := none, holdAt := none } }

/-- What a class 3 report does in the clock in which it is received (R519): FATAL, from which the line transmitters and the
fabric budget take their part, the release of MATE_CLAIM_N and the stop of heartbeats, and the hold. -/
def State.fatal (s : State) : State :=
  let hold := match s.err.hold with
    | some c => some c
    | none => if s.flag 0x400004 16 then some s.bus.ticks else none
  let s := { s with err := { s.err with hold := hold } }
  (s.raise 0x400000 0).mateExpire

/-! ## The event log (R420 to R422) -/

/-- A list with one more at its end, of which the oldest give way beyond a length. -/
def pushLast {α : Type} (n : Nat) (l : List α) (x : α) : List α := (l ++ [x]).drop (l.length + 1 - n)

/-- MODE of MSS_STAT: 0 starting, 1 normal, 2 minimal, 3 recovery. -/
def State.mssMode (s : State) : Nat := s.fld 0x900000 1 0

/-- An event record (R420, R422): the ring, and by severity and code the retained and the flash log. -/
def State.logEvent (s : State) (sev unit code a0 a1 : Nat) : State :=
  let n := s.reg 0x900008
  let rec' := leBytes (n + sev % 16 * 2 ^ 32 + unit % 256 * 2 ^ 36 + code % 65536 * 2 ^ 44) 8
    ++ leBytes (s.tim.ns % 2 ^ 30 + s.tim.sec % 2 ^ 32 * 2 ^ 32) 8 ++ leBytes a0 8 ++ leBytes a1 8
  let cap := if s.mssMode = 2 then 4096 else 1048576
  let s := s.setReg 0x900008 ((n + 1) % 2 ^ 32)
  let s : State := { s with
    mss := { s.mss with ring := pushLast cap s.mss.ring rec', retained := if 2 ≤ sev then pushLast 512 s.mss.retained rec' else s.mss.retained },
    boot := { s.boot with flashLog := if 4 ≤ sev || code = 0x701 || code = 0x702 then pushLast 65536 s.boot.flashLog rec' else s.boot.flashLog } }
  if cap < (n + 1 + 2 ^ 32 - s.reg 0x90000C) % 2 ^ 32 then s.raise 0x900000 2 else s

/-- An event that the spec has logged without giving its code, severity or arguments. -/
def State.logOpen (s : State) (kind unit : Nat) : State :=
  let n := s.fresh
  let s : State := { s with fresh := n + 2 }
  s.logEvent (Config.eventSev kind).toNat unit (Config.eventCode kind).toNat (Config.eventArg n).toNat (Config.eventArg (n + 1)).toNat

/-- A firmware notice of a host-side event (R380): 1 PERST_N, 2 hot reset or link down, 3 Function Level Reset, 4 D3hot. -/
def State.tellFirmware (s : State) (n : Nat) : State := { s with mss := { s.mss with told := s.mss.told ++ [n] } }

/-- The 24 bytes of a record (R523). -/
def errBytes (r : ErrReport) (lost seq beat : Nat) : List Byte :=
  leBytes (r.cls % 4 + r.code % 256 * 2 ^ 8 + r.unit % 256 * 2 ^ 16 + r.inst % 4096 * 2 ^ 24
    + min lost 4095 * 2 ^ 36 + seq % 65536 * 2 ^ 48) 8
  ++ leBytes r.detail 8 ++ leBytes beat 8

/-- A report entered into the record queue, or discarded when the queue is full (R521). -/
def State.errQueue (s : State) (r : ErrReport) : State :=
  if s.err.queue.length < 1024 then
    { s with err := { s.err with
        queue := s.err.queue ++ [errBytes r s.err.lost s.err.seq s.beatN], lost := 0, seq := (s.err.seq + 1) % 65536 } }
  else
    ({ s with err := { s.err with lost := s.err.lost + 1, seq := (s.err.seq + 1) % 65536 } } : State).raise 0x400000 3

/-- The TAI second, which the rate limit of R522 goes by. -/
def State.errSecond (s : State) : Nat := s.tim.sec

/-- A class 0 report: it enters the queue once a second for its pair of unit and code, and no more than 64 pairs do (R522). -/
def State.errLimited (s : State) (r : ErrReport) : State :=
  let sec := s.errSecond
  let pairs := if s.err.secOf = sec then s.err.pairs else []
  if pairs.contains (r.unit, r.code) || 64 ≤ pairs.length then
    ({ s with err := { s.err with pairs := pairs, secOf := sec } } : State).raise 0x400000 4
  else
    ({ s with err := { s.err with pairs := (r.unit, r.code) :: pairs, secOf := sec } } : State).errQueue r

/-- AVE_DBG_CTL of an engine, and AVE_STAT of a physical avenue. -/
def dbgCtl (p e : Nat) : Nat := 0x3000400 + p * 0x100000 + e * 0x10
def aveStat (p : Nat) : Nat := 0x300000C + p * 0x100000

/-- ISO written for an engine: refused with ISO_REJ for the supervisor and beyond 4 packet engines of the avenue (R137); a change is in
force from the next clock (R135). -/
def State.isoSet (s : State) (p e : Nat) (on : Bool) : State :=
  let full := 4 ≤ ((List.range 34).filter fun x => s.flag (dbgCtl p x) 24).length
  if on && !s.flag (dbgCtl p e) 24 && (e == 34 || full) then s.raise (aveStat p) 4
  else (s.holdOld (dbgCtl p e)).setFlag (dbgCtl p e) 24 on

/-- DATA_ECC or CODE_ECC of a packet engine twice within 24 h: firmware isolates it, unless 4 engines of its avenue are isolated, and a
spare is to take its place (R137, R531). -/
def State.engineEcc (s : State) (k : Nat) : State :=
  let last := Tab.get 0 s.err.engErr k
  let again := last ≠ 0 && s.tim.sec + 1 < last + 86400
  let s : State := { s with err := { s.err with engErr := Tab.set 0 s.err.engErr k (s.tim.sec + 1) } }
  if again && s.flag 0x4000A0 30 && s.mssMode = 1 && k % 64 < 34 && !s.err.remap.contains k then
    let t := s.isoSet (k / 64) (k % 64) true
    if t.flag (dbgCtl (k / 64) (k % 64)) 24 then { t with err := { t.err with remap := t.err.remap ++ [k] } } else t
  else s

/-- A report that reaches the error unit (R518, R521, R522, R525, R531). -/
def State.errEnter (s : State) (r : ErrReport) : State :=
  let s := if r.unit = 0x30 && (r.code = 2 || r.code = 4) then s.engineEcc r.inst else s
  let s := s.bumpReg (0x400010 + r.cls % 4 * 4) 1
  let s := s.raise (0x400020 + r.unit / 32 % 8 * 4) (r.unit % 32)
  let s := s.raise 0x400008 (r.cls % 4)
  let s := if r.cls % 4 = 0 then s.errLimited r else s.errQueue r
  if r.cls % 4 = 3 then s.fatal else s

/-- A report of a unit of the FE reaches the error unit at once. -/
def State.report (s : State) (unit code cls inst detail : Nat) : State :=
  s.errEnter { unit, code, cls, inst, detail }

/-- A report of a unit of the TM waits for the control flits; it is discarded when 256 wait (R520). -/
def State.reportTm (s : State) (unit code cls inst detail : Nat) : State :=
  if s.err.tmBuf.length < 256 then
    { s with err := { s.err with tmBuf := s.err.tmBuf ++ [{ unit, code, cls, inst, detail }] } }
  else ({ s with err := { s.err with lost := s.err.lost + 1, seq := (s.err.seq + 1) % 65536 } } : State).raise 0x400000 3

/-- The injection that waits for a write into a memory at an instance: its TYPE, and the state with PENDING clear and DONE set (R530). -/
def State.injectionFor (s : State) (mem inst : Nat) : Option (Nat × State) :=
  if s.flag 0x400090 30 && s.fld 0x400090 7 0 = mem && s.fld 0x400090 23 12 = inst then
    some (s.fld 0x400090 25 24, (s.setFlag 0x400090 30 false).raise 0x400000 5)
  else none

/-- A write into a memory takes an injection that waits for it (R530); what is stored is told by the reads that find it. -/
def State.written' (s : State) (mem inst : Nat) : State :=
  match s.injectionFor mem inst with
  | some (_, s) => s
  | none => s

/-- A write into a memory of which an injection's INSTANCE names no part: any INSTANCE stands for it (R530). -/
def State.writtenAny (s : State) (mem : Nat) : State := s.written' mem (s.fld 0x400090 23 12)

/-! ## Sample records (R510, R511) -/

/-- A beat as an offset from the admission beat, saturating at 0xFFFE (R511). -/
def smpOff (adm b : Nat) : Nat := min (b - adm) 0xFFFE

/-- The 128 bytes of a sample record (R511). -/
def smpBytes (m : Sample) (outcome dunit dreason seq out : Nat) (pdrop : Bool) : List Byte :=
  leBytes (m.ctx % 256 + m.lave % 16 * 2 ^ 8 + m.passes % 4 * 2 ^ 12 + outcome % 4 * 2 ^ 14 + dunit % 256 * 2 ^ 16
    + dreason % 256 * 2 ^ 24 + m.frameLen % 2 ^ 14 * 2 ^ 32 + b2n pdrop * 2 ^ 46 + b2n m.dram * 2 ^ 47 + seq % 65536 * 2 ^ 48) 8
  ++ leBytes (m.admBeat % 2 ^ 32 + m.admClk % 256 * 2 ^ 32 + m.queue % 2 ^ 20 * 2 ^ 40 + m.disp % 8 * 2 ^ 60) 8
  ++ leBytes (m.exitB % 65536 + m.land % 65536 * 2 ^ 16 + m.sched % 65536 * 2 ^ 32 + out % 65536 * 2 ^ 48) 8
  ++ leBytes (min m.run 65535 + min m.wait 65535 * 2 ^ 16 + m.lookups % 65536 * 2 ^ 32 + m.engine % 32 * 2 ^ 48) 8
  ++ sliceAt (m.head.take m.frameLen) 0 96

/-- The sample of a slot. -/
def State.sample (s : State) (k : Nat) : Sample := Tab.get {} s.pmu.slots k

/-- The state with the sample of a tagged packet changed. -/
def State.modSample (s : State) (tag : Option Nat) (f : Sample → Sample) : State :=
  match tag with
  | none => s
  | some k => { s with pmu := { s.pmu with slots := Tab.set {} s.pmu.slots k (f (s.sample k)) } }

/-- The close of a tagged packet's record: the slot is free again and the record enters the sample queue, or is discarded
when the queue holds 16,384 (R510). A record closes once. -/
def State.closeSample (s : State) (tag : Option Nat) (outcome dunit dreason : Nat) (pdrop : Bool) : State :=
  match tag with
  | none => s
  | some k =>
    let m := s.sample k
    if !m.live then s else
      let rec' := smpBytes m outcome dunit dreason s.pmu.seq (smpOff m.admBeat s.beatN) pdrop
      let s := { s with pmu := { s.pmu with slots := Tab.set {} s.pmu.slots k {}, seq := (s.pmu.seq + 1) % 65536 } }
      if s.pmu.queue.length < 16384 then { s with pmu := { s.pmu with queue := s.pmu.queue ++ [rec'] } }
      else (s.count 0x05 0x42 0 1).raise 0x500000 2

/-- A frame that a service sends as requester 17 into an egress queue; it waits for the next hand-off (R406). -/
def State.mssSend (s : State) (queue : Nat) (frame : List Byte) : State :=
  let r : XRec :=
    { kind := 2, queue := queue, dest := 0, colour := 0, req := 17, script := [], frame := frame, pkt := 0, tag := none, inj := none }
  { s with cross := { s.cross with offer := s.cross.offer ++ [r] } }

/-! ## Packets of the FE -/

def State.pkt (s : State) (n : Nat) : Pkt := Tab.get {} s.line.pkts n

def State.setPkt (s : State) (n : Nat) (p : Pkt) : State :=
  { s with line := { s.line with pkts := Tab.set {} s.line.pkts n p } }

/-- A packet's kerb-store blocks returned (R85). -/
def State.freeBlocks (s : State) (n : Nat) : State :=
  let p := s.pkt n
  let g := p.ctx / 16
  let s := { s with line := { s.line with used := Tab.set 0 s.line.used g (Tab.get 0 s.line.used g - p.blocks) } }
  s.setPkt n { p with blocks := 0, stored := false }

/-- A packet that leaves the FE: its blocks are free and nothing of it remains (R85). -/
def State.forget (s : State) (n : Nat) : State :=
  let s := s.freeBlocks n
  let rx := s.line.rx.map fun e => if e.2 = n + 2 then (e.1, 1) else e
  { s with line := { s.line with pkts := Tab.set {} s.line.pkts n {}, rx := rx } }

/-- A drop of a packet on the FE, counted under its unit and code and the instance of R507. -/
def State.dropPkt (s : State) (n unit code inst : Nat) : State :=
  let tag := (s.pkt n).tag
  ((s.count unit code inst 1).closeSample tag 3 unit code false).forget n

/-! ## The hash of R170 -/

/-- One shift of the reflected CRC-32 register (R170, step 3). -/
def crcShift (c : BitVec 32) : BitVec 32 :=
  if c.getLsbD 0 then (c >>> 1) ^^^ 0xEDB88320#32 else c >>> 1

/-- One byte of the CRC-32 (R170, steps 2 and 3). -/
def crcByte (c : BitVec 32) (b : Byte) : BitVec 32 :=
  crcShift (crcShift (crcShift (crcShift (crcShift (crcShift (crcShift (crcShift (c ^^^ b.setWidth 32))))))))

/-- The CRC-32 of a byte string from an initial value, neither reversed nor inverted (R170). -/
def crc32 (init : BitVec 32) (bs : List Byte) : BitVec 32 := bs.foldl crcByte init

end Sys2Proof.Machine
end

