-- ==== Sys2Proof/Machine/Flags.lean ====
section
/-! DEFINITION. The results of the engine's functions and the predicates it computes (spec/06_engine_isa R169 to R171). -/

namespace Sys2Proof.Machine

/-- Set bits of a number, over its first n bits. -/
def popBits (x : Nat) : Nat → Nat
  | 0 => 0
  | n + 1 => x % 2 + popBits (x / 2) n

/-- Leading zeros of a number of n bits. -/
def leadZeros (x : Nat) : Nat → Nat
  | 0 => 0
  | n + 1 => if bitOf x n then 0 else 1 + leadZeros x n

/-- The sum of the four 16-bit words of a register. -/
def words16 (x : Nat) : Nat := bits x 15 0 + bits x 31 16 + bits x 47 32 + bits x 63 48

/-- A sum folded with end-around carry to 16 bits (R170, CSADD). -/
def foldSum (n : Nat) : Nat :=
  let n := n % 65536 + n / 65536
  n % 65536 + n / 65536

/-- The result of an ALU function (R170). -/
def aluResult (fn : AluFn) (a b : Dword) : Dword :=
  let sh := b.toNat % 64
  match fn with
  | .add => a + b
  | .sub => a - b
  | .and => a &&& b
  | .or => a ||| b
  | .xor => a ^^^ b
  | .andn => a &&& ~~~b
  | .shl => a <<< sh
  | .shr => a >>> sh
  | .sar => a.sshiftRight sh
  | .rol => a.rotateLeft sh
  | .min => if a.slt b then a else b
  | .max => if a.slt b then b else a
  | .minu => if a.ult b then a else b
  | .maxu => if a.ult b then b else a
  | .mul => a * b
  | .mulhu => BitVec.ofNat 64 (a.toNat * b.toNat / 2 ^ 64)
  | .clz => BitVec.ofNat 64 (leadZeros a.toNat 64)
  | .popc => BitVec.ofNat 64 (popBits a.toNat 64)
  | .bswap => BitVec.ofNat 64 (beNat (leBytes a.toNat 8))
  | .csadd => BitVec.ofNat 64 (foldSum (words16 a.toNat + words16 b.toNat))
  | .crc32 => (crc32 (a.setWidth 32) (beBytes b.toNat 8)).setWidth 64

/-- The latency of an ALU function in clocks (R170). -/
def aluLatency : AluFn → Nat
  | .mul => 3 | .mulhu => 3 | .crc32 => 2 | _ => 1

/-- The result of a function with an immediate, sign-extended (R157, R169). -/
def immResult (fn : ImmFn) (a : Dword) (v : BitVec 12) : Dword :=
  let x := v.signExtend 64
  match fn with
  | .addi => a + x | .andi => a &&& x | .ori => a ||| x | .xori => a ^^^ x

/-- The result of a shift by an immediate (R169). -/
def shiftResult (fn : ShiftFn) (a : Dword) (sh : BitVec 6) : Dword :=
  match fn with
  | .shli => a <<< sh.toNat | .shri => a >>> sh.toNat | .sari => a.sshiftRight sh.toNat

/-- A mask of n low bits. -/
def lowMask (n : Nat) : Dword := BitVec.ofNat 64 (2 ^ n - 1)

/-- EXT: the field of len bits at pos (R169). -/
def extResult (a : Dword) (pos len1 : BitVec 6) : Dword := (a >>> pos.toNat) &&& lowMask (len1.toNat + 1)

/-- INS: rd with the field of len bits at pos replaced by ra's low bits (R169). -/
def insResult (d a : Dword) (pos len1 : BitVec 6) : Dword :=
  let m := lowMask (len1.toNat + 1)
  (d &&& ~~~(m <<< pos.toNat)) ||| ((a &&& m) <<< pos.toNat)

/-- The conditions of CMP and CMPxxI: 0 EQ, 1 NE, 2 LT, 3 GE, 4 LTU, 5 GEU, 6 TST (R171). -/
def condResult (cond : Nat) (a b : Dword) : Bool :=
  match cond with
  | 0 => a == b
  | 1 => a != b
  | 2 => a.slt b
  | 3 => !a.slt b
  | 4 => a.ult b
  | 5 => !a.ult b
  | _ => (a &&& b) != 0

/-- The functions of PLOG: 0 AND, 1 OR, 2 XOR, 3 pa AND NOT pb, 4 NOT pa, 5 set, 6 clear (R171). -/
def plogResult (fn : Nat) (a b : Bool) : Bool :=
  match fn with
  | 0 => a && b
  | 1 => a || b
  | 2 => a != b
  | 3 => a && !b
  | 4 => !a
  | 5 => true
  | _ => false

/-- Whether an operation's guard is true of the predicates (R157). -/
def guardTrue (gd : BitVec 4) (p : BitVec 8) : Bool :=
  if gd = 0 then true
  else if gd.toNat < 8 then !p.getLsbD gd.toNat
  else p.getLsbD (gd.toNat - 8)

end Sys2Proof.Machine
end

