-- ==== Sys2Proof/Machine/Line.lean ====
section
/-! DEFINITION. Line lanes, ports, FlexE, OTUCn over FlexO and the kerb (spec/03_line). -/

namespace Sys2Proof.Machine

/-! ## Ports, contexts and their configuration (R46 to R49, R79) -/

def pgModeAddr (g : Nat) : Nat := 0x1000004 + g * 0x1000

/-- MODE of a port group (R47). -/
def State.pgMode (s : State) (g : Nat) : Nat := s.fld (pgModeAddr g) 3 0

/-- Lanes of each Ethernet port in a mode (R47); 0 where the mode has no such ports. -/
def portLanes : Nat → Nat
  | 0 => 8 | 1 => 4 | 2 => 2 | 3 => 1 | 4 => 4 | 5 => 2 | 6 => 1 | 7 => 1 | _ => 0

/-- Rate of each port in Gb/s (R47). -/
def portRate : Nat → Nat
  | 0 => 1600 | 1 => 800 | 2 => 400 | 3 => 200 | 4 => 400 | 5 => 200 | 6 => 100 | 7 => 50 | _ => 0

/-- RATE code of LINE_LN_STAT for a running lane (R47). -/
def laneRateCode : Nat → Nat
  | 0 => 3 | 1 => 3 | 2 => 3 | 3 => 3 | 4 => 2 | 5 => 2 | 6 => 2 | 7 => 1 | 8 => 4 | _ => 0

/-- PCS lanes of a port in a mode. PRESUMED: IEEE 802.3; the spec counts no lanes. -/
def pcsLanes : Nat → Nat
  | 0 => 16 | 1 => 32 | 2 => 16 | 3 => 8 | 4 => 16 | 5 => 8 | 6 => 20 | 7 => 4 | _ => 0

/-- What a MAC context belongs to (R79). -/
inductive CtxOwner where
  | none
  | eth (port : Nat)
  | client (f c : Nat)
  deriving DecidableEq, Repr

def flxBase (f : Nat) : Nat := 0x1080000 + f * 0x1000

def State.flxSpan (s : State) (f : Nat) : Bool := s.flag (flxBase f + 4) 9
def State.flxCarrier (s : State) (f : Nat) : Bool := s.flag (flxBase f + 4) 8

/-- Client c of a group as its settings in force give it: enabled, and its slots (R68). -/
def State.cliWord (s : State) (f c : Nat) : Nat := (Tab.get 0 s.line.cli (f * 32 + c)).toNat
def State.cliEn (s : State) (f c : Nat) : Bool := bitOf (s.cliWord f c) 31

/-- The owner of a MAC context in the current configuration (R60, R79). -/
def State.ctxOwner (s : State) (m : Nat) : CtxOwner :=
  let g := m / 16
  let i := m % 16
  let n := portLanes (s.pgMode g)
  if s.pgMode g ≤ 7 && !s.flag (pgModeAddr g) 16 then
    if i < 8 && i % n = 0 then .eth (8 * g + i) else .none
  else if g % 2 = 1 && s.flxSpan (g - 1) && s.cliEn (g - 1) (16 + i) then .client (g - 1) (16 + i)
  else if s.cliEn g i then .client g i
  else .none

/-- The receive rate of a context in Gb/s (R52, R53). -/
def State.ctxRate (s : State) (m : Nat) : Nat :=
  match s.ctxOwner m with
  | .none => 0
  | .eth _ => portRate (s.pgMode (m / 16))
  | .client f c => bits (s.cliWord f c) 25 16 * 5

/-- STATE of the function that a context's port or client belongs to (R78). -/
def State.ctxScr (s : State) (m : Nat) : Nat :=
  match s.ctxOwner m with
  | .none => 0
  | .eth _ => s.scrState (0x1000000 + m / 16 * 0x1000)
  | .client f _ => s.scrState (flxBase f)

/-! ## Defects and receive state (R58 to R60, R71, R75) -/

def defLive (p : Nat) : Nat := 0x1020000 + p * 0x40

/-- A defect of a port receive down: LOS, LOL, DESKEW, HI_SER or LF (R58). -/
def State.portDown (s : State) (p : Nat) : Bool :=
  let d := s.reg (defLive p)
  bitOf d 0 || bitOf d 1 || bitOf d 2 || bitOf d 3 || bitOf d 5

/-- Signal fail of the OTUCn of a port group (R75). -/
def State.signalFail (s : State) (g : Nat) : Bool :=
  let b := 0x10C0000 + g * 0x1000
  let d := s.reg (b + 0x10)
  bitOf d 0 || bitOf d 1 || (bitOf d 2 && s.flag b 0) || (bitOf d 5 && s.flag b 1) || bitOf d 8

/-- BDI sent in section monitoring, and in path monitoring (R75). -/
def State.smBdiSent (s : State) (g : Nat) : Bool :=
  let b := 0x10C0000 + g * 0x1000
  let d := s.reg (b + 0x10)
  bitOf d 0 || bitOf d 1 || (bitOf d 2 && s.flag b 0)
def State.pmBdiSent (s : State) (g : Nat) : Bool := s.signalFail g

/-- Defects of a FlexE group that take every client receive down (R71). -/
def State.flxAllDown (s : State) (f : Nat) : Bool :=
  let d := s.reg (flxBase f + 0x50)
  bitOf d 0 || bitOf d 1 || bitOf d 2 || bitOf d 3 || bitOf d 5 || bitOf d 7

/-- Receive up of a context (R58, R60, R71, R75). -/
def State.rxUp (s : State) (m : Nat) : Bool :=
  match s.ctxOwner m with
  | .none => false
  | .eth p => s.scrState (0x1000000 + m / 16 * 0x1000) == 2 && !s.portDown p
  | .client f c =>
    s.scrState (flxBase f) == 2 && !s.flxAllDown f && !bitOf (Tab.get 0 s.line.calMm f) c && !bitOf (Tab.get 0 s.line.calFail f) c
      && !(s.flxCarrier f && s.signalFail f)

/-- Transmit up of a context (R58, R60). -/
def State.txUp (s : State) (m : Nat) : Bool :=
  match s.ctxOwner m with
  | .none => false
  | .eth p => s.scrState (0x1000000 + m / 16 * 0x1000) == 2 && !s.flag (defLive p) 6
  | .client f _ => s.scrState (flxBase f) == 2

def macStat (m : Nat) : Nat := 0x1030004 + m * 0x40

def State.rxOf (s : State) (m : Nat) : Nat := Tab.get 0 s.line.rx m
def State.setRx (s : State) (m v : Nat) : State := { s with line := { s.line with rx := Tab.set 0 s.line.rx m v } }

/-- The packet in reception of a context whose header has come to the kerb. -/
def State.rxPkt (s : State) (m : Nat) : Option Nat := if 3 ≤ s.rxOf m then some (s.rxOf m - 2) else none

/-- A context's gather buffer emptied, with what is noted of its frame. -/
def State.gatherClear (s : State) (m : Nat) : State :=
  let l := { s.line with gather := Tab.set [] s.line.gather m [] }
  { s with line := { l with gatherFec := Tab.set false l.gatherFec m false, gatherFcs := Tab.set false l.gatherFcs m false } }

/-- A frame in reception is lost with reason port down or port stopped: at the exit of its window when its header has entered a kerb queue,
at once otherwise (R59, R78). It was not received while receive up, and the MAC does not count it. DESIGN CHOICE, log 87. -/
def State.loseReception (s : State) (m code : Nat) : State :=
  match s.rxPkt m with
  | some n =>
    let p := s.pkt n
    (s.setPkt n { p with ended := true, bad := if p.bad = 0 then code else p.bad }).setRx m 2
  | none =>
    if Tab.get [] s.line.gather m ≠ [] then ((s.count 0x10 code m 1).gatherClear m).setRx m 2
    else if s.rxOf m = 1 then s.setRx m 2
    else s

/-- The receive and transmit state of a context brought up to date in LINE_MAC_STAT, with what going receive down does
(R59, R60). A context that has lost its owner has had its client removed by a calendar switch, which is no stop (R70, R78). -/
def State.refreshCtx (s : State) (m : Nat) : State :=
  let o := s.reg (macStat m)
  let rx := s.rxUp m
  let tx := s.txUp m
  let flap := (bitOf o 0 && !rx) || (bitOf o 1 && !tx) || bitOf o 2
  let s := s.setReg (macStat m) (b2n rx + 2 * b2n tx + 4 * b2n flap)
  if bitOf o 0 && !rx then s.loseReception m (if s.ctxOwner m = .none || s.ctxScr m = 2 then 5 else 6) else s

/-- UP of a port, and its latch of having gone down (LINE_PT_DEF). -/
def State.refreshPort (s : State) (p : Nat) : State :=
  let up := s.scrState (0x1000000 + p / 8 * 0x1000) == 2 && !s.portDown p && !s.flag (defLive p) 6
  let s := if s.flag (defLive p) 8 && !up then s.raise (defLive p + 4) 8 else s
  s.setFlag (defLive p) 8 up

/-- PHYs of a FlexE group that are enabled (R62). -/
def State.flxPhyEn (s : State) (f k : Nat) : Bool := s.flag (flxBase f + 0x10 + k * 4) 31
def State.flxPhyPort (s : State) (f k : Nat) : Nat := s.fld (flxBase f + 0x10 + k * 4) 22 16
def State.flxPhys (s : State) (f : Nat) : List Nat := (List.range 8).filter (s.flxPhyEn f)

/-- A defect bit set or cleared in a LIVE register, and latched in the LATCH register above it. -/
def State.setDefect (s : State) (live i : Nat) (on : Bool) : State :=
  let s := s.setFlag live i on
  if on then s.raise (live + 4) i else s

/-- The largest skew between the PHYs of a group (R66). -/
def State.flxSkew (s : State) (f : Nat) : Nat := (s.flxPhys f).foldl (fun n k => max n (Tab.get 0 s.line.skew (f * 8 + k))) 0

/-- PHY_DOWN, the per-PHY overhead defects, the skew and the calendar mismatch of a FlexE group (R66, R71). -/
def State.refreshFlx (s : State) (f : Nat) : State :=
  let live := flxBase f + 0x50
  let s := s.setDefect live 7 ((s.flxPhys f).any fun k => s.portDown (s.flxPhyPort f k))
  let s := [1, 2, 3, 6].foldl (fun s i =>
    s.setDefect live i ((s.flxPhys f).any fun k => bitOf (Tab.get 0 s.line.flxDef (f * 8 + k)) i)) s
  let s := (s.setReg (flxBase f + 0x58) (min (s.flxSkew f) 0xFFFF)).setDefect live 5 (decide (1000 < s.flxSkew f))
  s.setDefect live 4 (Tab.get 0 s.line.calMm f != 0 || Tab.get 0 s.line.calFail f != 0 || Tab.get false s.line.calUnknown f)

/-- Everything that a change in port group g can bear on. -/
def State.refreshGroup (s : State) (g : Nat) : State :=
  let s := (List.range 8).foldl (fun s i => s.refreshPort (8 * g + i)) s
  let s := s.refreshFlx g
  let s := if g = 0 then s else s.refreshFlx (g - 1)
  let s := if g = 0 then s else (List.range 16).foldl (fun s i => s.refreshCtx (16 * (g - 1) + i)) s
  (List.range 32).foldl (fun s i => if 16 * g + i < 192 then s.refreshCtx (16 * g + i) else s) s

/-! ## Lanes and ports (R58) -/

/-- The port that a lane belongs to in its group's mode (R48). -/
def State.lanePort (s : State) (l : Nat) : Nat :=
  let n := max (portLanes (s.pgMode (l / 8))) 1
  l / 8 * 8 + l % 8 / n * n

def lnStat (l : Nat) : Nat := 0x1010004 + l * 0x20

/-- SIGNAL_DETECT_LOSS: LOS of the port, which takes it receive down (R58, R59). -/
def execSignalDetectLoss (lane : Fin 96) (s : State) : Host.Outcome State Fault Refusal :=
  let s := (s.setFld (lnStat lane) 1 0 0).raise (lnStat lane) 3
  let s := s.setDefect (defLive (s.lanePort lane)) 0 true
  .next (s.refreshGroup (lane / 8))

/-- The lock machines whose keys satisfy a test begin their search anew: of those that were LOCKED the loss shows as LOL of a port, OH_LOF of
a FlexE group or LOF of an OTUCn (R55, R58, R71, R75). -/
def State.unlock (s : State) (which : Nat → Bool) : State :=
  let hit := s.line.locks.filter fun e => which e.1 && e.2.st == .locked
  let s : State := { s with line := { s.line with locks := s.line.locks.filter fun e => !which e.1 } }
  hit.foldl (fun s e =>
    if e.1 < 3072 then s.setDefect (defLive (e.1 / 32)) 1 true
    else if e.1 < 2000000 then s.setDefect (flxBase ((e.1 - 1000000) / 8) + 0x50) 0 true
    else s.setDefect (0x10C0010 + (e.1 - 2000000) / 16 * 0x1000) 0 true) s

/-- The lock machines that a lane feeds: of its port's PCS lanes, every one; of the FlexE PHY on that port, its overhead lock; of an OTUCn, the
lane's two FlexO instances (R48, R55, R72). Which PCS lanes of a port of several lanes lie on one of them is not given: all are taken.
DESIGN CHOICE, log 85. -/
def State.laneLock (s : State) (l k : Nat) : Bool :=
  if s.pgMode (l / 8) = 8 then 2000000 + l / 8 * 16 + l % 8 * 2 ≤ k && k < 2000000 + l / 8 * 16 + l % 8 * 2 + 2
  else (k / 32 == s.lanePort l && k < 3072) || (1000000 ≤ k && k < 1000096 && s.flxPhyPort ((k - 1000000) / 8) (k % 8) == s.lanePort l)

/-- SIGNAL_DETECT_GAIN: the lane's signal is present, and the lock machines that it feeds begin a search (R55). -/
def execSignalDetectGain (lane : Fin 96) (s : State) : Host.Outcome State Fault Refusal :=
  let s := s.setFld (lnStat lane) 1 0 3
  let s : State := { s with line := { s.line with sigAt := Tab.set 0 s.line.sigAt lane (s.bus.ticks + 1) } }
  let s := s.unlock (s.laneLock lane)
  .next ((List.range 12).foldl (fun s g => if g = lane.val / 8 || (s.flxPhys g).any (fun k => s.flxPhyPort g k / 8 == lane.val / 8) then s.refreshGroup g else s) s)

/-- Signal is detected on every lane of a port, and has been for 10 ms (R58). -/
def State.signalBack (s : State) (p : Nat) : Bool :=
  (List.range (max (portLanes (s.pgMode (p / 8))) 1)).all fun i =>
    s.flag (lnStat (p + i)) 0 && Tab.get 0 s.line.sigAt (p + i) + 15000000 ≤ s.bus.ticks + 1

/-- SIGNAL_DETECT_RETURN: signal present on every lane of the port for 10 ms clears LOS (R58). -/
def execSignalDetectReturn (port : Fin 96) (s : State) : Host.Outcome State Fault Refusal :=
  .next (if s.signalBack port then (s.setDefect (defLive port) 0 false).refreshGroup (port / 8) else s)

def fecUnc (p : Nat) : Nat := 0x1020018 + p * 0x40
def fecCorr (p : Nat) : Nat := 0x1020010 + p * 0x40

/-- One more frame of a context overlaps the marked blocks (R51): the one in reception, unless it is marked already, else the next whose
first bytes come. DESIGN CHOICE, log 86: how the command names the frames. -/
def State.markFec (s : State) (m : Nat) : State :=
  match s.rxPkt m with
  | some n => if (s.pkt n).fec then more else s.setPkt n { s.pkt n with fec := true }
  | none =>
    if Tab.get [] s.line.gather m ≠ [] && !Tab.get false s.line.gatherFec m then
      { s with line := { s.line with gatherFec := Tab.set false s.line.gatherFec m true } }
    else more
where
  more : State := { s with line := { s.line with fecNext := Tab.set 0 s.line.fecNext m (Tab.get 0 s.line.fecNext m + 1) } }

/-- A frame's first bytes come: whether a codeword named before overlaps it. -/
def State.fecStart (s : State) (m : Nat) : State × Bool :=
  let n := Tab.get 0 s.line.fecNext m
  ({ s with line := { s.line with fecNext := Tab.set 0 s.line.fecNext m (n - 1) } }, n != 0)

/-- FEC_UNCORRECTABLE: the codeword is counted, and the frames that overlap its blocks are marked, a context named as often as frames of it
do (R51, R58, R75). -/
def execFecUncorrectable (src : FecSource) (ctxs : List (Fin 192)) (s : State) : Host.Outcome State Fault Refusal :=
  let s := match src with
    | .port p =>
      let s := s.setReg64 (fecUnc p) (s.reg64 (fecUnc p) + 1)
      { s with line := { s.line with uncWin := Tab.set 0 s.line.uncWin p (Tab.get 0 s.line.uncWin p + 1) } }
    | .flexo g =>
      let s := s.setDefect (0x10C0010 + g * 0x1000) 9 true
      { s with line := { s.line with fecSec := Tab.set 0 s.line.fecSec g (Tab.get 0 s.line.fecSec g + 1) } }
  .next (ctxs.foldl (fun (s : State) (m : Fin 192) => s.markFec m) s)

/-- SER_WINDOW_END: HI_SER and DEG_SER after a window of 8,192 codewords (R58). -/
def execSerWindowEnd (port : Fin 96) (corr : Nat) (s : State) : Host.Outcome State Fault Refusal :=
  let p := port.val
  let unc := Tab.get 0 s.line.uncWin p
  let lim := s.fld (0x102000C + p * 0x40) 9 0
  let dset := s.fld (0x1020008 + p * 0x40) 31 16
  let dclr := min (s.fld (0x1020008 + p * 0x40) 15 0) dset
  let hi := if lim < unc then 0 else min (Tab.get 0 s.line.hiGood p + 1) 8
  let dg := if dclr < corr then 0 else min (Tab.get 0 s.line.degGood p + 1) 8
  let s := s.setReg64 (fecCorr p) (s.reg64 (fecCorr p) + corr)
  let line := { s.line with uncWin := Tab.set 0 s.line.uncWin p 0, hiGood := Tab.set 0 s.line.hiGood p hi }
  let s := { s with line := { line with degGood := Tab.set 0 s.line.degGood p dg } }
  let s := if lim < unc then s.setDefect (defLive p) 3 true else if hi = 8 then s.setDefect (defLive p) 3 false else s
  let s := if dset < corr then s.setDefect (defLive p) 4 true else if dg = 8 then s.setDefect (defLive p) 4 false else s
  .next (s.refreshGroup (p / 8))

/-- LOCAL_FAULT_RECEIVED: the port goes receive down (R58). -/
def execLocalFaultReceived (port : Fin 96) (s : State) : Host.Outcome State Fault Refusal :=
  .next ((s.setDefect (defLive port) 5 true).refreshGroup (port / 8))

/-- REMOTE_FAULT_RECEIVED: the port goes transmit down (R58). -/
def execRemoteFaultReceived (port : Fin 96) (s : State) : Host.Outcome State Fault Refusal :=
  .next ((s.setDefect (defLive port) 6 true).refreshGroup (port / 8))

/-- FAULT_SEQUENCES_ABSENT: no local-fault, or no remote-fault, sequence for 128 columns (R58). -/
def execFaultSequencesAbsent (port : Fin 96) (isLocal : Bool) (s : State) : Host.Outcome State Fault Refusal :=
  .next ((s.setDefect (defLive port) (if isLocal then 5 else 6) false).refreshGroup (port / 8))

/-- RDEG_RECEIVED: the far end signals degraded SER, or stops (R58). -/
def execRdegReceived (port : Fin 96) (on : Bool) (s : State) : Host.Outcome State Fault Refusal :=
  .next (s.setDefect (defLive port) 7 on)

/-! ## The steering key and hash (R80, R81, R554) -/

/-- Whether transport ports are taken: the protocol is TCP, UDP or SCTP and they lie whole within the bytes read (R80). -/
def portsAt (w : List Byte) (off proto : Nat) : Bool :=
  (proto == 6 || proto == 17 || proto == 132) && off + 4 ≤ w.length

/-- The key of an IPv4 header at off (R80, R554). -/
def keyIpv4 (w : List Byte) (off : Nat) : List Byte :=
  let frag := byteAt w (off + 6) * 256 + byteAt w (off + 7)
  let proto := byteAt w (off + 9)
  let l4 := off + byteAt w off % 16 * 4
  let isFrag := bitOf frag 13 || frag % 0x2000 != 0
  sliceAt w (off + 12) 8 ++ sliceAt w (off + 9) 1 ++ (if !isFrag && portsAt w l4 proto then sliceAt w l4 4 else [])

/-- The extension headers that the kerb walks (R80). -/
def isIpv6Ext (nh : Nat) : Bool := nh == 0 || nh == 43 || nh == 44 || nh == 60

/-- The walk over up to n extension headers from off: the protocol of the key, and where the ports lie when they are taken. -/
def ipv6Walk (w : List Byte) : Nat → Nat → Nat → Bool → Nat × Option Nat
  | 0, nh, off, frag =>
    if isIpv6Ext nh then (nh, none) else (nh, if !frag && portsAt w off nh then some off else none)
  | n + 1, nh, off, frag =>
    if !isIpv6Ext nh then (nh, if !frag && portsAt w off nh then some off else none)
    else
      let len := if nh = 44 then 8 else (byteAt w (off + 1) + 1) * 8
      if w.length < off + 8 || w.length < off + len then (nh, none)
      else
        let fo := byteAt w (off + 2) * 256 + byteAt w (off + 3)
        ipv6Walk w n (byteAt w off) (off + len) (frag || (nh == 44 && (fo / 8 != 0 || bitOf fo 0)))

/-- The key of an IPv6 header at off (R80, R554). -/
def keyIpv6 (w : List Byte) (off : Nat) : List Byte :=
  let flow := beNat (sliceAt w (off + 1) 3) % 2 ^ 20
  let addrs := sliceAt w (off + 8) 32
  if flow ≠ 0 then addrs ++ beBytes flow 3
  else match ipv6Walk w 4 (byteAt w (off + 6)) (off + 40) false with
    | (proto, none) => addrs ++ beBytes proto 1
    | (proto, some l4) => addrs ++ beBytes proto 1 ++ sliceAt w l4 4

/-- The labels read from off: up to and including the bottom of stack, or n entries; each with its S bit (R80). -/
def mplsLabels (w : List Byte) : Nat → Nat → List (Nat × Bool)
  | 0, _ => []
  | n + 1, off =>
    let e := beNat (sliceAt w off 4)
    (e / 4096, bitOf e 8) :: (if bitOf e 8 then [] else mplsLabels w n (off + 4))

/-- The entropy label: the entry after a label 7 among the labels read (R80). -/
def entropyLabel : List (Nat × Bool) → Option Nat
  | (7, _) :: (l, _) :: _ => some l
  | _ :: t => entropyLabel t
  | [] => none

/-- The key of an MPLS stack at off (R80, R554). -/
def keyMpls (w : List Byte) (off : Nat) : List Byte :=
  let ls := mplsLabels w 8 off
  match entropyLabel ls with
  | some l => beBytes l 3
  | none =>
    let key := ls.flatMap fun l => beBytes l.1 3
    let next := off + 4 * ls.length
    if (ls.getLastD (0, false)).2 then
      if byteAt w next / 16 = 4 then key ++ keyIpv4 w next
      else if byteAt w next / 16 = 6 then key ++ keyIpv6 w next
      else key
    else key

/-- The place of the EtherType after up to n VLAN tags (R80). -/
def etherOff (w : List Byte) : Nat → Nat → Nat
  | 0, off => off
  | n + 1, off =>
    let t := beNat (sliceAt w off 2)
    if t = 0x8100 || t = 0x88A8 then etherOff w n (off + 4) else off

/-- The steering key of a frame's first 256 bytes (R80, R554). -/
def steerKey (frame : List Byte) : List Byte :=
  let w := frame.take 256
  let eo := etherOff w 2 12
  match beNat (sliceAt w eo 2) with
  | 0x0800 => keyIpv4 w (eo + 2)
  | 0x86DD => keyIpv6 w (eo + 2)
  | 0x8847 => keyMpls w (eo + 2)
  | 0x8848 => keyMpls w (eo + 2)
  | _ => sliceAt w 0 12 ++ sliceAt w eo 2

/-- The kerb steering hash (R81). -/
def State.steerHash (s : State) (frame : List Byte) : Nat :=
  (crc32 (BitVec.ofNat 32 (s.reg 0x1040000)) (steerKey frame)).toNat

/-- Entry e of the steering table (LINE_KERB_STEER). -/
def State.steerEntry (s : State) (e : Nat) : Nat :=
  s.fld (0x1040100 + e / 8 * 4) (e % 8 * 4 + 3) (e % 8 * 4)

def macCfg (m : Nat) : Nat := 0x1030000 + m * 0x40

/-- The logical avenue of a new header (R81). -/
def State.steer (s : State) (m hash : Nat) : Nat :=
  if s.flag (macCfg m) 29 then s.fld (macCfg m) 27 24 else s.steerEntry (hash % 256)

/-- MAX_FRAME of a context, within its limits. -/
def State.maxFrame (s : State) (m : Nat) : Nat := min (max (s.fld (macCfg m) 13 0) 64) 10240

/-! ## The kerb (R82 to R85) -/

/-- Blocks reserved to each port group (LINE_KERB_RSV). -/
def State.kerbRsv (s : State) : Nat := min (s.fld 0x1040008 11 0) 2048

def State.kerbUsedOf (s : State) (g : Nat) : Nat := Tab.get 0 s.line.used g

/-- Shared blocks in use (R84). -/
def State.kerbShared (s : State) : Nat :=
  (List.range 12).foldl (fun n g => n + (s.kerbUsedOf g - s.kerbRsv)) 0

/-- Free kerb-store blocks (LINE_KERB_STAT.FREE). -/
def State.kerbFree (s : State) : Nat := 32768 - (List.range 12).foldl (fun n g => n + s.kerbUsedOf g) 0

/-- Whether port group g finds one more block (R84). -/
def State.kerbRoom (s : State) (g : Nat) : Bool :=
  s.kerbUsedOf g < s.kerbRsv || s.kerbShared < 32768 - 12 * s.kerbRsv

/-- The physical avenue that serves a logical avenue while it runs (R111, R152). -/
def State.servingAve (s : State) (l : Nat) : Option Nat :=
  (List.range 17).find? fun p =>
    s.scrState (0x3000000 + p * 0x100000) == 2 && s.flag (0x3000004 + p * 0x100000) 4
      && s.fld (0x3000004 + p * 0x100000) 3 0 == l

def State.kerbQueue (s : State) (l : Nat) : List Nat := Tab.get [] s.line.kerbQ l

def State.setKerbQueue (s : State) (l : Nat) (q : List Nat) : State :=
  { s with line := { s.line with kerbQ := Tab.set [] s.line.kerbQ l q } }

/-- The smallest key that a table does not list, from k on. -/
def firstFree {α : Type} : Tab α → Nat → Nat
  | [], k => k
  | e :: t, k => if e.1 = k then firstFree t (k + 1) else k

/-- The tag of a header of pass 1 that enters a kerb queue: drawn, granted or refused (R509). -/
def State.sampleTag (s : State) (n : Nat) : State :=
  let p := s.pkt n
  if p.pass = 1 && s.flag 0x500100 31 && s.flag (0x500110 + p.ctx / 32 * 4) (p.ctx % 32) then
    let draw := (Config.sampleDraw p.lave s.fresh).toNat
    let s := { s with fresh := s.fresh + 1 }
    if draw < s.fld 0x500100 23 0 then
      let k := firstFree s.pmu.slots 0
      if s.pmu.tags < max (s.fld 0x500104 7 0) 1 && k < 4096 then
        let smp : Sample := { live := true, ctx := p.ctx, lave := p.lave, passes := 1, head := p.data.take 96 }
        let s := { s with pmu := { s.pmu with tags := s.pmu.tags + 1, slots := Tab.set {} s.pmu.slots k smp } }
        (s.setPkt n { p with tag := some k }).count 0x05 0x40 0 1
      else (s.count 0x05 0x41 0 1).raise 0x500000 1
    else s
  else s

/-- A packet's requester in the order of R83: its port group, or 12 for recirculation; and its place in that order in this beat. -/
def State.kerbRank (s : State) (n : Nat) : Nat :=
  let p := s.pkt n
  (rotOrder s.beatN 13).idxOf (if 1 < p.pass then 12 else p.ctx / 16)

/-- A header placed in a kerb queue: behind those of earlier clocks, and among those of this clock in the order of R83. -/
def State.kerbInsert (s : State) (n : Nat) : List Nat → List Nat
  | [] => [n]
  | x :: t => if (s.pkt x).kerbTick = s.bus.ticks && s.kerbRank n < s.kerbRank x then n :: x :: t else x :: s.kerbInsert n t

/-- A header that finds no place in a kerb queue (R83). -/
def State.kerbOverflow (s : State) (n : Nat) : State := (s.raise 0x1040004 0).dropPkt n 0x10 0x07 (s.pkt n).ctx

/-- A header put into a kerb queue of 512; of more than it has room for in one clock, the last in the order of R83 is dropped. -/
def State.kerbPut (s : State) (l n : Nat) : State :=
  let s := s.setPkt n { s.pkt n with kerbTick := s.bus.ticks }
  let q := s.kerbInsert n (s.kerbQueue l)
  if q.length ≤ 512 then s.setKerbQueue l q
  else (s.setKerbQueue l (q.take 512)).kerbOverflow (q.getLastD n)

/-- A header enters its kerb queue, or is dropped: avenue stopped, or kerb overflow (R83, R152). -/
def State.enterKerb (s : State) (n : Nat) : State :=
  let p := s.pkt n
  match s.servingAve p.lave with
  | none => s.dropPkt n 0x30 0x01 p.lave
  | some _ => (if (s.kerbInsert n (s.kerbQueue p.lave)).getLastD n = n && 512 ≤ (s.kerbQueue p.lave).length then s else s.sampleTag n).kerbPut p.lave n

/-- A header is delivered by its port group, which delivers 2 in a clock; a further one waits for the next (R83). -/
def State.reachKerb (s : State) (n : Nat) : State :=
  let g := (s.pkt n).ctx / 16
  if s.uses (.kerb g) < 2 then (s.use (.kerb g)).enterKerb n else { s with line := { s.line with kerbWait := s.line.kerbWait ++ [n] } }

/-- A clock begins at the kerb: the headers that have waited are delivered first (R83). -/
def State.kerbClock (s : State) : State :=
  s.line.kerbWait.foldl State.reachKerb ({ s with line := { s.line with kerbWait := [], blkNow := [] } } : State)

/-- Of the packets that took a shared block in this clock, the one that the order of R83 puts last, when it comes after packet n's (R84). -/
def State.blockLoser (s : State) (n : Nat) : Option Nat :=
  s.line.blkNow.foldl (fun o m =>
    if s.kerbRank n < s.kerbRank m && (s.pkt m).blocks ≠ 0 then
      match o with
      | none => some m
      | some k => if s.kerbRank k < s.kerbRank m then some m else some k
    else o) none

/-- A packet finds no block: dropped at once when it is for the first byte, whose header then is in no kerb queue; else no longer stored, and
dropped at the exit of its window (R84). -/
def State.noBlock (s : State) (n : Nat) (first : Bool) : State :=
  let s := s.raise 0x1040004 1
  let p := s.pkt n
  if first then
    let l := { s.line with kerbWait := s.line.kerbWait.filter (· != n), blkNow := s.line.blkNow.filter (· != n) }
    let s : State := { s with line := l }
    (s.setKerbQueue p.lave ((s.kerbQueue p.lave).filter (· != n))).dropPkt n 0x10 0x08 p.ctx
  else
    let s := s.freeBlocks n
    s.setPkt n { s.pkt n with bad := if p.bad = 0 then 8 else p.bad }

/-- A packet takes one more block, when there is one (R84). -/
def State.takeBlock (s : State) (n : Nat) : State :=
  let p := s.pkt n
  let g := p.ctx / 16
  let l := { s.line with used := Tab.set 0 s.line.used g (s.kerbUsedOf g + 1) }
  let l := if s.kerbUsedOf g < s.kerbRsv then l else { l with blkNow := n :: l.blkNow }
  ({ s with line := l } : State).setPkt n { p with blocks := p.blocks + 1 }

/-- A packet takes up to k more blocks, one at a time; false when one is not found. For the last shared block in one clock the order of R83
decides, and the other packet is without it (R84). -/
def State.takeBlocks (s : State) (n : Nat) : Nat → State × Bool
  | 0 => (s, true)
  | k + 1 =>
    if s.kerbRoom ((s.pkt n).ctx / 16) then (s.takeBlock n).takeBlocks n k
    else match s.blockLoser n with
      | some m =>
        let s := s.noBlock m ((s.pkt m).firstTick == s.bus.ticks && (s.pkt m).blocks == 1)
        if s.kerbRoom ((s.pkt n).ctx / 16) then (s.takeBlock n).takeBlocks n k else (s, false)
      | none => (s, false)

/-- More bytes of a frame at the kerb: stored up to the MAX_FRAME that held as its header came, in blocks while there are any (R52, R82,
R84). -/
def State.growFrame (s : State) (n : Nat) (data : List Byte) : State :=
  let p := s.pkt n
  let mx := p.maxFrame
  let len := p.len + data.length
  let overs := mx < len + 4
  let bad := if overs && p.bad = 0 then 3 else p.bad
  let p := { p with len := len, bad := bad, data := if p.stored then (p.data ++ data).take mx else p.data }
  let s := s.setPkt n p
  if p.stored then
    let (s, ok) := s.takeBlocks n (ceilDiv p.data.length 256 - p.blocks)
    if ok then s else s.noBlock n false
  else s

/-- Mated operation in a state other than ACTIVE (R486). -/
def State.standby (s : State) : Bool := s.flag 0x300000 0 && s.fld 0x30000C 2 0 ≠ 4

/-- The receive time-stamp of a context in ns, corrected by TIM_MC_RXDLY (R96, R477). -/
def State.rxTime (s : State) (m : Nat) : Nat := (Int.ofNat s.now65536 + signed32 (s.reg (0x201004 + m * 0x10))).toNat / 65536

/-- A PAUSE or PFC frame by its first bytes: the MAC counts it and discards it, and no drop reason is counted (R50). PRESUMED (log 69): IEEE
802.3's address, EtherType and opcodes. -/
def isPauseFrame (head : List Byte) : Bool :=
  sliceAt head 0 6 == [0x01, 0x80, 0xC2, 0x00, 0x00, 0x01] && beNat (sliceAt head 12 2) == 0x8808
    && (beNat (sliceAt head 14 2) == 0x0001 || beNat (sliceAt head 14 2) == 0x0101)

/-- A frame's first bytes, all of them when there are fewer than 256, reach the kerb: stored, steered and queued, unless the frame is dropped
in the MAC: port stopped or down, or a runt (R50, R52, R54, R59, R78, R84, R486, R549). -/
def State.frameStart (s : State) (m : Nat) (head : List Byte) (fec : Bool) : State :=
  if s.ctxScr m ≠ 2 then (s.count 0x10 6 m 1).setRx m 2
  else if !s.rxUp m || s.flag 0x50 8 then (s.count 0x10 5 m 1).setRx m 2
  else if head.length < 60 then (s.count 0x10 1 m 1).setRx m 2
  else if isPauseFrame head then s.setRx m 1
  else if s.standby && !s.flag 0x300000 5 then (s.count 0x10 9 m 1).setRx m 1
  else
    let n := s.line.nextPkt
    let hash := s.steerHash head
    let at' := s.rxTime m
    let p : Pkt := { ctx := m, hash := hash, lave := s.steer m hash, tsSec := at' / 1000000000, tsNs := at' % 1000000000,
                     fec := fec, firstTick := s.bus.ticks, maxFrame := s.maxFrame m }
    let s := ({ s with line := { s.line with nextPkt := n + 1 } } : State).setPkt n p
    let (s, ok) := s.takeBlocks n 1
    if ok then
      let s := (s.setRx m (n + 2)).growFrame n head
      if s.pkt n = {} then s else s.reachKerb n
    else (s.noBlock n true).setRx m 1

/-- Bytes that come to a context's gather buffer; with a frame's first bytes comes whether a codeword overlaps it (R51, R53). -/
def State.gatherMore (s : State) (m : Nat) (data : List Byte) : State :=
  let old := Tab.get [] s.line.gather m
  let (s, fec) := if old = [] then s.fecStart m else (s, Tab.get false s.line.gatherFec m)
  { s with line := { s.line with gather := Tab.set [] s.line.gather m (old ++ data), gatherFec := Tab.set false s.line.gatherFec m fec } }

/-- Below 200 Gb/s a context's frames go through its gather buffer (R53). -/
def State.gathers (s : State) (m : Nat) : Bool := 0 < s.ctxRate m && s.ctxRate m < 200

/-- FRAME_HEADER_TO_KERB (R52, R80 to R84); below 200 Gb/s the bytes come to the gather buffer (R53). -/
def execFrameHeaderToKerb (m : Fin 192) (head : List Byte) (s : State) : Host.Outcome State Fault Refusal :=
  if head.length = 0 || 256 < head.length then .fault .illFormed
  else if s.gathers m && s.rxUp m && s.rxOf m = 0 then .next (s.gatherMore m head)
  else
    let (t, fec) := s.fecStart m
    .next ((t.frameStart m head fec).writtenAny 8)

/-- FRAME_DATA_ARRIVAL: more bytes of the frame in reception, to the kerb or, below 200 Gb/s, to the gather buffer
(R52, R53, R84). -/
def execFrameDataArrival (m : Fin 192) (data : List Byte) (s : State) : Host.Outcome State Fault Refusal :=
  match s.rxPkt m with
  | some n => .next (s.growFrame n data)
  | none => if s.rxOf m = 0 && s.gathers m && s.rxUp m then .next (s.gatherMore m data) else .next s

def macCnt (m i : Nat) : Nat := 0x1030010 + m * 0x40 + i * 8

/-- One of a context's 64-bit MAC counters, n higher: 0 RX_FRAMES, 1 RX_BYTES, 2 RX_FCS_ERR, 3 TX_FRAMES, 4 TX_BYTES (R555). -/
def State.macCount (s : State) (m i n : Nat) : State := s.setReg64 (macCnt m i) (s.reg64 (macCnt m i) + n)

/-- A frame of 64 bytes or more counted as received, while receive up (R555). -/
def State.countRx (s : State) (m len : Nat) : State :=
  if 64 ≤ len && s.rxUp m then (s.macCount m 0 1).macCount m 1 len else s

/-- The judgement of a whole frame: FEC, then FCS, unless it has a reason already (R51, R52). -/
def State.judge (s : State) (n : Nat) (fcsOk : Bool) : State :=
  let p := s.pkt n
  let bad := if p.bad ≠ 0 then p.bad else if p.fec then 4 else if fcsOk then 0 else 2
  let s := s.setPkt n { p with ended := true, bad := bad }
  if bad = 2 && p.bad = 0 then s.macCount p.ctx 2 1 else s

/-- FRAME_END: runt, oversize and FCS judged, and the counters (R52, R54, R555). Below 200 Gb/s the gather buffer judges the frame, when it
is complete there (R53). -/
def execFrameEnd (m : Fin 192) (len : Nat) (fcsOk : Bool) (s : State) : Host.Outcome State Fault Refusal :=
  let r := s.rxOf m
  if r = 0 && s.gathers m then .next s
  else match s.rxPkt m with
    | some n => .next (((s.countRx m len).judge n fcsOk).setRx m 0)
    | none =>
      if r = 1 then .next ((s.countRx m len).setRx m 0)
      else if r = 2 then .next (s.setRx m 0)
      else if len < 64 then .next ((s.fecStart m).1.count 0x10 (if s.ctxScr m ≠ 2 then 6 else if s.rxUp m then 1 else 5) m 1)
      else .next s

/-- GATHER_FRAME_COMPLETE: the frame in the gather buffer is judged and, when good, passes to the MAC at 200 Gb/s, which drops a runt, and to
the kerb whole (R53, R54); one that was in flight at a calendar switch is lost as an FCS error (R70). -/
def execGatherFrameComplete (m : Fin 192) (fcsOk : Bool) (s : State) : Host.Outcome State Fault Refusal :=
  let data := Tab.get [] s.line.gather m
  let fec := Tab.get false s.line.gatherFec m
  let good := fcsOk && !Tab.get false s.line.gatherFcs m
  let s : State := s.gatherClear m
  let len := data.length + 4
  if s.rxOf m.val ≠ 0 then .next (s.setRx m 0)
  else if s.ctxScr m.val ≠ 2 then .next (s.count 0x10 6 m 1)
  else if !s.rxUp m then .next (s.count 0x10 5 m 1)
  else
    let s : State := s.countRx m len
    if s.maxFrame m.val < len then .next (s.count 0x10 3 m 1)
    else if fec then .next (s.count 0x10 4 m 1)
    else if !good then .next ((s.macCount m 2 1).count 0x10 2 m 1)
    else if len < 64 then .next (s.count 0x10 1 m 1)
    else
      let s : State := s.frameStart m (data.take 256) false
      match s.rxPkt m.val with
      | some n => .next (((s.growFrame n (data.drop 256)).judge n true).setRx m 0)
      | none => .next (s.setRx m 0)

/-! ## FlexE (R61 to R71) -/

/-- Instances of 100 Gb/s that a PHY carries, by its port group's mode (R61, R63). -/
def phyInstances : Nat → Nat
  | 1 => 8 | 2 => 4 | 3 => 2 | _ => 0

/-- Capacity of a group in slots (R62, R73). -/
def State.flxCapacity (s : State) (f : Nat) : Nat :=
  if s.flxCarrier f then 20 * s.fld (pgModeAddr f) 12 8
  else (s.flxPhys f).foldl (fun n k => n + 20 * phyInstances (s.pgMode (s.flxPhyPort f k / 8))) 0

/-- Port groups that a FlexE group uses: a second one only for an even group (R62). -/
def State.flxGroups (s : State) (f : Nat) : List Nat := if s.flxSpan f && f % 2 = 0 then [f, f + 1] else [f]

/-- Where a calendar slot lies: on instance i of PHY k as slot j, or in an OPUC slice as a tributary slot (R63, R73). -/
inductive SlotPlace where
  | phy (k i j : Nat)
  | opuc (slice trib : Nat)
  deriving DecidableEq, Repr

/-- The place of calendar slot n of a group; none at or beyond its capacity (R63, R73). -/
def State.slotPlace (s : State) (f n : Nat) : Option SlotPlace :=
  if s.flxCapacity f ≤ n then none
  else if s.flxCarrier f then some (.opuc (n / 20 + 1) (n + 1))
  else
    let ks := s.flxPhys f
    let per := phyInstances (s.pgMode (s.flxPhyPort f (ks.headD 0) / 8))
    (ks[n / (20 * per)]?).map fun k => .phy k (n / 20 % per) (n % 20)

/-- Calendar entry of slot n (R64). -/
def State.calEntry (s : State) (f : Nat) (calB : Bool) (n : Nat) : Nat :=
  s.fld (flxBase f + (if calB then 0x800 else 0x400) + n / 4 * 4) (n % 4 * 8 + 7) (n % 4 * 8)

/-- Slots that a calendar gives a client. -/
def State.calSlots (s : State) (f : Nat) (calB : Bool) (c : Nat) : Nat :=
  ((List.range 640).filter fun n => s.calEntry f calB n == 0x80 + c).length

/-- A client's setting as last written (R68). -/
def State.cliReg (s : State) (f c : Nat) : Nat := s.reg (flxBase f + 0x100 + c * 4)

/-- Clients that a group may have (R65). -/
def State.flxClients (s : State) (f : Nat) : Nat := if s.flxSpan f then 32 else 16

/-- A slot count that R65 allows: 2, 8 or a multiple of 5. -/
def slotsOk (n : Nat) : Bool := n == 2 || n == 8 || (n % 5 == 0 && n != 0)

/-- A calendar gives a client exactly its SLOTS slots, as FLX_CLIc was last written, when it is enabled (R65, R69). -/
def State.cliAgrees (s : State) (f : Nat) (calB : Bool) (c : Nat) : Bool :=
  let w := s.cliReg f c
  if bitOf w 31 then s.calSlots f calB c == bits w 25 16 else true

/-- The clients that a calendar does not give their slots, as a bit set. -/
def State.calFailing (s : State) (f : Nat) (calB : Bool) : Nat :=
  ((List.range 32).map fun c => b2n (!s.cliAgrees f calB c) * 2 ^ c).sum

/-- The check of a calendar against the client settings last written (R64, R65). -/
def State.calOk (s : State) (f : Nat) (calB : Bool) : Bool :=
  let cs := s.flxClients f
  ((List.range 640).all fun n =>
    let e := s.calEntry f calB n
    if (s.slotPlace f n).isNone then e == 0
    else e == 0 || (e == 0x40 && !s.flxCarrier f)
      || (0x80 ≤ e && e < 0x80 + cs && bitOf (s.cliReg f (e - 0x80)) 31))
  && (List.range 32).all fun c => if c < cs then s.cliAgrees f calB c && (!bitOf (s.cliReg f c) 31 || slotsOk (bits (s.cliReg f c) 25 16))
    else !bitOf (s.cliReg f c) 31

def State.txCalB (s : State) (f : Nat) : Bool := s.flag (flxBase f + 0x40) 0

/-- The client settings last written take effect (R68, R74). -/
def State.applyCli (s : State) (f : Nat) : State :=
  (List.range 32).foldl (fun s c =>
    { s with line := { s.line with cli := Tab.set 0 s.line.cli (f * 32 + c) (BitVec.ofNat 32 (s.cliReg f c)) } }) s

/-- A switch that a calendar check refuses, or a CR that it withholds CA from: CAL_MM, with the clients that disagree receive down (R68 step 1,
R69, R71). They stay so until a later check of this kind passes, or the group starts. DESIGN CHOICE, log 89. -/
def State.setCalFail (s : State) (f mask : Nat) : State :=
  let s : State := { s with line := { s.line with calFail := Tab.set 0 s.line.calFail f mask } }
  (if mask = 0 then s else s.raise (flxBase f + 0x54) 4).refreshGroup f

/-- Step 1 of a calendar switch, at its target boundary (R68, R74). -/
def State.calSwitchRequest (s : State) (f : Nat) : State :=
  if s.calOk f (!s.txCalB f) then
    let s := s.setCalFail f 0
    if s.flxCarrier f then { s with line := { s.line with otnSw := Tab.set false s.line.otnSw f true } }
    else
      let line := { s.line with crSent := Tab.set 0 s.line.crSent f (if s.txCalB f then 1 else 2), crAt := Tab.set 0 s.line.crAt f s.bus.ticks }
      { s with line := { line with caMask := Tab.set 0 s.line.caMask f 0 } }
  else (s.setCalFail f (s.calFailing f (!s.txCalB f))).raise (flxBase f + 0x54) 4

/-- The transmit calendar changes, with the C bit, and the shadow settings take effect (R68 step 2, R74). -/
def State.txSwitch (s : State) (f : Nat) : State :=
  let s := s.setFlag (flxBase f + 0x40) 0 (!s.txCalB f)
  let line := { s.line with crSent := Tab.set 0 s.line.crSent f 0, caMask := Tab.set 0 s.line.caMask f 0, txAt := Tab.set 0 s.line.txAt f 0 }
  let s := { s with line := { line with cBit := Tab.set false s.line.cBit f (!Tab.get false s.line.cBit f) } }
  (s.applyCli f).refreshGroup f

/-- The groups whose overhead multiframe boundary comes in this clock switch transmit (R68 step 2). -/
def State.flxClock (s : State) : State :=
  (s.line.txAt.filter fun e => e.2 ≤ s.bus.ticks + 1).foldl (fun s e => s.txSwitch e.1) s

/-- The MAC context of client c of group f (R79). -/
def clientCtx (f c : Nat) : Nat := 16 * f + c

/-- A client whose slot count or number changes at the switch of the receive calendar (R70). -/
def State.cliMoves (s : State) (f c : Nat) : Bool :=
  s.calSlots f false c != s.calSlots f true c || (Tab.get 0 s.line.rxCli (f * 32 + c)).toNat % 65536 != s.cliWord f c % 65536

/-- The frame in flight of a context is lost as an FCS error (R70): at the exit of its window, or as it completes in the gather buffer. -/
def State.loseInFlight (s : State) (m : Nat) : State :=
  match s.rxPkt m with
  | some n =>
    let p := s.pkt n
    let s := (s.setPkt n { p with ended := true, bad := if p.bad = 0 then 2 else p.bad }).setRx m 1
    if p.bad = 0 then s.macCount m 2 1 else s
  | none =>
    if Tab.get [] s.line.gather m ≠ [] then { s with line := { s.line with gatherFcs := Tab.set false s.line.gatherFcs m true } } else s

/-- The settings in force become those of the receiver. -/
def State.takeRxCli (s : State) (f : Nat) : State :=
  (List.range 32).foldl (fun s c =>
    { s with line := { s.line with rxCli := Tab.set 0 s.line.rxCli (f * 32 + c) (Tab.get 0 s.line.cli (f * 32 + c)) } }) s

/-- The receive calendar changes; a client whose slot count or number changes loses the frame in flight, counted as an FCS error
(R68 step 3, R70). -/
def State.rxSwitch (s : State) (f : Nat) : State :=
  let s := s.setFlag (flxBase f + 0x40) 1 (!s.flag (flxBase f + 0x40) 1)
  ((List.range (s.flxClients f)).foldl (fun s c => if s.cliMoves f c then s.loseInFlight (clientCtx f c) else s) s).takeRxCli f

/-- CR_RECEIVED: the far end asks for a calendar; it is acknowledged when every enabled client has exactly its slots in it, else CA is withheld
(R69). Under CARRIER = 1 no CR and CA are exchanged (R74). -/
def execCrReceived (f : Fin 12) (calB : Bool) (s : State) : Host.Outcome State Fault Refusal :=
  if s.flxCarrier f then .next s
  else
    let ca := fun (n : Nat) => ({ s with line := { s.line with caSent := Tab.set 0 s.line.caSent f n } } : State)
    if s.calFailing f calB = 0 then .next ((ca (if calB then 2 else 1)).setCalFail f 0)
    else .next ((ca 0).setCalFail f (s.calFailing f calB))

/-- CA_RECEIVED: CA on one PHY; when every PHY has answered, transmit switches at its next overhead multiframe boundary (R68 step 2). How far
that is, is not given: free, log 90. -/
def execCaReceived (f : Fin 12) (k : Fin 8) (calB : Bool) (s : State) : Host.Outcome State Fault Refusal :=
  if Tab.get 0 s.line.crSent f = (if calB then 2 else 1) && Tab.get 0 s.line.txAt f = 0 then
    let mask := Tab.get 0 s.line.caMask f
    let mask := if bitOf mask k then mask else mask + 2 ^ k.val
    let s := { s with line := { s.line with caMask := Tab.set 0 s.line.caMask f mask } }
    if (s.flxPhys f).all fun k => bitOf mask k then
      .next { s with fresh := s.fresh + 1, line := { s.line with txAt := Tab.set 0 s.line.txAt f (s.bus.ticks + 1 + Config.multiframeWait s.fresh) } }
    else .next s
  else .next s

/-- C_BIT_FLIP_RECEIVED: receive switches with it (R68 step 3); under CARRIER = 1 there is no C bit (R74). -/
def execCBitFlipReceived (f : Fin 12) (s : State) : Host.Outcome State Fault Refusal :=
  if s.flxCarrier f then .next s else .next (s.rxSwitch f)

/-- CA_TIMEOUT: CA has not come on every PHY within TMO_MS of step 1: CR is withdrawn and CA_TMO is set (R68 step 4); never under CARRIER = 1
(R74). -/
def execCaTimeout (f : Fin 12) (s : State) : Host.Outcome State Fault Refusal :=
  let wait := max (s.fld (flxBase f + 0x44) 15 0) 1 * 1500000
  if Tab.get 0 s.line.crSent f = 0 || s.flxCarrier f || Tab.get 0 s.line.txAt f ≠ 0 || s.bus.ticks < Tab.get 0 s.line.crAt f + wait then .next s
  else
    let l := { s.line with crSent := Tab.set 0 s.line.crSent f 0, caMask := Tab.set 0 s.line.caMask f 0 }
    .next (({ s with line := l } : State).raise (flxBase f + 0x40) 3)

/-- The PHY numbers of a group's PHYs, as a bit set: the PHY map that its overhead must show (R71). -/
def State.phyMap (s : State) (f : Nat) : Nat := (s.flxPhys f).foldl (fun n k => n ||| 2 ^ s.fld (flxBase f + 0x10 + k * 4) 7 0) 0

/-- The client number that the received calendar gives a slot (R63, R71); 0 unused, 0xFFFF unavailable. PRESUMED, log 91. -/
def State.rxNumber (s : State) (f n : Nat) : Nat :=
  match s.slotPlace f n with
  | some (.phy k i j) => ((Tab.get [] s.line.rxCal (f * 8 + k))[i * 20 + j]?.getD 0).toNat
  | _ => 0

/-- The clients to which the received calendar gives a wrong slot count, as a bit set, and whether it names a number that no client has (R71).
It is judged when every PHY has shown its part. -/
def State.judgeCal (s : State) (f : Nat) : State :=
  if (s.flxPhys f).any fun k => Tab.get [] s.line.rxCal (f * 8 + k) = [] then s
  else
    let ns := (List.range (s.flxCapacity f)).map (s.rxNumber f)
    let cs := (List.range 32).filter (s.cliEn f)
    let num := fun c => s.cliWord f c % 65536
    let bad := (cs.map fun c => b2n ((ns.filter (· == num c)).length != bits (s.cliWord f c) 25 16) * 2 ^ c).sum
    let unknown := ns.any fun x => x != 0 && x != 0xFFFF && !cs.any (fun c => num c == x)
    { s with line := { s.line with calMm := Tab.set 0 s.line.calMm f bad, calUnknown := Tab.set false s.line.calUnknown f unknown } }

/-- FLEXE_OVERHEAD_FRAME: what an overhead frame of PHY k shows: the group number, the PHY map, the remote PHY fault, its skew and the client
numbers of its slots (R66, R71). -/
def execFlexeOverheadFrame (f : Fin 12) (k : Fin 8) (group : BitVec 20) (phyMap : BitVec 256) (mfOk rpf : Bool) (skewNs : Nat)
    (cal : List (BitVec 16)) (s : State) : Host.Outcome State Fault Refusal :=
  let d := 2 * b2n (!mfOk) + 4 * b2n (group.toNat != s.fld (flxBase f + 4) 31 12) + 8 * b2n (phyMap.toNat != s.phyMap f) + 64 * b2n rpf
  let l := { s.line with flxDef := Tab.set 0 s.line.flxDef (f * 8 + k) d, skew := Tab.set 0 s.line.skew (f * 8 + k) skewNs }
  let s : State := { s with line := { l with rxCal := Tab.set [] l.rxCal (f * 8 + k) cal } }
  .next ((s.judgeCal f).refreshGroup f)

/-- A FlexE group begins anew: no switch, no acknowledgement and no received overhead of a former run remains (R68, R74, R77). -/
def State.flxReset (s : State) (f : Nat) : State :=
  let l := { s.line with crSent := Tab.set 0 s.line.crSent f 0, caMask := Tab.set 0 s.line.caMask f 0, caSent := Tab.set 0 s.line.caSent f 0 }
  let l := { l with otnSw := Tab.set false l.otnSw f false, txAt := Tab.set 0 l.txAt f 0, calMm := Tab.set 0 l.calMm f 0 }
  let l := { l with calFail := Tab.set 0 l.calFail f 0, calUnknown := Tab.set false l.calUnknown f false }
  let l := { l with flxDef := Tab.clear l.flxDef (f * 8) (f * 8 + 8), skew := Tab.clear l.skew (f * 8) (f * 8 + 8) }
  { s with line := { l with rxCal := Tab.clear l.rxCal (f * 8) (f * 8 + 8) } }

/-! ## OTUCn over FlexO (R72 to R75) -/

def otnBase (g : Nat) : Nat := 0x10C0000 + g * 0x1000

/-- OTN_CALENDAR_SWITCH: the transmitter at the first multiframe boundary after the target, or the receiver with the received
indicator; under CARRIER = 0 there is none (R74). -/
def execOtnCalendarSwitch (g : Fin 12) (transmit : Bool) (s : State) : Host.Outcome State Fault Refusal :=
  if transmit then
    if Tab.get false s.line.otnSw g && s.flxCarrier g then
      .next (({ s with line := { s.line with otnSw := Tab.set false s.line.otnSw g false } } : State).txSwitch g)
    else .next s
  else if s.flxCarrier g then .next (s.rxSwitch g)
  else .next s

/-- The 16 registers of a TTI array written from 64 bytes, byte 0 lowest. -/
def State.setTti (s : State) (a : Nat) (v : BitVec 512) : State :=
  (List.range 16).foldl (fun s i => s.setReg (a + i * 4) (v.toNat / 2 ^ (32 * i) % 2 ^ 32)) s

/-- The first 32 bytes, SAPI and DAPI, of an expected TTI. -/
def State.expTti (s : State) (a : Nat) : Nat :=
  (List.range 8).foldl (fun n i => n + s.reg (a + i * 4) * 2 ^ (32 * i)) 0

/-- A received TTI against the candidate: accepted on its third identical multiframe, and compared then (R75). -/
def State.takeTti (s : State) (g : Nat) (pm : Bool) (v : BitVec 512) : State :=
  let old := Tab.get (0, 0) (if pm then s.line.pmTti else s.line.smTti) g
  let n := if old.1 = v then min (old.2 + 1) 3 else 1
  let line : LineState := if pm then { s.line with pmTti := Tab.set (0, 0) s.line.pmTti g (v, n) }
    else { s.line with smTti := Tab.set (0, 0) s.line.smTti g (v, n) }
  let s := { s with line := line }
  let a := otnBase g + (if pm then 0x200 else 0x100)
  if n = 3 then
    (s.setTti (a + 0x80) v).setDefect (otnBase g + 0x10) (if pm then 5 else 2) (v.toNat % 2 ^ 256 != s.expTti (a + 0x40))
  else s

/-- OTN_MULTIFRAME_RECEIVED: alignment, trail traces, BDI, the error counts and maintenance signals (R74, R75). -/
def execOtnMultiframeReceived (g : Fin 12) (aligned : Bool) (smTti pmTti : BitVec 512) (smBdi pmBdi : Bool)
    (smBip pmBip smBei pmBei : Nat) (maint : Bool) (s : State) : Host.Outcome State Fault Refusal :=
  let b := otnBase g
  let s := s.setDefect (b + 0x10) 1 (!aligned)
  if !aligned then .next (s.refreshGroup g)
  else
    let s := (s.takeTti g false smTti).takeTti g true pmTti
    let s := ((s.setDefect (b + 0x10) 3 smBdi).setDefect (b + 0x10) 6 pmBdi).setDefect (b + 0x10) 8 maint
    let s := (((s.bumpReg (b + 0x20) smBip).bumpReg (b + 0x24) smBei).bumpReg (b + 0x28) pmBip).bumpReg (b + 0x2C) pmBei
    let line := { s.line with smSec := Tab.set 0 s.line.smSec g (Tab.get 0 s.line.smSec g + smBip) }
    let s := { s with line := { line with pmSec := Tab.set 0 s.line.pmSec g (Tab.get 0 s.line.pmSec g + pmBip) } }
    .next (s.refreshGroup g)

/-- DEG after a second: consecutive bad and good seconds, and the defect they set or clear; none where it stands (R75). -/
def degAfter (m thr errs bad good : Nat) : Nat × Nat × Option Bool :=
  if thr < errs then (min (bad + 1) m, 0, if m ≤ bad + 1 then some true else none)
  else (0, min (good + 1) m, if m ≤ good + 1 then some false else none)

def State.setDefectOpt (s : State) (live i : Nat) : Option Bool → State
  | none => s
  | some on => s.setDefect live i on

/-- OTN_SECOND: the degrade defects and FEC_UNC at the end of a second (R75). -/
def execOtnSecond (g : Fin 12) (s : State) : Host.Outcome State Fault Refusal :=
  let b := otnBase g
  let thr := s.fld (b + 4) 31 8
  let m := min (max (s.fld (b + 4) 3 0) 2) 10
  let (sb, sg, sd) := degAfter m thr (Tab.get 0 s.line.smSec g) (Tab.get 0 s.line.smBad g) (Tab.get 0 s.line.smGood g)
  let (pb, pg, pd) := degAfter m thr (Tab.get 0 s.line.pmSec g) (Tab.get 0 s.line.pmBad g) (Tab.get 0 s.line.pmGood g)
  let unc := Tab.get 0 s.line.fecSec g != 0
  let l := s.line
  let l := { l with smBad := Tab.set 0 l.smBad g sb, smGood := Tab.set 0 l.smGood g sg, smSec := Tab.set 0 l.smSec g 0 }
  let l := { l with pmBad := Tab.set 0 l.pmBad g pb, pmGood := Tab.set 0 l.pmGood g pg, pmSec := Tab.set 0 l.pmSec g 0 }
  let s := { s with line := { l with fecSec := Tab.set 0 l.fecSec g 0 } }
  let s := (s.setDefectOpt (b + 0x10) 4 sd).setDefectOpt (b + 0x10) 7 pd
  .next (s.setDefect (b + 0x10) 9 unc)

/-! ## Marker lock (R55 to R57) -/

/-- The key of a lock machine. -/
def lockKey : LockId → Nat
  | .pcs p l => p.val * 32 + l.val
  | .phy f k => 1000000 + f.val * 8 + k.val
  | .flexo g i => 2000000 + g.val * 16 + i.val
  | .fab l => 3000000 + l.val

def State.lock (s : State) (k : LockId) : Lock := Tab.get {} s.line.locks (lockKey k)

def State.setLock (s : State) (k : LockId) (x : Lock) : State :=
  { s with line := { s.line with locks := Tab.set {} s.line.locks (lockKey k) x } }

/-- A marker pattern found while a search runs starts a candidate (R55). -/
def Lock.find (x : Lock) (pos : Nat) : Lock :=
  match x.st with
  | .search => { x with st := .confirm, pos := pos, finds := 1, misses := 0 }
  | _ => x

/-- A marker period at the position under test: a find or a miss (R55, R57). -/
def Lock.period (x : Lock) (found laneOk : Bool) : Lock :=
  match x.st with
  | .search => x
  | .confirm =>
    if found then (if 4 ≤ x.finds + 1 then { x with st := .locked, finds := 4, misses := 0 } else { x with finds := x.finds + 1 })
    else { }
  | .locked =>
    if found then { x with misses := 0, orderDefect := x.orderDefect || !laneOk }
    else if 5 ≤ x.misses + 1 then { orderDefect := x.orderDefect } else { x with misses := x.misses + 1 }

/-- The keys of the lock machines of port group g: PCS lanes, FlexE PHYs on its ports, FlexO members. -/
def State.groupLock (s : State) (g k : Nat) : Bool :=
  (k < 3072 && k / 256 == g) || (2000000 ≤ k && k < 2000192 && (k - 2000000) / 16 == g)
    || (1000000 ≤ k && k < 1000096 && s.flxPhyPort ((k - 1000000) / 8) (k % 8) / 8 == g)

/-- The PCS of a port group reset as it starts: its lock machines search, their defects, its windows and the defects judged by them are as
after reset (R77). DEDUCED, log 88. -/
def State.pcsReset (s : State) (g : Nat) : State :=
  let l := { s.line with locks := s.line.locks.filter fun e => !s.groupLock g e.1, uncWin := Tab.clear s.line.uncWin (8 * g) (8 * g + 8) }
  let l := { l with hiGood := Tab.clear l.hiGood (8 * g) (8 * g + 8), degGood := Tab.clear l.degGood (8 * g) (8 * g + 8) }
  let s : State := { s with line := l }
  let s := (List.range 8).foldl (fun s i => s.setFld (defLive (8 * g + i)) 4 1 0) s
  s.setFld (otnBase g + 0x10) 1 0 0

/-- Lock defects of a port, a FlexE group or an OTUCn after one of their lock machines moved (R58, R71, R75). -/
def State.lockDefects (s : State) (k : LockId) (lost : Bool) (deskewOk : Bool) : State :=
  match k with
  | .pcs p _ =>
    let all := (List.range (pcsLanes (s.pgMode (p / 8)))).all fun l => (Tab.get {} s.line.locks (p * 32 + l)).st == .locked
    let s := if lost then s.setDefect (defLive p) 1 true else if all then s.setDefect (defLive p) 1 false else s
    let s := if all then s.setDefect (defLive p) 2 (!deskewOk) else s
    s.refreshGroup (p / 8)
  | .phy f _ =>
    let all := (s.flxPhys f).all fun k => (Tab.get {} s.line.locks (1000000 + f * 8 + k)).st == .locked
    let s := if lost then s.setDefect (flxBase f + 0x50) 0 true else if all then s.setDefect (flxBase f + 0x50) 0 false else s
    s.refreshGroup f
  | .flexo g _ =>
    let n := s.fld (pgModeAddr g) 12 8
    let all := (List.range n).all fun i => (Tab.get {} s.line.locks (2000000 + g * 16 + i)).st == .locked
    let s := if lost then s.setDefect (otnBase g + 0x10) 0 true else if all then s.setDefect (otnBase g + 0x10) 0 false else s
    s.refreshGroup g
  | .fab _ => s

end Sys2Proof.Machine
end

