-- ==== Sys2Proof/Machine/Parse.lean ====
section
/-! DEFINITION. The parse graph and the header vector (spec/04_parse_graph). -/

namespace Sys2Proof.Machine

/-! ## Graph words (R88 to R91) -/

/-- A node of the graph: its four words (R88). -/
structure Node where
  w0 : Nat
  w1 : Nat
  w2 : Nat
  w3 : Nat
  deriving DecidableEq, Repr

def bankOff (b : Bool) : Nat := if b then 0x80000 else 0

/-- The first offset of the graph's words. -/
def graphBase : Nat := 0x2100000

/-- A word of the graph, by its offset from graphBase, in the copy of physical avenue p; there is no avenue 17, which stands for the words as
they were written (R87, R109). -/
def State.graphWord (s : State) (p o : Nat) : Nat :=
  match Tab.get none s.eng.graphOld (p * 2 ^ 20 + o) with
  | some v => v.toNat
  | none => s.reg (graphBase + o)

/-- The offsets of node n, transition entry t and start entry m. -/
def nodeOff (b : Bool) (n : Nat) : Nat := bankOff b + n * 16
def transOff (b : Bool) (t : Nat) : Nat := 0x10000 + bankOff b + t * 8
def startOff (b : Bool) (m : Nat) : Nat := 0x20000 + bankOff b + m * 4

def State.node (s : State) (p : Nat) (b : Bool) (n : Nat) : Node :=
  let a := nodeOff b n
  { w0 := s.graphWord p a, w1 := s.graphWord p (a + 4), w2 := s.graphWord p (a + 8), w3 := s.graphWord p (a + 12) }

def Node.valid (d : Node) : Bool := bitOf d.w0 31
def Node.cls (d : Node) : Nat := bits d.w0 30 28
def Node.hdrId (d : Node) : Nat := bits d.w0 27 20
def Node.stack (d : Node) : Bool := bitOf d.w0 19
def Node.tunnel (d : Node) : Bool := bitOf d.w0 18
def Node.csum4 (d : Node) : Bool := bitOf d.w0 17
def Node.pass2 (d : Node) : Bool := bitOf d.w0 16
def Node.fixLen (d : Node) : Nat := bits d.w0 15 8
def Node.lenOff (d : Node) : Nat := bits d.w1 31 23
def Node.lenW (d : Node) : Nat := bits d.w1 22 19
def Node.lenMul (d : Node) : Nat := 2 ^ bits d.w1 18 17
def Node.lenAdd (d : Node) : Nat := bits d.w1 16 9
def Node.lenMin (d : Node) : Nat := bits d.w1 7 0
def Node.selOff (d : Node) : Nat := bits d.w2 31 23
def Node.selW (d : Node) : Nat := bits d.w2 22 18
def Node.trCnt (d : Node) : Nat := bits d.w2 17 13
def Node.trBase (d : Node) : Nat := bits d.w2 11 0
def Node.defNext (d : Node) : Nat := bits d.w3 31 22

/-- Words 0 and 1 of a transition entry (R89). -/
def State.trans (s : State) (p : Nat) (b : Bool) (t : Nat) : Nat × Nat := (s.graphWord p (transOff b t), s.graphWord p (transOff b t + 4))

/-- The node of start entry m (R90). -/
def State.startNode (s : State) (p : Nat) (b : Bool) (m : Nat) : Nat := bits (s.graphWord p (startOff b m)) 8 0

/-- A next-node value that names no valid node and is neither accept nor stop (R88, FAIL_CODE 5). -/
def State.nextBad (s : State) (p : Nat) (b : Bool) (nx : Nat) : Bool :=
  if nx = 0x3FE || nx = 0x3FF then false else 512 ≤ nx || !(s.node p b nx).valid

/-- The fault that the bank check finds in a valid node: FAIL_CODE and index, 0 for none (PG_CHK_RES). -/
def State.nodeFault (s : State) (p : Nat) (b : Bool) (n : Nat) : Nat × Nat :=
  let d := s.node p b n
  if 16 < d.selW || (0 < d.trCnt && d.selW = 0) || 16 < d.trCnt then (1, n)
  else if 4096 < d.trBase + d.trCnt then (2, n)
  else if d.lenW = 0 && d.fixLen = 0 then (3, n)
  else if (0 < d.lenW && 512 < d.lenOff + d.lenW) || (0 < d.selW && 512 < d.selOff + d.selW) then (4, n)
  else if s.nextBad p b d.defNext then (5, n)
  else match (List.range d.trCnt).find? fun i => s.nextBad p b (bits (s.trans p b (d.trBase + i)).2 25 16) with
    | some i => (5, d.trBase + i)
    | none => (0, 0)

/-- The first fault of a bank as it was written (R107): nodes in order, each with its transition entries and its faults in the order of the
codes, then start entries. DESIGN CHOICE, log 82: the spec gives no order. -/
def State.graphFault (s : State) (b : Bool) : Nat × Nat :=
  match (List.range 512).find? fun n => (s.node 17 b n).valid && (s.nodeFault 17 b n).1 != 0 with
  | some n => s.nodeFault 17 b n
  | none =>
    match (List.range 192).find? fun m => !(s.node 17 b (s.startNode 17 b m)).valid with
    | some m => (6, m)
    | none => (0, 0)

/-! ## The walk (R92, R93) -/

/-- A layer entry while a pass runs (R93, R97). -/
structure Layer where
  opener : Nat
  tun : Nat
  count : Nat
  len : Nat
  off : Nat
  hdr : Nat
  cls : Nat
  deriving DecidableEq, Repr

/-- How a pass ended (R92): its code, where, and what it recorded. -/
structure Walk where
  status : Nat := 0
  reqPass : Bool := false
  node : Nat := 0
  off : Nat := 0
  visits : Nat := 0
  /-- Layer entries, first to last. -/
  layers : List Layer := []
  tun : Nat := 0
  /-- A graph word was read with a memory error (R109). -/
  memErr : Bool := false
  deriving DecidableEq, Repr

/-- The field of w bits at bit offset b of the header at off; bit 0 is the first byte's most significant (R88). -/
def winField (win : List Byte) (off b w : Nat) : Nat :=
  beNat (sliceAt win (off + b / 8) 3) / 2 ^ (24 - b % 8 - w) % 2 ^ w

/-- The bytes from the header's start to the end of the last field that the node uses. DEDUCED from R92. -/
def Node.fieldEnd (d : Node) : Nat :=
  max (if d.lenW = 0 then 0 else ceilDiv (d.lenOff + d.lenW) 8) (if d.selW = 0 then 0 else ceilDiv (d.selOff + d.selW) 8)

/-- The record of a header: the walk after it, or the code that stops the pass (R93). -/
def Walk.record (w : Walk) (n : Nat) (d : Node) (off len : Nat) : Walk × Nat :=
  if d.cls = 0 then (w, 0)
  else match w.layers.getLast? with
    | some l =>
      if d.stack && l.opener = n then
        if l.count = 16 then (w, 4)
        else ({ w with layers := w.layers.dropLast ++ [{ l with count := l.count + 1, len := l.len + len }] }, 0)
      else newEntry
    | none => newEntry
where
  newEntry : Walk × Nat :=
    let tun := w.tun + b2n d.tunnel
    if 16 ≤ w.layers.length then (w, 6)
    else if 4 < tun then (w, 5)
    else ({ w with tun := tun, layers := w.layers ++
      [{ opener := n, tun := tun, count := 1, len := len, off := off, hdr := d.hdrId, cls := d.cls }] }, 0)

/-- The Internet checksum of len bytes from off is right (R92); the last byte of an odd length is not summed. DESIGN CHOICE, log 81. -/
def ipv4SumOk (win : List Byte) (off len : Nat) : Bool :=
  let t := (List.range (len / 2)).foldl (fun n i => n + beNat (sliceAt win (off + 2 * i) 2)) 0
  let t := t % 65536 + t / 65536
  (t % 65536 + t / 65536) == 0xFFFF

/-- The transition entry of a node, counted from TR_BASE, that its select value matches first (R91). -/
def State.matching (s : State) (p : Nat) (b : Bool) (d : Node) (win : List Byte) (off : Nat) : Option Nat :=
  let sel := winField win off d.selOff d.selW
  if d.selW = 0 then none
  else (List.range d.trCnt).find? fun i =>
    let w := (s.trans p b (d.trBase + i)).1
    (sel &&& w % 65536) == (w / 65536 &&& w % 65536)

/-- The next node that a node and its window select (R91). -/
def State.nextNode (s : State) (p : Nat) (b : Bool) (d : Node) (win : List Byte) (off : Nat) : Nat :=
  match s.matching p b d win off with
  | some i => bits (s.trans p b (d.trBase + i)).2 25 16
  | none => d.defNext

/-- A word of node n has the memory error. -/
def nodeErr (b : Bool) (n : Nat) (memErr : Option Nat) : Bool :=
  match memErr with
  | some o => nodeOff b n ≤ o && o < nodeOff b n + 16
  | none => false

/-- A word of a transition entry has the memory error that the walk reads for a node: the entries that it compares, up to the first that
matches (R91, R109). DEDUCED, log 84. -/
def State.transErr (s : State) (p : Nat) (b : Bool) (d : Node) (win : List Byte) (off : Nat) (memErr : Option Nat) : Bool :=
  let n := if d.selW = 0 then 0 else match s.matching p b d win off with
    | some i => i + 1
    | none => d.trCnt
  match memErr with
  | some o => transOff b d.trBase ≤ o && o < transOff b d.trBase + 8 * n
  | none => false

/-- The walk of one pass in the copy of physical avenue p (R92): fuel for 49 visits; `last` is the end of the frame in the window, or 256;
`inWin` says that the frame ends inside the window; the pass stops with GRAPH where it reads the word at offset `memErr`, which has a memory
error (R109). -/
def State.walk (s : State) (p : Nat) (b : Bool) (win : List Byte) (last : Nat) (inWin : Bool) (memErr : Option Nat) :
    Nat → Nat → Nat → Bool → Walk → Walk
  | 0, n, off, _, w => { w with status := 3, node := n, off := off }
  | fuel + 1, n, off, first, w =>
    let stop := fun (w : Walk) (code : Nat) => { w with status := code, node := n, off := off }
    let w := { w with visits := w.visits + 1 }
    if 48 < w.visits then stop w 3
    else
      let d := s.node p b n
      if nodeErr b n memErr then { stop w 10 with memErr := true }
      else if !d.valid || (s.nodeFault p b n).1 ≠ 0 then stop w 10
      else if d.pass2 && !first then { stop w 0 with reqPass := true }
      else if last < off + d.fieldEnd then stop w (if inWin then 2 else 1)
      else
        let len := if d.lenW = 0 then d.fixLen else winField win off d.lenOff d.lenW * d.lenMul + d.lenAdd
        if len = 0 || 255 < len || len < d.lenMin then stop w 7
        else if last < off + len then stop w (if inWin then 2 else 1)
        else
          let (w', code) := w.record n d off len
          if code ≠ 0 then stop w' code
          else if d.csum4 && !ipv4SumOk win off len then stop w' 9
          else if s.transErr p b d win off memErr then { stop w 10 with memErr := true }
          else
            let w := w'
            let nx := s.nextNode p b d win off
            if nx = 0x3FE then { w with status := 0, node := n, off := off + len }
            else if nx = 0x3FF then stop w 8
            else s.walk p b win last inWin memErr fuel nx (off + len) false w

/-! ## The header vector (R94 to R97, R100) -/

/-- A layer entry's word (R97). -/
def Layer.word (l : Layer) : Nat :=
  l.tun % 8 * 2 ^ 29 + l.count % 32 * 2 ^ 24 + l.len % 256 * 2 ^ 16 + l.off % 256 * 2 ^ 8 + l.hdr % 256

/-- The class index: first and last entry of each class, 0xFF when absent (R95). -/
def classIndex (ls : List Layer) : List Byte :=
  (List.range 8).flatMap fun c =>
    let at' := (List.range ls.length).filter fun i => (ls[i]?.map (·.cls)).getD 0 == c
    if c = 0 then [0xFF, 0xFF] else [BitVec.ofNat 8 (at'.headD 0xFF), BitVec.ofNat 8 (at'.getLastD 0xFF)]

/-- A byte memory from a list of bytes, the first at address 0. -/
def memOfList (bs : List Byte) : Mem :=
  (List.range bs.length).foldr (fun i m => if bs[i]?.getD 0 = 0 then m else (i, bs[i]?.getD 0) :: m) []

/-- The 512 bytes of the header vector that the parser writes (R95, R96, R100). -/
def hvBytes (p : Pkt) (sl : Slot) (base : Nat) (win : List Byte) (w : Walk) : List Byte :=
  let rcw := if w.status = 1 || w.reqPass then (base + w.off) % 65536 + w.node % 512 * 2 ^ 16 else 0
  leBytes (sl.frameLen % 2 ^ 14 + p.ctx % 256 * 2 ^ 14 + p.pass % 4 * 2 ^ 22 + b2n sl.gbank * 2 ^ 24
      + sl.admBeat % 2 ^ 32 * 2 ^ 32) 8
  ++ leBytes (sl.admClk % 256 + w.status % 16 * 2 ^ 8 + b2n w.reqPass * 2 ^ 12 + w.node % 512 * 2 ^ 16
      + base % 65536 * 2 ^ 32 + w.off % 512 * 2 ^ 48 + w.visits % 128 * 2 ^ 57) 8
  ++ leBytes (p.hash % 2 ^ 32 + p.lave % 16 * 2 ^ 32 + w.tun % 8 * 2 ^ 36 + w.layers.length % 32 * 2 ^ 40) 8
  ++ leBytes (p.tsNs % 2 ^ 30 + p.tsSec % 2 ^ 32 * 2 ^ 32) 8
  ++ classIndex w.layers ++ leBytes rcw 8 ++ leBytes 0 8 ++ sliceAt p.carry 0 32
  ++ sliceAt (w.layers.flatMap fun l => leBytes l.word 4) 0 64 ++ leBytes 0 96 ++ sliceAt win 0 256

/-- The parse of a packet in a slot of physical avenue p: its walk and its header vector (R86 to R97). The frame's last byte is in the window,
what lies past it reads 0: DEDUCED, log 80. A start word read in error names no node: STOP_NODE is free, log 84. -/
def State.parse (s : State) (p : Nat) (sl : Slot) (memErr : Option Nat) : Walk × List Byte :=
  let k := s.pkt sl.pkt
  let base := if k.pass = 1 then 0 else k.winBase
  let rest := k.data.drop base
  let inWin := k.ended && rest.length ≤ 256
  let last := if inWin then rest.length else 256
  let win := rest.take 256
  let w : Walk :=
    if k.pass = 1 && memErr = some (startOff sl.gbank k.ctx) then
      { status := 10, node := (Config.startNode p s.bus.ticks).toNat, visits := 1, memErr := true }
    else s.walk p sl.gbank win last inWin memErr 49 (if k.pass = 1 then s.startNode p sl.gbank k.ctx else k.startNode) 0 true {}
  (w, hvBytes k sl base win w)

/-- The action of PG_ERR_ACT for a stop code: 0 deliver, 1 drop, 2 punt (R99). -/
def State.pgErrAct (s : State) (code : Nat) : Nat :=
  if code = 0 then 0 else s.fld 0x2000004 (2 * code - 1) (2 * code - 2)

def slotKey (p slot : Nat) : Nat := p * 1024 + slot

def State.slot (s : State) (p slot : Nat) : Option Slot := Tab.get none s.eng.slots (slotKey p slot)

def State.setSlot (s : State) (p slot : Nat) (x : Option Slot) : State :=
  { s with eng := { s.eng with slots := Tab.set none s.eng.slots (slotKey p slot) x } }

/-- The word at an offset of an avenue's copy rewritten from the copy of another avenue, the lowest-numbered (R109). DESIGN CHOICE, log 84. -/
def State.graphRewrite (s : State) (p o : Nat) : State :=
  let q := if p = 0 then 1 else 0
  { s with eng := { s.eng with graphOld := Tab.set none s.eng.graphOld (p * 2 ^ 20 + o) (Tab.get none s.eng.graphOld (q * 2 ^ 20 + o)) } }

/-- A graph word read in error: the copy is rewritten and the error reported, DETAIL the word's number from the first of bank A (R109, R527).
DESIGN CHOICE, log 84. -/
def State.graphMemErr (s : State) (p o : Nat) : State := (s.graphRewrite p o).report 0x20 0x02 1 p (o / 4)

/-- The header vector of a packet being parsed is written, and the packet becomes eligible or gets its parse-error action (R86, R99, R114);
what AVE_DBG_FEED says then is in force for it (R136). -/
def State.parsed (s : State) (p slot : Nat) (memErr : Option Nat) : State :=
  match s.slot p slot with
  | none => s
  | some sl =>
    let (w, hv) := s.parse p sl memErr
    let s := if w.memErr then s.graphMemErr p (memErr.getD 0) else s
    let sl := { sl with hv := memOfList hv, eligTick := s.bus.ticks, feed := s.regLate (0x3000014 + p * 0x100000) }
    let sl := match s.pgErrAct w.status with
      | 0 => { sl with phase := .eligible }
      | 2 => { sl with phase := .done, disp := some (.punt (s.fld 0x2000000 21 16) w.status 2 false 0x20 w.status) }
      | _ => { sl with phase := .done, disp := some (.drop 0x20 w.status false) }
    s.setSlot p slot (some sl)

/-- A slot's packet is parsed and was admitted 64 clocks ago. -/
def Slot.parseDue (sl : Slot) (now : Nat) : Bool := sl.phase == .parsing && sl.admTick + 64 ≤ now

/-- The header vectors that are complete by this clock: those admitted 64 clocks ago, whatever the graph does (R86). -/
def State.parseEnds (s : State) : State :=
  (s.eng.slots.filterMap fun e => e.2.bind fun sl => if sl.parseDue s.bus.ticks then some e.1 else none).foldl
    (fun s k => s.parsed (k / 1024) (k % 1024) none) s

/-- HEADER_VECTOR_COMPLETE: in the clock 64 clocks after admission the header vector is written; memErr is the offset, from the first node word
of bank A, of a graph word that this avenue reads in error (R86, R109). A packet that is not being parsed, or was admitted less than 64 clocks
ago, has no such event. -/
def execHeaderVectorComplete (p : Fin 17) (slot : Fin 1024) (memErr : Option Nat) (s : State) :
    Host.Outcome State Fault Refusal :=
  .next (match s.slot p slot with
    | none => s
    | some sl => if sl.parseDue s.bus.ticks then s.parsed p slot memErr else s)

/-- RECIRCULATION_QUEUE_TRANSFER: a header moves from the recirculation queue into the kerb queue as requester 12, or is
dropped there; 2 of an avenue in a clock at most (R83, R103). -/
def execRecirculationQueueTransfer (l : Fin 16) (s : State) : Host.Outcome State Fault Refusal :=
  match if 2 ≤ s.uses (.recirc l) then [] else Tab.get [] s.line.recQ l with
  | [] => .next s
  | n :: q =>
    let s := (({ s with line := { s.line with recQ := Tab.set [] s.line.recQ l q } } : State).use (.recirc l))
    .next (s.kerbPut l n)

/-! ## Bank protection, check and switch (R106 to R108) -/

def pgStat : Nat := 0x2000008

/-- A write to bank b of the graph, or to its tag, may take place (R106). -/
def State.pgWritable (s : State) (b : Bool) : Bool := s.flag pgStat 0 != b || s.allLineStopped

/-- A write accepted into bank b clears its CLEAN flag and spoils a check in progress (R106, R107). -/
def State.pgTouched (s : State) (b : Bool) : State :=
  let s := s.setFlag pgStat (if b then 2 else 1) false
  match s.eng.pgChk with
  | some c => if c.bankB = b then { s with eng := { s.eng with pgChk := some { c with dirty := true } } } else s
  | none => s

/-- PG_CHECK: a check of a bank begins, unless one runs (R107). -/
def execPgCheck (bankB : Bool) (s : State) : Host.Outcome State Fault Refusal :=
  let s := s.setFlag 0x200000C 4 bankB
  if s.eng.pgChk.isSome then .next (s.raise pgStat 6)
  else .next (({ s with eng := { s.eng with pgChk := some { bankB := bankB, dirty := false } } } : State).setFlag pgStat 3 true)

/-- PG_CHECK_COMPLETE: CLEAN when no fault was found and the bank was not written meanwhile; the first fault in PG_CHK_RES
(R107). -/
def execPgCheckComplete (s : State) : Host.Outcome State Fault Refusal :=
  match s.eng.pgChk with
  | none => .next s
  | some c =>
    let (code, ix) := s.graphFault c.bankB
    let s := ({ s with eng := { s.eng with pgChk := none } } : State).setFlag pgStat 3 false
    let s := s.setReg 0x2000010 (code * 2 ^ 28 + ix % 4096)
    .next (if code = 0 && !c.dirty then s.setFlag pgStat (if c.bankB then 2 else 1) true else s)

/-- The PG activation at a boundary: the inactive bank becomes active when it is CLEAN, else SW_FAIL (R108). -/
def State.pgSwitch (s : State) : State :=
  let act := s.flag pgStat 0
  if s.flag pgStat (if act then 1 else 2) then s.setFlag pgStat 0 (!act) else s.raise pgStat 5

end Sys2Proof.Machine
end

