-- ==== Sys2Proof/Machine/Operands.lean ====
section
/-! DEFINITION. What the operands of an engine's operations name: threads and their registers, the header vector, local memory,
shared registers and channels (spec/05_engines R110 to R126, 06_engine_isa R161 to R168). -/

namespace Sys2Proof.Machine

/-- The supervisor engine of an avenue (R110). -/
def supEngine : Nat := 34

def engKey (p e : Nat) : Nat := p * 35 + e
def thrKey (p e t : Nat) : Nat := engKey p e * 8 + t

def State.thread (s : State) (p e t : Nat) : Thr := Tab.get {} s.eng.thr (thrKey p e t)

/-- A thread replaced. A thread that leaves BLOCKED_INT rearms its engine's detector (R134). -/
def State.setThread (s : State) (p e t : Nat) (x : Thr) : State :=
  let left := (s.thread p e t).st == .blockedInt && x.st != .blockedInt
  let s := { s with eng := { s.eng with thr := Tab.set {} s.eng.thr (thrKey p e t) x } }
  if left then { s with eng := { s.eng with fired := Tab.set false s.eng.fired (engKey p e) false } } else s

def Thr.reg (x : Thr) (r : Rg) : Dword := Tab.get 0 x.g r.toNat

/-- A g register written with a latency: with a latency above 1 it may be read that many clocks after now (R163, R169). -/
def Thr.wr (x : Thr) (now lat n : Nat) (v : Dword) : Thr :=
  { x with g := Tab.set 0 x.g n v, gReady := Tab.set 0 x.gReady n (if lat ≤ 1 then 0 else now + lat) }

/-- Consecutive g registers written from n on. -/
def Thr.wrList (x : Thr) (now n : Nat) : List Dword → Thr
  | [] => x
  | v :: vs => (x.wr now 1 n v).wrList now (n + 1) vs

/-- Predicate n replaced. -/
def Thr.setPred (x : Thr) (n : Nat) (b : Bool) : Thr :=
  { x with p := BitVec.ofNat 8 (putBits x.p.toNat n n (b2n b)) }

/-- A thread's own packet's slot. -/
def State.thrSlot (s : State) (p : Nat) (x : Thr) : Slot := (s.slot p x.slot).getD {}

/-- The edit script that a thread builds: its packet's, in the slot, or a supervisor thread's own (R177, R182). -/
def State.scriptOf (s : State) (p e : Nat) (x : Thr) : List Byte := if e = supEngine then x.script else (s.thrSlot p x).script

/-- The beat of admission, as beats are counted since reset, of the packet that a thread works on (R40). -/
def State.admOf (s : State) (p e : Nat) (x : Thr) : Nat := if e = supEngine then s.bus.beats else (s.thrSlot p x).admB

/-- A thread's window has not ended: its packet's 1,024 clocks run (R32, R35). A supervisor thread has no packet. -/
def State.inWindow (s : State) (p e : Nat) (x : Thr) : Bool :=
  e == supEngine || (match s.slot p x.slot with
    | some sl => decide (s.bus.ticks < sl.admTick + 1024)
    | none => true)

/-- A thread that has become FREE: it is FREE in the next clock and shows its old state till then (R130, R181). -/
def Thr.freed (x : Thr) (now : Nat) : Thr := { prior := x.st, nextTick := now + 1 }

/-- A blocked thread that becomes READY: it may issue in the next clock (R163, R169). -/
def Thr.ready (x : Thr) (now : Nat) : Thr := { x with st := .ready, wait := .none, nextTick := max x.nextTick (now + 1) }

/-- Access size of HLD, HST, LLD and LST (R167). -/
def memSize (v : BitVec 12) : Nat := 2 ^ (v.toNat / 1024)

/-- Byte order of HLD and HST: little-endian when set (R167). -/
def memLe (v : BitVec 12) : Bool := v.getLsbD 9

/-- The header-vector address of an access (R166). -/
def hvAddr (a : Dword) (v : BitVec 12) : Nat := a.toNat + v.toNat % 512

/-- The local-memory address of an access (R168). -/
def lmAddr (a : Dword) (v : BitVec 12) : Nat := a.toNat + v.toNat % 1024

/-- A range lies within one of the areas that a program may write (R166). -/
def hvWritable (a n : Nat) : Bool :=
  (0x30 ≤ a && a + n ≤ 0x38) || (0x40 ≤ a && a + n ≤ 0x60) || (0xA0 ≤ a && a + n ≤ 0x100)

/-- The number that bytes spell in the order of an access (R167). -/
def orderedNat (le : Bool) (bs : List Byte) : Nat := if le then leNat bs else beNat bs

/-- The bytes of a number in the order of an access (R167). -/
def orderedBytes (le : Bool) (n k : Nat) : List Byte := if le then leBytes n k else beBytes n k

/-- Bytes of local memory that an engine has (R110, R168). -/
def lmSize (e : Nat) : Nat := if e = supEngine then 262144 else 65536

def lmKey (p e a : Nat) : Nat := engKey p e * 2 ^ 18 + a

def sregKey (p e n : Nat) : Nat := engKey p e * 16 + n
def State.sreg (s : State) (p e n : Nat) : Dword := Tab.get 0 s.eng.sreg (sregKey p e n)
def State.setSreg (s : State) (p e n : Nat) (v : Dword) : State :=
  { s with eng := { s.eng with sreg := Tab.set 0 s.eng.sreg (sregKey p e n) v } }

/-! ## Engines and avenues (R111, R112) -/

def aveWin (p : Nat) : Nat := 0x3000000 + p * 0x100000

def engMapReg (p k : Nat) : Nat := aveWin p + 0x100 + k * 4

/-- The physical engine of a logical one (R112); a remap is in service from the next clock (R148). -/
def State.engMap (s : State) (p k : Nat) : Nat := bits (s.regLate (engMapReg p k)) 5 0

/-- The logical engine that a physical engine serves. -/
def State.engLogical (s : State) (p e : Nat) : Option Nat := (List.range 32).find? fun k => s.engMap p k == e

/-- The logical avenue of a physical one (R111). -/
def State.aveLogical (s : State) (p : Nat) : Nat := s.fld (aveWin p + 4) 3 0

/-- An engine is isolated: a write of ISO is in force from the next clock (R135). -/
def State.engIso (s : State) (p e : Nat) : Bool := bitOf (s.regLate (dbgCtl p e)) 24

/-- AVE_FLT_CFG of a logical avenue. -/
def fltCfg (l : Nat) : Nat := 0x30F0100 + l * 4

/-- Entry addresses of a bank (AVE_ENTRY, AVE_SUP_ENTRY). -/
def entryReg (b : Bool) : Nat := if b then 0x30F0018 else 0x30F0014
def supEntryReg (b : Bool) : Nat := if b then 0x30F0020 else 0x30F001C

def psStat : Nat := 0x30F0008

def codeKey (p : Nat) (b : Bool) (a : Nat) : Nat := (p * 2 + b2n b) * 32768 + a
def State.bundle (s : State) (p : Nat) (b : Bool) (a : BitVec 15) : BitVec 128 := Tab.get 0 s.eng.code (codeKey p b a.toNat)

/-! ## Table descriptors (R172, LKP_TD) -/

def tdAddr (n : Nat) : Nat := 0x5001000 + n * 0x20

/-- Table identity n names a table (R172, R193). -/
def State.tdValid (s : State) (n : Nat) : Bool := n < 256 && s.flag (tdAddr n) 31

/-- Key words and response words of a table; a table that is not valid counts one response word (R160). -/
def State.tdKw (s : State) (n : Nat) : Nat := if s.tdValid n then s.fld (tdAddr n) 24 23 + 1 else 1
def State.tdRw (s : State) (n : Nat) : Nat := if s.tdValid n then s.fld (tdAddr n) 22 22 + 1 else 1

def tcmProf (n : Nat) : Nat := 0x8010000 + n * 0x10
def tcmTbl (t : Nat) : Nat := 0x8000100 + t * 4

/-- The table that a search profile names, for a packet admitted in a beat (R40, R228). -/
def State.profTable (s : State) (adm n : Nat) : Nat := bits (s.regAs adm (tcmProf n)) 2 0

/-- A search profile that is defined and names a valid table, while TCM_SCR is RUNNING (R173, R228, R239). -/
def State.profValid (s : State) (adm n : Nat) : Bool :=
  s.scrRunning .tcm && bitOf (s.regAs adm (tcmProf n)) 31 && s.flag (tcmTbl (s.profTable adm n)) 31

/-- Key bytes of a profile's table (R225). -/
def State.profBytes (s : State) (adm n : Nat) : Nat := 10 * 2 ^ s.fld (tcmTbl (s.profTable adm n)) 5 4

/-! ## Channels (R123 to R127) -/

def chanKey (p e c : Nat) : Nat := engKey p e * 16 + c
def State.chan (s : State) (p e c : Nat) : List (List Dword) := Tab.get [] s.eng.chan (chanKey p e c)
def State.setChan (s : State) (p e c : Nat) (q : List (List Dword)) : State :=
  { s with eng := { s.eng with chan := Tab.set [] s.eng.chan (chanKey p e c) q } }

/-- Messages that a channel holds (R123, R127). -/
def chanDepth (e c : Nat) : Nat :=
  if e = supEngine then
    match c with
    | 0 => 64 | 1 => 32 | 2 => 256 | 3 => 16 | 4 => 16 | _ => 4
  else 4

/-- The engine and channel at which a message of engine e on channel c arrives: ch15 of a packet engine leads to the supervisor's
ch2, and the supervisor's ch5 to ch15 of the engine that the message names (R123, R127). -/
def State.chanTarget (s : State) (p e c : Nat) (msg : List Dword) : Nat × Nat :=
  if e = supEngine then
    if c = 5 then (s.engMap p ((msg.headD 0).toNat / 2 ^ 59), 15) else (e, c)
  else if c = 15 then (supEngine, 2) else (e, c)

/-- A message as delivered: ch15 puts the sender's logical engine in word 0 bits 63:59 (R127); ch4 of a supervisor puts the sending
logical avenue in bits 55:52 (R417). -/
def State.chanWords (s : State) (p e c : Nat) (msg : List Dword) : List Dword :=
  if e ≠ supEngine && c = 15 then
    match msg with
    | w :: t => BitVec.ofNat 64 (w.toNat % 2 ^ 59 + (s.engLogical p e).getD 0 % 32 * 2 ^ 59) :: t
    | [] => []
  else if e = supEngine && c = 4 then
    match msg with
    | w :: t => BitVec.ofNat 64 (putBits w.toNat 55 52 (s.aveLogical p)) :: t
    | [] => []
  else msg

/-- A thread that is blocked. -/
def Thr.blocked (x : Thr) : Bool := x.st == .blockedInt || x.st == .blockedExt

/-- A thread that waits to receive on a channel. -/
def Thr.waitsOn (x : Thr) (c : Nat) : Bool := x.blocked && (match x.wait with | .recv ch _ => ch == c | _ => false)

/-- The thread of an engine that has waited longest on a channel; the lower number of two (R126). -/
def State.waiter (s : State) (p e c : Nat) : Option Nat :=
  (List.range 8).foldl (fun o t =>
    let x := s.thread p e t
    if x.waitsOn c && s.inWindow p e x then
      match o with
      | none => some t
      | some u => if x.waitSince < (s.thread p e u).waitSince then some t else some u
    else o) none

/-- A received message in rd to rd + 3, unused words 0; the thread is READY and may read them in the next clock (R169, R176). -/
def Thr.receive (x : Thr) (now rd : Nat) (msg : List Dword) : Thr :=
  (x.wrList now rd [msg.getD 0 0, msg.getD 1 0, msg.getD 2 0, msg.getD 3 0]).ready now

/-- A message placed on a channel of an engine: to the thread that waits longest, or to the queue (R126). -/
def State.putMsg (s : State) (p e c : Nat) (msg : List Dword) : State :=
  match s.waiter p e c with
  | some t =>
    let x := s.thread p e t
    match x.wait with
    | .recv _ rd => s.setThread p e t (x.receive s.bus.ticks rd msg)
    | _ => s
  | none => s.setChan p e c (s.chan p e c ++ [msg])

/-- Whether a channel has room for a message: a waiting receiver takes it, or the queue does (R125). -/
def State.chanRoom (s : State) (p e c : Nat) : Bool :=
  (s.waiter p e c).isSome || (s.chan p e c).length < chanDepth e c

/-- The channel on which a blocked thread waits to commit its staged message. -/
def Thr.commits (x : Thr) : Option Nat :=
  match x.wait with
  | .commit ch => if x.blocked then some ch else none
  | _ => none

/-- A blocked thread commits its staged message, when its channel has room and its window has not ended (R35, R125). -/
def State.commitBlocked (s : State) (p e t : Nat) : State :=
  let x := s.thread p e t
  match x.commits with
  | none => s
  | some ch =>
    let (te, tc) := s.chanTarget p e ch x.stage
    if s.inWindow p e x && s.chanRoom p te tc then
      (s.setThread p e t { x.ready s.bus.ticks with stage := [] }).putMsg p te tc (s.chanWords p e ch x.stage)
    else s

/-- The threads that wait to commit to channels, by key: physical avenue, engine, thread. -/
def State.committers (s : State) : List Nat := (s.eng.thr.filter fun x => x.2.commits.isSome).map (·.1)

/-- Every waiting commit that has room takes place, in the order of the thread numbers, of two engines the lower number first (R125).
DESIGN CHOICE, log 77: the spec orders threads of one engine only. -/
def State.commitWaiting (s : State) : State :=
  s.committers.foldl (fun s k => s.commitBlocked (k / 280) (k / 8 % 35) (k % 8)) s

/-- The waiting commits of an avenue to a channel by lower-numbered threads, which go before a commit of this clock (R125). -/
def State.commitBefore (s : State) (p te tc key : Nat) : State :=
  (s.committers.filter fun k => k / 280 == p && k < key
      && (let x := Tab.get {} s.eng.thr k; (s.chanTarget p (k / 8 % 35) (x.commits.getD 0) x.stage) == (te, tc))).foldl
    (fun s k => s.commitBlocked p (k / 8 % 35) (k % 8)) s

end Sys2Proof.Machine
end

