-- ==== Sys2Proof/Machine/TableAddr.lean ====
section
/-! DEFINITION. Where a lookup reads: 64-byte words, the update overlay over them, the buckets of a hash table and the bank
queues (spec/07_tables R185 to R190, R197 to R201, R215 to R217). -/

namespace Sys2Proof.Machine

/-! ## Words of 64 bytes -/

/-- The 64-bit word i of a line. -/
def lineWord (l : Line) (i : Nat) : Nat := l.toNat / 2 ^ (64 * i) % 2 ^ 64

/-- The number of k bytes of a line from byte j, little-endian. -/
def lineField (l : Line) (j k : Nat) : Nat := l.toNat / 2 ^ (8 * j) % 2 ^ (8 * k)

/-- The line that 64-bit words spell, first word in the lowest bytes. -/
def lineOf : List Nat → Nat
  | [] => 0
  | w :: t => w % 2 ^ 64 + 2 ^ 64 * lineOf t

/-- A byte mask as a mask of bits. -/
def maskLine (m : BitVec 64) : Line :=
  (List.range 64).foldl (fun a j => if m.getLsbD j then a ||| (0xFF#512 <<< (8 * j)) else a) 0

/-- The bytes that a mask names from one line, the others from another. -/
def mergeLine (old new : Line) (m : BitVec 64) : Line := (new &&& maskLine m) ||| (old &&& ~~~(maskLine m))

/-- The mask of k bytes from byte j. -/
def byteMask (j k : Nat) : BitVec 64 := BitVec.ofNat 64 ((2 ^ k - 1) * 2 ^ j)

/-- Words of lookup SRAM; words above them in this numbering are those of the lookup extension. -/
def sramWords : Nat := 2 ^ 21

/-! ## Descriptors (R194, LKP_TD) -/

def State.tdKind (s : State) (n : Nat) : Nat := s.fld (tdAddr n) 30 28
def State.tdBridged (s : State) (n : Nat) : Bool := s.flag (tdAddr n) 27
/-- Bytes of an entry. -/
def State.tdEsize (s : State) (n : Nat) : Nat := 8 * 2 ^ s.fld (tdAddr n) 26 25
def State.tdFirst (s : State) (n : Nat) : Nat := s.fld (tdAddr n) 17 12
def State.tdBanks (s : State) (n : Nat) : Nat := s.fld (tdAddr n) 11 5
def State.tdDram (s : State) (n : Nat) : Bool := s.flag (tdAddr n) 4
def State.tdBase (s : State) (n : Nat) : Nat := s.tdFirst n * 32768
def State.tdDramBase (s : State) (n : Nat) : Nat := s.fld (tdAddr n + 0x18) 20 0 * 64
def State.tdDramSize (s : State) (n : Nat) : Nat := s.fld (tdAddr n + 0x1C) 20 0 * 64

/-- A hash table whose descriptor makes it a MAC table (R201). -/
def State.tdMac (s : State) (n : Nat) : Bool := s.tdKind n == 2 && s.tdBridged n && s.tdEsize n == 16

/-! ## The tables that words belong to (R196) -/

/-- Descriptor n holds a bank (R196). -/
def State.holdsBank (s : State) (n bank : Nat) : Bool :=
  s.tdValid n && s.tdFirst n ≤ bank && bank < s.tdFirst n + s.tdBanks n

/-- Descriptor n's DRAM range holds a word of the lookup extension. -/
def State.holdsDram (s : State) (n i : Nat) : Bool :=
  s.tdValid n && s.tdDram n && s.tdDramBase n ≤ i && i < s.tdDramBase n + s.tdDramSize n

/-- The table that a word belongs to, in the overlay's numbering. -/
def State.wordTable (s : State) (w : Nat) : Option Nat :=
  (List.range 256).find? fun n => if w < sramWords then s.holdsBank n (w / 32768) else s.holdsDram n (w - sramWords)

/-! ## What words hold, under the overlay (R217) -/

/-- What the agent wrote into a word of a FIB at its last publication; 0 of any other word (R205). -/
def State.fibBase (s : State) (w : Nat) : Line :=
  if s.tbl.fibGen = 0 then 0
  else match s.wordTable w with
    | some n => if s.tdKind n == 3 || s.tdKind n == 4 then Config.fibWord s.tbl.fibGen w else 0
    | none => 0

/-- What a bank or the lookup extension itself holds: a FIB's word is kept as its difference from what the agent wrote. -/
def State.rawWord (s : State) (w : Nat) : Line :=
  (if w < sramWords then Tab.get 0 s.tbl.sram w else Tab.get 0 s.tbl.dram (w - sramWords)) ^^^ s.fibBase w

/-- A word of a bank or of the lookup extension replaced. -/
def State.setRaw (s : State) (w : Nat) (l : Line) : State :=
  let d := l ^^^ s.fibBase w
  if w < sramWords then { s with tbl := { s.tbl with sram := Tab.set 0 s.tbl.sram w d } }
  else { s with tbl := { s.tbl with dram := Tab.set 0 s.tbl.dram (w - sramWords) d } }

/-- A word with the overlay entries that a reader sees, oldest first. -/
def overlaid (ovl : List Ovl) (see : Ovl → Bool) (w : Nat) (l : Line) : Line :=
  ovl.foldl (fun l o => if o.word = w && see o then mergeLine l o.data o.mask else l) l

/-- A bank read: committed entries over the bank's bytes (R217). -/
def State.bankWord (s : State) (w : Nat) : Line := overlaid s.tbl.ovl (·.committed) w (s.rawWord w)

/-- What the hash unit sees: its own staged writes too (R257). -/
def State.hashWord (s : State) (w : Nat) : Line := overlaid s.tbl.ovl (fun o => o.committed || o.writer == 2) w (s.rawWord w)

/-! ## Hash buckets (R200) -/

/-- The key words of a table, as they are stored, hashed and compared: bit 63 is 0 in a table of 16-byte entries (R200, R201). -/
def State.tdKey (s : State) (n : Nat) (key : List Nat) : List Nat :=
  if s.tdEsize n = 16 then [key.headD 0 % 2 ^ 63] else key.take (s.tdKw n)

/-- The bytes of a key for the hash: words in order, each most significant byte first. -/
def keyBytes (key : List Nat) : List Byte := key.flatMap fun w => beBytes w 8

/-- The word addresses of a key's buckets: A, B and, with DRAM, the DRAM bucket (R200). -/
def State.hashBuckets (s : State) (n : Nat) (key : List Nat) : List Nat :=
  let bs := keyBytes (s.tdKey n key)
  let half := s.tdBanks n / 2 * 32768
  let a := s.reg (tdAddr n + 8)
  let b := s.reg (tdAddr n + 0xC)
  let h := fun (seed : Nat) => (crc32 (BitVec.ofNat 32 seed) bs).toNat
  [s.tdBase n + h a % half, s.tdBase n + half + h b % half]
    ++ (if s.tdDram n then [sramWords + s.tdDramBase n + h (a ^^^ b) % s.tdDramSize n] else [])

/-- READS of a descriptor, from its KIND and DRAM (R194). -/
def State.tdReads (s : State) (n : Nat) : Nat :=
  match s.tdKind n with
  | 1 => 1
  | 2 => if s.tdDram n then 3 else 2
  | 3 => 4
  | 4 => 6
  | 5 => 2
  | _ => 0

/-! ## The queues of the lookup banks (R187, R188), the policer banks (R191) and the TCAM tables (R229) -/

/-- The word of a FIB's banks that the lookup of a key reads at a depth: where the agent places its nodes is not visible (R205). -/
def State.fibNode (s : State) (n : Nat) (key : List Nat) (depth : Nat) : Nat :=
  s.tdBase n + Config.fibNode (key.headD 0) (key.getD 1 0) (key.getD 2 0) depth % (max (s.tdBanks n) 1 * 32768)

/-- The words of lookup SRAM that a lookup reads first; a hash table's two buckets in parallel (R194, R197, R198, R200). -/
def State.firstReads (s : State) (n : Nat) (key : List Nat) : List Nat :=
  match s.tdKind n with
  | 1 => [s.tdBase n + (key.headD 0 % 2 ^ s.fld (tdAddr n + 4) 31 27) * s.tdEsize n / 64]
  | 2 => (s.hashBuckets n key).take 2
  | 3 | 4 => [s.fibNode n key 0]
  | 5 => [s.tdBase n + key.headD 0 % 65536 / 8]
  | _ => []

/-- A read of a word of lookup SRAM. -/
def readTurn (w now : Nat) : Turn := { bank := w / 32768, word := w, since := now }

/-- The turns that a request asks for as it is issued, for a packet admitted in a beat. -/
def State.turnsFor (s : State) (adm : Nat) (q : Req) : List Turn :=
  match q.kind with
  | .lkp =>
    if s.scrRunning .lkp && s.tdValid q.id then (s.firstReads q.id (q.key.map (·.toNat))).map fun w => readTurn w s.bus.ticks else []
  | .pol => [{ bank := 64 + q.id % 16, since := s.bus.ticks }]
  | .tcs => if s.profValid adm q.id then [{ bank := 128 + s.profTable adm q.id, since := s.bus.ticks }] else []
  | .stat => []

/-- A turn not yet served, with where it stands: the thread's key, the request's place and the turn's. -/
structure TurnRef where
  key : Nat
  req : Nat
  ix : Nat
  turn : Turn
  deriving DecidableEq, Repr

/-- The turns at a bank of the threads whose keys satisfy a test. -/
def State.turnsOf (s : State) (who : Nat → Bool) (bank : Nat) : List TurnRef :=
  s.eng.thr.flatMap fun e =>
    if who e.1 then
      e.2.reqs.zipIdx.flatMap fun q => q.1.turns.zipIdx.filterMap fun r =>
        if r.1.bank = bank && r.1.got.isNone then some { key := e.1, req := q.2, ix := r.2, turn := r.1 } else none
    else []

/-- The oldest of a list of turns by a measure; of equals the first, in the order of avenue, engine, thread and request. -/
def oldestTurn (f : Turn → Nat) (l : List TurnRef) : Option TurnRef :=
  l.foldl (fun o x => match o with
    | none => some x
    | some y => if f x.turn < f y.turn then some x else o) none

/-- Request i of the thread with a key changed. -/
def State.modReq (s : State) (key i : Nat) (f : Req → Req) : State :=
  let x := Tab.get {} s.eng.thr key
  match x.reqs[i]? with
  | none => s
  | some q => { s with eng := { s.eng with thr := Tab.set {} s.eng.thr key { x with reqs := setAt x.reqs i (f q) } } }

/-- A turn replaced. -/
def State.putTurn (s : State) (r : TurnRef) : State := s.modReq r.key r.req fun q => { q with turns := setAt q.turns r.ix r.turn }

/-- The turns that a queue holds. -/
def State.queued (s : State) (who : Nat → Bool) (bank : Nat) : List TurnRef := (s.turnsOf who bank).filter (·.turn.inAt.isSome)

/-- The turn that is next in a queue: the one that entered first (R188, R191, R229). -/
def State.nextQueued (s : State) (who : Nat → Bool) (bank : Nat) : Option TurnRef :=
  oldestTurn (fun t => t.inAt.getD 0) (s.queued who bank)

/-- The oldest waiting turn enters a queue of 4 that has room. -/
def State.enterOne (s : State) (who : Nat → Bool) (bank : Nat) : State :=
  if 4 ≤ (s.queued who bank).length then s
  else match oldestTurn (·.since) ((s.turnsOf who bank).filter (·.turn.inAt.isNone)) with
    | none => s
    | some r => s.putTurn { r with turn := { r.turn with inAt := some s.bus.ticks } }

/-- Waiting turns enter a queue as far as it has room. -/
def State.enterBank (s : State) (who : Nat → Bool) (bank : Nat) : State := (List.range 4).foldl (fun s _ => s.enterOne who bank) s

/-- The threads of a logical avenue; the threads of an engine. -/
def State.ofAvenue (s : State) (l : Nat) (key : Nat) : Bool := s.aveLogical (key / 280) == l
def ofEngine (p e : Nat) (key : Nat) : Bool := key / 8 == engKey p e

/-- Whose queue a turn at a bank stands in: the avenue's, or at a TCAM table the engine's. -/
def State.queueOf (s : State) (p e bank : Nat) : Nat → Bool := if bank < 128 then s.ofAvenue (s.aveLogical p) else ofEngine p e

/-- A lookup that names the learned table with bit 63 of its key set (R251). -/
def State.isProbe (s : State) (q : Req) : Bool :=
  q.kind == .lkp && q.id == s.fld 0xA000000 15 8 && bitOf (q.key.headD 0).toNat 63

/-- A request as a packet's thread issues it: the first of a pass that is a learn probe is the pass's probe (R251). -/
def State.noteProbe (s : State) (p e t : Nat) (q : Req) : State × Req :=
  let x := s.thread p e t
  match s.slot p x.slot with
  | some sl =>
    if e ≠ supEngine && s.isProbe q && !sl.probed then (s.setSlot p x.slot (some { sl with probed := true }), { q with probe := true }) else (s, q)
  | none => (s, q)

/-- Request i of a thread asks for turns: they enter their queues, or wait, each wait of a lookup read counted (R188, R191, R229). -/
def State.addTurns (s : State) (p e t i : Nat) (ts : List Turn) : State :=
  let x := s.thread p e t
  match x.reqs[i]? with
  | none => s
  | some q =>
    let s := s.setThread p e t { x with reqs := setAt x.reqs i { q with turns := q.turns ++ ts } }
    let s := (ts.map (·.bank)).eraseDups.foldl (fun s b => s.enterBank (s.queueOf p e b) b) s
    let now := (((s.thread p e t).reqs[i]?).map (·.turns)).getD []
    let waits := ((now.drop q.turns.length).filter (·.inAt.isNone)).length
    if q.kind = .lkp && waits ≠ 0 then s.count 0x50 0x40 (s.aveLogical p) waits else s

/-- A request takes its place among those outstanding. A STAT update goes into its avenue's queue, of which 2 enter in a clock and which
holds 64: it is outstanding while it waits for that (R175, R192). -/
def State.sendReq (s : State) (p e t : Nat) (q : Req) : State :=
  let x := s.thread p e t
  match q.kind with
  | .stat =>
    let l := s.aveLogical p
    let k := Tab.get [] s.tbl.statQ l
    let wait := 64 ≤ k.length || k.any (·.thr.isSome) || 2 ≤ s.uses (.stat l)
    let u : StatUpdate :=
      { pair := q.id, bytes := (q.key.headD 0).toNat % 2 ^ 14, thr := (if wait then some (p, e, t) else none), tick := q.tick }
    let s : State := { s with tbl := { s.tbl with statQ := Tab.set [] s.tbl.statQ l (k ++ [u]) } }
    if wait then s.setThread p e t { x with reqs := x.reqs ++ [q] } else s.use (.stat l)
  | _ => (s.setThread p e t { x with reqs := x.reqs ++ [q] }).addTurns p e t x.reqs.length (s.turnsFor (s.admOf p e x) q)

/-- A request issued: as the ninth it holds its thread until a response arrives (R121). -/
def State.request (s0 : State) (p e t : Nat) (q0 : Req) : State :=
  let (s, q) := s0.noteProbe p e t q0
  let x := s.thread p e t
  if x.reqs.length < 8 then s.sendReq p e t q else s.setThread p e t { x with st := .blockedExt, wait := .ninth q }

end Sys2Proof.Machine
end

