-- ==== Sys2Proof/Machine/Isa.lean ====
section
/-! DEFINITION. Issue of bundles, the operations of the engine instruction set, faults and traces (spec/05_engines R119 to R134,
06_engine_isa R158 to R182, 20_counters_sampling R513 to R516). -/

namespace Sys2Proof.Machine

/-! ## Faults of threads (R128 to R132) -/

/-- The four words of a fault record, or of a notice (R128, R133). -/
def faultRecord (code eng thr pc : Nat) (cbank : Bool) (sl : Slot) (slot opslot pass : Nat) (sup : Bool) (detail : Nat) :
    List Dword :=
  [BitVec.ofNat 64 (code + eng % 32 * 2 ^ 8 + thr % 8 * 2 ^ 13 + pc % 2 ^ 15 * 2 ^ 16 + b2n cbank * 2 ^ 31
      + (if sup then 0 else sl.admBeat % 2 ^ 32 * 2 ^ 32)),
    BitVec.ofNat 64 ((if sup then 0 else sl.admClk % 256 + slot % 1024 * 2 ^ 8 + pass % 4 * 2 ^ 20) + opslot % 4 * 2 ^ 18
      + b2n sup * 2 ^ 22),
    BitVec.ofNat 64 detail]

/-- A fault record sent to the supervisor's ch0: delivered with the count of lost records, or lost (R128, R131). -/
def State.sendFault (s : State) (p : Nat) (r : List Dword) : State :=
  let lost := Tab.get 0 s.eng.lost p
  if s.chanRoom p supEngine 0 then
    let s := s.putMsg p supEngine 0 (r ++ [BitVec.ofNat 64 lost])
    ({ s with eng := { s.eng with lost := Tab.set 0 s.eng.lost p 0 } } : State).writtenAny 12
  else
    ({ s with eng := { s.eng with lost := Tab.set 0 s.eng.lost p (min (lost + 1) 0xFFFFFFFF) } } : State).raise (aveStat p) 2

/-- The fault disposition of a logical avenue for a packet admitted in a beat (R40, R130). -/
def State.faultDisp (s : State) (l adm code : Nat) : Disp :=
  let r := s.regAs adm (fltCfg l)
  if bitOf r 0 then .punt (bits r 21 16) code 3 false 0x30 0x03 else .drop 0x30 0x03 false

/-- A supervisor thread as it starts: at SUP_ENTRY of the active bank, g0 its number (R165). -/
def State.supThread (s : State) (t : Nat) : Thr :=
  let b := s.flag psStat 0
  { st := .ready, g := Tab.set 0 [] 0 (BitVec.ofNat 64 t), pc := BitVec.ofNat 15 (s.fld (supEntryReg b) 14 0), cbank := b,
    lastTick := s.bus.ticks, dispTick := s.bus.ticks, nextTick := s.bus.ticks + 1 }

/-- The disposition that ends a packet's program: its slot keeps it to the end of the window (R113, R180). -/
def State.dispose (s : State) (p slot : Nat) (d : Disp) (script : List Byte) : State :=
  match s.slot p slot with
  | none => s
  | some sl => s.setSlot p slot (some { sl with phase := .done, disp := some d, script := script })

/-- A fault of a thread (R130): the thread is free in the next clock, its work is discarded, the record goes to ch0 and the packet gets the
fault disposition, unless its deadline has come; a supervisor thread restarts (R132). -/
def State.threadFault (s : State) (p e t code detail opslot pc : Nat) : State :=
  let x := s.thread p e t
  let s := s.raise (aveStat p) 1
  if e = supEngine then
    (s.setThread p e t (s.supThread t)).sendFault p (faultRecord code 0 t pc x.cbank {} 0 opslot 0 true detail)
  else
    let own := (s.thrSlot p x).phase == .running e t
    let sl := if own then s.thrSlot p x else {}
    let pass := if own then (s.pkt sl.pkt).pass else 0
    let d := s.faultDisp (s.aveLogical p) sl.admB code
    let s := s.setThread p e t (x.freed s.bus.ticks)
    let s := if own then s.dispose p x.slot d [] else s
    s.sendFault p (faultRecord code ((s.engLogical p e).getD 0) t pc x.cbank sl x.slot opslot pass false detail)

/-! ## Faults that an operation meets at issue (R158, R166, R168, R172 to R177, R180, R182) -/

/-- The channel that a send names is receive-only, or the staged words belong to another channel or are four already. -/
def sendMisuse (x : Thr) (e c : Nat) : Bool :=
  (e == supEngine && c ≤ 3) || (x.stage.length != 0 && x.stageCh != c) || 4 ≤ x.stage.length

/-- A receive from a send-only channel (R127, R176). -/
def recvMisuse (e c : Nat) : Bool := e == supEngine && (c == 4 || c == 5)

/-- Replication lists configured (R180, LKP_REPL_CFG). -/
def State.replLists (s : State) : Nat := min (s.fld 0x5000014 16 0) 65536

/-- The field of a disposition word that is out of its range (R180). -/
def State.badDisp (s : State) (kind : Nat) (w : Nat) : Option Nat :=
  match kind with
  | 0 => if 1048576 ≤ bits w 20 0 then some (bits w 20 0) else if bits w 41 40 = 3 then some 3 else none
  | 1 => if s.replLists ≤ bits w 19 0 then some (bits w 19 0) else if bits w 41 40 = 3 then some 3 else none
  | 2 => if 64 ≤ bits w 7 0 then some (bits w 7 0) else none
  | _ => none

/-- The fault of an operation whose guard is true: code and DETAIL; low is the bundle's bits 63:0. -/
def State.opFault (s : State) (p e : Nat) (x : Thr) (low : Nat) : Op → Option (Nat × Nat)
  | .mem fn _ ra v =>
    match fn with
    | .hld =>
      if e = supEngine then some (1, low)
      else if 512 < hvAddr (x.reg ra) v + memSize v then some (2, hvAddr (x.reg ra) v) else none
    | .hst =>
      if e = supEngine then some (1, low)
      else if !hvWritable (hvAddr (x.reg ra) v) (memSize v) then some (2, hvAddr (x.reg ra) v) else none
    | _ =>
      let a := lmAddr (x.reg ra) v
      if a % memSize v ≠ 0 || lmSize e ≤ a then some (3, a) else none
  | .eput _ => if 64 ≤ (s.scriptOf p e x).length then some (8, 72) else none
  | .eset _ k => if (s.scriptOf p e x).length ≤ 8 * k.toNat then some (8, 8 * (k.toNat + 1)) else none
  | .lkp rd ra tb =>
    if !s.tdValid tb.toNat then some (7, rd.toNat + tb.toNat * 2 ^ 16)
    else if 32 < ra.toNat + s.tdKw tb.toNat || 32 < rd.toNat + s.tdRw tb.toNat then some (1, low) else none
  | .tcs rd hoff prof =>
    if e = supEngine then some (1, low)
    else if !s.profValid (s.admOf p e x) prof.toNat then some (7, rd.toNat)
    else if 512 < hoff.toNat * 8 + s.profBytes (s.admOf p e x) prof.toNat then some (2, hoff.toNat * 8) else none
  | .send _ _ ch => if sendMisuse x e ch.toNat then some (4, ch.toNat) else none
  | .recv _ ch => if recvMisuse e ch.toNat then some (4, ch.toNat) else none
  | .recvt _ _ ch => if recvMisuse e ch.toNat then some (4, ch.toNat) else none
  | .abort _ => if e = supEngine then none else some (1, low)
  | .disp kind ra =>
    if e = supEngine then some (1, low) else (s.badDisp kind.toNat (x.reg ra).toNat).map fun d => (9, d)
  | _ => none

/-! ## The effect of an operation (R169) -/

/-- The state of a thread that waits on a channel: BLOCKED_EXT to receive on a packet engine's ch15 or to commit to a supervisor's channel,
its own ch2 or, of a supervisor, ch4 and ch5; BLOCKED_INT otherwise (R120, R123). A supervisor's wait to receive on ch0 to ch3, of which the
table of R120 says nothing, is taken as BLOCKED_INT. DESIGN CHOICE, log 78. -/
def waitState (e c : Nat) : ThrState :=
  if (e ≠ supEngine && c = 15) || (e = supEngine && (c = 4 || c = 5)) then .blockedExt else .blockedInt

/-- The last word of a message: committed when the channel has room, after the commits that lower-numbered threads have waiting for it; else
the thread blocks with it staged (R124, R125). -/
def State.commit (s : State) (p e t c : Nat) : State :=
  let x := s.thread p e t
  let (te, tc) := s.chanTarget p e c x.stage
  let s := s.commitBefore p te tc (thrKey p e t)
  if s.chanRoom p te tc then
    let msg := s.chanWords p e c x.stage
    (s.setThread p e t { x with stage := [] }).putMsg p te tc msg
  else s.setThread p e t { x with st := waitState e c, wait := .commit c, waitSince := s.bus.ticks }

/-- The disposition that a word gives (R180). -/
def dispOf (kind w : Nat) : Disp :=
  match kind with
  | 0 => .fwd (bits w 20 0) (bits w 39 24) (bits w 41 40) (bits w 47 44)
  | 1 => .repl (bits w 19 0) (bits w 41 40)
  | 2 => .punt (bits w 7 0) (bits w 23 8) 0 true 0x06 0x01
  | 3 => .recirc
  | _ => .drop 0x30 (bits w 7 0) true

/-- An abort of a packet thread by a supervisor thread: a fault with code ABORT, none for a FREE thread (R132). The record names the bundle
that the thread issued last, and slot 0: no bundle faulted. DESIGN CHOICE, log 79. -/
def State.abortThread (s : State) (p t w : Nat) : State :=
  let e := s.engMap p (w % 32)
  let u := bits w 10 8
  let y := s.thread p e u
  if y.st = .free then s else s.threadFault p e u 0x0A t 0 y.lastPc.toNat

/-- A thread of an isolated engine stops at a breakpoint; elsewhere the breakpoint is counted (R141). -/
def State.breakpoint (s : State) (p e t : Nat) : State :=
  if s.engIso p e then
    let x := s.thread p e t
    s.setThread p e t { x with st := .halted, prior := x.st }
  else s.count 0x30 0x43 (s.aveLogical p) 1

/-- A message received from a channel (R176): the oldest in the queue; none when it is empty. -/
def State.takeMsg (s : State) (p e c : Nat) : Option (List Dword × State) :=
  match s.chan p e c with
  | [] => none
  | m :: q => some (m, s.setChan p e c q)

/-- A thread changed by a function. -/
def State.modThread (s : State) (p e t : Nat) (f : Thr → Thr) : State := s.setThread p e t (f (s.thread p e t))

/-- A thread's edit script changed by a function (R177, R182). -/
def State.modScript (s : State) (p e t slot : Nat) (f : List Byte → List Byte) : State :=
  if e = supEngine then s.modThread p e t fun y => { y with script := f y.script }
  else match s.slot p slot with
    | none => s
    | some sl => s.setSlot p slot (some { sl with script := f sl.script })

/-- A script with word k replaced. -/
def scriptSet (sc : List Byte) (k : Nat) (w : Dword) : List Byte :=
  sc.take (8 * k) ++ beBytes w.toNat 8 ++ sc.drop (8 * k + 8)

/-- Bytes of the slot's header vector written from an address. -/
def State.writeHv (s : State) (p slot a : Nat) (bs : List Byte) : State :=
  match s.slot p slot with
  | none => s
  | some sl => s.setSlot p slot (some { sl with hv := Tab.setList 0 sl.hv a bs })

/-- The effect of an operation whose guard is true and which does not fault. Sources are read from s0 and x, the state and the
thread at the start of the issue clock (R159); s carries the effects of the bundle's earlier operations. -/
def State.opApply (s0 : State) (p e t : Nat) (x : Thr) (lit : Word) (o : Op) (s : State) : State :=
  let now := s0.bus.ticks
  let wr := fun (rd : Rg) (lat : Nat) (v : Dword) => s.modThread p e t fun y => y.wr now lat rd.toNat v
  let pr := fun (pd : Pr) (b : Bool) => s.modThread p e t fun y => y.setPred pd.toNat b
  let req := fun (k : ReqKind) (rd : Rg) (rw id : Nat) (key : List Dword) (bs : List Byte) =>
    ({ kind := k, rd := rd.toNat, rw := rw, id := id, key := key, bytes := bs, tick := now, pc := x.pc.toNat, cbank := x.cbank } : Req)
  match o with
  | .nop => s
  | .alu fn rd ra rb => wr rd (aluLatency fn) (aluResult fn (x.reg ra) (x.reg rb))
  | .imm fn rd ra v => wr rd 1 (immResult fn (x.reg ra) v)
  | .shift fn rd ra sh => wr rd 1 (shiftResult fn (x.reg ra) sh)
  | .ext rd ra pos len1 => wr rd 1 (extResult (x.reg ra) pos len1)
  | .ins rd ra pos len1 => wr rd 1 (insResult (x.reg rd) (x.reg ra) pos len1)
  | .movi rd v => wr rd 1 (v.signExtend 64)
  | .limm rd => wr rd 1 (lit.signExtend 64)
  | .limmh rd => wr rd 1 (BitVec.ofNat 64 ((x.reg rd).toNat % 2 ^ 32 + lit.toNat * 2 ^ 32))
  | .cmp cond pd ra rb => pr pd (condResult cond.toNat (x.reg ra) (x.reg rb))
  | .cmpi cond pd ra v => pr pd (condResult cond.toNat (x.reg ra) (v.signExtend 64))
  | .plog fn pd pa pb => pr pd (plogResult fn.toNat (x.p.getLsbD pa.toNat) (x.p.getLsbD pb.toNat))
  | .movp rd => wr rd 1 (x.p.setWidth 64)
  | .pmov ra => s.modThread p e t fun y => { y with p := (x.reg ra).setWidth 8 }
  | .rds rd n => wr rd 1 (s0.sreg p e n.toNat)
  | .wrs n rb => s.setSreg p e n.toNat (x.reg rb)
  | .fadds rd n rb => (wr rd 1 (s0.sreg p e n.toNat)).setSreg p e n.toNat (s0.sreg p e n.toNat + x.reg rb)
  | .mem fn rd ra v =>
    match fn with
    | .hld =>
      wr rd 2 (BitVec.ofNat 64 (orderedNat (memLe v) (Tab.getList 0 (s0.thrSlot p x).hv (hvAddr (x.reg ra) v) (memSize v))))
    | .hst => s.writeHv p x.slot (hvAddr (x.reg ra) v) (orderedBytes (memLe v) (x.reg rd).toNat (memSize v))
    | .lld => wr rd 2 (BitVec.ofNat 64 (leNat (Tab.getList 0 s0.eng.lm (lmKey p e (lmAddr (x.reg ra) v)) (memSize v))))
    | .lst =>
      { s with eng := { s.eng with
          lm := Tab.setList 0 s.eng.lm (lmKey p e (lmAddr (x.reg ra) v)) (leBytes (x.reg rd).toNat (memSize v)) } }
  | .eput ra => s.modScript p e t x.slot fun sc => sc ++ beBytes (x.reg ra).toNat 8
  | .eset ra k => s.modScript p e t x.slot fun sc => scriptSet sc k.toNat (x.reg ra)
  | .eclr => s.modScript p e t x.slot fun _ => []
  | .lkp rd ra tb =>
    s.request p e t (req .lkp rd (s0.tdRw tb.toNat) tb.toNat ((List.range (s0.tdKw tb.toNat)).map fun i => Tab.get 0 x.g (ra.toNat + i)) [])
  | .tcs rd hoff prof =>
    s.request p e t (req .tcs rd 1 prof.toNat [] (Tab.getList 0 (s0.thrSlot p x).hv (hoff.toNat * 8)
      (s0.profBytes (s0.admOf p e x) prof.toNat)))
  | .pol rd ra => s.request p e t (req .pol rd 1 ((x.reg ra).toNat % 2 ^ 20) [x.reg ra] [])
  | .stat ra rb =>
    let a := (x.reg ra).toNat
    if a / 2 ^ 25 ≠ 0 then s.count 0x30 0x44 (s.aveLogical p) 1
    else s.request p e t (req .stat ⟨0, by decide⟩ 0 a [x.reg rb] [])
  | .waitr => s.modThread p e t fun y => if y.reqs = [] then y else { y with st := .blockedExt, wait := .all }
  | .send ra last ch =>
    let s := s.modThread p e t fun y => { y with stage := y.stage ++ [x.reg ra], stageCh := ch.toNat }
    if last then s.commit p e t ch.toNat else s
  | .recv rd ch =>
    match s.takeMsg p e ch.toNat with
    | some (m, s) => s.modThread p e t fun y => y.receive now rd.toNat m
    | none => s.modThread p e t fun y =>
        { y with st := waitState e ch.toNat, wait := .recv ch.toNat rd.toNat, waitSince := now }
  | .recvt rd pd ch =>
    match s.takeMsg p e ch.toNat with
    | some (m, s) => s.modThread p e t fun y => (y.receive now rd.toNat m).setPred pd.toNat true
    | none => pr pd false
  | .abort ra => s.abortThread p t (x.reg ra).toNat
  | .brk => s.breakpoint p e t
  | .br _ => s
  | .call rl _ => wr rl 1 (BitVec.ofNat 64 (x.pc.toNat + 1))
  | .loop rl _ => wr rl 1 (x.reg rl - 1)
  | .jmp _ => s
  | .disp _ _ => s

/-- Where a control operation of the bundle leads, when it is taken (R164, R169). -/
def branchTarget (x : Thr) : Op → Option (BitVec 15)
  | .br target => some target
  | .call _ target => some target
  | .loop rl target => if x.reg rl - 1 = 0 then none else some target
  | .jmp rl => some ((x.reg rl).setWidth 15)
  | _ => none

/-- The disposition of the bundle takes effect after its other operations: the slot keeps it and the thread is free in the next clock; what
is staged and outstanding is discarded (R180, R181). -/
def State.endProgram (s : State) (p e t : Nat) (x : Thr) (kind w : Nat) : State :=
  let d := dispOf kind w
  let sl := s.thrSlot p x
  let pk := s.pkt sl.pkt
  let now := s.bus.ticks
  let k := (s.engLogical p e).getD 0
  let queue := if kind = 0 || kind = 1 then bits w 19 0 else 0
  let s := s.modSample pk.tag fun m => { m with disp := kind, queue := queue, run := m.run + (now - x.dispTick), engine := k }
  let s := s.dispose p x.slot d (if kind ≤ 2 then sl.script else [])
  s.setThread p e t (x.freed now)

/-! ## Traces (R513 to R516) -/

def trcBase (l k : Nat) : Nat := 0x502000 + l * 0x80 + k * 0x40

def State.trace (s : State) (l k : Nat) : List (BitVec 64 × BitVec 64 × BitVec 64) := (Tab.get {} s.pmu.traces (l * 2 + k)).entries

def State.setTrace (s : State) (l k : Nat) (es : List (BitVec 64 × BitVec 64 × BitVec 64)) : State :=
  ({ s with pmu := { s.pmu with traces := Tab.set {} s.pmu.traces (l * 2 + k) { entries := es } } } : State).setFld
    (trcBase l k + 8) 12 0 es.length

/-- A trace ends with its cause (R515). -/
def State.endTrace (s : State) (l k cause : Nat) : State :=
  let a := trcBase l k + 8
  if s.flag a 14 then ((s.setFlag a 14 false).setFlag a 15 true).setFld a 18 16 cause else s

/-- One entry written into a running trace; a full buffer ends it or overwrites its oldest entry (R513, R515). -/
def State.traceEntry (s : State) (l k : Nat) (en : BitVec 64 × BitVec 64 × BitVec 64) : State :=
  let es := s.trace l k
  let s := s.count 0x05 0x43 (l * 2 + k) 1
  if 4096 ≤ es.length then s.setTrace l k (es.drop 1 ++ [en])
  else
    let s := s.setTrace l k (es ++ [en])
    if es.length + 1 = 4096 && !s.flag (trcBase l k) 30 then s.endTrace l k 1 else s

/-- Whether a trace takes entries of a thread (R513, TMASK). -/
def State.traced (s : State) (l k t : Nat) : Bool :=
  let m := s.fld (trcBase l k) 23 16
  s.flag (trcBase l k + 8) 14 && (m == 0 || bitOf m t)

/-- W0 of a trace entry (R514). -/
def State.traceWord (s : State) (pc : Nat) (cbank : Bool) (t : Nat) (resp : Bool) (lat : Nat) : BitVec 64 :=
  BitVec.ofNat 64 (pc % 2 ^ 15 + b2n cbank * 2 ^ 15 + t % 8 * 2 ^ 16 + b2n resp * 2 ^ 19 + min lat 4095 * 2 ^ 20
    + (s.beatN % 2 ^ 24 * 256 + s.bus.clk.toNat) * 2 ^ 32)

/-- The trace's part in an issue: its start at START_PC, its entry, and its end at STOP_PC (R513, R515). -/
def State.traceIssue (s : State) (p e t : Nat) (x : Thr) (b : BitVec 128) : State :=
  match s.engLogical p e with
  | none => s
  | some k =>
    if 2 ≤ k then s
    else
      let l := s.aveLogical p
      let a := trcBase l k
      let pc := x.pc.toNat
      let s := if s.flag a 31 && s.flag (a + 4) 15 && !s.flag (a + 8) 14 && !s.flag (a + 8) 15 && s.fld (a + 4) 14 0 == pc then
        s.setFlag (a + 8) 14 true else s
      if s.traced l k t then
        let s := s.traceEntry l k (s.traceWord pc x.cbank t false (s.bus.ticks - x.lastTick), b.setWidth 64, (b >>> 64).setWidth 64)
        if s.flag (a + 4) 31 && s.fld (a + 4) 30 16 == pc then s.endTrace l k 2 else s
      else s

/-- The trace's entry for a response that a thread receives, when RESP is 1 (R513, R514). -/
def State.traceResp (s : State) (p e t : Nat) (q : Req) (w : Dword) : State :=
  match s.engLogical p e with
  | none => s
  | some k =>
    let l := s.aveLogical p
    if k < 2 && s.traced l k t && s.flag (trcBase l k) 8 then
      s.traceEntry l k (s.traceWord q.pc q.cbank t true (s.bus.ticks - q.tick), w, 0)
    else s

/-! ## Issue (R119, R156, R158 to R164) -/

/-- Registers that wait for a response (R163). -/
def Thr.awaited (x : Thr) : List Nat :=
  x.reqs.flatMap fun q => if q.kind = .stat then [] else (List.range q.rw).map (q.rd + ·)

/-- The effects of a bundle's operations in slot order. -/
def State.applyOps (s0 : State) (p e t : Nat) (x : Thr) : List SlotOp → State → State
  | [], s => s
  | o :: os, s => State.applyOps s0 p e t x os (if guardTrue o.gd x.p then State.opApply s0 p e t x o.lit o.op s else s)

/-- The first faulting slot of a bundle, with its code and DETAIL: by the bundle's own bits, or by the state at issue (R158, R159). -/
def State.bundleFault (s : State) (p e : Nat) (x : Thr) (b : BitVec 128) (ops : List SlotOp) (bad : List Nat) :
    Option (Nat × Nat × Nat) :=
  let low := b.toNat % 2 ^ 64
  (List.range 4).findSome? fun i =>
    if bad.contains i then some (i, 1, low)
    else match ops.find? (fun o => o.slot == i) with
      | none => none
      | some o => if guardTrue o.gd x.p then (s.opFault p e x low o.op).map fun f => (i, f.1, f.2) else none

/-- The thread after its bundle's operations: its next bundle, or a fault of the bundle last issued, whose bits 63:0 are given, when it would
fetch past the last (R129, R156, R164). -/
def State.advance (s : State) (p e t : Nat) (x : Thr) (low : Nat) (ops : List SlotOp) : State :=
  match ops.find? (fun o => guardTrue o.gd x.p && (match o.op with | .disp _ _ => true | _ => false)) with
  | some o =>
    match o.op with
    | .disp kind ra => s.endProgram p e t x kind.toNat (x.reg ra).toNat
    | _ => s
  | none =>
    match ops.findSome? (fun o => if guardTrue o.gd x.p then branchTarget x o.op else none) with
    | some pc => s.modThread p e t fun y => { y with pc := pc, nextTick := s.bus.ticks + 2 }
    | none =>
      if x.pc.toNat = 32767 then s.threadFault p e t 1 low 0 32767
      else s.modThread p e t fun y => { y with pc := x.pc + 1, nextTick := s.bus.ticks + 1 }

/-- The g registers that a thread's bundle reads or writes (R163): those of the operations whose guard is true, an operation whose guard is
false having no effect (R158). DEDUCED, log 19. -/
def State.holdRegs (s : State) (x : Thr) (ops : List SlotOp) : List Nat :=
  (ops.filter fun o => guardTrue o.gd x.p).flatMap fun o => o.op.reads s.tdKw ++ (o.op.writes s.tdRw).filter (· < 32)

/-- After a bundle that a STEP let it issue, a thread halts again (R140). -/
def Thr.stepped (y : Thr) : Thr :=
  if y.st = .ready || y.blocked then { y with st := .halted, prior := y.st, stepping := false } else { y with stepping := false }

/-- A bundle issued by a thread at its program counter, whose registers can be read: its faults, or its operations, and the halt after a
STEP (R140, R156 to R159). The engine has issued in this clock (R119). -/
def State.issueNow (s : State) (p e t : Nat) (b : BitVec 128) : State :=
  let x := s.thread p e t
  let (ops, bad) := decodeBundle s.tdRw b
  let s := (s.use (.issue p e)).count 0x30 0x45 (s.aveLogical p * 32 + (s.engLogical p e).getD 0) 1
  let s := s.traceIssue p e t x b
  let s := match s.bundleFault p e x b ops bad with
    | some (i, code, detail) => s.threadFault p e t code detail i x.pc.toNat
    | none =>
      let s := s.setThread p e t { x with lastTick := s.bus.ticks, lastPc := x.pc }
      let nreq := (ops.filter fun o => guardTrue o.gd x.p && (match o.op with
        | .lkp _ _ _ => true | .tcs _ _ _ => true | .pol _ _ => true | .stat _ _ => true | _ => false)).length
      let tag := if e = supEngine then none else (s.pkt (s.thrSlot p x).pkt).tag
      let s := s.modSample tag fun m => { m with lookups := m.lookups + nreq }
      (State.applyOps s p e t x ops s).advance p e t x (b.toNat % 2 ^ 64) ops
  if x.stepping then s.modThread p e t Thr.stepped else s

/-- The registers of a thread's bundle that wait for a response, and whether one of them is not yet written otherwise (R163). -/
def State.heldRegs (s : State) (x : Thr) (b : BitVec 128) : List Nat × Bool :=
  let regs := s.holdRegs x (decodeBundle s.tdRw b).1
  (regs.filter fun r => x.awaited.contains r, regs.any fun r => s.bus.ticks < Tab.get 0 x.gReady r)

/-- A bundle at a thread's program counter: it is issued, or the thread is blocked until a response arrives, or passed over (R163). -/
def State.issue (s : State) (p e t : Nat) (b : BitVec 128) : State :=
  let x := s.thread p e t
  let (rs, late) := s.heldRegs x b
  if rs ≠ [] then s.setThread p e t { x with st := .blockedExt, wait := .reg rs, waitSince := s.bus.ticks }
  else if late then s
  else s.issueNow p e t b

/-- A thread may issue in this clock, as far as it alone decides (R119, R164): it is READY, its next bundle is due, and its window has not
ended (R33). -/
def State.mayIssue (s : State) (p e t : Nat) : Bool :=
  let x := s.thread p e t
  !s.flag 0x50 8 && x.st == .ready && x.nextTick ≤ s.bus.ticks && s.inWindow p e x

/-- The READY thread of an engine that issued least recently; of two, the lower number (R119). -/
def State.issuer (s : State) (p e : Nat) (skip : List Nat) : Option Nat :=
  (List.range 8).foldl (fun o t =>
    if s.mayIssue p e t && !skip.contains t then
      match o with
      | none => some t
      | some u => if (s.thread p e t).lastTick < (s.thread p e u).lastTick then some t else some u
    else o) none

/-- A thread's bundle in its code bank. -/
def State.nextBundle (s : State) (p : Nat) (x : Thr) : BitVec 128 := s.bundle p x.cbank x.pc

/-- A thread's next bundle waits for a register: it is passed over or blocked in this clock (R163). -/
def State.heldBack (s : State) (p e t : Nat) : Bool :=
  let x := s.thread p e t
  let (rs, late) := s.heldRegs x (s.nextBundle p x)
  rs != [] || late

/-- An engine issues from this thread in this clock: it has issued no bundle in it, and no other thread that could issue has issued less
recently (R119). -/
def State.issues (s : State) (p e t : Nat) : Bool :=
  s.mayIssue p e t && s.uses (.issue p e) == 0
    && (List.range 8).all fun u => u == t || !s.mayIssue p e u || s.heldBack p e u
      || decide ((s.thread p e t).lastTick < (s.thread p e u).lastTick)
      || ((s.thread p e t).lastTick == (s.thread p e u).lastTick && decide (t < u))

/-- An engine's issue clock: threads whose next bundle waits for a register are passed over, or blocked when it waits for a
response, until one issues (R119, R163). -/
def State.issueEngine (s : State) (p e : Nat) (ecc : Ecc) : Nat → List Nat → State
  | 0, _ => s
  | n + 1, skip =>
    match s.issuer p e skip with
    | none => s
    | some t =>
      let x := s.thread p e t
      let k := p * 64 + e
      let a := x.pc.toNat
      match ecc with
      | .codeBad => ((s.use (.issue p e)).report 0x30 0x02 1 k a).threadFault p e t 5 a 0 a
      | .dataBad loc => ((s.use (.issue p e)).report 0x30 0x04 1 k loc.toNat).threadFault p e t 6 loc.toNat 0 a
      | _ =>
        let s := match ecc with
          | .codeCorrected => s.report 0x30 0x01 0 k a
          | .dataCorrected loc => s.report 0x30 0x03 0 k loc.toNat
          | _ => s
        let held := s.heldBack p e t
        let s := s.issue p e t (s.nextBundle p x)
        if held then s.issueEngine p e .clean n (t :: skip) else s

/-- BUNDLE_ISSUE: an engine issues one bundle from its least recently issued READY thread (R119); in thermal stop its clock stands (R549). -/
def execBundleIssue (p : Fin 17) (e : Fin 35) (ecc : Ecc) (s : State) : Host.Outcome State Fault Refusal :=
  .next (if s.flag 0x50 8 || s.uses (.issue p e) ≠ 0 then s else (s.issueEngine p e ecc 8 []).written' 7 p)

/-- One operation of an engine issued in a bundle of its own, the other slots NOP, by the thread that the engine issues from (R119). -/
def State.runOp (s : State) (t : Tid) (gd : BitVec 4) (o : Op) (lit : Word) : State :=
  if s.issues t.ave t.eng t.thr then s.issue t.ave t.eng t.thr (soloBundle gd o lit) else s

/-- NOP: no effect (R169). -/
def execNop (t : Tid) (gd : BitVec 4) (s : State) : Host.Outcome State Fault Refusal :=
  .next (s.runOp t gd (.nop) 0)

/-- ADD: rd = ra + rb modulo 2^64 (R170). -/
def execAdd (t : Tid) (gd : BitVec 4) (rd ra rb : BitVec 5) (s : State) : Host.Outcome State Fault Refusal :=
  .next (s.runOp t gd (.alu .add rd ra rb) 0)

/-- SUB: rd = ra - rb modulo 2^64 (R170). -/
def execSub (t : Tid) (gd : BitVec 4) (rd ra rb : BitVec 5) (s : State) : Host.Outcome State Fault Refusal :=
  .next (s.runOp t gd (.alu .sub rd ra rb) 0)

/-- AND: rd = ra AND rb (R170). -/
def execAnd (t : Tid) (gd : BitVec 4) (rd ra rb : BitVec 5) (s : State) : Host.Outcome State Fault Refusal :=
  .next (s.runOp t gd (.alu .and rd ra rb) 0)

/-- OR: rd = ra OR rb (R170). -/
def execOr (t : Tid) (gd : BitVec 4) (rd ra rb : BitVec 5) (s : State) : Host.Outcome State Fault Refusal :=
  .next (s.runOp t gd (.alu .or rd ra rb) 0)

/-- XOR: rd = ra XOR rb (R170). -/
def execXor (t : Tid) (gd : BitVec 4) (rd ra rb : BitVec 5) (s : State) : Host.Outcome State Fault Refusal :=
  .next (s.runOp t gd (.alu .xor rd ra rb) 0)

/-- ANDN: rd = ra AND NOT rb (R170). -/
def execAndn (t : Tid) (gd : BitVec 4) (rd ra rb : BitVec 5) (s : State) : Host.Outcome State Fault Refusal :=
  .next (s.runOp t gd (.alu .andn rd ra rb) 0)

/-- SHL: rd = ra shifted left by rb[5:0] (R170). -/
def execShl (t : Tid) (gd : BitVec 4) (rd ra rb : BitVec 5) (s : State) : Host.Outcome State Fault Refusal :=
  .next (s.runOp t gd (.alu .shl rd ra rb) 0)

/-- SHR: rd = ra shifted right by rb[5:0] (R170). -/
def execShr (t : Tid) (gd : BitVec 4) (rd ra rb : BitVec 5) (s : State) : Host.Outcome State Fault Refusal :=
  .next (s.runOp t gd (.alu .shr rd ra rb) 0)

/-- SAR: rd = ra shifted right by rb[5:0], keeping its sign (R170). -/
def execSar (t : Tid) (gd : BitVec 4) (rd ra rb : BitVec 5) (s : State) : Host.Outcome State Fault Refusal :=
  .next (s.runOp t gd (.alu .sar rd ra rb) 0)

/-- ROL: rd = ra rotated left by rb[5:0] (R170). -/
def execRol (t : Tid) (gd : BitVec 4) (rd ra rb : BitVec 5) (s : State) : Host.Outcome State Fault Refusal :=
  .next (s.runOp t gd (.alu .rol rd ra rb) 0)

/-- MIN: the signed minimum (R170). -/
def execMin (t : Tid) (gd : BitVec 4) (rd ra rb : BitVec 5) (s : State) : Host.Outcome State Fault Refusal :=
  .next (s.runOp t gd (.alu .min rd ra rb) 0)

/-- MAX: the signed maximum (R170). -/
def execMax (t : Tid) (gd : BitVec 4) (rd ra rb : BitVec 5) (s : State) : Host.Outcome State Fault Refusal :=
  .next (s.runOp t gd (.alu .max rd ra rb) 0)

/-- MINU: the unsigned minimum (R170). -/
def execMinu (t : Tid) (gd : BitVec 4) (rd ra rb : BitVec 5) (s : State) : Host.Outcome State Fault Refusal :=
  .next (s.runOp t gd (.alu .minu rd ra rb) 0)

/-- MAXU: the unsigned maximum (R170). -/
def execMaxu (t : Tid) (gd : BitVec 4) (rd ra rb : BitVec 5) (s : State) : Host.Outcome State Fault Refusal :=
  .next (s.runOp t gd (.alu .maxu rd ra rb) 0)

/-- MUL: the low 64 bits of the product (R170). -/
def execMul (t : Tid) (gd : BitVec 4) (rd ra rb : BitVec 5) (s : State) : Host.Outcome State Fault Refusal :=
  .next (s.runOp t gd (.alu .mul rd ra rb) 0)

/-- MULHU: the high 64 bits of the unsigned product (R170). -/
def execMulhu (t : Tid) (gd : BitVec 4) (rd ra rb : BitVec 5) (s : State) : Host.Outcome State Fault Refusal :=
  .next (s.runOp t gd (.alu .mulhu rd ra rb) 0)

/-- CSADD: the ones'-complement sum of the 16-bit words of ra and rb (R170). -/
def execCsadd (t : Tid) (gd : BitVec 4) (rd ra rb : BitVec 5) (s : State) : Host.Outcome State Fault Refusal :=
  .next (s.runOp t gd (.alu .csadd rd ra rb) 0)

/-- CRC32: CRC-32 of the bytes of rb from ra[31:0] (R170). -/
def execCrc32 (t : Tid) (gd : BitVec 4) (rd ra rb : BitVec 5) (s : State) : Host.Outcome State Fault Refusal :=
  .next (s.runOp t gd (.alu .crc32 rd ra rb) 0)

/-- CLZ: leading zeros of ra (R170). -/
def execClz (t : Tid) (gd : BitVec 4) (rd ra : BitVec 5) (s : State) : Host.Outcome State Fault Refusal :=
  .next (s.runOp t gd (.alu .clz rd ra 0) 0)

/-- POPC: set bits of ra (R170). -/
def execPopc (t : Tid) (gd : BitVec 4) (rd ra : BitVec 5) (s : State) : Host.Outcome State Fault Refusal :=
  .next (s.runOp t gd (.alu .popc rd ra 0) 0)

/-- BSWAP: ra with its bytes reversed (R170). -/
def execBswap (t : Tid) (gd : BitVec 4) (rd ra : BitVec 5) (s : State) : Host.Outcome State Fault Refusal :=
  .next (s.runOp t gd (.alu .bswap rd ra 0) 0)

/-- ADDI: rd = ra op the sign-extended immediate (R169). -/
def execAddi (t : Tid) (gd : BitVec 4) (rd ra : BitVec 5) (imm : BitVec 12) (s : State) : Host.Outcome State Fault Refusal :=
  .next (s.runOp t gd (.imm .addi rd ra imm) 0)

/-- ANDI: rd = ra op the sign-extended immediate (R169). -/
def execAndi (t : Tid) (gd : BitVec 4) (rd ra : BitVec 5) (imm : BitVec 12) (s : State) : Host.Outcome State Fault Refusal :=
  .next (s.runOp t gd (.imm .andi rd ra imm) 0)

/-- ORI: rd = ra op the sign-extended immediate (R169). -/
def execOri (t : Tid) (gd : BitVec 4) (rd ra : BitVec 5) (imm : BitVec 12) (s : State) : Host.Outcome State Fault Refusal :=
  .next (s.runOp t gd (.imm .ori rd ra imm) 0)

/-- XORI: rd = ra op the sign-extended immediate (R169). -/
def execXori (t : Tid) (gd : BitVec 4) (rd ra : BitVec 5) (imm : BitVec 12) (s : State) : Host.Outcome State Fault Refusal :=
  .next (s.runOp t gd (.imm .xori rd ra imm) 0)

/-- SHLI: rd = ra shifted by imm[5:0] (R169). -/
def execShli (t : Tid) (gd : BitVec 4) (rd ra : BitVec 5) (sh : BitVec 6) (s : State) : Host.Outcome State Fault Refusal :=
  .next (s.runOp t gd (.shift .shli rd ra sh) 0)

/-- SHRI: rd = ra shifted by imm[5:0] (R169). -/
def execShri (t : Tid) (gd : BitVec 4) (rd ra : BitVec 5) (sh : BitVec 6) (s : State) : Host.Outcome State Fault Refusal :=
  .next (s.runOp t gd (.shift .shri rd ra sh) 0)

/-- SARI: rd = ra shifted by imm[5:0] (R169). -/
def execSari (t : Tid) (gd : BitVec 4) (rd ra : BitVec 5) (sh : BitVec 6) (s : State) : Host.Outcome State Fault Refusal :=
  .next (s.runOp t gd (.shift .sari rd ra sh) 0)

/-- EXT: rd = the field of ra (R169). -/
def execExt (t : Tid) (gd : BitVec 4) (rd ra : BitVec 5) (pos len1 : BitVec 6) (s : State) : Host.Outcome State Fault Refusal :=
  .next (s.runOp t gd (.ext rd ra pos len1) 0)

/-- INS: a field of rd = ra's low bits (R169). -/
def execIns (t : Tid) (gd : BitVec 4) (rd ra : BitVec 5) (pos len1 : BitVec 6) (s : State) : Host.Outcome State Fault Refusal :=
  .next (s.runOp t gd (.ins rd ra pos len1) 0)

/-- MOVI: rd = imm17, sign-extended (R169). -/
def execMovi (t : Tid) (gd : BitVec 4) (rd : BitVec 5) (imm : BitVec 17) (s : State) : Host.Outcome State Fault Refusal :=
  .next (s.runOp t gd (.movi rd imm) 0)

/-- LIMM: rd = the literal, sign-extended (R169). -/
def execLimm (t : Tid) (gd : BitVec 4) (rd : BitVec 5) (lit : Word) (s : State) : Host.Outcome State Fault Refusal :=
  .next (s.runOp t gd (.limm rd) lit)

/-- LIMMH: rd bits 63:32 = the literal (R169). -/
def execLimmh (t : Tid) (gd : BitVec 4) (rd : BitVec 5) (lit : Word) (s : State) : Host.Outcome State Fault Refusal :=
  .next (s.runOp t gd (.limmh rd) lit)

/-- CMP: pd = cond(ra, rb) (R169, R171). -/
def execCmp (t : Tid) (gd : BitVec 4) (cond : BitVec 7) (pd : BitVec 3) (ra rb : BitVec 5) (s : State) : Host.Outcome State Fault Refusal :=
  .next (s.runOp t gd (.cmp cond pd ra rb) 0)

/-- CMPEQI: pd = condition 0 of ra and the immediate (R169, R171). -/
def execCmpeqi (t : Tid) (gd : BitVec 4) (pd : BitVec 3) (ra : BitVec 5) (imm : BitVec 12) (s : State) : Host.Outcome State Fault Refusal :=
  .next (s.runOp t gd (.cmpi 0 pd ra imm) 0)

/-- CMPNEI: pd = condition 1 of ra and the immediate (R169, R171). -/
def execCmpnei (t : Tid) (gd : BitVec 4) (pd : BitVec 3) (ra : BitVec 5) (imm : BitVec 12) (s : State) : Host.Outcome State Fault Refusal :=
  .next (s.runOp t gd (.cmpi 1 pd ra imm) 0)

/-- CMPLTI: pd = condition 2 of ra and the immediate (R169, R171). -/
def execCmplti (t : Tid) (gd : BitVec 4) (pd : BitVec 3) (ra : BitVec 5) (imm : BitVec 12) (s : State) : Host.Outcome State Fault Refusal :=
  .next (s.runOp t gd (.cmpi 2 pd ra imm) 0)

/-- CMPGEI: pd = condition 3 of ra and the immediate (R169, R171). -/
def execCmpgei (t : Tid) (gd : BitVec 4) (pd : BitVec 3) (ra : BitVec 5) (imm : BitVec 12) (s : State) : Host.Outcome State Fault Refusal :=
  .next (s.runOp t gd (.cmpi 3 pd ra imm) 0)

/-- CMPLTUI: pd = condition 4 of ra and the immediate (R169, R171). -/
def execCmpltui (t : Tid) (gd : BitVec 4) (pd : BitVec 3) (ra : BitVec 5) (imm : BitVec 12) (s : State) : Host.Outcome State Fault Refusal :=
  .next (s.runOp t gd (.cmpi 4 pd ra imm) 0)

/-- CMPGEUI: pd = condition 5 of ra and the immediate (R169, R171). -/
def execCmpgeui (t : Tid) (gd : BitVec 4) (pd : BitVec 3) (ra : BitVec 5) (imm : BitVec 12) (s : State) : Host.Outcome State Fault Refusal :=
  .next (s.runOp t gd (.cmpi 5 pd ra imm) 0)

/-- TSTI: pd = condition 6 of ra and the immediate (R169, R171). -/
def execTsti (t : Tid) (gd : BitVec 4) (pd : BitVec 3) (ra : BitVec 5) (imm : BitVec 12) (s : State) : Host.Outcome State Fault Refusal :=
  .next (s.runOp t gd (.cmpi 6 pd ra imm) 0)

/-- PLOG: pd = fn(pa, pb) (R169, R171). -/
def execPlog (t : Tid) (gd : BitVec 4) (fn : BitVec 7) (pd pa pb : BitVec 3) (s : State) : Host.Outcome State Fault Refusal :=
  .next (s.runOp t gd (.plog fn pd pa pb) 0)

/-- MOVP: rd = the predicates (R169). -/
def execMovp (t : Tid) (gd : BitVec 4) (rd : BitVec 5) (s : State) : Host.Outcome State Fault Refusal :=
  .next (s.runOp t gd (.movp rd) 0)

/-- PMOV: the predicates = ra bits 7:0 (R169). -/
def execPmov (t : Tid) (gd : BitVec 4) (ra : BitVec 5) (s : State) : Host.Outcome State Fault Refusal :=
  .next (s.runOp t gd (.pmov ra) 0)

/-- RDS: rd = s[n] (R169). -/
def execRds (t : Tid) (gd : BitVec 4) (rd n : BitVec 5) (s : State) : Host.Outcome State Fault Refusal :=
  .next (s.runOp t gd (.rds rd n) 0)

/-- WRS: s[n] = rb (R169). -/
def execWrs (t : Tid) (gd : BitVec 4) (n rb : BitVec 5) (s : State) : Host.Outcome State Fault Refusal :=
  .next (s.runOp t gd (.wrs n rb) 0)

/-- FADDS: rd = s[n]; s[n] = s[n] + rb (R162, R169). -/
def execFadds (t : Tid) (gd : BitVec 4) (rd n rb : BitVec 5) (s : State) : Host.Outcome State Fault Refusal :=
  .next (s.runOp t gd (.fadds rd n rb) 0)

/-- HLD: rd = header-vector bytes (R166, R167). -/
def execHld (t : Tid) (gd : BitVec 4) (rd ra : BitVec 5) (imm : BitVec 12) (s : State) : Host.Outcome State Fault Refusal :=
  .next (s.runOp t gd (.mem .hld rd ra imm) 0)

/-- HST: header-vector bytes = rd (R166, R167). -/
def execHst (t : Tid) (gd : BitVec 4) (rd ra : BitVec 5) (imm : BitVec 12) (s : State) : Host.Outcome State Fault Refusal :=
  .next (s.runOp t gd (.mem .hst rd ra imm) 0)

/-- LLD: rd = local-memory bytes (R168). -/
def execLld (t : Tid) (gd : BitVec 4) (rd ra : BitVec 5) (imm : BitVec 12) (s : State) : Host.Outcome State Fault Refusal :=
  .next (s.runOp t gd (.mem .lld rd ra imm) 0)

/-- LST: local-memory bytes = rd (R168). -/
def execLst (t : Tid) (gd : BitVec 4) (rd ra : BitVec 5) (imm : BitVec 12) (s : State) : Host.Outcome State Fault Refusal :=
  .next (s.runOp t gd (.mem .lst rd ra imm) 0)

/-- EPUT: ra appended to the edit script (R177). -/
def execEput (t : Tid) (gd : BitVec 4) (ra : BitVec 5) (s : State) : Host.Outcome State Fault Refusal :=
  .next (s.runOp t gd (.eput ra) 0)

/-- ESET: word k of the edit script = ra (R177). -/
def execEset (t : Tid) (gd : BitVec 4) (ra : BitVec 5) (k : BitVec 3) (s : State) : Host.Outcome State Fault Refusal :=
  .next (s.runOp t gd (.eset ra k) 0)

/-- ECLR: the edit script is empty (R169). -/
def execEclr (t : Tid) (gd : BitVec 4) (s : State) : Host.Outcome State Fault Refusal :=
  .next (s.runOp t gd (.eclr) 0)

/-- LKP: a table lookup is requested (R172). -/
def execLkp (t : Tid) (gd : BitVec 4) (rd ra : BitVec 5) (table : BitVec 10) (s : State) : Host.Outcome State Fault Refusal :=
  .next (s.runOp t gd (.lkp rd ra table) 0)

/-- TCS: a TCAM search is requested (R173). -/
def execTcs (t : Tid) (gd : BitVec 4) (rd : BitVec 5) (hoff : BitVec 6) (prof : BitVec 8) (s : State) : Host.Outcome State Fault Refusal :=
  .next (s.runOp t gd (.tcs rd hoff prof) 0)

/-- POL: a policer request (R174). -/
def execPol (t : Tid) (gd : BitVec 4) (rd ra : BitVec 5) (s : State) : Host.Outcome State Fault Refusal :=
  .next (s.runOp t gd (.pol rd ra) 0)

/-- STAT: a counter update (R175). -/
def execStat (t : Tid) (gd : BitVec 4) (ra rb : BitVec 5) (s : State) : Host.Outcome State Fault Refusal :=
  .next (s.runOp t gd (.stat ra rb) 0)

/-- WAITR: wait until no request is outstanding (R169). -/
def execWaitr (t : Tid) (gd : BitVec 4) (s : State) : Host.Outcome State Fault Refusal :=
  .next (s.runOp t gd (.waitr) 0)

/-- SEND: ra staged on a channel; LAST commits the message (R176). -/
def execSend (t : Tid) (gd : BitVec 4) (ra : BitVec 5) (last : Bool) (ch : BitVec 4) (s : State) : Host.Outcome State Fault Refusal :=
  .next (s.runOp t gd (.send ra last ch) 0)

/-- RECV: the next message of a channel, or a wait for it (R176). -/
def execRecv (t : Tid) (gd : BitVec 4) (rd : BitVec 5) (ch : BitVec 4) (s : State) : Host.Outcome State Fault Refusal :=
  .next (s.runOp t gd (.recv rd ch) 0)

/-- RECVT: the next message of a channel, when there is one (R169, R176). -/
def execRecvt (t : Tid) (gd : BitVec 4) (rd : BitVec 5) (pd : BitVec 3) (ch : BitVec 4) (s : State) : Host.Outcome State Fault Refusal :=
  .next (s.runOp t gd (.recvt rd pd ch) 0)

/-- ABORT: a supervisor thread aborts a packet thread (R132). -/
def execAbort (t : Tid) (gd : BitVec 4) (ra : BitVec 5) (s : State) : Host.Outcome State Fault Refusal :=
  .next (s.runOp t gd (.abort ra) 0)

/-- BRK: a breakpoint (R141). -/
def execBrk (t : Tid) (gd : BitVec 4) (s : State) : Host.Outcome State Fault Refusal :=
  .next (s.runOp t gd (.brk) 0)

/-- BR: go to target (R164, R169). -/
def execBr (t : Tid) (gd : BitVec 4) (target : BitVec 15) (s : State) : Host.Outcome State Fault Refusal :=
  .next (s.runOp t gd (.br target) 0)

/-- CALL: rl = program counter + 1, go to target (R169). -/
def execCall (t : Tid) (gd : BitVec 4) (rl : BitVec 5) (target : BitVec 15) (s : State) : Host.Outcome State Fault Refusal :=
  .next (s.runOp t gd (.call rl target) 0)

/-- LOOP: rl = rl - 1, go to target when rl is not 0 (R169). -/
def execLoop (t : Tid) (gd : BitVec 4) (rl : BitVec 5) (target : BitVec 15) (s : State) : Host.Outcome State Fault Refusal :=
  .next (s.runOp t gd (.loop rl target) 0)

/-- JMP: go to rl[14:0] (R169). -/
def execJmp (t : Tid) (gd : BitVec 4) (rl : BitVec 5) (s : State) : Host.Outcome State Fault Refusal :=
  .next (s.runOp t gd (.jmp rl) 0)

/-- FWD: the disposition forward to a queue ends the program (R180, R181). -/
def execFwd (t : Tid) (gd : BitVec 4) (ra : BitVec 5) (s : State) : Host.Outcome State Fault Refusal :=
  .next (s.runOp t gd (.disp 0 ra) 0)

/-- REPL: the disposition replicate by a list ends the program (R180, R181). -/
def execRepl (t : Tid) (gd : BitVec 4) (ra : BitVec 5) (s : State) : Host.Outcome State Fault Refusal :=
  .next (s.runOp t gd (.disp 1 ra) 0)

/-- PUNT: the disposition punt to a host ring ends the program (R180, R181). -/
def execPunt (t : Tid) (gd : BitVec 4) (ra : BitVec 5) (s : State) : Host.Outcome State Fault Refusal :=
  .next (s.runOp t gd (.disp 2 ra) 0)

/-- RECIRC: the disposition another pass ends the program (R180, R181). -/
def execRecirc (t : Tid) (gd : BitVec 4) (ra : BitVec 5) (s : State) : Host.Outcome State Fault Refusal :=
  .next (s.runOp t gd (.disp 3 ra) 0)

/-- DROP: the disposition drop ends the program (R180, R181). -/
def execDrop (t : Tid) (gd : BitVec 4) (ra : BitVec 5) (s : State) : Host.Outcome State Fault Refusal :=
  .next (s.runOp t gd (.disp 4 ra) 0)

end Sys2Proof.Machine
end

