-- ==== Sys2Proof/Machine/Avenue.lean ====
section
/-! DEFINITION. The avenue window: admission, dispatch, the deadline, responses, debug, the code banks and the spare engines
(spec/02_beat R32 to R35, 05_engines). -/

namespace Sys2Proof.Machine

/-! ## Admission and exit (R32, R113) -/

/-- The deadline disposition of a logical avenue for a packet admitted in a beat (R33, R40). -/
def State.deadlineDisp (s : State) (l adm : Nat) : Disp :=
  let r := s.regAs adm 0x100030
  if bitOf r l then .punt (bits r 21 16) 0 1 false 0x30 0x02 else .drop 0x30 0x02 false

/-- A thread whose packet's window has ended: HALTED_DL keeps its registers, any other is free (R35, R120, R139). -/
def Thr.atDeadline (x : Thr) : Thr :=
  if x.st = .halted then { x with st := .haltedDl, stage := [], held := [], reqs := [], wait := .none } else {}

/-- The deadline of a packet without a disposition: its thread's work is discarded, and it gets the deadline disposition (R33, R35,
R118, R139). The record of a packet that was never dispatched has 0 for ENGINE, THREAD, PC and DETAIL. DESIGN CHOICE, log 79. -/
def State.deadlineSlot (s : State) (p slot : Nat) : State :=
  match s.slot p slot with
  | none => s
  | some sl =>
    if sl.phase = .done then s
    else
      let l := s.aveLogical p
      let s := s.count 0x30 0x42 l 1
      let pass := (s.pkt sl.pkt).pass
      let (s, k, t, pc) := match sl.phase with
        | .running e t =>
          let x := s.thread p e t
          (s.setThread p e t x.atDeadline, (s.engLogical p e).getD 0, t, x.pc.toNat)
        | _ => (s, 0, 0, 0)
      let s := s.dispose p slot (s.deadlineDisp l sl.admB) []
      if bitOf (s.regAs sl.admB (fltCfg l)) 3 then s.sendFault p (faultRecord 0x10 k t pc sl.cbank sl slot 0 pass false pc) else s

/-- The packet of a slot as it waits for the boundary. A learn candidate of a packet whose deadline came before its response was received
is gone with it (R35, R139, R252). -/
def exitOf (sl : Slot) : Exit :=
  { pkt := sl.pkt, admBeat := sl.admBeat, admClk := sl.admClk, admTick := sl.admTick, admB := sl.admB, disp := sl.disp.getD .recirc,
    script := sl.script, hv := sl.hv, cand := sl.cand }

/-- A slot whose residency has ended passes its packet to the exit buffer (R113). -/
def State.vacate (s : State) (p slot : Nat) : State :=
  let s := s.deadlineSlot p slot
  match s.slot p slot with
  | none => s
  | some sl =>
    let s := s.setSlot p slot none
    { s with eng := { s.eng with exits := Tab.set [] s.eng.exits p (Tab.get [] s.eng.exits p ++ [exitOf sl]) } }

/-- Slots whose packets' 1,024 clocks have ended. -/
def State.overdue (s : State) : List Nat :=
  s.eng.slots.filterMap fun e => e.2.bind fun sl => if sl.admTick + 1024 ≤ s.bus.ticks then some e.1 else none

/-- The windows that end in this clock: each slot passes its packet on, whether or not a command has said so (R32, R33, R113). -/
def State.windowEnds (s : State) : State := s.overdue.foldl (fun s k => s.vacate (k / 1024) (k % 1024)) s

/-- The physical avenue that still admits headers of a logical avenue: running, or draining what was queued (R151). -/
def State.admittingAve (s : State) (l : Nat) : Option Nat :=
  (List.range 17).find? fun p =>
    (s.scrState (aveWin p) == 2 || s.scrState (aveWin p) == 3) && s.flag (aveWin p + 4) 4 && s.aveLogical p == l

/-- A header in its slot at the clock of its admission (R87, R105, R113, R142). -/
def State.admitPkt (s : State) (p n : Nat) : State :=
  let slot := s.beatN % 4 * 256 + s.bus.clk.toNat
  let pk := s.pkt n
  let fl := if pk.ended || 1 < pk.pass then pk.len else 0
  let sl : Slot := { pkt := n, admBeat := s.beatN, admClk := s.bus.clk.toNat, admTick := s.bus.ticks, admB := s.bus.beats,
                     cbank := s.flag psStat 0, gbank := s.flag pgStat 0, frameLen := fl }
  let b := s.beatN
  let c := s.bus.clk.toNat
  let s := s.modSample pk.tag fun m =>
    if pk.pass = 1 then { m with admBeat := b, admClk := c, frameLen := pk.len, lave := pk.lave } else { m with passes := pk.pass }
  let s := if pk.pass = 1 then s.setPkt n { (s.pkt n) with admBeat := b, admClk := c } else s
  s.setSlot p slot (some sl)

/-- AVENUE_ADMISSION: the avenue takes one header of its kerb queue in this clock (R113), one that entered the queue in an earlier clock
(R22). -/
def execAvenueAdmission (l : Fin 16) (s : State) : Host.Outcome State Fault Refusal :=
  match if s.flag 0x50 8 then none else s.admittingAve l, s.kerbQueue l with
  | some p, n :: q =>
    let slot := s.beatN % 4 * 256 + s.bus.clk.toNat
    if s.bus.ticks ≤ (s.pkt n).kerbTick then .next s
    else match s.slot p slot with
    | none => .next (((s.setKerbQueue l q).use (.header p)).admitPkt p n)
    | some sl =>
      if s.bus.ticks < sl.admTick + 1024 then .next s
      else .next ((((s.vacate p slot).setKerbQueue l q).use (.header p)).admitPkt p n)
  | _, _ => .next s

/-- DEADLINE: the packet's 1,024 clocks have ended without a disposition (R33, R35). -/
def execDeadline (p : Fin 17) (slot : Fin 1024) (s : State) : Host.Outcome State Fault Refusal :=
  match s.slot p slot with
  | none => .next s
  | some sl => if s.bus.ticks < sl.admTick + 1024 then .next s else .next (s.deadlineSlot p slot)

/-- An exit placed by the clock of its admission (R32). -/
def insertExit (x : Exit) : List Exit → List Exit
  | [] => [x]
  | y :: t => if x.admTick < y.admTick then x :: y :: t else y :: insertExit x t

/-- The packets that leave avenue p at this boundary, in admission order: those whose windows have ended, admitted in the fifth beat before
the one that begins, or earlier (R32). -/
def State.takeExits (s : State) (p : Nat) : State × List Exit :=
  let all := Tab.get [] s.eng.exits p
  let out := (all.filter fun x => x.admB + 5 ≤ s.bus.beats).foldr insertExit []
  ({ s with eng := { s.eng with exits := Tab.set [] s.eng.exits p (all.filter fun x => s.bus.beats < x.admB + 5) } }, out)

/-! ## Dispatch (R114 to R117, R136) -/

/-- The threads of an engine that are FREE in this clock: one that its program or a fault has freed is so in the next (R130, R181). -/
def State.freeThreads (s : State) (p e : Nat) : List Nat :=
  (List.range 8).filter fun t => (s.thread p e t).st == .free && (s.thread p e t).nextTick ≤ s.bus.ticks

/-- The logical engine to which a packet is fed: the one that the AVE_DBG_FEED in force as it became eligible names for its context, while
that engine is isolated (R136). -/
def State.fedEngine (s : State) (p : Nat) (sl : Slot) : Option Nat :=
  let k := bits sl.feed 12 8
  if bitOf sl.feed 31 && s.engIso p (s.engMap p k) && bits sl.feed 7 0 = (s.pkt sl.pkt).ctx then some k else none

/-- An engine of an avenue that takes a packet in this clock: it has not taken one in it, and has a FREE thread (R114). -/
def State.takesPkt (s : State) (p e : Nat) : Bool := s.uses (.dispatchTo p e) == 0 && s.freeThreads p e != []

/-- The engine of an ordinary dispatch: most FREE threads among those not isolated, ties by the rotating order (R115). -/
def State.pickEngine (s : State) (p : Nat) : Option Nat :=
  (rotOrder s.beatN 32).foldl (fun o k =>
    let n := if s.engIso p (s.engMap p k) || !s.takesPkt p (s.engMap p k) then 0 else (s.freeThreads p (s.engMap p k)).length
    match o with
    | none => if 0 < n then some k else none
    | some j => if (s.freeThreads p (s.engMap p j)).length < n then some k else o) none

/-- The logical engine that a slot's packet may go to now; none where it must wait (R115, R117, R136). -/
def State.engineFor (s : State) (p : Nat) (sl : Slot) : Option Nat :=
  let cut := min (bits (s.regAs sl.admB (fltCfg (s.aveLogical p))) 13 4) 960
  if sl.admTick + 1024 - s.bus.ticks < cut || sl.admTick + 1024 ≤ s.bus.ticks then none
  else match s.fedEngine p sl with
    | some k => if s.takesPkt p (s.engMap p k) then some k else none
    | none => s.pickEngine p

/-- Eligible slots of an avenue, oldest first (R114). -/
def State.eligible (s : State) (p : Nat) : List (Nat × Slot) :=
  let l := s.eng.slots.filterMap fun e =>
    if p * 1024 ≤ e.1 && e.1 < (p + 1) * 1024 then
      e.2.bind fun sl => if sl.phase = .eligible then some (e.1 % 1024, sl) else none
    else none
  l.foldr (fun x acc => (acc.takeWhile fun y => y.2.admTick < x.2.admTick) ++ x :: acc.dropWhile fun y => y.2.admTick < x.2.admTick) []

/-- A thread at dispatch (R116). -/
def State.dispatchThread (s : State) (slot : Nat) (sl : Slot) : Thr :=
  let r := s.reg (entryReg sl.cbank)
  let err := (Tab.get 0 sl.hv 9).toNat % 16 != 0
  { st := .ready, g := Tab.set 0 [] 0 (BitVec.ofNat 64 slot), pc := BitVec.ofNat 15 (if err then bits r 30 16 else bits r 14 0),
    cbank := sl.cbank, slot := slot, lastTick := s.bus.ticks, dispTick := s.bus.ticks, nextTick := s.bus.ticks + 1 }

/-- DISPATCH: of the packets whose header vectors are complete by now, the oldest eligible one that an engine can take goes to its
lowest-numbered FREE thread, two in a clock at most (R86, R114 to R117, R136). -/
def execDispatch (p : Fin 17) (s0 : State) : Host.Outcome State Fault Refusal :=
  let s := s0.parseEnds
  if 2 ≤ s.uses (.dispatch p) then .next s
  else match (s.eligible p).findSome? fun x => (s.engineFor p x.2).map fun k => (x.1, x.2, k) with
  | none => .next s
  | some (slot, sl, k) =>
    let e := s.engMap p k
    let t := (s.freeThreads p e).headD 0
    let now := s.bus.ticks
    let s := (s.use (.dispatch p)).use (.dispatchTo p e)
    let s := s.modSample (s.pkt sl.pkt).tag fun m => { m with wait := m.wait + (now - sl.eligTick) }
    let s := (s.setThread p e t (s.dispatchThread slot sl)).count 0x30 0x41 (s.aveLogical p) 1
    .next (s.setSlot p slot (some { sl with phase := .running e t, dispTick := now }))

/-! ## Responses (R120, R121, R138, R163) -/

/-- A thread that a response wakes: one that waited for a register, when no register of its bundle waits for a response any more; for all
requests, when none is outstanding; for room for a ninth (R121, R163). -/
def Thr.wake (x : Thr) (now : Nat) : Thr :=
  match x.wait with
  | .reg rs => if rs.any x.awaited.contains then x else x.ready now
  | .all => if x.reqs = [] then x.ready now else x
  | .ninth _ => if x.reqs.length < 8 then x.ready now else x
  | _ => x

/-- A thread after one of its requests has been taken off: it is woken when it waited for that, and a ninth request is issued (R121). -/
def State.woken (s : State) (p e t : Nat) : State :=
  let x := s.thread p e t
  if x.st ≠ .blockedExt then s
  else
    let s := s.setThread p e t (x.wake s.bus.ticks)
    match x.wait with
    | .ninth q => if x.reqs.length < 8 then s.sendReq p e t q else s
    | _ => s

/-- The candidate that a probe's response forms as it is written to its thread, when learning is on for its context (R252, R253). -/
def State.formCand (s : State) (p e t : Nat) (q : Req) (w : Nat) : State :=
  let x := s.thread p e t
  match s.slot p x.slot with
  | some sl =>
    let ctx := (s.pkt sl.pkt).ctx
    let cr := s.reg (0xA001000 + ctx * 4)
    if q.probe && e ≠ supEngine && s.flag 0xA000000 0 && bitOf cr 31 then
      let c : Cand := { key := (q.key.headD 0).toNat % 2 ^ 62, ctx := ctx, dest := bits cr 19 0, lave := s.aveLogical p,
                        seen := if bitOf w 63 then some (bits w 19 0, bitOf w 62) else none }
      (s.count 0xA0 0x40 0 1).setSlot p x.slot (some { sl with cand := some c })
    else s
  | none => s

/-- A response received by a thread that runs: an errored one is a fault, of operation slot 2 (R128, R160, R172); any other is written into
its registers, and the thread may be woken by it (R163). -/
def State.receiveResp (s : State) (p e t : Nat) (h : Held) : State :=
  match h.err with
  | some d => s.threadFault p e t 7 d 2 h.q.pc
  | none =>
    let s := s.formCand p e t h.q (h.words.headD 0).toNat
    (s.modThread p e t fun x => x.wrList s.bus.ticks h.q.rd h.words).woken p e t

/-- Request i of a thread is answered: with the words of its destination registers, or errored with a DETAIL. A halted thread's response is
held (R138), and one that comes at the deadline or later is discarded (R35). -/
def State.respondWith (s : State) (p e t i : Nat) (words : List Dword) (err : Option Nat) : State :=
  let x := s.thread p e t
  match x.reqs[i]? with
  | none => s
  | some q =>
    let y := { x with reqs := dropAt x.reqs i }
    if !s.inWindow p e x then s.setThread p e t y
    else
      let s := s.traceResp p e t q (words.headD 0)
      let h : Held := { q := q, words := words, err := err }
      if x.st = .halted then s.setThread p e t { y with held := x.held ++ [h] }
      else (s.setThread p e t y).receiveResp p e t h

/-- A response without error. -/
def State.respond (s : State) (p e t i : Nat) (words : List Dword) : State := s.respondWith p e t i words none

/-- An errored response (R172). -/
def State.respondErr (s : State) (p e t i detail : Nat) : State := s.respondWith p e t i [] (some detail)

/-- CHANNEL_COMMIT: the lowest-numbered thread of an engine that waits to commit to a channel does so, once the channel has room (R125). -/
def execChannelCommit (p : Fin 17) (e : Fin 35) (ch : Fin 16) (s : State) : Host.Outcome State Fault Refusal :=
  .next (match (List.range 8).find? fun t => (s.thread p e t).commits == some ch.val with
    | none => s
    | some t => s.commitBlocked p e t)

/-- The channel on which a thread is blocked. -/
def Thr.waitChan (x : Thr) : Nat :=
  match x.wait with
  | .recv ch _ => ch
  | .commit ch => ch
  | _ => 0

/-- ALL_THREADS_BLOCKED: the detector of a packet engine fires once in an episode: a notice to ch1, or none when ch1 is full
(R133, R134). -/
def execAllThreadsBlocked (p : Fin 17) (e : Fin 35) (s : State) : Host.Outcome State Fault Refusal :=
  let ts := (List.range 8).map (s.thread p e)
  if e.val ≠ supEngine && ts.all (fun x => x.st == .blockedInt && x.reqs == []) && !Tab.get false s.eng.fired (engKey p e) then
    let detail := (List.range 8).foldl (fun n i => n + (s.thread p e i).waitChan * 2 ^ (8 * i)) 0
    let s := ({ s with eng := { s.eng with fired := Tab.set false s.eng.fired (engKey p e) true } } : State).raise (aveStat p) 3
    let r := faultRecord 0x20 ((s.engLogical p e).getD 0) 0 0 false {} 0 0 0 false detail
    .next (if s.chanRoom p supEngine 1 then s.putMsg p supEngine 1 (r ++ [0]) else s)
  else .next s

/-! ## Debug (R135 to R141) -/

/-- ISO: from the next clock on an engine is out of ordinary dispatch, at most 4 of an avenue and never the supervisor, or back in it (R135,
R137). -/
def execIso (p : Fin 17) (e : Fin 35) (on : Bool) (s : State) : Host.Outcome State Fault Refusal :=
  .next (s.isoSet p e on)

/-- Each thread that a mask names, in turn. -/
def State.forThreads (s : State) (mask : BitVec 8) (f : State → Nat → State) : State :=
  (List.range 8).foldl (fun s t => if mask.getLsbD t then f s t else s) s

/-- HALT: accepted on an isolated engine or with FORCE; a halted thread keeps what it holds (R138). -/
def execHalt (p : Fin 17) (e : Fin 35) (mask : BitVec 8) (s : State) : Host.Outcome State Fault Refusal :=
  let ok := s.engIso p e || s.flag (dbgCtl p e) 25
  .next (s.forThreads mask fun s t =>
    let x := s.thread p e t
    if ok && (x.st == .ready || x.st == .blockedInt || x.st == .blockedExt) then
      s.setThread p e t { x with st := .halted, prior := x.st, stepping := false }
    else s.raise (aveStat p) 5)

/-- A halted thread back in its state before the halt, with the responses and the message that came meanwhile (R138, R140). -/
def State.unhalt (s : State) (p e t : Nat) : State :=
  let x := s.thread p e t
  let s := s.setThread p e t { x with st := x.prior, held := [] }
  match x.held.find? (·.err.isSome) with
  | some h => s.receiveResp p e t h
  | none =>
    let s := x.held.foldl (fun s h => s.receiveResp p e t h) s
    match x.wait with
    | .recv ch rd =>
      match s.takeMsg p e ch with
      | some (m, s) => s.modThread p e t fun z => z.receive s.bus.ticks rd m
      | none => s
    | _ => s

/-- RESUME: a HALTED thread returns to its state before the halt, a HALTED_DL thread to FREE (R140). -/
def execResume (p : Fin 17) (e : Fin 35) (mask : BitVec 8) (s : State) : Host.Outcome State Fault Refusal :=
  .next (s.forThreads mask fun s t =>
    match (s.thread p e t).st with
    | .halted => s.unhalt p e t
    | .haltedDl => s.setThread p e t {}
    | _ => s.raise (aveStat p) 5)

/-- STEP for one HALTED thread: it is back in its state before the halt until it has issued one bundle, which it does at once when it can
(R119, R140, R164). -/
def State.stepThread (s : State) (p e t : Nat) : State :=
  let s := (s.unhalt p e t).modThread p e t fun y => if y.st = .ready || y.blocked then { y with stepping := true } else y
  let x := s.thread p e t
  if s.issues p e t then s.issue p e t (s.nextBundle p x) else s

/-- STEP: a HALTED thread issues one bundle and halts again; on a HALTED_DL thread as RESUME (R140). -/
def execStep (p : Fin 17) (e : Fin 35) (mask : BitVec 8) (s : State) : Host.Outcome State Fault Refusal :=
  .next (s.forThreads mask fun s t =>
    match (s.thread p e t).st with
    | .halted => s.stepThread p e t
    | .haltedDl => s.setThread p e t {}
    | _ => s.raise (aveStat p) 5)

/-! ## Code banks (R142 to R147) -/

def codeAddr : Nat := 0x30F0030

/-- A physical avenue runs its self-test (R155). -/
def State.bistRuns (s : State) (p : Nat) : Bool := s.scrState (aveWin p) == 0 && s.flag (aveWin p + 0x10) 0

/-- A write to a code bank, its entries or its tag may take place (R143). -/
def State.codeWritable (s : State) (b : Bool) : Bool :=
  (s.flag psStat 0 != b && !(match s.eng.oldProt with | some (o, _) => o == b | none => false)) || s.allLineStopped

/-- A write accepted into a code bank clears its CLEAN flag and spoils a check in progress (R143, R144). -/
def State.codeTouched (s : State) (b : Bool) : State :=
  let s := s.setFlag psStat (if b then 2 else 1) false
  match s.eng.chk with
  | some c => if c.bankB = b then { s with eng := { s.eng with chk := some { c with dirty := true } } } else s
  | none => s

/-- ADDR rises by 1, wrapping to 0 after 32,767 (AVE_CODE_ADDR). -/
def State.nextCodeAddr (s : State) : State := s.setFld codeAddr 14 0 ((s.fld codeAddr 14 0 + 1) % 32768)

/-- A bundle written to a bank of every physical avenue that is not running its self-test (R142). -/
def State.writeCode (s : State) (b : Bool) (a : Nat) (w : BitVec 128) : State :=
  (List.range 17).foldl (fun s p =>
    if s.bistRuns p then s else ({ s with eng := { s.eng with code := Tab.set 0 s.eng.code (codeKey p b a) w } } : State).written' 5 p) s

/-- CODE_DATA3_WRITE: the four words are committed as one bundle, unless the bank is protected (R142, R143). -/
def execCodeData3Write (r : Requester) (v : Word) (s : State) : Host.Outcome State Fault Refusal :=
  let s := s.setReg 0x30F0040 v.toNat
  let s := { s with bus := { s.bus with cpl := some { req := r, addr := 0x30F0040, data := 0, status := .ok } } }
  let b := s.flag codeAddr 16
  let w := BitVec.ofNat 128 (s.reg 0x30F0034 + s.reg 0x30F0038 * 2 ^ 32 + s.reg 0x30F003C * 2 ^ 64 + v.toNat * 2 ^ 96)
  let a := s.fld codeAddr 14 0
  if s.codeWritable b then .next (((s.writeCode b a w).codeTouched b).nextCodeAddr)
  else .next ((s.raise psStat 4).nextCodeAddr)

/-- The bundle at ADDR, in the copy of an avenue. -/
def State.codeAtAddr (s : State) (p : Nat) : Nat := (s.bundle p (s.flag codeAddr 16) (BitVec.ofNat 15 (s.fld codeAddr 14 0))).toNat

/-- The bundle at ADDR is fetched into AVE_CODE_DATA0 to AVE_CODE_DATA3. -/
def State.codeFetch (s : State) (p : Nat) : State :=
  let w := s.codeAtAddr p
  (List.range 4).foldl (fun s i => s.setReg (0x30F0034 + i * 4) (w / 2 ^ (32 * i) % 2 ^ 32)) s

/-- CODE_DATA0_READ: the bundle at ADDR is fetched from the copy of the avenue whose window is used (AVE_CODE_DATA). -/
def execCodeData0Read (r : Requester) (p : Fin 17) (s : State) : Host.Outcome State Fault Refusal :=
  let t := s.codeFetch p
  .next { t with bus := { t.bus with
    cpl := some { req := r, addr := aveWin p + 0xF0034, data := BitVec.ofNat 32 (s.codeAtAddr p), status := .ok } } }

/-- PS_CHECK: a check of a code bank begins, unless one runs (R144). -/
def execPsCheck (bankB : Bool) (s : State) : Host.Outcome State Fault Refusal :=
  let s := s.setFlag 0x30F000C 4 bankB
  if s.eng.chk.isSome then .next (s.raise psStat 6)
  else .next (({ s with eng := { s.eng with chk := some { bankB := bankB, dirty := false } } } : State).setFlag psStat 3 true)

/-- The first bundle of a bank that breaks the slot rules, in the avenues not running their self-test (R144, R160). -/
def State.badBundle (s : State) (b : Bool) : Option (Nat × Nat) :=
  (s.eng.code.find? fun e => (e.1 / 32768 % 2 == b2n b) && !s.bistRuns (e.1 / 65536) && (decodeBundle s.tdRw e.2).2 != []).map
    fun e => (e.1 / 65536, e.1 % 32768)

/-- PS_CHECK_COMPLETE: CLEAN when every bundle has correct ECC and passes the slot rules and the bank was not written meanwhile; else
the first fault in AVE_PS_CHK_RES (R144). -/
def execPsCheckComplete (eccAt : Option (Fin 17 × BitVec 15)) (s : State) : Host.Outcome State Fault Refusal :=
  match s.eng.chk with
  | none => .next s
  | some c =>
    let s := ({ s with eng := { s.eng with chk := none } } : State).setFlag psStat 3 false
    let res := match eccAt with
      | some (p, a) => some (1, p.val, a.toNat)
      | none => (s.badBundle c.bankB).map fun x => (2, x.1, x.2)
    match res with
    | some (code, p, a) => .next (s.setReg 0x30F0010 (code * 2 ^ 28 + p * 2 ^ 15 + a))
    | none =>
      let s := s.setReg 0x30F0010 0
      .next (if c.dirty then s else s.setFlag psStat (if c.bankB then 2 else 1) true)

/-- Every supervisor thread of an avenue starts at SUP_ENTRY of the active bank, staged words discarded (R147, R153, R165). -/
def State.startSupervisor (s : State) (p : Nat) : State :=
  (List.range 8).foldl (fun s t => s.setThread p supEngine t (s.supThread t)) s

/-- The AVE_PS activation at the boundary that begins beat b: the inactive bank becomes active when it is CLEAN, else SW_FAIL; the
bank it replaces is protected for 4 beats and the supervisors restart, in every avenue where they have started (R145 to R147). -/
def State.psSwitch (s : State) : State :=
  let act := s.flag psStat 0
  if s.flag psStat (if act then 1 else 2) then
    let s := (s.setFlag psStat 0 (!act)).setFlag psStat 7 true
    let s := { s with eng := { s.eng with oldProt := some (act, s.bus.beats + 4) } }
    (List.range 17).foldl (fun s p => if (s.thread p supEngine 0).st ≠ .free then s.startSupervisor p else s) s
  else s.raise psStat 5

/-- The end of OLD_PROT at a boundary (R146). -/
def State.endOldProt (s : State) : State :=
  match s.eng.oldProt with
  | some (_, e) => if e ≤ s.bus.beats then ({ s with eng := { s.eng with oldProt := none } } : State).setFlag psStat 7 false else s
  | none => s

/-! ## Spare engines (R148, R149, R155) -/

def State.engRetired (s : State) (p e : Nat) : Bool := Tab.get false s.eng.retired (engKey p e)

/-- A logical engine of an avenue is mapped to an engine, as AVE_ENG_MAP was written last. -/
def State.engMapped (s : State) (p e : Nat) : Bool := (List.range 32).any fun k => s.fld (engMapReg p k) 5 0 == e

/-- A packet engine that no logical engine is mapped to and that is not retired. -/
def State.engSpare (s : State) (p e : Nat) : Bool := e < 34 && !s.engMapped p e && (s.engLogical p e).isNone && !s.engRetired p e

/-- Local memory and shared registers of an engine cleared (R122, R161). -/
def State.clearEngine (s : State) (p e : Nat) : State :=
  let k := engKey p e
  let lm := Tab.clear s.eng.lm (k * 2 ^ 18) ((k + 1) * 2 ^ 18)
  { s with eng := { s.eng with lm := lm, sreg := Tab.clear s.eng.sreg (k * 16) ((k + 1) * 16) } }

/-- A trace ended by a remap or a stop: its entries are discarded (R515). -/
def State.dropTrace (s : State) (l k : Nat) : State :=
  if s.flag (trcBase l k + 8) 14 then (s.endTrace l k 3).setTrace l k [] else s

/-- A remap of logical engine k of a running avenue, when it is accepted: the new engine is in service from the next clock (R148). -/
def State.remapEngine (s : State) (p k phys : Nat) : State :=
  let old := s.engMap p k
  let ok := s.scrState (aveWin p) == 2 && s.engSpare p phys && s.engIso p old && (s.freeThreads p old).length == 8
  if ok then
    let s := (((s.holdOld (engMapReg p k)).holdOld (dbgCtl p old)).setFld (engMapReg p k) 5 0 phys).setFlag (dbgCtl p old) 24 false
    let s := s.clearEngine p phys
    if k < 2 then s.dropTrace (s.aveLogical p) k else s
  else s.raise (aveStat p) 8

/-- ENGINE_REMAP: a write of AVE_ENG_MAP_k while the avenue runs (R148). -/
def execEngineRemap (p : Fin 17) (k : Fin 32) (phys : BitVec 6) (s : State) : Host.Outcome State Fault Refusal :=
  .next (s.remapEngine p k phys.toNat)

/-- BIST_FAIL: the self-test of a stopped avenue finds a fault; the failing engine is retired (R149, R155). -/
def execBistFail (p : Fin 17) (e : Fin 35) (s : State) : Host.Outcome State Fault Refusal :=
  if s.bistRuns p then
    let s := (s.raise (aveStat p) 7).report 0x30 0x05 2 (p * 64 + e) 0
    .next { s with eng := { s.eng with retired := Tab.set false s.eng.retired (engKey p e) true } }
  else .next s

/-! ## Start of an avenue (R149, R150, R153) -/

/-- Packet engines fit to serve: mapped engines neither retired nor isolated. -/
def State.usableEngines (s : State) (p : Nat) : Nat :=
  ((List.range 34).filter fun e => !s.engRetired p e && !s.engIso p e).length

/-- START of an avenue fails its check (R150). -/
def State.aveConfigBad (s : State) (p : Nat) : Bool :=
  !s.flag (aveWin p + 4) 4 || s.flag (aveWin p + 0x10) 0
  || (List.range 17).any (fun q => q != p && s.aveLogical q == s.aveLogical p && s.scrState (aveWin q) != 0)
  || (List.range 32).any (fun k => s.engRetired p (s.engMap p k) || (List.range k).any fun j => s.engMap p j == s.engMap p k)

/-- A physical avenue emptied: slots, threads, channels, exit buffer, local memories and shared registers (R153). -/
def State.clearAvenue (s : State) (p : Nat) : State :=
  let lo := p * 35
  let hi := (p + 1) * 35
  let e := s.eng
  let e := { e with slots := Tab.clear e.slots (p * 1024) ((p + 1) * 1024), exits := Tab.set [] e.exits p [] }
  let e := { e with thr := Tab.clear e.thr (lo * 8) (hi * 8), chan := Tab.clear e.chan (lo * 16) (hi * 16) }
  let e := { e with lm := Tab.clear e.lm (lo * 2 ^ 18) (hi * 2 ^ 18), sreg := Tab.clear e.sreg (lo * 16) (hi * 16) }
  { s with eng := { e with fired := Tab.clear e.fired lo hi, lost := Tab.set 0 e.lost p 0 } }

/-- Both code banks of a physical avenue copied from another (R153). -/
def State.copyCode (s : State) (src dst : Nat) : State :=
  let keep := Tab.clear s.eng.code (dst * 65536) ((dst + 1) * 65536)
  let new := s.eng.code.filterMap fun e => if e.1 / 65536 = src then some (e.1 % 65536 + dst * 65536, e.2) else none
  { s with eng := { s.eng with code := new.foldl (fun t e => Tab.set 0 t e.1 e.2) keep } }

/-- A physical avenue's copy of the parse graph made that of another (R109, R153). -/
def State.copyGraph (s : State) (src dst : Nat) : State :=
  let keep := Tab.clear s.eng.graphOld (dst * 2 ^ 20) ((dst + 1) * 2 ^ 20)
  let new := s.eng.graphOld.filterMap fun e => if e.1 / 2 ^ 20 = src then some (e.1 % 2 ^ 20 + dst * 2 ^ 20, e.2) else none
  { s with eng := { s.eng with graphOld := new.foldl (fun t e => Tab.set none t e.1 e.2) keep } }

/-- The lowest-numbered running physical avenue other than p: the source of p's rebuild (R153). -/
def State.rebuildSource (s : State) (p : Nat) : Option Nat := (List.range 17).find? fun q => q != p && s.scrState (aveWin q) == 2

/-- The start sequence of an avenue begins: SYNC_DONE falls, and the avenue to rebuild from is chosen (R153). -/
def State.aveStarts (s : State) (p : Nat) : State :=
  let src := match s.rebuildSource p with
    | some q => q + 1
    | none => 0
  ({ s with eng := { s.eng with rebuild := Tab.set 0 s.eng.rebuild p src } } : State).setFlag (aveStat p) 0 false

end Sys2Proof.Machine
end

