-- ==== Sys2Proof/Machine/Tables.lean ====
section
/-! DEFINITION. The lookup tables: statistics, lookups by kind, the FIB, hash commands, the update overlay and the table windows
(spec/07_tables). -/

namespace Sys2Proof.Machine

def lkpStat : Nat := 0x5000004

/-! ## Statistics (R175, R192) -/

/-- A STAT update that waited enters its avenue's queue: its request is no longer outstanding. None where the thread has given the request
up at its deadline (R35, R175, R192). -/
def State.statEnter (s : State) (l : Nat) (u : StatUpdate) : Option State :=
  match u.thr with
  | none => some s
  | some (p, e, t) =>
    let x := s.thread p e t
    match findIdx? (fun q => q.kind == .stat && q.id == u.pair && q.tick == u.tick) x.reqs with
    | none => none
    | some i => some (((s.setThread p e t { x with reqs := dropAt x.reqs i }).woken p e t).use (.stat l))

/-- Lines of the statistics cache (R185). -/
def statLines : Nat := 262144

/-- Room for one more line: the cache being full, a line is evicted. Which one the spec does not say (R192). -/
def State.statEvict (s : State) : State :=
  match s.tbl.statCache[Config.statVictim s.fresh % s.tbl.statCache.length]? with
  | none => s
  | some (k, d) =>
    { s with fresh := s.fresh + 1, tbl := { s.tbl with
        statCache := Tab.set (0, 0) s.tbl.statCache k (0, 0),
        statEv := Tab.set (0, 0) s.tbl.statEv k ((Tab.get (0, 0) s.tbl.statEv k).1 + d.1, (Tab.get (0, 0) s.tbl.statEv k).2 + d.2) } }

/-- A STAT update taken into its cache line: 1 packet and its bytes (R192). -/
def State.statTake (s : State) (u : StatUpdate) : State :=
  let d := Tab.get (0, 0) s.tbl.statCache u.pair
  let s := if d = (0, 0) && statLines ≤ s.tbl.statCache.length then s.statEvict else s
  ({ s with tbl := { s.tbl with statCache := Tab.set (0, 0) s.tbl.statCache u.pair (d.1 + 1, d.2 + u.bytes) } } : State).writtenAny 3

/-- Waiting updates of an avenue enter its queue, so many at most (R192). -/
def State.statEnterAll (s : State) (l : Nat) : Nat → List StatUpdate → State × List StatUpdate
  | 0, us => (s, us)
  | _, [] => (s, [])
  | n + 1, u :: us =>
    match s.statEnter l u with
    | none => s.statEnterAll l (n + 1) us
    | some s =>
      let (s, us) := s.statEnterAll l n us
      (s, { u with thr := none } :: us)

/-- One clock of an avenue's statistics queue: 2 updates leave it for the cache, oldest first, and at most 2 enter it as far as it has
room (R192). -/
def State.statStep (s : State) (l : Nat) : State :=
  let q := Tab.get [] s.tbl.statQ l
  if q = [] then s
  else
    let inQ := q.filter (·.thr.isNone)
    let s := (inQ.take 2).foldl State.statTake s
    let left := inQ.drop 2
    let (s, rest) := s.statEnterAll l (min 2 (64 - left.length)) (q.filter (·.thr.isSome))
    let later := (Tab.get [] s.tbl.statQ l).drop q.length
    { s with tbl := { s.tbl with statQ := Tab.set [] s.tbl.statQ l (left ++ rest ++ later) } }

/-- One clock of the statistics cache (R192). -/
def State.statClock (s : State) : State := if s.tbl.statQ = [] then s else (List.range 16).foldl State.statStep s

/-- A counter pair with the deltas of two lines added, both counts wrapping (R192). -/
def addPair (a b : Nat × Nat) : Nat × Nat := ((a.1 + b.1) % 2 ^ 64, (a.2 + b.2) % 2 ^ 64)

/-- A line is full (R192). -/
def lineFull (d : Nat × Nat) : Bool := decide (32768 ≤ d.1) || decide (2 ^ 31 ≤ d.2)

/-- The beat boundary of the statistics cache: lines selected in the beat before are added to their pairs; full lines, and every line
once in 4,096 beats, are selected, with those evicted in the beat (R192). -/
def State.statBoundary (s : State) : State :=
  let dram := s.tbl.statSel.foldl (fun d e => Tab.set (0, 0) d e.1 (addPair (Tab.get (0, 0) d e.1) e.2)) s.tbl.statDram
  let all := s.bus.beats % 4096 == 0
  let sel := s.tbl.statCache.filter fun e => all || lineFull e.2
  let keep := s.tbl.statCache.filter fun e => !(all || lineFull e.2)
  let sel := s.tbl.statEv.foldl (fun t e => Tab.set (0, 0) t e.1 (addPair (Tab.get (0, 0) t e.1) e.2)) sel
  { s with tbl := { s.tbl with statDram := dram, statSel := sel, statCache := keep, statEv := [] } }

/-- A counter pair as a window reads it: the DRAM value and the cache's deltas (R192). -/
def State.statPair (s : State) (i : Nat) : Nat × Nat :=
  [s.tbl.statSel, s.tbl.statEv, s.tbl.statCache].foldl (fun v t => addPair v (Tab.get (0, 0) t i)) (Tab.get (0, 0) s.tbl.statDram i)

/-- A counter pair set at once (R556). -/
def State.setStatPair (s : State) (i : Nat) (v : Nat × Nat) : State :=
  { s with tbl := { s.tbl with
      statDram := Tab.set (0, 0) s.tbl.statDram i v, statSel := Tab.set (0, 0) s.tbl.statSel i (0, 0),
      statEv := Tab.set (0, 0) s.tbl.statEv i (0, 0), statCache := Tab.set (0, 0) s.tbl.statCache i (0, 0) } }

/-! ## Hash entries (R201) -/

/-- Slots of a bucket. -/
def hashSlots (esize : Nat) : Nat := if esize = 16 then 4 else 1

def slotValid (esize : Nat) (l : Line) (i : Nat) : Bool :=
  if esize = 16 then bitOf (lineWord l (2 * i)) 63 else bitOf (lineWord l 4) 63

/-- The key words that a slot holds. -/
def State.slotKey (s : State) (n : Nat) (l : Line) (i : Nat) : List Nat :=
  if s.tdEsize n = 16 then [lineWord l (2 * i) % 2 ^ 63] else (List.range (s.tdKw n)).map (lineWord l)

/-- The result words that a slot holds. -/
def slotResult (esize : Nat) (l : Line) (i : Nat) : List Nat :=
  if esize = 16 then [lineWord l (2 * i + 1)] else [lineWord l 5, lineWord l 6]

/-- The words of an entry and the bytes of its slot: key, VALID, result with bit 63 of its first word 0 (R201). -/
def entryWords (esize : Nat) (key res : List Nat) : List Nat :=
  if esize = 16 then [key.headD 0 % 2 ^ 63 + 2 ^ 63, res.headD 0 % 2 ^ 63]
  else [key.getD 0 0, key.getD 1 0, key.getD 2 0, key.getD 3 0, 2 ^ 63, res.headD 0 % 2 ^ 63, res.getD 1 0, 0]

def slotMask (esize i : Nat) : BitVec 64 := byteMask (i * esize) esize

def slotLine (esize i : Nat) (ws : List Nat) : Line := BitVec.ofNat 512 (lineOf ws * 2 ^ (8 * esize * i))

/-- The slot of a key among a list of words, by what the reader sees in them. -/
def State.findSlot (s : State) (n : Nat) (read : Nat → Line) (key : List Nat) (ws : List Nat) : Option (Nat × Nat) :=
  ws.findSome? fun w =>
    let l := read w
    ((List.range (hashSlots (s.tdEsize n))).find? fun i => slotValid (s.tdEsize n) l i && s.slotKey n l i == s.tdKey n key).map (w, ·)

/-! ## Lookups (R194, R197 to R207) -/

/-- What a lookup gives: its words, the words that it read beside those of its turns, and the leaf of a FIB that it hit. -/
structure LkpResult where
  words : List Dword
  reads : List Nat := []
  leaf : Option Prefix := none

/-- A word as a request read it, or as it is read now. -/
def State.turnRead (s : State) (q : Req) (w : Nat) : Line :=
  ((q.turns.find? fun r => r.word == w).bind (·.got)).getD (s.bankWord w)

/-- The key words of a request. -/
def Req.keys (q : Req) : List Nat := q.key.map (·.toNat)

/-- The miss response, for a packet admitted in a beat (R40, R202, R207). -/
def State.missWords (s : State) (n adm : Nat) : List Dword :=
  [BitVec.ofNat 64 ((s.regAs adm (tdAddr n + 0x10) + s.regAs adm (tdAddr n + 0x14) * 2 ^ 32) % 2 ^ 63)]
    ++ (if s.tdRw n = 2 then [Config.missWord s.fresh] else [])

/-- A direct lookup (R197). -/
def State.lkpDirect (s : State) (q : Req) : LkpResult :=
  let n := q.id
  let off := q.keys.headD 0 % 2 ^ s.fld (tdAddr n + 4) 31 27 * s.tdEsize n
  let l := s.turnRead q (s.tdBase n + off / 64)
  let ws := (List.range (s.tdRw n)).map fun k =>
    if 8 * (k + 1) ≤ s.tdEsize n then BitVec.ofNat 64 (lineField l (off % 64 + 8 * k) 8) else Config.entryPast s.fresh
  { words := ws }

/-- A hash lookup misses in both its buckets of lookup SRAM. -/
def State.hashMiss (s : State) (q : Req) : Bool :=
  (s.findSlot q.id (s.turnRead q) q.keys ((s.hashBuckets q.id q.keys).take 2)).isNone

/-- A hash lookup: both buckets, then the DRAM bucket (R200 to R202). -/
def State.lkpHash (s : State) (q : Req) (adm : Nat) : LkpResult :=
  let n := q.id
  let ws := s.hashBuckets n q.keys
  let reads := if s.hashMiss q then ws.drop 2 else []
  match s.findSlot n (s.turnRead q) q.keys (ws.take 2 ++ reads) with
  | none => { words := s.missWords n adm, reads := reads }
  | some (w, i) =>
    let r := slotResult (s.tdEsize n) (s.turnRead q w) i
    let first := BitVec.ofNat 64 (r.headD 0 % 2 ^ 63 + 2 ^ 63)
    let second := match r with
      | _ :: x :: _ => BitVec.ofNat 64 x
      | _ => Config.entryPast s.fresh
    { words := [first, second].take (s.tdRw n), reads := reads }

/-- The byte of an ECMP table at which the member of a key lies, given its group's word: none for a group not in use, or a member beyond the
table's banks (R198). -/
def State.ecmpMember (s : State) (n key : Nat) (line : Line) : Option Nat :=
  let g := lineWord line (key % 8)
  let count := bits g 30 21
  let at' := 524288 + 4 * (bits g 20 0 + key / 2 ^ 32 * count / 2 ^ 32)
  if !bitOf g 63 || count = 0 || 512 < count || s.tdBanks n * 32768 ≤ at' / 64 then none else some at'

/-- An ECMP lookup: the group, then its member by the hash (R198). -/
def State.lkpEcmp (s : State) (q : Req) (adm : Nat) : LkpResult :=
  let n := q.id
  let k := q.keys.headD 0
  match s.ecmpMember n k (s.turnRead q (s.tdBase n + k % 65536 / 8)) with
  | none => { words := s.missWords n adm }
  | some m =>
    let v := lineField (s.turnRead q (s.tdBase n + m / 64)) (m % 64) 4
    if bitOf v 31 then { words := [BitVec.ofNat 64 (bits v 18 0 + 2 ^ 63)] } else { words := s.missWords n adm }

/-- The longest prefix of a VRF that covers an address of wd bits (R205). -/
def longestPrefix (ps : List Prefix) (wd vrf addr : Nat) : Option Prefix :=
  ps.foldl (fun o x =>
    if x.vrf = vrf && x.addr / 2 ^ (wd - x.plen) = addr / 2 ^ (wd - x.plen) then
      match o with
      | none => some x
      | some y => if y.plen < x.plen then some x else o
    else o) none

/-- Prefixes that the SRAM holds, and that a FIB holds with DRAM leaves, by address family (R195). -/
def fibSram (v6 : Bool) : Nat := if v6 then 2097152 else 4194304
def fibDram (v6 : Bool) : Nat := if v6 then 8388608 else 16777216

/-- A prefix's leaf lies in DRAM: the SRAM leaf area being full, those least used by their sampled hit bits do. Among equals the agent's
choice is free (R209). -/
def leafInDram (ps : List Prefix) (v6 : Bool) (x : Prefix) : Bool :=
  let more := (ps.filter fun y => x.used < y.used).length
  let equal := (ps.filter fun y => x.used == y.used).length
  if more + equal ≤ fibSram v6 then false
  else if fibSram v6 ≤ more then true
  else Config.fibLeafDram x.vrf x.plen x.addr

/-- The prefixes of a FIB that a packet admitted in a beat sees: those under the root, or under the previous one (R208). -/
def Fib.seenBy (f : Fib) (adm : Nat) : List Prefix :=
  match f.at? with
  | some b => if adm < b then f.prev else f.cur
  | none => f.cur

/-- The FIB of an address family. -/
def State.fib (s : State) (v6 : Bool) : Fib := if v6 then s.tbl.fib6 else s.tbl.fib4

/-- The leaf that a FIB lookup ends at, for a packet admitted in a beat (R205, R207). -/
def State.fibLeaf (s : State) (v6 : Bool) (key : List Nat) (adm : Nat) : Option Prefix :=
  let wd := if v6 then 128 else 32
  let vrf := if v6 then key.getD 2 0 % 4096 else bits (key.headD 0) 43 32
  let addr := if v6 then key.headD 0 * 2 ^ 64 + key.getD 1 0 else key.headD 0 % 2 ^ 32
  longestPrefix ((s.fib v6).seenBy adm) wd vrf addr

/-- Descriptor n is a FIB's; it is IPv6's. -/
def State.tdFib (s : State) (n : Nat) : Bool := s.tdKind n == 3 || s.tdKind n == 4
def State.tdV6 (s : State) (n : Nat) : Bool := s.tdKind n == 4

/-- A FIB lookup for a packet admitted in a beat (R205, R207, R208). -/
def State.lkpFib (s : State) (q : Req) (adm : Nat) : LkpResult :=
  let n := q.id
  let v6 := s.tdV6 n
  match s.fibLeaf v6 q.keys adm with
  | none => { words := s.missWords n adm }
  | some x =>
    let dram := s.tdDram n && leafInDram ((s.fib v6).seenBy adm) v6 x
    let r := x.result % 2 ^ 19 + b2n x.ecmp * 2 ^ 19 + x.plen % 256 * 2 ^ 20 + b2n dram * 2 ^ 30 + 2 ^ 63
    { words := [BitVec.ofNat 64 r], leaf := some x }

/-- A lookup for a packet admitted in a beat, by the descriptor's kind (R194). -/
def State.lookup (s : State) (q : Req) (adm : Nat) : LkpResult :=
  match s.tdKind q.id with
  | 1 => s.lkpDirect q
  | 2 => s.lkpHash q adm
  | 3 | 4 => s.lkpFib q adm
  | 5 => s.lkpEcmp q adm
  | _ => { words := s.missWords q.id adm }

/-- A lookup reads the lookup extension: a hash table's DRAM bucket, or a FIB's leaf there (R200, R209). -/
def State.needsDram (s : State) (q : Req) (adm : Nat) : Bool :=
  s.tdDram q.id && (match s.tdKind q.id with
    | 2 => s.hashMiss q
    | 3 | 4 => match s.fibLeaf (s.tdV6 q.id) q.keys adm with
      | some x => leafInDram ((s.fib (s.tdV6 q.id)).seenBy adm) (s.tdV6 q.id) x
      | none => false
    | _ => false)

/-! ## The DRAM lookup port (R190) -/

/-- Reads per beat reserved to each logical avenue (LKP_DRAM_CFG). -/
def State.dramShare (s : State) : Nat := min (s.fld 0x500000C 6 0) 64

/-- A read of an avenue within its share of this beat. -/
def State.takeShare (s : State) (l : Nat) : Option State :=
  let u := Tab.get 0 s.tbl.shareUsed l
  if u < s.dramShare then some { s with tbl := { s.tbl with shareUsed := Tab.set 0 s.tbl.shareUsed l (u + 1) } } else none

/-- A read out of the remainder of this beat. -/
def State.takeRemainder (s : State) : Option State :=
  if s.tbl.remUsed < 1024 - 16 * s.dramShare then some { s with tbl := { s.tbl with remUsed := s.tbl.remUsed + 1 } } else none

/-- The lookups of a logical avenue whose DRAM reads are in a state (0 not yet asked for, 2 waiting for a beat), with all their turns served:
thread key and place, oldest first. -/
def State.dramReads (s : State) (l st : Nat) : List (Nat × Nat) :=
  let all := s.eng.thr.flatMap fun e =>
    if s.aveLogical (e.1 / 280) = l then
      (e.2.reqs.zipIdx.filter fun q => q.1.kind == .lkp && q.1.dram == st && q.1.turns.all (·.got.isSome) && s.scrRunning .lkp
        && s.tdValid q.1.id && s.needsDram q.1 (s.admOf (e.1 / 280) (e.1 / 8 % 35) e.2)).map fun q => (q.1.tick, e.1, q.2)
    else []
  (all.foldr (fun x acc => (acc.takeWhile fun y => y.1 < x.1) ++ x :: acc.dropWhile fun y => y.1 < x.1) []).map (·.2)

/-- The state of a DRAM read: 1 accepted, 2 waiting for the next beat. -/
def State.setDram (s : State) (k : Nat × Nat) (st : Nat) : State := s.modReq k.1 k.2 fun q => { q with dram := st }

/-- The DRAM reads of a clock: within the avenue's share, or of the remainder, or waiting for the next beat (R190). -/
def State.dramClock (s : State) : State :=
  (rotOrder s.beatN 16).foldl (fun s l => (s.dramReads l 0).foldl (fun s k =>
    match s.takeShare l with
    | some s => s.setDram k 1
    | none =>
      match s.takeRemainder with
      | some s => s.setDram k 1
      | none => ((s.setDram k 2).count 0x50 0x41 l 1).raise lkpStat 5) s) s

/-- A new beat at the port: waiting reads are accepted against their avenue's share, then against the remainder (R190). -/
def State.dramBoundary (s : State) : State :=
  let s := { s with tbl := { s.tbl with shareUsed := [], remUsed := 0 } }
  let order := rotOrder s.beatN 16
  let s := order.foldl (fun s l => (s.dramReads l 2).foldl (fun s k =>
    match s.takeShare l with
    | some s => s.setDram k 1
    | none => s) s) s
  order.foldl (fun s l => (s.dramReads l 2).foldl (fun s k =>
    match s.takeRemainder with
    | some s => s.setDram k 1
    | none => s) s) s

/-! ## The ports of the lookup banks (R187 to R189) -/

/-- The logical avenue to which a read port of every bank belongs in a clock (R187). -/
def portOwner (clk port : Nat) : Nat := (clk + 8 * port) % 16

/-- The turn that is next in an avenue's queue at a bank, when it entered it in an earlier clock. -/
def State.nextAt (s : State) (bank l : Nat) : Option TurnRef :=
  (s.nextQueued (s.ofAvenue l) bank).bind fun r => if r.turn.inAt.getD 0 < s.bus.ticks then some r else none

/-- The turn that a slot of a bank serves in this clock: the owner's, else that of the first avenue in the rotating order (R187, R191). -/
def State.slotTurn (s : State) (bank owner : Nat) : Option TurnRef :=
  (owner :: rotOrder s.beatN 16).findSome? (s.nextAt bank)

/-- The word that a lookup reads next when all that it has asked for is read: a FIB's next node, the member of an ECMP group
(R194, R198). -/
def State.nextRead (s : State) (q : Req) : Option Nat :=
  let n := q.id
  match s.tdKind n, q.turns with
  | 3, ts | 4, ts => if ts.length < s.tdReads n then some (s.fibNode n q.keys ts.length) else none
  | 5, [g] => (s.ecmpMember n (q.keys.headD 0) (g.got.getD 0)).map fun m => s.tdBase n + m / 64
  | _, _ => none

/-- A bank read served: the whole word is with the request, which asks for its next (R186, R194). -/
def State.serveRead (s : State) (r : TurnRef) : State :=
  let s := (s.putTurn { r with turn := { r.turn with got := some (s.bankWord r.turn.word) } }).count 0x50 0x42 r.turn.bank 1
  match (Tab.get {} s.eng.thr r.key).reqs[r.req]? with
  | none => s
  | some q =>
    if q.turns.all (·.got.isSome) then
      match s.nextRead q with
      | some w => s.addTurns (r.key / 280) (r.key / 8 % 35) (r.key % 8) r.req [readTurn w s.bus.ticks]
      | none => s
    else s

/-- One read port of a bank in this clock (R187). -/
def State.servePort (s : State) (bank port : Nat) : State :=
  match s.slotTurn bank (portOwner s.bus.clk.toNat port) with
  | none => s
  | some r => s.serveRead r

/-- The turns of every request that are not yet served, with their threads' keys. -/
def State.openTurns (s : State) : List (Nat × Turn) :=
  s.eng.thr.flatMap fun e => e.2.reqs.flatMap fun q => (q.turns.filter (·.got.isNone)).map fun r => (e.1, r)

/-- Waiting turns enter the queues that have room (R188, R191, R229). -/
def State.enterAll (s : State) : State :=
  (s.openTurns.filter fun r => r.2.inAt.isNone).foldl (fun s r =>
    s.enterBank (s.queueOf (r.1 / 280) (r.1 / 8 % 35) r.2.bank) r.2.bank) s

/-- One clock of the lookup banks: each bank's two ports, the DRAM reads that follow, and the reads that enter the queues
(R187 to R190). -/
def State.bankClock (s : State) : State :=
  if s.eng.thr.all fun e => e.2.reqs.isEmpty then s
  else
    let banks := ((s.openTurns.map (·.2.bank)).filter (· < 64)).eraseDups
    ((banks.foldl (fun s b => (s.servePort b 0).servePort b 1) s).dramClock).enterAll

/-! ## The update overlay (R215 to R219) -/

def State.setOvl (s : State) (o : List Ovl) : State := { s with tbl := { s.tbl with ovl := o } }

/-- A staged write: it merges into the writer's staged entry for the word, or makes an entry (R215). -/
def State.stage (s : State) (writer : Nat) (go : Bool) (w : Nat) (data : Line) (mask : BitVec 64) : State :=
  match findIdx? (fun o => !o.committed && o.writer == writer && o.go == go && o.word == w) s.tbl.ovl with
  | some i =>
    match s.tbl.ovl[i]? with
    | some o => s.setOvl (setAt s.tbl.ovl i { o with data := mergeLine o.data data mask, mask := o.mask ||| mask })
    | none => s
  | none => s.setOvl (s.tbl.ovl ++ [{ writer := writer, word := w, data := data, mask := mask, committed := false, go := go }])

/-- Staged entries of a writer. -/
def State.stagedOf (s : State) (w : Nat) : Nat := (s.tbl.ovl.filter fun o => !o.committed && o.writer == w).length

/-- Committed writes of routed tables go into the shadow too (R223). -/
def State.shadowWords (s : State) (ws : List Nat) : State :=
  ws.foldl (fun s w =>
    match s.wordTable w with
    | some n => if s.tdBridged n then s else { s with tbl := { s.tbl with shadow := Tab.set 0 s.tbl.shadow w (s.bankWord w ^^^ s.fibBase w) } }
    | none => s) s

/-- Staged entries of the given writers, and those that go at once, become committed, in writer order (R216, R217). -/
def State.commitOverlay (s : State) (writers : List Nat) : State :=
  let goes := fun (o : Ovl) => !o.committed && (o.go || writers.contains o.writer)
  let new := (List.range 3).flatMap fun w => s.tbl.ovl.filter fun o => goes o && o.writer == w
  let s := s.setOvl (s.tbl.ovl.filter (·.committed) ++ new.map (fun o => { o with committed := true, go := false })
    ++ s.tbl.ovl.filter fun o => !o.committed && !goes o)
  s.shadowWords (new.map (·.word))

def updCtl (w : Nat) : Nat := 0x5000020 + w * 4

/-- The beat boundary of the overlay: pending commits and the batches of hash commands (R204, R216); extra names the writers
whose activation slot applies now. -/
def State.overlayBoundary (s : State) (extra : List Nat) : State :=
  let ws := ([0, 1].filter fun w => s.flag (updCtl w) 2) ++ extra
  let s := s.commitOverlay ws
  let s := (s.setFlag (updCtl 0) 2 false).setFlag (updCtl 1) 2 false
  { s with tbl := { s.tbl with hashBusy := [] } }

/-- COMMIT: the writer's staged entries are committed at the next boundary (R216). -/
def execCommit (w : Fin 2) (s : State) : Host.Outcome State Fault Refusal := .next (s.setFlag (updCtl w) 2 true)

/-- DISCARD: the writer's staged entries are removed (R216). -/
def execDiscard (w : Fin 2) (s : State) : Host.Outcome State Fault Refusal :=
  .next (s.setOvl (s.tbl.ovl.filter fun o => o.committed || o.go || o.writer != w.val))

/-! ## Hash commands (R203, R204, R557) -/

/-- A free slot of a word, in rising order. -/
def State.freeSlot (s : State) (n w : Nat) : Option Nat :=
  (List.range (hashSlots (s.tdEsize n))).find? fun i => !slotValid (s.tdEsize n) (s.hashWord w) i

/-- The moves that start at the residents of a word, behind a chain: each with the other bucket that it would move to (R557). -/
def State.movesFrom (s : State) (n : Nat) (chain : List (Nat × Nat)) (w : Nat) : List (List (Nat × Nat) × Nat) :=
  (List.range (hashSlots (s.tdEsize n))).flatMap fun i =>
    ((s.hashBuckets n (s.slotKey n (s.hashWord w) i)).filter (· != w)).map fun o => (chain ++ [(w, i)], o)

/-- The search for a chain of moves, depth first, with so many buckets still to be read (R557). -/
def State.findChain (s : State) (n : Nat) : Nat → List (List (Nat × Nat) × Nat) → Option (List (Nat × Nat))
  | 0, _ => none
  | _, [] => none
  | left + 1, (chain, o) :: todo =>
    match s.freeSlot n o with
    | some j => some (chain ++ [(o, j)])
    | none =>
      if chain.length < 8 && !chain.any (·.1 == o) then s.findChain n left (s.movesFrom n chain o ++ todo)
      else s.findChain n left todo

/-- A slot written, as the hash unit stages it. -/
def State.putSlot (s : State) (n : Nat) (at' : Nat × Nat) (ws : List Nat) : State :=
  let e := s.tdEsize n
  s.stage 2 true at'.1 (slotLine e at'.2 ws) (slotMask e at'.2)

/-- A slot whose VALID is cleared. -/
def State.clearSlot (s : State) (n : Nat) (at' : Nat × Nat) : State :=
  let e := s.tdEsize n
  let vb := if e = 16 then at'.2 * 16 else 32
  let l := s.hashWord at'.1
  s.stage 2 true at'.1 (l &&& ~~~(BitVec.ofNat 512 (2 ^ (8 * vb + 63)))) (byteMask vb 8)

/-- The words of a slot's entry. -/
def State.slotWords (s : State) (n : Nat) (at' : Nat × Nat) : List Nat :=
  let l := s.hashWord at'.1
  if s.tdEsize n = 16 then [lineWord l (2 * at'.2), lineWord l (2 * at'.2 + 1)] else (List.range 8).map (lineWord l)

/-- The moves of a chain carried out from its far end (R557). -/
def State.runChain (s : State) (n : Nat) : List ((Nat × Nat) × (Nat × Nat)) → State
  | [] => s
  | (src, dst) :: t =>
    let s := s.runChain n t
    (s.putSlot n dst (s.slotWords n src)).clearSlot n src

/-- Where an INSERT places its entry, with the moves made: none when no room is found (R203, R557). -/
def State.makeRoom (s : State) (n : Nat) (key : List Nat) : Option (State × (Nat × Nat)) :=
  let own := s.hashBuckets n key
  match own.findSome? fun w => (s.freeSlot n w).map (w, ·) with
  | some p => some (s, p)
  | none =>
    match s.findChain n (32 - own.length) (own.flatMap (s.movesFrom n [])) with
    | none => none
    | some chain => some (s.runChain n (chain.zip (chain.drop 1)), chain.headD (0, 0))

/-- STATIC in the result of a MAC table's entry; elsewhere the result as given (R201). -/
def State.withStatic (s : State) (n : Nat) (static : Bool) (res : List Nat) : List Nat :=
  if s.tdMac n then [putBits (res.headD 0) 62 62 (b2n static), res.getD 1 0] else res

/-- A hash command carried out: the state, RES, and the result of a FIND (R203). -/
def State.hashRun (s : State) (c : HashCmd) : State × Nat × List Nat :=
  let n := c.table
  let present := s.findSlot n s.hashWord c.key (s.hashBuckets n c.key)
  let e := s.tdEsize n
  match c.op, present with
  | 1, some _ => (s, 1, [])
  | 1, none =>
    match s.makeRoom n c.key with
    | none => (s, 3, [])
    | some (s, p) => (s.putSlot n p (entryWords e (s.tdKey n c.key) (s.withStatic n c.static c.res)), 0, [])
  | _, none => (s, 2, [])
  | 2, some p => (s.putSlot n p (entryWords e (s.tdKey n c.key) (s.withStatic n c.static c.res)), 0, [])
  | 3, some p => (s.clearSlot n p, 0, [])
  | _, some p => (s, 0, slotResult e (s.hashWord p.1) p.2)

def winBase (w : Nat) : Nat := 0x6000000 + w * 0x1000

/-- DATA registers of a window, from register i on. -/
def State.winData (s : State) (w i k : Nat) : List Nat := (List.range k).map fun j => s.reg (winBase w + 0x40 + (i + j) * 4)

/-- 64-bit words of a window's DATA registers, from register i on. -/
def State.winWords (s : State) (w i k : Nat) : List Nat := (List.range k).map fun j => s.reg64 (winBase w + 0x40 + (i + 2 * j) * 4)

/-- A 64-byte word in a window's DATA registers. -/
def State.setWinLine (s : State) (w : Nat) (l : Line) : State :=
  s.setRegs (winBase w + 0x40) ((List.range 16).map fun i => lineField l (4 * i) 4)

/-- The outcome of a window's hash command: RES, and the words that a FIND returns in DATA8 to DATA11. -/
def State.hashReply (s : State) (c : HashCmd) (res : Nat) (found : List Nat) : State :=
  if 2 ≤ c.win then s
  else
    let s := s.setFld (winBase c.win + 0x10) 27 24 res
    if c.op = 4 && res = 0 then
      (s.setReg64 (winBase c.win + 0x60) (found.headD 0)).setReg64 (winBase c.win + 0x68) (found.getD 1 0)
    else s

/-- The place of a requester in the order of a clock's hash commands: 0 host window, 1 firmware window, 2 learning (R41, R204). -/
def hashRank (b win : Nat) : Nat := (win + 3 - b % 3) % 3

/-- A command among those that wait: behind those of earlier clocks, and in its own clock in the rotating order (R204). -/
def hashInsert (b : Nat) (c : HashCmd) : List HashCmd → List HashCmd
  | [] => [c]
  | d :: q => if c.tick = d.tick && hashRank b c.win < hashRank b d.win then c :: d :: q else d :: hashInsert b c q

def State.hashSend (s : State) (c : HashCmd) : State :=
  { s with tbl := { s.tbl with hashQ := hashInsert s.beatN { c with tick := s.bus.ticks } s.tbl.hashQ } }

/-- A write of LKP_WIN_HCMD: a command waits its turn, from the next clock on, or ends at once (R196, R203, R204). -/
def State.hashWrite (s : State) (r : Requester) (w : Fin 2) (op table : Nat) (static : Bool) : State :=
  if (r == .host) != (w == 0) then s.raise lkpStat 0
  else
    let c : HashCmd := { win := w, op := op, table := table, key := s.winWords w 0 4, res := s.winWords w 8 2, static := static }
    if !s.scrRunning .lkp then s.hashReply c 5 []
    else if !s.tdValid table || s.tdKind table ≠ 2 || op = 0 || 5 ≤ op then s.hashReply c 4 []
    else s.hashSend c

/-- INSERT (R203, R557). -/
def execInsert (r : Requester) (w : Fin 2) (table : Byte) (static : Bool) (s : State) : Host.Outcome State Fault Refusal :=
  .next (s.hashWrite r w 1 table.toNat static)

/-- REPLACE (R203). -/
def execReplace (r : Requester) (w : Fin 2) (table : Byte) (static : Bool) (s : State) : Host.Outcome State Fault Refusal :=
  .next (s.hashWrite r w 2 table.toNat static)

/-- DELETE (R203). -/
def execDelete (r : Requester) (w : Fin 2) (table : Byte) (s : State) : Host.Outcome State Fault Refusal :=
  .next (s.hashWrite r w 3 table.toNat false)

/-- FIND (R203). -/
def execFind (r : Requester) (w : Fin 2) (table : Byte) (s : State) : Host.Outcome State Fault Refusal :=
  .next (s.hashWrite r w 4 table.toNat false)

/-- OVERLAY_DRAIN: the maintenance port of a bank (64: of the lookup extension) writes the oldest committed entry into its word, one in a
clock; the entry is free in the next clock (R185, R218). -/
def execOverlayDrain (bank : Fin 65) (s : State) : Host.Outcome State Fault Refusal :=
  let mine := fun (o : Ovl) => o.committed && !o.drained
    && (if bank.val = 64 then sramWords ≤ o.word else o.word / 32768 == bank.val && o.word < sramWords)
  match if s.uses (.bankMaint bank) = 0 then findIdx? mine s.tbl.ovl else none with
  | none => .next s
  | some i =>
    match s.tbl.ovl[i]? with
    | none => .next s
    | some o =>
      let s := (s.setRaw o.word (mergeLine (s.rawWord o.word) o.data o.mask)).use (.bankMaint bank)
      .next ((s.setOvl (setAt s.tbl.ovl i { o with drained := true })).written' 1 bank)

/-- Overlay entries that the maintenance ports wrote in the clock before are free (R218). -/
def State.ovlFree (s : State) : State := if s.tbl.ovl.any (·.drained) then s.setOvl (s.tbl.ovl.filter (!·.drained)) else s

/-! ## The table windows (R556) -/

/-- The last word of a window target (R556). -/
def winLast (target : Nat) : Nat :=
  match target with
  | 0 => 2097151
  | 1 => 33554431
  | 2 => 65535
  | _ => 134217727

/-- The word of a statistics pair: packets, then bytes (R192). -/
def pairLine (v : Nat × Nat) : Line := BitVec.ofNat 512 (lineOf [v.1, v.2])

/-- The word that a window target holds at an index (R556). -/
def State.winRead (s : State) (target i : Nat) : Line :=
  match target with
  | 0 => s.bankWord i
  | 1 => pairLine (s.statPair i)
  | 2 => Tab.get 0 s.tbl.repl i
  | _ => s.bankWord (sramWords + i)

/-- WINDOW_READ: the target's word into DATA; a read past the last word leaves 0 (R556). -/
def execWindowRead (r : Requester) (w : Fin 2) (target : Fin 4) (s : State) : Host.Outcome State Fault Refusal :=
  if (r == .host) != (w == 0) then .next (s.raise lkpStat 0)
  else
    let s := s.setFld (winBase w) 5 4 target
    let i := s.fld (winBase w + 4) 26 0
    if winLast target < i then .next ((s.setWinLine w 0).raise lkpStat 0) else .next (s.setWinLine w (s.winRead target i))

/-- A word of the lookup extension lies in an image slot of the pattern filter (R249). -/
def State.inPatImg (s : State) (i : Nat) : Bool :=
  [0x9000010, 0x9000018].any fun a => s.fld a 20 0 * 64 ≤ i && i < (s.fld a 20 0 + s.fld (a + 4) 20 0) * 64

/-- The window writers have room for one more staged entry (R219). -/
def State.winRoom (s : State) : Bool := s.tbl.ovl.length < 4096 && s.stagedOf 0 + s.stagedOf 1 < 3072

/-- A window write of lookup SRAM (R203, R205, R215, R219). -/
def State.winStage (s : State) (w i : Nat) (d : Line) (m : BitVec 64) : State :=
  let kind := ((s.wordTable i).map s.tdKind).getD 0
  if kind = 2 || kind = 3 || kind = 4 then s.raise lkpStat 0
  else
    let merges := s.tbl.ovl.any fun o => !o.committed && o.writer == w && !o.go && o.word == i
    if merges || s.winRoom then s.stage w false i d m else s.raise lkpStat 1

/-- WINDOW_WRITE: DATA under MASK into the target (R556). -/
def execWindowWrite (r : Requester) (w : Fin 2) (target : Fin 4) (s : State) : Host.Outcome State Fault Refusal :=
  if (r == .host) != (w == 0) then .next (s.raise lkpStat 0)
  else
    let s := s.setFld (winBase w) 5 4 target
    let i := s.fld (winBase w + 4) 26 0
    let d : Line := BitVec.ofNat 512 (lineOf (s.winWords w 0 8))
    let m := BitVec.ofNat 64 (s.reg64 (winBase w + 8))
    if winLast target < i then .next (s.raise lkpStat 0)
    else match target.val with
      | 0 => .next (s.winStage w i d m)
      | 1 =>
        let l := mergeLine (pairLine (s.statPair i)) d m
        .next (s.setStatPair i (lineWord l 0, lineWord l 1))
      | 2 =>
        let good := s.sq.replBad.filter fun a => !(a / 8 == i && m.extractLsb' (a % 8 * 8) 8 == 0xFF#8)
        .next (({ s with tbl := { s.tbl with repl := Tab.set 0 s.tbl.repl i (mergeLine (Tab.get 0 s.tbl.repl i) d m) },
                         sq := { s.sq with replBad := good } } : State).writtenAny 10)
      | _ =>
        if w.val = 0 || (s.wordTable (sramWords + i)).isSome || s.inPatImg i then .next (s.raise lkpStat 0)
        else .next (s.setRaw (sramWords + i) (mergeLine (s.rawWord (sramWords + i)) d m))

/-! ## LKP_SCR (R196, R206) -/

/-- The ranges of two descriptors overlap although they may not: only a KIND 3 and a KIND 4 descriptor may share one range. -/
def State.tdOverlap (s : State) (m n : Nat) : Bool :=
  let bank := s.tdFirst m < s.tdFirst n + s.tdBanks n && s.tdFirst n < s.tdFirst m + s.tdBanks m
  let pair := (s.tdKind m == 3 && s.tdKind n == 4 || s.tdKind m == 4 && s.tdKind n == 3)
    && s.tdFirst m == s.tdFirst n && s.tdBanks m == s.tdBanks n
  let dram := s.tdDram m && s.tdDram n && s.tdDramBase m < s.tdDramBase n + s.tdDramSize n
    && s.tdDramBase n < s.tdDramBase m + s.tdDramSize m
  (bank && !pair) || dram

/-- A valid descriptor breaks a rule of its own (R196, R206). -/
def State.tdBad (s : State) (n : Nat) : Bool :=
  let k := s.tdKind n
  k == 0 || k == 6 || k == 7 || s.tdBanks n == 0 || 64 < s.tdFirst n + s.tdBanks n
    || (k == 2 && (s.tdBanks n % 2 == 1 || s.tdEsize n == 8 || s.tdEsize n == 32))
    || (k == 1 && s.tdBanks n * 2097152 < 2 ^ s.fld (tdAddr n + 4) 31 27 * s.tdEsize n)
    || (s.tdDram n && (!(k == 2 || k == 3 || k == 4) || s.tdDramSize n == 0 || 134217728 < s.tdDramBase n + s.tdDramSize n))
    || (k == 3 && (s.tdKw n != 1 || s.tdRw n != 1)) || (k == 4 && (s.tdKw n != 3 || s.tdRw n != 1))

/-- A START of LKP_SCR is refused with CONFIG (R196, R206). -/
def State.lkpBad (s : State) : Bool :=
  let vs := (List.range 256).filter s.tdValid
  vs.any fun n => s.tdBad n || vs.any fun m => m < n && s.tdOverlap m n

/-- The assignment of each bank (R196). -/
def State.bankUses (s : State) : List (Option BankUse) :=
  (List.range 64).map fun b => ((List.range 256).find? fun n => s.holdsBank n b).map fun n =>
    { table := n, kind := s.tdKind n, esize := s.fld (tdAddr n) 26 25, first := s.tdFirst n, nbanks := s.tdBanks n }

/-- The start sequence of LKP_SCR: banks whose assignment changed are zeroed, in the shadow too, and the overlay is cleared; a FIB whose banks
are zeroed holds no prefix (R196). DEDUCED, log 94, of the shadow and the FIB. -/
def State.lkpStart (s : State) : State :=
  let new := s.bankUses
  let changed := fun (b : Nat) => match s.tbl.assigned with
    | none => true
    | some old => old.getD b none != new.getD b none
  let fib := (List.range 64).any fun b => changed b && (match new.getD b none with
    | some u => u.kind == 3 || u.kind == 4
    | none => false)
  { s with tbl := { s.tbl with
      sram := s.tbl.sram.filter (fun e => !changed (e.1 / 32768)), shadow := s.tbl.shadow.filter (fun e => !changed (e.1 / 32768)),
      ovl := [], assigned := some new, fib4 := if fib then {} else s.tbl.fib4, fib6 := if fib then {} else s.tbl.fib6,
      fibGen := if fib then 0 else s.tbl.fibGen } }

/-- A descriptor of the default partition: identity, KIND, CLASS (1 bridged), ESIZE code, KW, RW, first bank, banks, DRAM, IDX_BITS. -/
structure TdDefault where
  id : Nat
  kind : Nat
  cls : Nat
  esize : Nat
  kw : Nat
  rw : Nat
  first : Nat
  banks : Nat
  dram : Nat
  idx : Nat
  deriving DecidableEq, Repr

/-- The default partition of the boot configuration record (R195). What its table does not give is DEDUCED, log 93: KW and RW of hash and
direct tables as their entries hold them. -/
def defaultPartition : List TdDefault :=
  [⟨1, 3, 0, 0, 1, 1, 0, 28, 1, 0⟩, ⟨3, 4, 0, 0, 3, 1, 0, 28, 1, 0⟩, ⟨2, 1, 0, 1, 1, 2, 28, 4, 0, 19⟩, ⟨4, 2, 0, 1, 1, 1, 32, 10, 0, 0⟩,
   ⟨5, 5, 0, 0, 1, 1, 42, 5, 0, 0⟩, ⟨6, 2, 1, 1, 1, 1, 47, 10, 1, 0⟩, ⟨7, 2, 1, 3, 4, 2, 57, 4, 0, 0⟩, ⟨8, 1, 0, 3, 1, 2, 61, 3, 0, 16⟩]

/-- Words 0 and 1 of a descriptor (LKP_TD). -/
def TdDefault.word0 (d : TdDefault) : Nat :=
  2 ^ 31 + d.kind * 2 ^ 28 + d.cls * 2 ^ 27 + d.esize * 2 ^ 25 + (d.kw - 1) * 2 ^ 23 + (d.rw - 1) * 2 ^ 22 + d.first * 2 ^ 12
    + d.banks * 2 ^ 5 + d.dram * 2 ^ 4
def TdDefault.word1 (d : TdDefault) : Nat := d.idx * 2 ^ 27

/-- The default partition written into the descriptors, with the DRAM ranges (start and size in 4 KiB units, by identity) and the hash
seeds that the record gives them (R195). -/
def State.loadPartition (s : State) (range : Nat → Nat × Nat) (seeds : Nat → Nat × Nat) : State :=
  defaultPartition.foldl (fun s d =>
    let a := tdAddr d.id
    let s := (s.setReg a d.word0).setReg (a + 4) d.word1
    let s := if d.kind = 2 then (s.setReg (a + 8) (seeds d.id).1).setReg (a + 0xC) (seeds d.id).2 else s
    if d.dram = 1 then (s.setReg (a + 0x18) (range d.id).1).setReg (a + 0x1C) (range d.id).2 else s) s

/-! ## The FIB (R208 to R214) -/

/-- Capacity of a FIB in prefixes (R195, R210). -/
def State.fibRoom (s : State) (v6 : Bool) : Nat :=
  match (List.range 256).find? fun n => s.tdValid n && s.tdKind n == (if v6 then 4 else 3) with
  | none => 0
  | some n => if s.tdDram n then fibDram v6 else fibSram v6

/-- The work of the route-install agent on one batch: the two families' prefixes and whether each changed, and the failures so
far (count, first index, first code). -/
structure Delta where
  v4 : List Prefix
  v6 : List Prefix
  ch4 : Bool
  ch6 : Bool
  fails : Nat
  first : Nat
  code : Nat

def Delta.fail (d : Delta) (i code : Nat) : Delta :=
  if d.fails = 0 then { d with fails := 1, first := i, code := code } else { d with fails := d.fails + 1 }

/-- One record of a batch (R212, R213). -/
def State.deltaStep (s : State) (d : Delta) (i : Nat) (r : List Nat) : Delta :=
  let d0 := r.headD 0
  let v6 := bitOf d0 2
  let wd := if v6 then 128 else 32
  let plen := bits d0 10 3
  let vrf := bits d0 22 11
  let addr := if v6 then r.getD 1 0 * 2 ^ 64 + r.getD 2 0 else r.getD 1 0
  let ps := if v6 then d.v6 else d.v4
  let same := fun (x : Prefix) => x.vrf == vrf && x.plen == plen && x.addr == addr
  let put := fun (l : List Prefix) => if v6 then { d with v6 := l, ch6 := true } else { d with v4 := l, ch4 := true }
  if 2 ≤ bits d0 1 0 then d.fail i 1
  else if wd < plen || 2 ^ wd ≤ addr || addr % 2 ^ (wd - plen) ≠ 0 || (!v6 && r.getD 2 0 ≠ 0) then d.fail i 2
  else if bitOf d0 23 && 65536 ≤ bits d0 42 24 then d.fail i 3
  else if bits d0 1 0 = 1 then
    if ps.any same then put (ps.filter fun x => !same x) else d.fail i 4
  else
    let x : Prefix := { vrf := vrf, plen := plen, addr := addr, result := bits d0 42 24, ecmp := bitOf d0 23 }
    if ps.any same then put (x :: ps.filter fun x => !same x)
    else if s.fibRoom v6 ≤ ps.length then d.fail i 5
    else put (x :: ps)

/-- A beat number that is no earlier than another, by R37: the difference of the two as a signed 32-bit number. -/
def beatReached (b target : Nat) : Bool := decide (signed32 (target % 2 ^ 32 + 2 ^ 32 - b % 2 ^ 32) ≤ 0)

/-- A beat no earlier than the switch of a family permits: 4 beats after its last, and together with the last that is waiting, or 4 beats
after it (R208). -/
def State.familyBeat (s : State) (v6 : Bool) (t : Nat) : Nat :=
  let t := match (s.fib v6).at? with
    | some a => max t (s.beatN + (a + 4 - s.bus.beats))
    | none => t
  match ((s.tbl.pubs.filter fun p => (if v6 then p.v6 else p.v4).isSome).getLast?).map (·.beat) with
  | some x => if t = x then t else max t (x + 4)
  | none => t

/-- The beat at which a batch is published: its target, evaluated by R37, or the next boundary; no earlier than the batch before it, and as
the switches of the families that it changes permit (R208, R211, R214). -/
def State.pubBeat (s : State) (target : Option Nat) (ch4 ch6 : Bool) : Nat :=
  let next := s.beatN + 1
  let t := match target with
    | some x => if beatReached s.beatN x then next else s.beatN + (x % 2 ^ 32 + 2 ^ 32 - s.beatN % 2 ^ 32) % 2 ^ 32
    | none => next
  let t := match s.tbl.pubs.getLast? with
    | some p => max t p.beat
    | none => t
  let four := fun t => if ch4 then s.familyBeat false t else t
  let six := fun t => if ch6 then s.familyBeat true t else t
  four (six (four t))

/-- A route-delta batch: its header words and its records; the answer is the result area R0 to R2 (R211 to R214). -/
def State.routeDelta (s : State) (h : List Nat) (recs : List (List Nat)) : State × List Nat :=
  let h0 := h.headD 0
  let count := bits h0 63 32
  let seq := h.getD 1 0
  if bits h0 15 0 ≠ 0x5244 || bits h0 23 16 ≠ 1 || count = 0 || 65536 < count || seq ≤ s.tbl.lastSeq then (s, [3, 0, 0])
  else
    let b4 := (s.tbl.pubs.filterMap (·.v4)).getLast?.getD s.tbl.fib4.cur
    let b6 := (s.tbl.pubs.filterMap (·.v6)).getLast?.getD s.tbl.fib6.cur
    let d0 : Delta := { v4 := b4, v6 := b6, ch4 := false, ch6 := false, fails := 0, first := 0, code := 0 }
    let d := ((recs.take count).zipIdx).foldl (fun d r => s.deltaStep d r.2 r.1) d0
    let s := { s with tbl := { s.tbl with lastSeq := seq } }
    let r1 := d.first % 2 ^ 32 + d.code * 2 ^ 32
    if bitOf h0 24 && d.fails ≠ 0 then (s, [2 + d.fails * 2 ^ 32, r1, 0])
    else if !d.ch4 && !d.ch6 then (s, [2 + d.fails * 2 ^ 32, r1, 0])
    else
      let t := s.pubBeat (if bitOf h0 25 then some (h.getD 2 0) else none) d.ch4 d.ch6
      let pub : FibPub := { beat := t, v4 := if d.ch4 then some d.v4 else none, v6 := if d.ch6 then some d.v6 else none }
      ({ s with tbl := { s.tbl with pubs := s.tbl.pubs ++ [pub], lastPub := t } }, [b2n (d.fails ≠ 0) + d.fails * 2 ^ 32, r1, t])

/-- A root switch of one family at beat b: accepted 4 beats after the last (R208). -/
def Fib.switch (f : Fib) (b : Nat) (new : List Prefix) : Option Fib :=
  match f.at? with
  | some t => if b < t + 4 then none else some { cur := new, prev := f.cur, at? := some b }
  | none => some { cur := new, prev := f.cur, at? := some b }

/-- The roots in the descriptors of a family after a switch: the new one is the agent's. -/
def State.newRoots (s : State) (kind : Nat) : State :=
  let s := ((List.range 256).filter fun n => s.tdValid n && s.tdKind n == kind).foldl (fun s n =>
    (s.setReg (tdAddr n + 0xC) (s.reg (tdAddr n + 8))).setReg (tdAddr n + 8) (Config.fibRoot s.fresh).toNat) s
  { s with fresh := s.fresh + 1 }

/-- The FIB's words are the agent's new ones: what a repair had written over the old ones is gone with them (R205, R223). -/
def State.newWords (s : State) : State :=
  let keep := fun (w : Nat) => match s.wordTable w with
    | some n => !s.tdFib n
    | none => true
  { s with tbl := { s.tbl with
      sram := s.tbl.sram.filter (fun e => keep e.1), dram := s.tbl.dram.filter (fun e => keep (sramWords + e.1)),
      shadow := s.tbl.shadow.filter (fun e => keep e.1), ovl := s.tbl.ovl.filter (fun o => keep o.word),
      rewrite := s.tbl.rewrite.filter keep, fibGen := s.tbl.fibGen + 1 } }

/-- The publications due at the boundary that begins beat b (R37, R208, R214). A switch refused stays due. -/
def State.fibBoundary (s : State) (b : Nat) : State :=
  let due := s.tbl.pubs.filter fun p => beatReached b p.beat
  let n4 := (due.filterMap (·.v4)).getLast?
  let n6 := (due.filterMap (·.v6)).getLast?
  let r4 := n4.map (s.tbl.fib4.switch s.bus.beats)
  let r6 := n6.map (s.tbl.fib6.switch s.bus.beats)
  if due = [] then s
  else if r4 = some none || r6 = some none then s.raise lkpStat 6
  else
    let s := { s with tbl := { s.tbl with
      pubs := s.tbl.pubs.filter fun p => !beatReached b p.beat, fib4 := (r4.join).getD s.tbl.fib4, fib6 := (r6.join).getD s.tbl.fib6 } }
    let s := if n4.isSome then s.newRoots 3 else s
    (if n6.isSome then s.newRoots 4 else s).newWords

/-- The leaf that a lookup hit has its hit bit set (R209). -/
def State.hitLeaf (s : State) (v6 : Bool) (x : Prefix) : State :=
  let mark := fun (f : Fib) => { f with cur := f.cur.map fun y => if y = x then { y with hit := true } else y }
  if v6 then { s with tbl := { s.tbl with fib6 := mark s.tbl.fib6 } } else { s with tbl := { s.tbl with fib4 := mark s.tbl.fib4 } }

/-- The leaves' hit bits are sampled every second (R209). -/
def State.leafSample (s : State) : State :=
  if s.tbl.fibSec = s.tim.sec then s
  else
    let sample := fun (f : Fib) => { f with cur := f.cur.map fun y => if y.hit then { y with hit := false, used := y.used + 1 } else y }
    { s with tbl := { s.tbl with fib4 := sample s.tbl.fib4, fib6 := sample s.tbl.fib6, fibSec := s.tim.sec } }

/-! ## Table errors (R220 to R223) -/

/-- A word of a routed table that firmware is to rewrite from its shadow (R222, R223). -/
def State.askRewrite (s : State) (w : Nat) : State :=
  if s.tbl.rewrite.contains w then s else { s with tbl := { s.tbl with rewrite := s.tbl.rewrite ++ [w] } }

/-- What the shadow holds of a word (R223). -/
def State.shadowWord (s : State) (w : Nat) : Line := Tab.get 0 s.tbl.shadow w ^^^ s.fibBase w

/-- Firmware rewrites words of routed tables from their shadow, as far as the overlay has room (R219, R222, R223). -/
def State.rewriteClock (s : State) : State :=
  if s.mssMode ≠ 1 then s
  else s.tbl.rewrite.foldl (fun s w =>
    if s.winRoom then
      ({ s with tbl := { s.tbl with rewrite := s.tbl.rewrite.filter (· != w) } } : State).stage 1 true w (s.shadowWord w) (BitVec.allOnes 64)
    else s) s

/-- A word that a lookup read with bad parity, or with an uncorrectable DRAM error: reported; a bridged table's word is to be written 0 as
writer 2, a routed table's to be rewritten from its shadow by firmware (R220 to R222). -/
def State.tableError (s : State) (n w : Nat) : State :=
  let dram := sramWords ≤ w
  let s := s.setReg 0x5000008 (w % 2 ^ 21 + n % 256 * 2 ^ 21 + b2n dram * 2 ^ 31)
  let bridged := s.tdBridged n
  let s := s.raise lkpStat (if bridged then 2 else 3)
  let s := s.report 0x50 (if dram then 4 else if bridged then 1 else 2) 1 n (if dram then w - sramWords else w)
  if bridged then s.hashSend { win := 2, op := 7, table := n, key := [w], res := [], static := false } else s.askRewrite w

/-! ## Lookup responses (R163, R172, R189, R190, R220) -/

/-- The lookup of a request is done: its turns are served and its DRAM read, if it has one, accepted. -/
def State.lookedUp (s : State) (q : Req) (adm : Nat) : Bool := q.turns.all (·.got.isSome) && (q.dram == 1 || !s.needsDram q adm)

/-- The word of a lookup that was read in error, among those that it read (R220). -/
def State.badWord (s : State) (q : Req) (r : LkpResult) (bad : Option (BitVec 28)) : Option Nat :=
  bad.bind fun b =>
    let w := b.toNat
    let leaf := q.dram == 1 && s.tdFib q.id && decide (sramWords ≤ w) && s.wordTable w == some q.id
    if q.turns.any (·.word == w) || r.reads.contains w || leaf then some w else none

/-- LOOKUP_RESPONSE: request i of a thread is answered once its words are read (R163, R172, R189). bad names a word that was read with bad
parity or with an uncorrectable DRAM error, words of the lookup extension above those of lookup SRAM (R220). -/
def execLookupResponse (t : Tid) (i : Fin 8) (bad : Option (BitVec 28)) (s : State) : Host.Outcome State Fault Refusal :=
  let p := t.ave.val
  let e := t.eng.val
  let x := s.thread p e t.thr
  match x.reqs[i.val]? with
  | none => .next s
  | some q =>
    let err := q.rd + q.id * 2 ^ 16
    let adm := s.admOf p e x
    if q.kind ≠ .lkp then .next s
    else if !s.scrRunning .lkp || !s.tdValid q.id || q.turns = [] then .next (s.respondErr p e t.thr i err)
    else if !s.lookedUp q adm then .next s
    else
      let r := s.lookup q adm
      match s.badWord q r bad with
      | some w =>
        let s := s.tableError q.id w
        if s.tdBridged q.id then .next (s.respond p e t.thr i (s.missWords q.id adm)) else .next (s.respondErr p e t.thr i err)
      | none =>
        let s : State := { s with fresh := s.fresh + 1 }
        let s := match r.leaf with
          | some x => s.hitLeaf (s.tdV6 q.id) x
          | none => s
        .next (s.respond p e t.thr i r.words)

/-! ## Queue entry (R188, R191) -/

/-- BANK_QUEUE_ENTRY (R188). -/
def execBankQueueEntry (l : Fin 16) (bank : Fin 64) (s : State) : Host.Outcome State Fault Refusal := .next (s.enterOne (s.ofAvenue l) bank)

/-- POLICER_QUEUE_ENTRY (R191). -/
def execPolicerQueueEntry (l : Fin 16) (bank : Fin 16) (s : State) : Host.Outcome State Fault Refusal :=
  .next (s.enterOne (s.ofAvenue l) (64 + bank))

end Sys2Proof.Machine
end

