-- ==== Sys2Proof/Machine/Tcam.lean ====
section
/-! DEFINITION. TCAM slices and their update engines, policers (spec/08_tcam_patterns R224 to R244). -/

namespace Sys2Proof.Machine

def tcmStat : Nat := 0x8000004

/-! ## Tables and entries (R224, R225) -/

/-- Banks of an entry of table t. -/
def State.tcmK (s : State) (t : Nat) : Nat := 2 ^ s.fld (tcmTbl t) 5 4
def State.tcmGroups (s : State) (t : Nat) : Nat := s.fld (tcmTbl t) 11 8
def State.tcmFirst (s : State) (t : Nat) : Nat := s.fld (tcmTbl t) 2 0
def State.tcmValid (s : State) (t : Nat) : Bool := s.flag (tcmTbl t) 31
/-- Entries of table t. -/
def State.tcmSize (s : State) (t : Nat) : Nat := s.tcmGroups t * 8192

/-- The place of row m of entry i of table t in slice p. -/
def State.rowKey (s : State) (p t i m : Nat) : Nat :=
  (p * 8 + s.tcmFirst t + i / 8192 * s.tcmK t + m) * 8192 + i % 8192

def State.row (s : State) (k : Nat) : TcamRow := Tab.get {} s.cls.rows k

def State.setRow (s : State) (k : Nat) (r : TcamRow) : State := { s with cls := { s.cls with rows := Tab.set {} s.cls.rows k r } }

def State.entryValid (s : State) (p t i : Nat) : Bool := (s.row (s.rowKey p t i 0)).valid

/-- The bits of a key that bank m of a group holds: 10 bytes, the first most significant (R225, R226). -/
def keyBank (key : List Byte) (m : Nat) : BitVec 80 := BitVec.ofNat 80 (beNat (sliceAt key (10 * m) 10))

/-- Entry i matches a key: every row of it is valid and matches, the cascade of R225. -/
def State.entryMatches (s : State) (p t i : Nat) (key : List Byte) : Bool :=
  (List.range (s.tcmK t)).all fun m =>
    let r := s.row (s.rowKey p t i m)
    r.valid && (keyBank key m &&& r.msk) == (r.val &&& r.msk)

/-- The entries of a table that match a key, lowest index first (R226). -/
def State.tcmHits (s : State) (p t : Nat) (key : List Byte) : List Nat :=
  let lead := s.cls.rows.filterMap fun e =>
    let bank := e.1 / 8192
    if e.2.valid && p * 8 + s.tcmFirst t ≤ bank && bank < p * 8 + s.tcmFirst t + s.tcmGroups t * s.tcmK t
        && (bank - (p * 8 + s.tcmFirst t)) % s.tcmK t = 0 then
      some ((bank - (p * 8 + s.tcmFirst t)) / s.tcmK t * 8192 + e.1 % 8192)
    else none
  lead.filter fun i => s.entryMatches p t i key

/-- A row of an entry written with its word of the check store: the value is kept under the mask (R224, R234). -/
def State.writeRow (s : State) (k : Nat) (val msk : BitVec 80) (act : BitVec 40) (bad : Bool) : State :=
  s.setRow k { (s.row k) with val := val &&& msk, msk := msk, act := act, cval := val &&& msk, cmsk := msk, cbad := bad }

/-- A check-store write of slice p takes an injection that waits for it, which flips the parity of the word (R530). -/
def State.checkInjected (s : State) (p : Nat) : State × Bool :=
  match s.injectionFor 4 p with
  | some (_, s) => (s, true)
  | none => (s, false)

/-- An entry's rows written: value, mask and check copy, and the action in its first row (R224, R234). -/
def State.writeEntry (s : State) (p t i : Nat) (val msk : List (BitVec 80)) (act : BitVec 40) : State :=
  let (s, bad) := s.checkInjected p
  (List.range (s.tcmK t)).foldl (fun s m =>
    s.writeRow (s.rowKey p t i m) (val.getD m 0) (msk.getD m 0) (if m = 0 then act else (s.row (s.rowKey p t i m)).act) (bad && m == 0)) s

def State.setEntryValid (s : State) (p t i : Nat) (v : Bool) : State :=
  (List.range (s.tcmK t)).foldl (fun s m => s.setRow (s.rowKey p t i m) { (s.row (s.rowKey p t i m)) with valid := v }) s

/-- An entry of one slice written into another, or into another place, out of its check store: rows, check copies and action (R234, R235,
R238). -/
def State.copyEntry (s : State) (ps pd t i j : Nat) : State :=
  let (s, bad) := s.checkInjected pd
  (List.range (s.tcmK t)).foldl (fun s m =>
    let r := s.row (s.rowKey ps t i m)
    s.writeRow (s.rowKey pd t j m) r.cval r.cmsk r.act (r.cbad || bad && m == 0)) s

/-- An entry's rows written in place from their check copies (R237). -/
def State.restoreEntry (s : State) (p t i : Nat) : State :=
  (List.range (s.tcmK t)).foldl (fun s m =>
    let r := s.row (s.rowKey p t i m)
    s.setRow (s.rowKey p t i m) { r with val := r.cval, msk := r.cmsk }) s

/-- An entry's word of the check store has wrong parity. -/
def State.entryBad (s : State) (p t i : Nat) : Bool := (List.range (s.tcmK t)).any fun m => (s.row (s.rowKey p t i m)).cbad

/-- An entry's check copy matches a key (R237). -/
def State.copyMatches (s : State) (p t i : Nat) (key : List Byte) : Bool :=
  (List.range (s.tcmK t)).all fun m =>
    let r := s.row (s.rowKey p t i m)
    (keyBank key m &&& r.cmsk) == (r.cval &&& r.cmsk)

/-! ## Commands and update engines (R231 to R236) -/

def tcmWin (w : Nat) : Nat := 0x8020000 + w * 0x1000

def State.slice (s : State) (p : Nat) : SliceProg := Tab.get {} s.cls.prog p

def State.setSlice (s : State) (p : Nat) (x : SliceProg) : State := { s with cls := { s.cls with prog := Tab.set {} s.cls.prog p x } }

/-- The command that a slice executes next. -/
def State.sliceCmd (s : State) (p : Nat) : Option TcamCmd :=
  let d := (s.slice p).done
  if s.bistRuns p || d < s.cls.base then none else s.cls.cmds[d - s.cls.base]?

/-- A slice whose avenue runs its self-test takes no command: those accepted are passed by (R155, R231). -/
def State.slicePass (s : State) (p : Nat) : State :=
  s.setSlice p { (s.slice p) with done := s.cls.base + s.cls.cmds.length, step := 0, gap := none, fixes := [] }

def State.passTested (s : State) : State := (List.range 17).foldl (fun s p => if s.bistRuns p then s.slicePass p else s) s

/-! ### Errors of the check store (R237, R238) -/

/-- The error unit and TCM_ERR hear of a false hit or of a bad check copy (R237, R238). -/
def State.tcmError (s : State) (parity : Bool) (p t i : Nat) : State :=
  let s := (s.setReg 0x8000008 (i % 65536 + t % 8 * 2 ^ 23 + p % 32 * 2 ^ 26 + b2n parity * 2 ^ 31)).raise tcmStat (if parity then 6 else 5)
  s.report 0x80 (if parity then 2 else 1) 1 (p * 8 + t) i

/-- Row operations that no command asked for are to be done (R237, R238). -/
def State.askFixes (s : State) (p : Nat) (fs : List RowFix) : State :=
  let x := s.slice p
  s.setSlice p { x with fixes := x.fixes ++ fs.filter (!x.fixes.contains ·), since := if x.fixes = [] then s.bus.ticks else x.since }

/-- The lowest-numbered other slice whose avenue is RUNNING (R238). -/
def State.repairSource (s : State) (p : Nat) : Option Nat := (List.range 17).find? fun q => q ≠ p && s.scrState (aveWin q) == 2

/-- An entry that cannot be had from another slice stays invalid (R238). -/
def State.entryLost (s : State) (p t i : Nat) : State :=
  let s := (s.setReg 0x8000008 (i % 65536 + t % 8 * 2 ^ 23 + p % 32 * 2 ^ 26 + 2 ^ 31)).raise tcmStat 7
  s.report 0x80 3 2 (p * 8 + t) i

/-- An entry with a bad check copy: it is to be invalidated in its slice, rewritten from another, and made valid, or it is lost
(R238). -/
def State.tcmRepair (s : State) (p t i : Nat) : State :=
  match s.repairSource p with
  | some _ => s.askFixes p [.invalidate t i, .rewrite t i, .validate t i]
  | none => (s.askFixes p [.invalidate t i]).entryLost p t i

/-- A check-store read that finds wrong parity (R238). -/
def State.badCopy (s : State) (p t i : Nat) : State := (s.tcmError true p t i).tcmRepair p t i

/-- The lowest invalid index above i, else the highest below it (R235). -/
def State.findGap (s : State) (p t i : Nat) : Option Nat :=
  let inv := fun j => !s.entryValid p t j
  (((List.range (s.tcmSize t - (i + 1))).map (i + 1 + ·)).find? inv).orElse fun _ => ((List.range i).reverse).find? inv

/-- What a command's execution in a slice is decided by when it begins: whether the entry of a WRITE or DELETE is valid (1 or 0), where
an INSERT puts its gap; none when nothing is to be done. -/
def State.tcmPlan (s : State) (p : Nat) (c : TcamCmd) : Option Nat :=
  match c.op with
  | 1 => some (b2n (s.entryValid p c.table c.idx))
  | 2 => if s.entryValid p c.table c.idx then s.findGap p c.table c.idx else some c.idx
  | 3 => if s.entryValid p c.table c.idx then some 1 else none
  | 5 => some 0
  | _ => none

/-- The moves of an INSERT at i with its gap at j, in order: source and destination (R235). -/
def insertMoves (i j : Nat) : List (Nat × Nat) :=
  if i ≤ j then (List.range (j - i)).map fun n => (j - 1 - n, j - n)
  else (List.range (i - 1 - j)).map fun n => (j + 1 + n, j + n)

/-- Where an INSERT at i with its gap at j places the new entry. -/
def insertAt (i j : Nat) : Nat := if i ≤ j then i else i - 1

/-- A row operation (R232). -/
inductive RowOp where
  | invalidate (i : Nat)
  | validate (i : Nat)
  | validateAs (src i : Nat)
  | writeNew (i : Nat)
  | copy (src dst : Nat)

/-- Row operation number k of a command with its plan; none past the last (R234, R235). -/
def State.rowOp (s : State) (c : TcamCmd) (plan k : Nat) : Option RowOp :=
  match c.op with
  | 1 => if k < plan then some (.invalidate c.idx) else if k = plan then some (.writeNew c.idx)
    else if k = plan + 1 then some (.validate c.idx) else none
  | 2 =>
    let ms := insertMoves c.idx plan
    match ms[k / 3]? with
    | some (a, b) => some (match k % 3 with
      | 0 => .copy a b
      | 1 => .validateAs a b
      | _ => .invalidate a)
    | none =>
      if k = 3 * ms.length then some (.writeNew (insertAt c.idx plan))
      else if k = 3 * ms.length + 1 then some (.validate (insertAt c.idx plan)) else none
  | 3 => if k = 0 then some (.invalidate c.idx) else none
  | 5 => if k < s.tcmSize c.table then some (.invalidate k) else none
  | _ => none

/-- The entry that a row operation rewrites. -/
def RowOp.target : RowOp → Option Nat
  | .writeNew i => some i
  | .copy _ d => some d
  | _ => none

/-- An entry invalidated in a slice, noted with the clock (R233). -/
def State.invalidateEntry (s : State) (p t i : Nat) : State :=
  let s := s.setEntryValid p t i false
  let x := s.slice p
  let now := s.bus.ticks
  s.setSlice p { x with inval := (s.rowKey p t i 0, now) :: x.inval.filter fun e => now < e.2 + 32 }

/-- An entry of a slice was invalidated within the last 32 clocks, so that it is not rewritten yet (R233). -/
def State.tooEarly (s : State) (p t i : Nat) : Bool :=
  (s.slice p).inval.any fun e => e.1 == s.rowKey p t i 0 && s.bus.ticks < e.2 + 32

/-- A row operation of a command done in a slice. The copy that a block move validates is as valid as its source, which an error of the check
store may have invalidated (R235, R238). -/
def State.doRowOp (s : State) (p : Nat) (c : TcamCmd) : RowOp → State
  | .invalidate i => s.invalidateEntry p c.table i
  | .validate i => s.setEntryValid p c.table i true
  | .validateAs a i => s.setEntryValid p c.table i (s.entryValid p c.table a)
  | .writeNew i => s.writeEntry p c.table i c.val c.msk c.act
  | .copy a b => s.copyEntry p p c.table a b

/-- The slice that a READ reads (TCM_RD_SEL). -/
def State.readSlice (s : State) : Nat := if 16 < s.reg 0x800000C then 0 else s.reg 0x800000C

/-- The end of a command in a slice: what it reports (R234, R235). A READ that finds wrong parity starts the entry's repair, by which the entry
is not valid (R238). DEDUCED, log 95. -/
def State.tcmReport (s : State) (p : Nat) (c : TcamCmd) (plan : Option Nat) : State :=
  let a := tcmWin c.win
  match c.op with
  | 2 =>
    match plan with
    | none => s.setFld a 30 28 1
    | some j => s.setReg (a + 8) (insertAt c.idx j + (insertMoves c.idx j).length % 65536 * 65536)
  | 4 =>
    if p ≠ s.readSlice then s
    else
      let wrong := c.bad || s.entryBad p c.table c.idx
      let valid := s.entryValid p c.table c.idx
      let s := if wrong then s.badCopy p c.table c.idx else s
      let rows := (List.range (s.tcmK c.table)).map fun m => s.row (s.rowKey p c.table c.idx m)
      let vb := rows.flatMap fun r => beBytes (r.cval &&& r.cmsk).toNat 10
      let mb := rows.flatMap fun r => beBytes r.cmsk.toNat 10
      let act := ((rows.headD {}).act).toNat
      let word := fun (bs : List Byte) i => beNat (sliceAt bs (4 * i) 4)
      let s := s.setRegs (a + 0x40) ((List.range 20).map (word vb))
      let s := s.setRegs (a + 0x90) ((List.range 20).map (word mb))
      let s := (s.setReg (a + 0xC) (act % 2 ^ 32)).setReg (a + 0x10) (act / 2 ^ 32)
      if valid && !wrong then s else s.setFld a 30 28 5
  | _ => s

/-- Commands of a slice that need no row operation end at once; the plan of the next one is made (R231, R235). -/
def State.tcmSettle (s : State) (p : Nat) : Nat → State
  | 0 => s
  | fuel + 1 =>
    match s.sliceCmd p with
    | none => s
    | some c =>
      let x := s.slice p
      let plan := if x.step = 0 then s.tcmPlan p c else x.gap
      let more := (plan.bind fun j => s.rowOp c j x.step).isSome
      if more then s.setSlice p { x with gap := plan, since := if x.step = 0 then s.bus.ticks else x.since }
      else ((s.tcmReport p c plan).setSlice p { x with done := x.done + 1, step := 0, gap := none }).tcmSettle p fuel

/-- The table of a row operation that no command asked for. -/
def RowFix.table : RowFix → Nat
  | .inPlace t _ | .invalidate t _ | .rewrite t _ | .validate t _ => t

/-- A row operation that no command asked for is done in a slice; none while it must wait (R233, R237, R238). -/
def State.doFix (s : State) (p : Nat) : RowFix → Option State
  | .inPlace t i => some (s.restoreEntry p t i)
  | .invalidate t i => some (s.invalidateEntry p t i)
  | .rewrite t i =>
    if s.tooEarly p t i then none
    else match s.repairSource p with
      | some q => some (s.copyEntry q p t i i)
      | none => some (s.entryLost p t i)
  | .validate t i =>
    match s.repairSource p with
    | some q => some (s.setEntryValid p t i (s.entryValid q t i))
    | none => some s

/-- The table whose slot the next row operation of a slice needs: of those that no command asked for, which come first, or of its command. -/
def State.nextRowTable (s : State) (p : Nat) : Option Nat :=
  match (s.slice p).fixes with
  | f :: _ => some f.table
  | [] => (s.sliceCmd p).bind fun c =>
    if (((s.slice p).gap.bind fun j => s.rowOp c j (s.slice p).step)).isSome then some c.table else none

/-- The next row operation of a slice takes the search slot of clock 128: it has waited since clock 0 of the beat (R232). -/
def State.takesSlot (s : State) (p t : Nat) : Bool :=
  s.bus.clk == 128 && s.nextRowTable p == some t && decide ((s.slice p).since + 128 ≤ s.bus.ticks)

/-- A slice may do a row operation of a table in this clock: its one, when the avenue has admitted no header and no search of the table is
served, or in the slot of clock 128 (R232). A header that comes later in the clock is not seen. DESIGN CHOICE, log 96. -/
def State.rowSlot (s : State) (p t : Nat) : Bool :=
  s.uses (.rowOp p) == 0 && (s.takesSlot p t || (s.uses (.header p) == 0 && s.uses (.search p t) == 0))

/-- TCAM_ROW_OPERATION: the next row operation of slice p in its slot; a row is rewritten no earlier than 32 clocks after it was invalidated.
Where the check-store word that a block move reads has wrong parity, the entry is repaired first (R232, R233, R238). -/
def execTcamRowOperation (q : RowStep) (s : State) : Host.Outcome State Fault Refusal :=
  let p := q.slice
  let x := s.slice p
  let done := fun (s : State) (f : SliceProg → SliceProg) => (s.setSlice p (f { (s.slice p) with since := s.bus.ticks })).use (.rowOp p)
  match x.fixes, s.sliceCmd p with
  | f :: rest, _ =>
    if !s.rowSlot p f.table then .next s
    else match s.doFix p f with
      | none => .next s
      | some s => .next ((done s fun y => { y with fixes := rest }).tcmSettle p (s.cls.cmds.length + 1))
  | [], none => .next s
  | [], some c =>
    match x.gap.bind fun j => s.rowOp c j x.step with
    | none => .next s
    | some o =>
      let early := match o.target with
        | some i => s.tooEarly p c.table i
        | none => false
      if early || !s.rowSlot p c.table then .next s
      else
        let wrong := match o with
          | .copy a _ => if s.entryValid p c.table a && (q.bad || s.entryBad p c.table a) then some a else none
          | _ => none
        match wrong with
        | some a => .next (done (s.badCopy p c.table a) id)
        | none =>
          let s := done (s.doRowOp p c o) fun y => { y with step := y.step + 1 }
          .next (s.tcmSettle p (s.cls.cmds.length + 1))

/-- The ten-byte parts of a window's VAL or MSK registers. -/
def State.winKey (s : State) (a : Nat) : List (BitVec 80) :=
  let bs := (List.range 20).flatMap fun i => beBytes (s.reg (a + i * 4)) 4
  (List.range 8).map (keyBank bs)

/-- A write of TCM_WIN_CMD (R231, R234, R239); bad says that the check-store word which a READ reads has wrong parity (R238). -/
def State.tcmCommand (s : State) (r : Requester) (w : Fin 2) (op table : Nat) (bad : Bool) : State :=
  let a := tcmWin w
  if (r == .host) != (w == 0) then s.raise tcmStat 3
  else if s.flag a 31 then s.raise tcmStat 4
  else if !s.scrRunning .tcm then s.setFld a 30 28 3
  else if op = 0 || 6 ≤ op then s.setFld a 30 28 4
  else
    let idx := s.fld (a + 4) 15 0
    if !s.tcmValid table || (op ≠ 5 && s.tcmSize table ≤ idx) then s.setFld a 30 28 2
    else
      let act := BitVec.ofNat 40 (s.reg (a + 0xC) + s.reg (a + 0x10) * 2 ^ 32)
      let c : TcamCmd := { win := w, op := op, table := table, idx := idx, val := s.winKey (a + 0x40), msk := s.winKey (a + 0x90), act := act, bad := bad }
      let s := (s.setFld a 30 28 0).setFlag a 31 true
      let s : State := { s with cls := { s.cls with cmds := s.cls.cmds ++ [c] } }
      (List.range 17).foldl (fun s p => if (s.slice p).fixes = [] then s.tcmSettle p (s.cls.cmds.length + 1) else s) s.passTested

/-- TCAM_WRITE (R234). -/
def execTcamWrite (r : Requester) (w : Fin 2) (table : Fin 8) (s : State) : Host.Outcome State Fault Refusal :=
  .next (s.tcmCommand r w 1 table false)

/-- TCAM_INSERT (R235). -/
def execTcamInsert (r : Requester) (w : Fin 2) (table : Fin 8) (s : State) : Host.Outcome State Fault Refusal :=
  .next (s.tcmCommand r w 2 table false)

/-- TCAM_DELETE (R234). -/
def execTcamDelete (r : Requester) (w : Fin 2) (table : Fin 8) (s : State) : Host.Outcome State Fault Refusal :=
  .next (s.tcmCommand r w 3 table false)

/-- TCAM_READ (R234, R238). -/
def execTcamRead (r : Requester) (w : Fin 2) (q : CheckRead) (s : State) : Host.Outcome State Fault Refusal :=
  .next (s.tcmCommand r w 4 q.table q.bad)

/-- TCAM_CLEAR (R234). -/
def execTcamClear (r : Requester) (w : Fin 2) (table : Fin 8) (s : State) : Host.Outcome State Fault Refusal :=
  .next (s.tcmCommand r w 5 table false)

/-- Every slice that executes commands has finished the first n accepted since the last START (R231). -/
def State.slicesPast (s : State) (n : Nat) : Bool := (List.range 17).all fun p => s.bistRuns p || n ≤ (s.slice p).done

/-- TCAM_COMMAND_COMPLETE: the last slice has finished the window's command and BUSY falls (R231). -/
def execTcamCommandComplete (w : Fin 2) (s : State) : Host.Outcome State Fault Refusal :=
  let mine := s.cls.cmds.zipIdx.filter fun c => c.1.win == w.val
  match mine.getLast? with
  | none => .next s
  | some (_, i) =>
    if s.slicesPast (s.cls.base + i + 1) then
      let s := s.setFlag (tcmWin w) 31 false
      if s.slicesPast (s.cls.base + s.cls.cmds.length) then
        .next { s with cls := { s.cls with base := s.cls.base + s.cls.cmds.length, cmds := [] } }
      else .next s
    else .next s

/-- A START of TCM_SCR is refused with CONFIG (R239). -/
def State.tcmBad (s : State) : Bool :=
  let vs := (List.range 8).filter s.tcmValid
  vs.any fun t =>
    let n := s.tcmGroups t * s.tcmK t
    n == 0 || 8 < s.tcmFirst t + n || s.tcmFirst t % s.tcmK t != 0
      || vs.any fun u => u < t && s.tcmFirst t < s.tcmFirst u + s.tcmGroups u * s.tcmK u && s.tcmFirst u < s.tcmFirst t + n

/-- The start sequence of TCM_SCR: every row of every slice is invalid (R239). -/
def State.tcmStart (s : State) : State :=
  let rows := s.cls.rows.filterMap fun e =>
    let r := { e.2 with valid := false }
    if r = {} then none else some (e.1, r)
  { s with cls := { s.cls with rows := rows, cmds := [], base := 0, prog := [] } }

/-- TCM_SCR has left RUNNING: a command in progress ends with RES STOPPED, and the update engines have nothing to do (R239). -/
def State.tcmStop (s : State) : State :=
  let s := [0, 1].foldl (fun s w => if s.flag (tcmWin w) 31 then (s.setFlag (tcmWin w) 31 false).setFld (tcmWin w) 30 28 3 else s) s
  { s with cls := { s.cls with cmds := [], base := 0, prog := [] } }

/-- A slice has no command in progress, so that another may be rebuilt from it (R231). -/
def State.sliceIdle (s : State) (p : Nat) : Bool := (s.slice p).step == 0 && (s.slice p).fixes == []

/-- A slice rebuilt from another: every row and check copy, and its place in the command list (R153, R231). -/
def State.copySlice (s : State) (src dst : Nat) : State :=
  let keep := Tab.clear s.cls.rows (dst * 65536) ((dst + 1) * 65536)
  let new := s.cls.rows.filterMap fun e => if e.1 / 65536 = src then some (e.1 % 65536 + dst * 65536, e.2) else none
  let s : State := { s with cls := { s.cls with rows := new.foldl (fun t e => Tab.set {} t e.1 e.2) keep } }
  s.setSlice dst { (s.slice src) with inval := [], since := s.bus.ticks }

/-! ## Searches (R226, R227, R229, R237, R238) -/

/-- TCAM_QUEUE_ENTRY: the oldest search of an engine for a table enters the queue when it has room (R229). -/
def execTcamQueueEntry (p : Fin 17) (e : Fin 35) (t : Fin 8) (s : State) : Host.Outcome State Fault Refusal :=
  .next (s.enterOne (ofEngine p e) (128 + t))

/-- The search that the slot of a slice's table serves in this clock: the owning logical engine's, else that of the first in the rotating
order, in each queue the one that entered first (R229). -/
def State.slotSearch (s : State) (p t : Nat) : Option TurnRef :=
  ((s.bus.clk.toNat + s.beatN) % 32 :: rotOrder s.beatN 32).findSome? fun k =>
    (s.nextQueued (ofEngine p (s.engMap p k)) (128 + t)).bind fun r => if r.turn.inAt.getD 0 < s.bus.ticks then some r else none

/-- One search served: the entries whose rows match, lowest index first, each with its action and whether its check copy does not match
(R226, R237). -/
def State.serveSearch (s : State) (p t : Nat) : State :=
  if s.takesSlot p t then s
  else match s.slotSearch p t with
    | none => s
    | some r =>
      let s := (s.putTurn { r with turn := { r.turn with got := some 0 } }).use (.search p t)
      s.modReq r.key r.req fun q =>
        { q with found := (s.tcmHits p t q.bytes).map fun i => (i, (s.row (s.rowKey p t i 0)).act.toNat, !s.copyMatches p t i q.bytes) }

/-- One clock of the search slots (R229). -/
def State.searchClock (s : State) : State :=
  let at' := ((s.openTurns.filter fun r => decide (128 ≤ r.2.bank)).map fun r => (r.1 / 280, r.2.bank - 128)).eraseDups
  at'.foldl (fun s r => s.serveSearch r.1 r.2) s

/-- The response word of a search: the entry found with its action, or the profile's MISS action (R227, R228). -/
def State.tcsWord (s : State) (adm prof : Nat) (hit : Option (Nat × Nat)) (rerun : Bool) : Nat :=
  match hit with
  | some (i, act) => act % 2 ^ 40 + i % 65536 * 2 ^ 40 + b2n rerun * 2 ^ 62 + 2 ^ 63
  | none => s.regAs adm (tcmProf prof + 4) + bits (s.regAs adm (tcmProf prof + 8)) 7 0 * 2 ^ 32 + b2n rerun * 2 ^ 62

/-- The verification of a search's matches in turn, lowest index first: each comes with its action and with whether its row matched although
its check copy does not; badFirst says that the first other one's check copy has wrong parity. What fails is reported, set right and
excluded, and the search run again (R237, R238). -/
def State.verify (s : State) (p t : Nat) (badFirst rerun : Bool) : List (Nat × Nat × Bool) → State × Option (Nat × Nat) × Bool
  | [] => (s, none, rerun)
  | (i, act, wrong) :: rest =>
    if wrong then ((s.tcmError false p t i).askFixes p [.inPlace t i]).verify p t badFirst true rest
    else if badFirst || s.entryBad p t i then (s.badCopy p t i).verify p t false true rest
    else (s, some (i, act), rerun)

/-- A list of matches with one more in the order of indices; one that is already there is not doubled. -/
def addMatch (x : Nat × Nat × Bool) : List (Nat × Nat × Bool) → List (Nat × Nat × Bool)
  | [] => [x]
  | y :: l => if x.1 < y.1 then x :: y :: l else if x.1 = y.1 then y :: l else y :: addMatch x l

/-- TCAM_SEARCH_RESPONSE: once served, a search is answered with the matching entry of lowest index (R226, R227). falseAt names entries whose
rows matched although they do not match the key, a fault of their cells (R237); parity says that the matched entry's check copy has wrong
parity (R238). -/
def execTcamSearchResponse (t : Tid) (i : Fin 8) (falseAt : List (BitVec 16)) (parity : Bool) (s : State) :
    Host.Outcome State Fault Refusal :=
  let p := t.ave.val
  let e := t.eng.val
  let x := s.thread p e t.thr
  match x.reqs[i.val]? with
  | none => .next s
  | some q =>
    let adm := s.admOf p e x
    let tb := s.profTable adm q.id
    if q.kind ≠ .tcs then .next s
    else if !s.profValid adm q.id || q.turns = [] then .next (s.respondErr p e t.thr i q.rd)
    else if !q.turns.all (·.got.isSome) then .next s
    else
      let wrong := falseAt.filter fun j => j.toNat < s.tcmSize tb && s.entryValid p tb j.toNat && !s.entryMatches p tb j.toNat q.bytes
      let all := wrong.foldl (fun l j => addMatch (j.toNat, 0, true) l) q.found
      let (s, hit, rerun) := s.verify p tb parity false all
      .next (s.respond p e t.thr i [BitVec.ofNat 64 (s.tcsWord adm q.id hit rerun)])

/-! ## Policers (R240 to R244) -/

def polGet (r : BitVec 128) (hi lo : Nat) : Nat := bits r.toNat hi lo

/-- A policer record of its fields (R240). -/
def polRecord (tc tp prof last : Nat) (valid : Bool) : BitVec 128 :=
  BitVec.ofNat 128 (tc % 2 ^ 36 + tp % 2 ^ 36 * 2 ^ 36 + prof % 4096 * 2 ^ 72 + b2n valid * 2 ^ 84 + last % 2 ^ 32 * 2 ^ 96)

/-- The update of a valid policer by a request, and its colour (R242): 0 green, 1 yellow, 2 red. -/
def polUpdate (r : BitVec 128) (cir pir cbs pbs beat bytes inc : Nat) : BitVec 128 × Nat :=
  let raw := (beat + 2 ^ 32 - polGet r 127 96) % 2 ^ 32
  let d := if 2 ^ 31 ≤ raw then 0 else raw
  let tc := min (polGet r 35 0 + cir * d) (cbs * 256)
  let tp := min (polGet r 71 36 + pir * d) (pbs * 256)
  let b := bytes * 256
  let put := fun tc tp => polRecord tc tp (polGet r 83 72) beat true
  if (inc = 2) || tp < b then (put tc tp, 2)
  else if (inc = 1) || tc < b then (put tc (tp - b), 1)
  else (put (tc - b) (tp - b), 0)

def State.policer (s : State) (x : Nat) : BitVec 128 := Tab.get 0 s.cls.pol x

def State.setPolicer (s : State) (x : Nat) (r : BitVec 128) : State :=
  ({ s with cls := { s.cls with pol := Tab.set 0 s.cls.pol x r } } : State).written' 2 (x % 16)

/-- The update of policer x with its rate profile in this beat (R241, R242). -/
def State.polRun (s : State) (x bytes inc : Nat) : State × Nat :=
  let r := s.policer x
  let a := 0x8040000 + polGet r 83 72 * 0x10
  let (r, out) := polUpdate r (s.reg a) (s.reg (a + 4)) (s.reg (a + 8)) (s.reg (a + 0xC)) (s.beatN % 2 ^ 32) bytes inc
  (s.setPolicer x r, out)

/-- A policer record read with an uncorrectable error (R244). -/
def State.polError (s : State) (x : Nat) : State :=
  ((s.raise tcmStat 2).setReg 0x8000010 x).report 0x80 6 1 (x % 16) x

/-- The request, by its thread and place, that the slot of a policer bank serves in this clock: the owning avenue's, else that of the first in
the rotating order, one in a clock (R191). -/
def State.polTurn (s : State) (bank : Nat) : Option (Nat × Nat) :=
  if s.uses (.policer bank) = 0 then
    (s.slotTurn (64 + bank) ((s.bus.clk.toNat + bank) % 16)).map fun r => (r.key, r.req)
  else none

/-- POLICER_RESPONSE: the request is served in its bank's slot (R191, R242, R244); bad says that the record has an uncorrectable error. -/
def execPolicerResponse (t : Tid) (i : Fin 8) (bad : Bool) (s : State) : Host.Outcome State Fault Refusal :=
  let p := t.ave.val
  let e := t.eng.val
  match (s.thread p e t.thr).reqs[i.val]? with
  | none => .next s
  | some q =>
    let a := (q.key.headD 0).toNat
    let x := a % 2 ^ 20
    if q.kind ≠ .pol || s.polTurn (x % 16) ≠ some (thrKey p e t.thr, i.val) then .next s
    else
      let inc := bits a 21 20
      let s := s.use (.policer (x % 16))
      if bad then .next ((s.polError x).respondErr p e t.thr i q.rd)
      else if bitOf (s.policer x).toNat 84 then
        let (s, out) := s.polRun x (bits a 37 24) inc
        .next (s.respond p e t.thr i [BitVec.ofNat 64 out])
      else .next ((s.raise tcmStat 1).respond p e t.thr i [BitVec.ofNat 64 (if inc = 3 then 0 else inc)])

/-- POLICER_REFRESH: an update of a valid policer that takes no tokens, in a slot of its bank that is not taken (R185, R243). -/
def execPolicerRefresh (x : BitVec 20) (s : State) : Host.Outcome State Fault Refusal :=
  let bank := x.toNat % 16
  .next (if bitOf (s.policer x.toNat).toNat 84 && s.uses (.policer bank) == 0 then (s.polRun x.toNat 0 3).1.use (.policer bank) else s)

def polWin (w : Nat) : Nat := 0x8050000 + w * 0x100

/-- POLICER_WINDOW_READ: the record into D0 to D3 (R244); bad says that it has an uncorrectable error. -/
def execPolicerWindowRead (r : Requester) (w : Fin 2) (bad : Bool) (s : State) : Host.Outcome State Fault Refusal :=
  let a := polWin w
  let x := s.fld (a + 4) 19 0
  if (r == .host) != (w == 0) then .next (s.raise tcmStat 3)
  else if s.flag a 31 then .next (s.raise tcmStat 4)
  else if bad then .next ((s.setFlag a 30 true).polError x)
  else .next ((s.setFlag a 30 false).setRegs (a + 0x10) ((List.range 4).map fun i => polGet (s.policer x) (32 * i + 31) (32 * i)))

/-- No avenue has a request in its queue of a policer bank, so that no avenue uses the bank's slot (R191, R244). -/
def State.polIdle (s : State) (bank : Nat) : Bool :=
  s.uses (.policer bank) == 0 && (List.range 16).all fun l => (s.queued (s.ofAvenue l) (64 + bank)).isEmpty

/-- A policer record written by a window in its slot: TC, TP, PROFILE and VALID as written, LAST the beat of the slot (R244). -/
def State.polStore (s : State) (x : Nat) (v : BitVec 128) : State :=
  (s.setPolicer x (polRecord (polGet v 35 0) (polGet v 71 36) (polGet v 83 72) s.beatN (bitOf v.toNat 84))).use (.policer (x % 16))

/-- The slots that waiting window writes take in a clock, at most one in each bank: one that no avenue uses, or the slot of clock 128 of a
beat since whose clock 0 the write has waited (R244). -/
def State.polSlots (s : State) : State :=
  (s.cls.polPend.foldl (fun (a : State × List Nat) w =>
    let bank := w.idx % 16
    if a.2.contains bank || !(s.polIdle bank || (s.bus.clk.toNat == 128 && decide (w.since + 128 ≤ s.bus.ticks))) then a
    else
      let t : State := { a.1 with cls := { a.1.cls with polPend := a.1.cls.polPend.filter fun e => e.win != w.win } }
      ((t.setFlag (polWin w.win) 31 false).polStore w.idx w.val, bank :: a.2)) (s, [])).1

/-- POLICER_WINDOW_WRITE: in a slot of its bank that no avenue uses, the record of D0 to D3; it waits, with BUSY 1, for such a slot, or for
that of clock 128 (R244). A write while BUSY is 1 is ignored, as it is in a TCAM window. -/
def execPolicerWindowWrite (r : Requester) (w : Fin 2) (s : State) : Host.Outcome State Fault Refusal :=
  let a := polWin w
  if (r == .host) != (w == 0) then .next (s.raise tcmStat 3)
  else if s.flag a 31 then .next (s.raise tcmStat 4)
  else
    let v := BitVec.ofNat 128 (s.reg64 (a + 0x10) + s.reg64 (a + 0x18) * 2 ^ 64)
    let x := s.fld (a + 4) 19 0
    if s.polIdle (x % 16) then .next (s.polStore x v)
    else
      let t : State := { s with cls := { s.cls with polPend := s.cls.polPend ++ [{ win := w, idx := x, val := v, since := s.bus.ticks }] } }
      .next (t.setFlag a 31 true)

end Sys2Proof.Machine
end

