-- ==== Sys2Proof/Machine/Pattern.lean ====
section
/-! DEFINITION. Pattern filters: image slots, scans and match records (spec/08_tcam_patterns R245 to R250). -/

namespace Sys2Proof.Machine

def patStat : Nat := 0x9000000

/-- BASE and SIZE registers of an image slot. -/
def patBase (b : Bool) : Nat := if b then 0x9000018 else 0x9000010

/-! ## Copies and scans (R245 to R247, R250) -/

/-- Frame bytes that wait in an automaton unit. -/
def State.patUsed (s : State) (u : Nat) : Nat := ((Tab.get [] s.cls.scans u).map (·.frame.length)).sum

/-- The unit of a profile with the most free buffer, the lowest-numbered on a tie (R245). -/
def State.patUnit (s : State) (units : Nat) : Option Nat :=
  (List.range 4).foldl (fun o u =>
    if bitOf units u then
      match o with
      | none => some u
      | some v => if s.patUsed u < s.patUsed v then some u else o
    else o) none

/-- The copy of a scanned packet's frame at its hand-over, or a skip (R245). -/
def State.patCopy (s : State) (n scan hdrEnd hash : Nat) : State :=
  if scan = 0 then s
  else
    let cfg := s.reg (0x9000100 + scan * 4)
    let pk := s.pkt n
    let skip := (s.count 0x90 0x41 scan 1).raise patStat 7
    if !bitOf cfg 31 then skip
    else match s.patUnit (bits cfg 7 4) with
      | none => skip
      | some u =>
        if 2097152 < s.patUsed u + pk.data.length then skip
        else
          let c : ScanCopy := { frame := pk.data, profile := scan, cfg := cfg, slotB := s.flag patStat 0,
                                hdrEnd := hdrEnd, ctx := pk.ctx, admBeat := pk.admBeat, admClk := pk.admClk, hash := hash }
          { s with cls := { s.cls with scans := Tab.set [] s.cls.scans u (Tab.get [] s.cls.scans u ++ [c]) } }

/-- A match record (R247). -/
def patRecord (c : ScanCopy) (u pattern endOff : Nat) (last err : Bool) : List Byte :=
  leBytes (pattern % 65536 + c.profile % 16 * 2 ^ 16 + u % 4 * 2 ^ 20 + b2n last * 2 ^ 22 + b2n err * 2 ^ 23 + c.ctx % 256 * 2 ^ 24) 4
  ++ leBytes c.admBeat 4 ++ leBytes c.hash 4 ++ leBytes (endOff % 2 ^ 14 + c.admClk % 256 * 2 ^ 16) 4

/-- A record enters the match queue, or is discarded when it holds 4,096 (R247). -/
def State.patEnter (s : State) (r : List Byte) : State :=
  if s.cls.recs.length < 4096 then ({ s with cls := { s.cls with recs := s.cls.recs ++ [r] } } : State).writtenAny 12 else s.raise patStat 8

/-- Bytes of the lookup extension from a byte address. -/
def State.extBytes (s : State) (a n : Nat) : List Byte :=
  (List.range n).map fun i => BitVec.ofNat 8 (lineField (Tab.get 0 s.tbl.dram ((a + i) / 64)) ((a + i) % 64) 1)

/-- PATTERN_SCAN: unit u scans its oldest copy (R246, R247); err says at which image offset an automaton word had an uncorrectable
error (R250). -/
def execPatternScan (u : Fin 4) (err : Option (BitVec 32)) (s : State) : Host.Outcome State Fault Refusal :=
  match Tab.get [] s.cls.scans u with
  | [] => .next s
  | c :: rest =>
    let s : State := { s with cls := { s.cls with scans := Tab.set [] s.cls.scans u rest } }
    let s := (s.count 0x90 0x40 c.profile 1).writtenAny 13
    match err with
    | some off =>
      let s := (s.patEnter (patRecord c u 0 0 false true)).raise patStat 9
      .next (s.report 0x90 1 1 u off.toNat)
    | none =>
      let set := bits c.cfg 3 0
      let sets := (s.extBytes (s.fld (patBase c.slotB) 20 0 * 4096 + 3) 1).map (·.toNat)
      if sets.headD 0 ≤ set then .next s
      else
        let start := if bitOf c.cfg 8 then c.hdrEnd else 0
        let len := bits c.cfg 23 12 * 64
        let stop := if len = 0 then c.frame.length else min c.frame.length (start + len)
        let most := min (max (bits c.cfg 28 24) 1) 16
        let found := ((Config.patMatches s.fresh set).filter fun x => start < x.2.toNat && x.2.toNat ≤ stop).take most
        let s := s.count 0x90 0x42 c.profile found.length
        let s := (found.zipIdx).foldl (fun s x => s.patEnter (patRecord c u x.1.1.toNat x.1.2.toNat (x.2 + 1 == most) false)) s
        .next { s with fresh := s.fresh + 1 }

/-! ## Image slots (R248, R249) -/

/-- A slot that may not be written: the active one, or the previous one while scans on it go on (R249). -/
def State.patProtected (s : State) (b : Bool) : Bool := s.flag patStat 0 == b || s.flag patStat 6

/-- A slot was written: it is not CLEAN, nor does a check that runs find it so. -/
def State.patTouched (s : State) (b : Bool) : State :=
  let s := s.setFlag patStat (if b then 2 else 1) false
  match s.cls.chk with
  | some c => if c.bankB = b then { s with cls := { s.cls with chk := some { c with dirty := true } } } else s
  | none => s

/-- PAT_WIN_WRITE: 8 bytes into an image slot, and ADDR rises by 1 (R6, R249). -/
def execPatWinWrite (r : Requester) (v : Word) (s : State) : Host.Outcome State Fault Refusal :=
  let s := s.done r 0x9000208
  let b := s.flag 0x9000200 31
  let a := s.fld 0x9000200 28 0
  let lo := (Tab.get 0 s.bus.lowHalf 0x9000204).toNat
  if s.patProtected b || s.fld (patBase b + 4) 20 0 * 512 ≤ a then .next (s.raise patStat 4)
  else
    let w := s.fld (patBase b) 20 0 * 64 + a / 8
    let d : Line := BitVec.ofNat 512 ((lo + v.toNat * 2 ^ 32) * 2 ^ (64 * (a % 8)))
    let l := mergeLine (Tab.get 0 s.tbl.dram w) d (byteMask (a % 8 * 8) 8)
    let s : State := { s with tbl := { s.tbl with dram := Tab.set 0 s.tbl.dram w l } }
    .next ((s.patTouched b).setFld 0x9000200 28 0 (a + 1))

/-- PAT_CHECK: a check of an image slot begins; ignored while one runs (R249). -/
def execPatCheck (slotB : Bool) (s : State) : Host.Outcome State Fault Refusal :=
  let s := s.setFlag 0x9000020 4 slotB
  if s.cls.chk.isSome then .next s
  else .next (({ s with cls := { s.cls with chk := some { bankB := slotB, dirty := false } } } : State).setFlag patStat 3 true)

/-- FAIL_CODE of an image slot: 0 when its header, range, size and CRC are right (R248, R249). -/
def State.patFail (s : State) (b : Bool) : Nat :=
  let base := s.fld (patBase b) 20 0
  let size := s.fld (patBase b + 4) 20 0
  let h := s.extBytes (base * 4096) 64
  let body := leNat (sliceAt h 8 8)
  let sets := byteAt h 3
  let overlap := (List.range 256).any fun n => s.tdValid n && s.tdDram n
    && s.tdDramBase n < (base + size) * 64 && base * 64 < s.tdDramBase n + s.tdDramSize n
  if leNat (sliceAt h 0 2) ≠ 0x5046 || byteAt h 2 ≠ 1 then 1
  else if sets = 0 || 16 < sets || 65536 < leNat (sliceAt h 4 4) then 4
  else if 2 ^ 21 < base + size || overlap || size * 4096 < 64 + body then 3
  else if (crc32 0xFFFFFFFF (s.extBytes (base * 4096 + 64) body) ^^^ 0xFFFFFFFF).toNat ≠ leNat (sliceAt h 16 4) then 2
  else 0

/-- PAT_CHECK_COMPLETE: CLEAN is set when nothing failed and the slot was not written meanwhile (R249). -/
def execPatCheckComplete (s : State) : Host.Outcome State Fault Refusal :=
  match s.cls.chk with
  | none => .next s
  | some c =>
    let s := ({ s with cls := { s.cls with chk := none } } : State).setFlag patStat 3 false
    let f := s.patFail c.bankB
    let s := s.setReg 0x9000024 f
    .next (if f = 0 && !c.dirty then s.setFlag patStat (if c.bankB then 2 else 1) true else s)

/-- The activation of the pattern image (R249). -/
def State.patSwitch (s : State) : State :=
  let b := !s.flag patStat 0
  if s.flag patStat (if b then 2 else 1) then (s.setFlag patStat 0 b).setFlag patStat 6 true else s.raise patStat 5

/-- PAT_OLD_PROT_END: no scan that began on the previous slot is left (R249). -/
def execPatOldProtEnd (s : State) : Host.Outcome State Fault Refusal :=
  let old := !s.flag patStat 0
  if (List.range 4).any fun u => (Tab.get [] s.cls.scans u).any (·.slotB == old) then .next s else .next (s.setFlag patStat 6 false)

/-- PAT_REC0_READ: the oldest match record is latched and its first word returned (R247). -/
def execPatRec0Read (r : Requester) (s : State) : Host.Outcome State Fault Refusal :=
  let s : State := { s with cls := { s.cls with latched := s.cls.recs.head? } }
  .next (s.answer r 0x9000300 (recWord s.cls.latched 0))

/-- PAT_REC3_READ: the latched record's last word is returned and the record leaves the queue (R247). -/
def execPatRec3Read (r : Requester) (s : State) : Host.Outcome State Fault Refusal :=
  let s := s.answer r 0x900030C (recWord s.cls.latched 3)
  .next (if s.cls.latched.isSome then { s with cls := { s.cls with latched := none, recs := s.cls.recs.drop 1 } } else s)

end Sys2Proof.Machine
end

