-- ==== Sys2Proof/Machine/Learning.lean ====
section
/-! DEFINITION. Learn candidates, the learning unit and the ager, and the running of hash commands (spec/09_learning, 07_tables R204). -/

namespace Sys2Proof.Machine

def lrnStat : Nat := 0xA000004

/-- The learned table (LRN_CFG.TABLE). -/
def State.lrnTable (s : State) : Nat := s.fld 0xA000000 15 8

/-! ## Candidates (R255, R256) -/

/-- A candidate equals one executed within the last 16 beats (R256). -/
def State.lrnRecent (s : State) (c : Cand) : Bool :=
  s.lrn.recent.any fun r => r.1 == c.key && r.2.1 == c.dest && decide (s.bus.beats < r.2.2 + 16)

/-- A candidate released at a boundary (R255, R256). -/
def State.lrnOffer (s : State) (c : Cand) : State :=
  if s.lrnRecent c then s
  else if s.lrn.queue.length < 4096 then { s with lrn := { s.lrn with queue := s.lrn.queue ++ [c] } }
  else s.raise lrnStat 0

/-! ## Learn records (R264, R265) -/

/-- The number of a record's type: 1 NEW, 2 MOVE, 3 AGED, 4 EVICTED, 5 FLAP, 6 UNFROZEN, 7 STATIC_HIT, 8 NO_ROOM. -/
def State.lrnRecord (s : State) (ty key lave new old ctx : Nat) : State :=
  let s := s.count 0xA0 0x43 ty 1
  let w1 := ty + lave % 16 * 2 ^ 4 + new % 2 ^ 20 * 2 ^ 8 + old % 2 ^ 20 * 2 ^ 28 + ctx % 256 * 2 ^ 48
  let seq := s.lrn.seq
  let next := (seq + 1) % 2 ^ 32
  if s.lrn.recs.length < 8192 then
    let r := leBytes (key % 2 ^ 62) 8 ++ leBytes w1 8 ++ leBytes (s.beatN % 2 ^ 32 + seq * 2 ^ 32) 8 ++ leBytes (min s.lrn.lost (2 ^ 32 - 1)) 8
    ({ s with lrn := { s.lrn with recs := s.lrn.recs ++ [r], seq := next, lost := 0 } } : State).writtenAny 12
  else ({ s with lrn := { s.lrn with seq := next, lost := s.lrn.lost + 1 } } : State).raise lrnStat 1

/-! ## Entries of the MAC table (R201) -/

/-- Word 1 of a MAC entry. -/
def macWord (dest age : Nat) (static : Bool) : Nat := dest % 2 ^ 20 + age % 256 * 2 ^ 40 + b2n static * 2 ^ 62

def macDest (w : Nat) : Nat := bits w 19 0
def macAge (w : Nat) : Nat := bits w 47 40
def macStatic (w : Nat) : Bool := bitOf w 62

/-- The current epoch (R262). -/
def State.epoch (s : State) : Nat := s.fld 0xA00000C 7 0

/-- AGE_LIMIT as it acts: 1 to 200. -/
def State.ageLimit (s : State) : Nat := min (max (s.fld 0xA000008 15 8) 1) 200

/-- Epochs since an entry was refreshed (R262, R263). -/
def State.ageOf (s : State) (w : Nat) : Nat := (s.epoch + 256 - macAge w) % 256

/-- The entry of a key: its place and its word 1. -/
def State.macFind (s : State) (key : Nat) : Option ((Nat × Nat) × Nat) :=
  let n := s.lrnTable
  (s.findSlot n s.hashWord [key] (s.hashBuckets n [key])).map fun p => (p, (slotResult 16 (s.hashWord p.1) p.2).headD 0)

/-- An entry written by the learning unit. -/
def State.macPut (s : State) (p : Nat × Nat) (key w : Nat) : State := s.putSlot s.lrnTable p (entryWords 16 [key] [w])

/-- The occupants of a key's buckets, in order: place, key and word 1. -/
def State.occupants (s : State) (key : Nat) : List ((Nat × Nat) × Nat × Nat) :=
  let n := s.lrnTable
  (s.hashBuckets n [key]).flatMap fun w =>
    ((List.range 4).filter fun i => slotValid 16 (s.hashWord w) i).map fun i =>
      ((w, i), lineWord (s.hashWord w) (2 * i) % 2 ^ 63, lineWord (s.hashWord w) (2 * i + 1))

/-- The oldest occupant that is not static; a tie goes to the earlier slot (R263). -/
def State.oldestOccupant (s : State) (key : Nat) : Option ((Nat × Nat) × Nat × Nat) :=
  (s.occupants key).foldl (fun o x =>
    if macStatic x.2.2 then o
    else match o with
      | none => some x
      | some y => if s.ageOf y.2.2 < s.ageOf x.2.2 then some x else o) none

/-! ## Moves and freezes (R259 to R261) -/

def secondClocks : Nat := 1500000000

def State.moveLimit (s : State) : Nat := max (s.fld 0xA000010 7 0) 1

def State.track (s : State) (key : Nat) : Option Track := s.lrn.tracks.find? (·.key == key)

def State.lrnFrozen (s : State) (key : Nat) : Bool := ((s.track key).bind (·.frozen)).isSome

def State.setTrack (s : State) (x : Track) : State :=
  { s with lrn := { s.lrn with tracks := x :: s.lrn.tracks.filter (·.key != x.key) } }

/-- The tracker entry whose last move is oldest, among keys not frozen; entries stand in the order of their last moves, the newest first
(R259). -/
def State.oldestTrack (s : State) : Option Track :=
  s.lrn.tracks.foldl (fun o x =>
    if x.frozen.isSome then o
    else match o with
      | none => some x
      | some y => if x.last ≤ y.last then some x else o) none

/-- A move is counted: true when it is refused and the key freezes (R259, R260). -/
def State.trackMove (s : State) (key : Nat) : State × Bool :=
  let now := s.bus.ticks
  let fresh : Track := { key := key, count := 1, opened := now, last := now, frozen := none }
  match s.track key with
  | some x =>
    if x.opened + secondClocks ≤ now then (s.setTrack fresh, false)
    else if s.moveLimit < x.count + 1 then ((s.setTrack { x with frozen := some now }).raise lrnStat 5, true)
    else (s.setTrack { x with count := x.count + 1, last := now }, false)
  | none =>
    if s.lrn.tracks.length < 1024 then (s.setTrack fresh, false)
    else match s.oldestTrack with
      | some y => (({ s with lrn := { s.lrn with tracks := s.lrn.tracks.filter (·.key != y.key) } } : State).setTrack fresh, false)
      | none => (s.raise lrnStat 4, false)

/-- A key unfrozen: its tracker entry is free and a record is written (R261). -/
def State.unfreeze (s : State) (key : Nat) : State :=
  if s.lrnFrozen key then
    let old := ((s.macFind key).map fun e => macDest e.2).getD 0
    let s : State := { s with lrn := { s.lrn with tracks := s.lrn.tracks.filter (·.key != key) } }
    s.lrnRecord 6 key 0 0 old 0
  else s

/-- FREEZE_EXPIRY: FREEZE_S seconds after the freeze the key is unfrozen (R261). -/
def execFreezeExpiry (key : BitVec 62) (s : State) : Host.Outcome State Fault Refusal :=
  let f := s.fld 0xA000010 23 8
  match (s.track key.toNat).bind (·.frozen) with
  | some since => if f ≠ 0 && since + f * secondClocks ≤ s.bus.ticks then .next (s.unfreeze key.toNat) else .next s
  | none => .next s

/-- UNFREEZE: a write of LRN_UNF_HI unfreezes the key of both halves, or every frozen key (R6, R261). -/
def execUnfreeze (r : Requester) (v : Word) (s : State) : Host.Outcome State Fault Refusal :=
  let s := s.done r 0xA00001C
  let lo := (Tab.get 0 s.bus.lowHalf 0xA000018).toNat
  let n := v.toNat
  if bitOf n 31 then .next ((s.lrn.tracks.filter (·.frozen.isSome)).foldl (fun s x => s.unfreeze x.key) s)
  else .next (s.unfreeze (lo + n % 65536 * 2 ^ 32 + bits n 29 16 * 2 ^ 48))

/-! ## Execution (R257, R258, R262) -/

/-- A new entry for an absent key (R258, the first three lines of its table). -/
def State.learnNew (s : State) (c : Cand) : State :=
  let n := s.lrnTable
  let w := macWord c.dest s.epoch false
  match s.makeRoom n [c.key] with
  | some (s, p) => (s.macPut p c.key w).lrnRecord 1 c.key c.lave c.dest 0 c.ctx
  | none =>
    match s.oldestOccupant c.key with
    | none => (s.raise lrnStat 2).lrnRecord 8 c.key c.lave c.dest 0 c.ctx
    | some (p, k, old) =>
      let s := (s.clearSlot n p).lrnRecord 4 k c.lave 0 (macDest old) 0
      (s.macPut p c.key w).lrnRecord 1 c.key c.lave c.dest 0 c.ctx

/-- A refresh: AGE becomes the current epoch when it differs (R258). -/
def State.learnRefresh (s : State) (p : Nat × Nat) (key w : Nat) : State :=
  if macAge w = s.epoch then s else (s.macPut p key (macWord (macDest w) s.epoch false)).count 0xA0 0x42 0 1

/-- The execution of a candidate (R258). -/
def State.learn (s : State) (c : Cand) : State :=
  match s.macFind c.key with
  | none => s.learnNew c
  | some (p, w) =>
    let same := macDest w == c.dest
    if macStatic w then
      if same then s
      else
        let s := s.raise lrnStat 3
        if s.flag 0xA000000 2 then s.lrnRecord 7 c.key c.lave c.dest (macDest w) c.ctx else s
    else if same then s.learnRefresh p c.key w
    else if s.lrnFrozen c.key then s
    else
      let (s, frozen) := s.trackMove c.key
      if frozen then s.lrnRecord 5 c.key c.lave c.dest (macDest w) c.ctx
      else (s.macPut p c.key (macWord c.dest s.epoch false)).lrnRecord 2 c.key c.lave c.dest (macDest w) c.ctx

/-- A deletion of the ager, checked again as it executes (R262). -/
def State.ageOut (s : State) (key : Nat) : State :=
  match s.macFind key with
  | none => s
  | some (p, w) =>
    if macStatic w || s.ageOf w < s.ageLimit then s else (s.clearSlot s.lrnTable p).lrnRecord 3 key 0 0 (macDest w) 0

/-- SWEEPING follows the ager's queue. -/
def State.setAged (s : State) (l : List Nat) : State :=
  ({ s with lrn := { s.lrn with aged := l } } : State).setFlag 0xA00000C 8 (l != [])

/-- The learned table is one that hash commands may change (R196, R203). -/
def State.lrnReady (s : State) : Bool := s.scrRunning .lkp && s.tdValid s.lrnTable && s.tdKind s.lrnTable == 2

/-- The effect of a command of the learning unit: 5 a candidate, 6 a deletion of the ager's, 7 a word written as 0 (R221, R257, R258). On a
table that hash commands may not change it ends at once, with no record (R196). -/
def State.lrnEffect (s : State) (c : HashCmd) : State :=
  match c.op, c.cand with
  | 5, some d =>
    let s := if s.lrnReady then (s.count 0xA0 0x41 0 1).learn d else s
    let b := s.bus.beats
    { s with lrn := { s.lrn with recent := (d.key, d.dest, b) :: s.lrn.recent.filter fun r => decide (b < r.2.2 + 16) } }
  | 6, _ => if s.lrnReady then (s.count 0xA0 0x41 0 1).ageOut (c.key.headD 0) else s
  | 7, _ => s.stage 2 true (c.key.headD 0) 0 (BitVec.allOnes 64)
  | _, _ => s

/-- A hash command run: none when the overlay has no room for its entries, so that it waits (R203, R219). A window's command is busy to the
boundary that commits it (R204). -/
def State.hashTry (s : State) (c : HashCmd) : Option State :=
  if 2 ≤ c.win then
    let s' := s.lrnEffect c
    if s'.tbl.ovl.length ≤ 4096 then some s' else none
  else if !s.scrRunning .lkp then some (s.hashReply c 5 [])
  else
    let (s', res, found) := s.hashRun c
    if s'.tbl.ovl.length ≤ 4096 then
      some (({ s' with tbl := { s'.tbl with hashBusy := c.win :: s'.tbl.hashBusy } } : State).hashReply c res found)
    else none

/-- Waiting hash commands of earlier clocks run, oldest first, as far as the overlay has room (R204, R219). -/
def State.hashDrain (s : State) : Nat → State
  | 0 => s
  | k + 1 =>
    match s.tbl.hashQ with
    | [] => s
    | c :: q =>
      if s.bus.ticks ≤ c.tick then s
      else match s.hashTry c with
        | none => s
        | some s => ({ s with tbl := { s.tbl with hashQ := q } } : State).hashDrain k

/-- One clock of the hash unit. -/
def State.hashClock (s : State) : State := s.hashDrain s.tbl.hashQ.length

/-- A command of the learning unit: it executes, or waits behind an earlier hash command or for overlay room, holding every later one
(R204, R219, R257). -/
def State.lrnRun (s : State) (op key : Nat) (cand : Option Cand) : State :=
  let c : HashCmd := { win := 2, op := op, table := s.lrnTable, key := [key], res := [], static := false, cand := cand }
  let s := { s with lrn := { s.lrn with ran := s.lrn.ran + 1 } }
  match if s.tbl.hashQ = [] then s.hashTry c else none with
  | some s => s
  | none => s.hashSend c

/-- LEARN_EXECUTE: the oldest candidate, or the oldest deletion of the ager, is executed as a hash command, 8 in a beat at most; a candidate
like one executed within 16 beats is discarded (R256 to R258). -/
def execLearnExecute (ager : Bool) (s : State) : Host.Outcome State Fault Refusal :=
  if 8 ≤ s.lrn.ran then .next s
  else if ager then
    match s.lrn.aged with
    | [] => .next s
    | k :: rest => .next ((s.setAged rest).lrnRun 6 k none)
  else
    match s.lrn.queue with
    | [] => .next s
    | c :: rest =>
      let t : State := { s with lrn := { s.lrn with queue := rest } }
      .next (if s.lrnRecent c then t else t.lrnRun 5 c.key (some c))

/-- The keys of a table's entries that are due to age out, as the ager's sweep finds them (R262). -/
def State.agedKeys (s : State) : List Nat :=
  let n := s.lrnTable
  let ws := s.tbl.sram.map (·.1) ++ s.tbl.dram.map (fun e => sramWords + e.1) ++ s.tbl.ovl.map (·.word)
  let ws := (ws.filter fun w => if w < sramWords then s.holdsBank n (w / 32768) else s.holdsDram n (w - sramWords)).eraseDups
  ws.flatMap fun w => (List.range 4).filterMap fun i =>
    let l := s.hashWord w
    let r := lineWord l (2 * i + 1)
    if slotValid 16 l i && !macStatic r && decide (s.ageLimit ≤ s.ageOf r) then some (lineWord l (2 * i) % 2 ^ 63) else none

/-- EPOCH_ADVANCE: EPOCH_S seconds after the last, the epoch rises, a waiting setting applies and the ager sweeps the table (R262). -/
def execEpochAdvance (s : State) : Host.Outcome State Fault Refusal :=
  let e := s.fld 0xA000008 7 0
  if e = 0 || s.bus.ticks < s.lrn.epochAt + e * secondClocks then .next s
  else
    let s := (s.setFld 0xA00000C 7 0 (s.epoch + 1))
    let s := match s.lrn.agePend with
      | some v => s.setReg 0xA000008 v
      | none => s
    let s := { s with lrn := { s.lrn with epochAt := s.bus.ticks, agePend := none } }
    let s := if s.lrn.aged ≠ [] then s.raise lrnStat 6 else s
    let due := if s.lrnReady && s.tdMac s.lrnTable then s.agedKeys.filter fun k => !s.lrn.aged.contains k else []
    .next (s.setAged (s.lrn.aged ++ due))

/-! ## The record queue (R264) -/

/-- The requester that may read the learn records. -/
def State.lrnOwner (s : State) (r : Requester) : Bool := s.flag 0xA000000 1 == (r == .host)

/-- LRN_REC0_READ: the oldest record is latched; the other requester reads 0 (R264). -/
def execLrnRec0Read (r : Requester) (s : State) : Host.Outcome State Fault Refusal :=
  if s.lrnOwner r then
    let s : State := { s with lrn := { s.lrn with latched := s.lrn.recs.head? } }
    .next (s.answer r 0xA000030 (recWord s.lrn.latched 0))
  else .next ((s.raise lrnStat 9).done r 0xA000030)

/-- Firmware's EVPN table and its events follow a learn record, up to 4,194,304 entries (R265, R413, R421). -/
def State.evpnRecord (s : State) (rec' : List Byte) : State :=
  let k := leNat (sliceAt rec' 0 8)
  let w1 := leNat (sliceAt rec' 8 8)
  let new := bits w1 27 8
  let sev := (Config.eventSev 14).toNat
  let arg := new + bits w1 47 28 * 2 ^ 20
  let put := fun (o : Option Nat) => ({ s with mss := { s.mss with evpn := Tab.set none s.mss.evpn k o } } : State)
  match bits w1 3 0 with
  | 1 => if s.mss.evpn.length < 4194304 then (put (some new)).logEvent sev 0x09 0x0501 k arg else s.logEvent sev 0x09 0x0501 k arg
  | 2 => (if s.mss.evpn.length < 4194304 || (Tab.get none s.mss.evpn k).isSome then put (some new) else s).logEvent sev 0x09 0x0502 k arg
  | 3 | 4 => (put none).logEvent sev 0x09 0x0503 k arg
  | 5 => s.logEvent sev 0x09 0x0504 k arg
  | _ => s

/-- LRN_REC7_READ: the latched record leaves the queue; firmware follows it in its EVPN table (R264, R413). -/
def execLrnRec7Read (r : Requester) (s : State) : Host.Outcome State Fault Refusal :=
  if s.lrnOwner r then
    let s := match r, s.lrn.latched with
      | .mss, some x => if s.mssMode = 1 then s.evpnRecord x else s
      | _, _ => s
    let s := s.answer r 0xA00004C (recWord s.lrn.latched 7)
    .next (if s.lrn.latched.isSome then { s with lrn := { s.lrn with latched := none, recs := s.lrn.recs.drop 1 } } else s)
  else .next ((s.raise lrnStat 9).done r 0xA00004C)

end Sys2Proof.Machine
end

