-- ==== Sys2Proof/Machine/Square.lean ====
section
/-! DEFINITION. The square: handles, buffers and descriptors, quotas, queues, moves, replication, frees and the queue windows
(spec/10_queues_buffers). -/

namespace Sys2Proof.Machine

def qmStat : Nat := 0xB000000
def bpmStat : Nat := 0xC000004

/-! ## Access -/

def State.handle (s : State) (h : Nat) : Handle := Tab.get {} s.sq.handles h
def State.setHandle (s : State) (h : Nat) (x : Handle) : State := { s with sq := { s.sq with handles := Tab.set {} s.sq.handles h x } }
def State.pdOf (s : State) (d : Nat) : Pd := Tab.get {} s.sq.pds d
def State.setPd (s : State) (d : Nat) (x : Pd) : State := { s with sq := { s.sq with pds := Tab.set {} s.sq.pds d x } }
def State.queue (s : State) (q : Nat) : List Nat := Tab.get [] s.sq.queues q
def State.setQueue (s : State) (q : Nat) (l : List Nat) : State := { s with sq := { s.sq with queues := Tab.set [] s.sq.queues q l } }

/-- Units of 64 bytes of a frame and a script of so many words (R275). -/
def unitsOf (len slen : Nat) : Nat := ceilDiv (len + 8 * slen) 64

def Handle.units (h : Handle) : Nat := unitsOf h.len h.slen

/-- Units in a queue (R279). -/
def State.depth (s : State) (q : Nat) : Nat := ((s.queue q).map fun d => (s.handle (s.pdOf d).handle).units).sum

/-- Queue configuration (R280): EN, TYPE, TARGET, SPILL and LIMIT. -/
def State.qcfg0 (s : State) (q : Nat) : Nat := Tab.get 64 s.sq.cfg0 q
def State.qcfg1 (s : State) (q : Nat) : Nat := Tab.get 1024 s.sq.cfg1 q
def State.qEn (s : State) (q : Nat) : Bool := bitOf (s.qcfg0 q) 31
def State.qType (s : State) (q : Nat) : Nat := bits (s.qcfg0 q) 30 29
def State.qTarget (s : State) (q : Nat) : Nat := bits (s.qcfg0 q) 23 16

def chargeReg (r : Nat) : Nat := 0xC001004 + r * 8

/-- Bytes by which a PD counts in the demand for its DEST (R340). -/
def State.pdDemand (s : State) (d : Nat) : Nat :=
  let x := s.pdOf d
  let h := s.handle x.handle
  h.len + 8 * h.slen + x.pclen + 16

/-! ## Drops (R291) -/

/-- A drop of the square, counted by code and requester; the flags of its codes. -/
def State.qmDrop (s : State) (code req : Nat) : State :=
  let s := s.count 0xB0 code req 1
  match code with
  | 0x01 => s.raise qmStat 1
  | 0x02 => s.raise bpmStat 4
  | 0x06 => s.raise qmStat 2
  | 0x08 => s.raise qmStat 3
  | _ => s

/-- A record dropped at its landing. -/
def State.landDrop (s : State) (code req : Nat) (tag : Option Nat) : State :=
  (s.qmDrop code req).closeSample tag 3 0xB0 code false

/-! ## Pools (R270 to R273) -/

/-- SIZE of a class. -/
def State.classSize (s : State) (c : Nat) : Nat := s.fld (0xC000020 + c * 4) 13 0

def State.poolCount (s : State) (dram : Bool) (c : Nat) : Nat := s.fld (0xC000040 + b2n dram * 0x10 + c * 4) 25 0

/-- Buffers of a pool in use. -/
def State.poolUsed (s : State) (dram : Bool) (c : Nat) : Nat :=
  (s.sq.handles.filter fun e => e.2.st != .free && e.2.dram == dram && e.2.cls == c).length
    + (if dram then 0 else (s.sq.linger.filter fun e => e.1 == c).length)

def State.poolFree (s : State) (dram : Bool) (c : Nat) : Nat :=
  if s.sq.built then s.poolCount dram c - s.poolUsed dram c else 0

/-- The class from which a frame of a length takes its buffer: the smallest that holds it and has one (R271). -/
def State.pickClass (s : State) (dram : Bool) (len : Nat) : Option Nat :=
  (List.range 4).find? fun c => len ≤ s.classSize c && 0 < s.poolFree dram c

/-- The lowest number that a table does not use. -/
def lowestFree {α : Type} (d : α) (t : Tab α) (free : α → Bool) : Nat :=
  ((List.range (t.length + 1)).find? fun n => free (Tab.get d t n)).getD t.length

/-- The lowest buffer of a pool that no handle uses and no read still holds. -/
def State.freeBuf (s : State) (dram : Bool) (c : Nat) : Nat :=
  let used := (s.sq.handles.filter fun e => e.2.st != .free && e.2.dram == dram && e.2.cls == c).map (·.2.buf)
    ++ (if dram then [] else (s.sq.linger.filter fun e => e.1 == c).map fun e => e.2.1)
  ((List.range (used.length + 1)).find? fun n => !used.contains n).getD 0

/-- Handles and PDs of the module (R273). -/
def tmObjects : Nat := 134217728

/-- A free handle, and a free PD. -/
def State.newHandle (s : State) : Option Nat :=
  let n := lowestFree {} s.sq.handles fun h => h.st == .free
  if n < tmObjects then some n else none

def State.newPd (s : State) : Option Nat :=
  let n := lowestFree {} s.sq.pds fun d => d.owner == 63 && !d.quar
  if n < tmObjects then some n else none

/-! ## Frees (R275, R286 to R288) -/

/-- A handle whose REF has come to 0: its buffer and itself return, its charge goes; a sample still open closes as a drop (R275,
R286, R510). -/
def State.releaseHandle (s : State) (h : Nat) : State :=
  let x := s.handle h
  let s := s.closeSample x.tag 3 x.drop.1 x.drop.2 false
  let c := chargeReg x.charge
  (s.setReg c (s.reg c - x.units)).setHandle h
    { x with ref := 0, st := .free, script := [], frame := [], deep := false, retry := 0, tag := none, drop := (0, 0) }

/-- A PD's read has ended: a landing-SRAM buffer that no other read holds returns to its pool (R283). -/
def State.endRead (s : State) (d : Nat) : State :=
  { s with sq := { s.sq with linger :=
      (s.sq.linger.map fun e => (e.1, e.2.1, e.2.2.filter fun x => x != d)).filter fun e => e.2.2 != [] } }

/-- A rejected free in the log (BPM_FREE_LOG). -/
def State.freeLog (s : State) (kind pd owner req : Nat) : State :=
  (s.setReg 0xC000008 (pd % 2 ^ 27 + kind * 2 ^ 31)).setReg 0xC00000C (req % 64 + owner % 64 * 2 ^ 8)

/-- A handle taken out of use. -/
def State.quarantine (s : State) (h : Nat) : State :=
  let x := s.handle h
  let s := if x.st = .quarantined then s else s.setReg 0xC000010 (s.reg 0xC000010 + 1)
  (s.setHandle h { x with st := .quarantined }).raise bpmStat 3

/-- A free of a PD by a requester (R286). -/
def State.freePd (s : State) (req d : Nat) : State :=
  let p := s.pdOf d
  if p.owner ≠ req || p.owner = 63 then
    ((s.freeLog 0 d p.owner req).raise bpmStat 1).reportTm 0xC0 1 1 req d
  else
    let h := s.handle p.handle
    if p.gen ≠ h.gen || h.st ≠ .held || h.ref = 0 then
      let s := ((s.freeLog 1 d p.owner req).raise bpmStat 2).quarantine p.handle
      (s.setPd d { p with quar := true }).reportTm 0xC0 2 1 req d
    else
      let s := ((s.setPd d { p with owner := 63 }).setHandle p.handle { h with ref := h.ref - 1 }).endRead d
      if h.ref = 1 then s.releaseHandle p.handle else s

/-- The requester under which a drop of a PD is counted: the one that drops it, or 34 for a copy (R291). DEDUCED, log 72. -/
def State.dropReq (s : State) (req d : Nat) : Nat := if (s.pdOf d).copy then 34 else req

/-- A drop noted on the handle of a PD, before the PD is freed. -/
def State.dropNote (s : State) (d code : Nat) : State :=
  let h := (s.pdOf d).handle
  s.setHandle h { (s.handle h) with drop := (0xB0, code) }

/-- FREE: a free of a PD by a requester (R286). -/
def execFree (req : Fin 64) (pd : BitVec 27) (s : State) : Host.Outcome State Fault Refusal := .next (s.freePd req pd.toNat)

/-- QUARANTINE_RELEASE: a quarantined handle, its buffer, its PDs and its charge return (R287). -/
def execQuarantineRelease (h : BitVec 27) (s : State) : Host.Outcome State Fault Refusal :=
  let x := s.handle h.toNat
  if x.st = .quarantined then
    let pds := s.sq.pds.filter fun e => !(e.2.quar && e.2.handle == h.toNat)
    let s : State := { s with sq := { s.sq with pds := pds } }
    .next ((s.setReg 0xC000010 (s.reg 0xC000010 - 1)).releaseHandle h.toNat)
  else .next s

/-! ## Demand (R340, R341) -/

/-- A control message for a module joins its queue, or is discarded when 256 wait (R344). -/
def State.ctlSend (s : State) (m : Nat) (w : Nat) : State :=
  let q := Tab.get [] s.fab.ctl m
  if q.length < 256 then
    { s with fab := { s.fab with ctl := Tab.set [] s.fab.ctl m (q ++ [(s.bus.ticks, BitVec.ofNat 64 w)]) } }
  else s.raise 0xE000008 9

/-- A REQUEST message for a DEST (R344). -/
def State.sendRequest (s : State) (dest : Nat) (on : Bool) : State :=
  let s : State := { s with fab := { s.fab with reqAt := Tab.set 0 s.fab.reqAt dest s.bus.beats } }
  s.ctlSend (dest % 64) (2 ^ 60 + b2n on * 2 ^ 59 + dest / 64 % 1024 * 2 ^ 48)

/-- A DEST's request follows its demand and its credit; a change is sent (R341). -/
def State.checkRequest (s : State) (dest : Nat) : State :=
  let on := decide (Tab.get (0 : Int) s.fab.cb dest < Int.ofNat (Tab.get (0 : Nat) s.fab.demand dest))
  if on = Tab.get false s.fab.reqOn dest then s
  else
    let s : State := { s with fab := { s.fab with reqOn := Tab.set false s.fab.reqOn dest on } }
    if s.scrRunning .fab then s.sendRequest dest on else s

/-- The demand for a PD's DEST rises, or falls, by its bytes, when it is in a VOQ (R340). -/
def State.addDemand (s : State) (q d : Nat) (up : Bool) : State :=
  if s.qType q ≠ 0 then s
  else
    let dest := (s.pdOf d).dest
    let n := Tab.get 0 s.fab.demand dest
    let v := if up then n + s.pdDemand d else n - s.pdDemand d
    ({ s with fab := { s.fab with demand := Tab.set 0 s.fab.demand dest v } } : State).checkRequest dest

/-! ## Landing (R267, R271, R273, R278, R279, R285) -/

/-- The check of a packet's target queue: the drop code of the first failure (R279). -/
def State.queueCheck (s : State) (q u : Nat) (fabric : Bool) : Option Nat :=
  if !s.qEn q || s.qType q = 3 then some 4
  else if s.qType q = 0 && fabric then some 5
  else if bits (s.qcfg1 q) 19 0 * 16 < s.depth q + u then some 3
  else none

/-! ### Buffers asked for in one clock (R271, R272) -/

/-- A request for a landing-SRAM buffer: its place among those of the clock, its requester, the frame's length. -/
structure Ask where
  place : Nat
  req : Nat
  len : Nat
  deriving DecidableEq, Repr

/-- The smallest class that holds a request's frame. -/
def Ask.first (size : Nat → Nat) (a : Ask) : Option Nat := (List.range 4).find? fun c => a.len ≤ size c

/-- Requests in the order in which a pool serves them in beat b: R41 over requester numbers, one requester's in delivery order (R272). -/
def rankAsks (b : Nat) (xs : List Ask) : List Ask := (rotOrder b 64).flatMap fun r => xs.filter fun a => a.req == r

/-- The classes that requests of one clock are given, from class c up; those that a class does not serve join the requests for the next
(R272). -/
def assignAsks (b : Nat) (size free : Nat → Nat) (asks : List Ask) : Nat → Nat → List Ask → List (Nat × Nat)
  | 0, _, _ => []
  | n + 1, c, lost =>
    let order := rankAsks b (asks.filter fun a => lost.contains a || a.first size == some c)
    ((order.take (free c)).map fun a => (a.place, c)) ++ assignAsks b size free asks n (c + 1) (order.drop (free c))

/-- Packets that landed in this clock and lie where they landed. -/
def State.landedNow (s : State) : List Nat :=
  if s.sq.landTick = s.bus.ticks then s.sq.landed.filter fun h => (s.handle h).st == .held && !(s.handle h).dram else []

/-- A packet that landed in this clock gives up its place to one that the rotation favours: it is dropped (R271, R272). -/
def State.evict (s : State) (h : Nat) : State :=
  let x := s.handle h
  let ds := (s.sq.pds.filter fun e => e.2.handle == h && e.2.owner != 63).map (·.1)
  let s := (s.sq.queues.map (·.1)).foldl (fun s q =>
    let s := ((s.queue q).filter ds.contains).foldl (fun s d => s.addDemand q d false) s
    s.setQueue q ((s.queue q).filter fun d => !ds.contains d)) s
  let s := ds.foldl (fun s d => s.setPd d { (s.pdOf d) with owner := 63 }) s
  let s : State := { s with sq := { s.sq with repl := s.sq.repl.filter fun j => !ds.contains j.hold } }
  (s.landDrop 2 x.charge x.tag).releaseHandle h

/-- The packets that landed in this clock in the classes they are given, the largest first; the rest dropped. -/
def State.resettle (s : State) (hs : List Nat) (got : List (Nat × Nat)) : State :=
  let given := fun (i : Nat) => (got.find? fun g => g.1 == i).map (·.2)
  let s := hs.zipIdx.foldl (fun s h => if (given h.2).isNone then s.evict h.1 else s) s
  [3, 2, 1].foldl (fun s c => hs.zipIdx.foldl (fun s h =>
    if given h.2 = some c && (s.handle h.1).cls != c then s.setHandle h.1 { (s.handle h.1) with cls := c, buf := s.freeBuf false c } else s) s) s

/-- The class from which a landing packet takes its buffer, the packets that landed before it in this clock resettled by the rotation
(R271, R272). -/
def State.claimClass (s : State) (req len : Nat) : Option (State × Nat) :=
  match s.landedNow with
  | [] => (s.pickClass false len).map fun c => (s, c)
  | hs =>
    let asks := (hs.zipIdx.map fun h => ({ place := h.2, req := (s.handle h.1).charge, len := (s.handle h.1).len } : Ask))
      ++ [{ place := hs.length, req := req, len := len }]
    let free := fun (c : Nat) => s.poolFree false c + (hs.filter fun h => (s.handle h).cls == c).length
    let got := assignAsks s.beatN s.classSize free asks 4 0 []
    (got.find? fun g => g.1 == hs.length).map fun g => (s.resettle hs got, g.2)

/-- A stored packet: its handle and buffer, charged to its requester (R271 to R273, R275); the drop code when none is free. -/
def State.storePacket (s : State) (req colour : Nat) (script frame : List Byte) (tag : Option Nat) : Except Nat (State × Nat) :=
  match s.claimClass req frame.length with
  | none => .error 2
  | some (s, c) =>
    match s.newHandle with
    | none => .error 6
    | some h =>
      let x := s.handle h
      let x : Handle := { ref := 0, gen := (x.gen + 1) % 16, st := .held, charge := req, len := frame.length, slen := script.length / 8,
                          colour := colour, cls := c, buf := s.freeBuf false c, script := script, frame := frame, land := s.bus.beats, tag := tag }
      let r := chargeReg req
      let here := if s.sq.landTick = s.bus.ticks then s.sq.landed else []
      let s : State := { s with sq := { s.sq with landed := here ++ [h], landTick := s.bus.ticks } }
      .ok ((s.setHandle h x).setReg r (s.reg r + x.units), h)

/-- A PD on a handle, appended to a queue as requester 36's (R267, R274); a queue already deep makes the packet due for a move
(R282). -/
def State.enqueue (s : State) (h q dest : Nat) (copy : Bool) (pcdata : List Byte) : Option State :=
  match s.newPd with
  | none => none
  | some d =>
    let x := s.handle h
    let spill := bits (s.qcfg0 q) 15 0
    let deep := x.deep || (spill ≠ 0 && spill * 16 < s.depth q)
    let s := s.setHandle h { x with ref := x.ref + 1, deep := deep }
    let p : Pd := { handle := h, gen := x.gen, copy := copy, owner := 36, pclen := pcdata.length, dest := dest, land := s.beatN, landB := s.bus.beats, pcdata := pcdata }
    some (((s.setPd d p).setQueue q (s.queue q ++ [d])).addDemand q d true)

/-- A handle given up again before any entry points at it. -/
def State.unstore (s : State) (h : Nat) : State := s.releaseHandle h

/-- A packet for one queue: checked, stored and enqueued, or dropped (R267, R279). -/
def State.landOne (s : State) (req q dest colour : Nat) (fabric copy : Bool) (script frame pcdata : List Byte) (tag : Option Nat) : State :=
  match s.queueCheck q (unitsOf frame.length (script.length / 8)) fabric with
  | some code => s.landDrop code req tag
  | none =>
    match s.storePacket req colour script frame tag with
    | .error code => s.landDrop code req tag
    | .ok (s', h) =>
      match s'.enqueue h q dest copy pcdata with
      | some s' => s'.writtenAny 9
      | none => s.landDrop 6 req tag

/-- A word of 8 bytes of replication memory is uncorrectable (R517). -/
def State.replWordBad (s : State) (a : Nat) : Bool := s.sq.replBad.contains (a / 8)

/-- An uncorrectable word of replication memory read: reported with its byte address (R517). -/
def State.replError (s : State) (a : Nat) : State := s.reportTm 0xB0 3 1 0 (a / 8 * 8)

/-- The first uncorrectable word of a copy entry (R517). -/
def State.copyBad (s : State) (e : Nat) : Option Nat := ([0, 8, 16, 24].map (524288 + 32 * e + ·)).find? s.replWordBad

/-- The header of a replication list: its first copy entry and its count, when it is valid (R199, R285). -/
def State.replList (s : State) (l : Nat) : Option (Nat × Nat) :=
  let w := lineWord (Tab.get 0 s.tbl.repl (l / 8)) (l % 8)
  if l < s.replLists && bitOf w 63 && 1 ≤ bits w 29 17 && bits w 29 17 ≤ 4096 then some (bits w 16 0, bits w 29 17) else none

/-- A copy entry of replication memory: queue, DEST and per-copy data (R199). -/
def State.copyEntry' (s : State) (e : Nat) : Nat × Nat × List Byte :=
  let b := 524288 + 32 * e
  let l := Tab.get 0 s.tbl.repl (b / 64)
  let w0 := lineField l (b % 64) 8
  (bits w0 20 0, bits w0 39 24, leBytes (lineField l (b % 64 + 16) 16) (min (bits w0 44 40) 16))

/-- One copy of a list (R285): checked at its own queue, then a PD with COPY; a copy that fails, or whose entry cannot be
read, is dropped under requester 34 (R517). -/
def State.makeCopy (s : State) (j : ReplJob) : State :=
  let h := (s.pdOf j.hold).handle
  let x := s.handle h
  let (q, dest, pc) := s.copyEntry' (j.base + j.made)
  match s.copyBad (j.base + j.made) with
  | some a => ((s.replError a).qmDrop 7 34).setHandle h { x with drop := (0xB0, 7) }
  | none =>
    match s.queueCheck q x.units false with
    | some code => (s.qmDrop code 34).setHandle h { x with drop := (0xB0, code) }
    | none =>
      match s.enqueue h q dest true pc with
      | some s => s
      | none => (s.qmDrop 6 34).setHandle h { x with drop := (0xB0, 6) }

/-- The replication engine: up to so many copies, lists begun earlier first; after a list's last copy its hold PD is freed (R285). -/
def State.replRun (s : State) : Nat → State
  | 0 => s
  | n + 1 =>
    match s.sq.repl with
    | [] => s
    | j :: rest =>
      if 16384 ≤ s.sq.replRan then s
      else
        let s := s.makeCopy j
        let j := { j with made := j.made + 1 }
        let s : State := { s with sq := { s.sq with replRan := s.sq.replRan + 1, repl := if j.made < j.count then j :: rest else rest } }
        (if j.made < j.count then s else s.freePd 34 j.hold).replRun n

/-- REPLICATION_ENGINE: the copies that this beat still allows (R285). -/
def execReplicationEngine (s : State) : Host.Outcome State Fault Refusal := .next (s.replRun 16384)

/-- A REPL record (R285); one whose list header cannot be read is dropped (R517). -/
def State.landRepl (s : State) (r : XRec) : State :=
  if s.replWordBad (r.queue % 65536 * 8) then (s.replError (r.queue % 65536 * 8)).landDrop 7 r.req r.tag
  else match s.replList (r.queue % 65536) with
  | none => s.landDrop 7 r.req r.tag
  | some (base, count) =>
    if 4096 ≤ s.sq.repl.length then s.landDrop 8 r.req r.tag
    else match s.storePacket r.req r.colour r.script r.frame r.tag with
      | .error code => s.landDrop code r.req r.tag
      | .ok (s', h) =>
        match s'.newPd with
        | none => s.landDrop 6 r.req r.tag
        | some d =>
          let x := s'.handle h
          let s' := (s'.setHandle h { x with ref := 1 }).setPd d { handle := h, gen := x.gen, owner := 34, land := s.beatN, landB := s.bus.beats }
          ({ s' with sq := { s'.sq with repl := s'.sq.repl ++ [{ hold := d, base := base, made := 0, count := count }] } } : State).replRun 16384

/-- A record of the crossing lands (R267, R268, R285, R293). -/
def State.land (s : State) (r : XRec) : State :=
  let s := s.replRun 16384
  let b := s.beatN
  let s := s.modSample r.tag fun m => { m with land := smpOff m.admBeat b }
  if !s.scrRunning .bpm then s.landDrop 2 r.req r.tag
  else if r.kind = 1 then s.landRepl r
  else if r.kind = 3 then s.landDrop 5 r.req r.tag
  else s.landOne r.req r.queue r.dest r.colour false false r.script r.frame [] r.tag

/-- RECORD_LANDING: the first record of the delivery that has not landed (R267). -/
def execRecordLanding (s : State) : Host.Outcome State Fault Refusal :=
  match s.sq.arrivals with
  | [] => .next s
  | r :: rest => .next (({ s with sq := { s.sq with arrivals := rest } } : State).land r)

/-- A packet of a complete fabric stream lands (R278, R293, R337, R338). -/
def State.landFabric (s : State) (p : FabPkt) : State :=
  let req := 18 + p.smod % 16
  let m := s.reg (0xE030000 + p.eidx * 4)
  if !bitOf m 31 then (s.count 0xE0 0x45 p.eidx 1).raise 0xE000008 6
  else if !s.scrRunning .bpm then s.landDrop 2 req none
  else
    let u := unitsOf p.frame.length (p.script.length / 8)
    match s.queueCheck (bits m 19 0) u true with
    | some code => s.landDrop code req none
    | none =>
      if s.reg (0xC001000 + req * 8) < s.reg (chargeReg req) + u then s.landDrop 1 req none
      else s.landOne req (bits m 19 0) (s.reg 0xE000004 % 64 + p.eidx * 64) p.colour true p.copy p.script p.frame p.pcdata none

/-- What is left of a beat's landings: records of the crossing, then packets of the fabric (R267, R268). -/
def State.landAll (s : State) : State :=
  let rs := s.sq.arrivals
  let s := rs.foldl (fun s r => s.land r) ({ s with sq := { s.sq with arrivals := [] } } : State)
  let ps := s.sq.fabIn
  ps.foldl (fun s p => s.landFabric p) ({ (s.replRun 16384) with sq := { (s.replRun 16384).sq with fabIn := [] } } : State)

/-! ## Grants (R276, R277, R293) -/

/-- The beat boundary of the quotas: the grant issued 4 beats before closes, and a new one is issued (R276). -/
def State.grantBoundary (s : State) : State :=
  if !s.scrRunning .bpm then s
  else
    let b := s.bus.beats
    let old := s.sq.grants.filter fun g => g.beat + 4 ≤ b
    let res := old.foldl (fun t g => Tab.set 0 t g.req (Tab.get 0 t g.req - g.units)) s.sq.reserved
    let s : State := { s with sq := { s.sq with grants := s.sq.grants.filter fun g => b < g.beat + 4, reserved := res } }
    (List.range 18).foldl (fun s r =>
      let g := min (s.fld 0xC000018 15 0) (s.reg (0xC001000 + r * 8) - s.reg (chargeReg r) - Tab.get 0 s.sq.reserved r)
      if g = 0 then s
      else { s with sq := { s.sq with
        grants := s.sq.grants ++ [{ beat := b, req := r, units := g, left := g, lost := false }],
        reserved := Tab.set 0 s.sq.reserved r (Tab.get 0 s.sq.reserved r + g) } }) s

/-- The grants of the beat's summary are lost on the way to the FE (R277). -/
def State.loseGrants (s : State) : State :=
  let s := s.raise bpmStat 0
  { s with sq := { s.sq with grants := s.sq.grants.map fun g => if g.beat = s.bus.beats then { g with lost := true } else g } }

/-- Units of a requester's grant for the hand-off at this boundary, that of two beats before, spent by a record; none when too few are
left (R276, R277). -/
def State.spendGrant (s : State) (req u : Nat) : Option State :=
  match findIdx? (fun (g : Grant) => g.beat + 2 == s.bus.beats && g.req == req && !g.lost) s.sq.grants with
  | none => if u = 0 then some s else none
  | some i =>
    match s.sq.grants[i]? with
    | none => none
    | some g => if g.left < u then none else some { s with sq := { s.sq with grants := setAt s.sq.grants i { g with left := g.left - u } } }

/-! ## Moves (R282, R283) -/

/-- AGE of the mover: 1 when the landing pool of the class is nearly used up (R282). -/
def State.moveAge (s : State) (c : Nat) : Nat :=
  let low := min (s.fld 0xB000004 14 8) 100
  if s.poolFree false c * 100 < s.poolCount false c * low then 1 else max (s.fld 0xB000004 7 0) 1

/-- A handle in landing SRAM that is due for a move (R282). -/
def State.moveDue (s : State) (h : Handle) : Bool :=
  h.st == .held && !h.dram && h.retry ≤ s.bus.beats && (h.deep || h.land + s.moveAge h.cls ≤ s.bus.beats)

/-- Handles that are due stay due, whatever the moves of the others leave free (R282). DEDUCED, log 73. -/
def State.latchDue (s : State) : State :=
  { s with sq := { s.sq with handles := s.sq.handles.map fun e => if s.moveDue e.2 then (e.1, { e.2 with deep := true }) else e } }

/-- MOVE: the due handle that landed first is copied to a DRAM buffer and switched over; without a buffer it stays and is due again in
the next beat (R282, R283). -/
def execMove (s : State) : Host.Outcome State Fault Refusal :=
  let due := (s.sq.handles.filter fun e => s.moveDue e.2).foldl (fun o e =>
    match o with
    | none => some e
    | some x => if e.2.land < x.2.land then some e else o) (none : Option (Nat × Handle))
  match due with
  | none => .next s
  | some (h, x) =>
    if 524288 ≤ s.sq.moved then .next s
    else match s.pickClass true x.len with
      | none => .next ((s.latchDue.setHandle h { x with deep := true, retry := s.bus.beats + 1 }).raise qmStat 4)
      | some c =>
        let s := s.latchDue.modSample x.tag fun m => { m with dram := true }
        let reads := (s.sq.pds.filter fun e => e.2.handle == h && (e.2.owner == 37 || e.2.owner == 38)).map (·.1)
        let s : State := { s with sq := { s.sq with moved := s.sq.moved + s.classSize c + 64, linger :=
          (if reads = [] then s.sq.linger else s.sq.linger ++ [(x.cls, x.buf, reads)]) } }
        .next (s.setHandle h { x with dram := true, cls := c, buf := s.freeBuf true c })

/-! ## Queue windows and flushes (R280, R281) -/

def qWin (w : Nat) : Nat := 0xB010000 + w * 0x100

/-- The queue that a window names. -/
def State.qWinQueue (s : State) (w : Nat) : Nat := s.fld (qWin w + 4) 19 0

/-- QUEUE_READ: configuration and state of the window's queue (R280). -/
def execQueueRead (r : Requester) (w : Fin 2) (s : State) : Host.Outcome State Fault Refusal :=
  if (r == .host) != (w == 0) then .next (s.raise qmStat 0)
  else
    let q := s.qWinQueue w
    .next (s.setRegs (qWin w + 8) [s.qcfg0 q, s.qcfg1 q, (s.queue q).length, s.depth q])

/-- QUEUE_WRITE: CFG0 and CFG1 of the window's queue apply at the next boundary (R280). -/
def execQueueWrite (r : Requester) (w : Fin 2) (s : State) : Host.Outcome State Fault Refusal :=
  if (r == .host) != (w == 0) then .next (s.raise qmStat 0)
  else
    let a := qWin w
    .next (({ s with sq := { s.sq with cfgPend := s.sq.cfgPend ++ [(s.qWinQueue w, s.reg (a + 8), s.reg (a + 0xC))] } } : State).writtenAny 11)

/-- FLUSH: the window's queue is detached at the next boundary (R281). -/
def execFlush (r : Requester) (w : Fin 2) (s : State) : Host.Outcome State Fault Refusal :=
  if (r == .host) != (w == 0) then .next (s.raise qmStat 0)
  else .next { s with sq := { s.sq with flushAt := s.sq.flushAt ++ [s.qWinQueue w] } }

/-! ### The tree above a queue (R294, R303) -/

/-- The number of a node: its level and its index. -/
def nodeKey (lvl i : Nat) : Nat := lvl * 2 ^ 20 + i

def State.nodeRec (s : State) (k : Nat) : SchNode := Tab.get {} s.sch.nodes k

def SchNode.en (n : SchNode) : Bool := bitOf n.d0 31
def SchNode.parent (n : SchNode) : Nat := bits n.d0 19 0

/-- The enabled children of a node, in rising index order. -/
def State.children (s : State) (lvl i : Nat) : List Nat :=
  (s.sch.nodes.filter fun e => e.1 / 2 ^ 20 = lvl + 1 && e.2.en && e.2.parent = i).map (·.1)

def State.deficit (s : State) (k : Nat) : Int := Tab.get (0 : Int) s.sch.deficit k
def State.setDeficit (s : State) (k : Nat) (v : Int) : State :=
  { s with sch := { s.sch with deficit := Tab.set (0 : Int) s.sch.deficit k v } }

/-- A node has packets below it. -/
def State.hasPackets (s : State) : Nat → Nat → Bool
  | 0, k => s.queue (k % 2 ^ 20) != []
  | n + 1, k => (s.children (k / 2 ^ 20) (k % 2 ^ 20)).any fun c => s.hasPackets n c

/-- The deficits of nodes below which no packet is left (R303). -/
def State.settleNodes (s : State) (ks : List Nat) : State :=
  ks.foldl (fun s k => if s.hasPackets (4 - k / 2 ^ 20) k then s else s.setDeficit k (min (s.deficit k) 0)) s

/-- A node and the nodes above it. -/
def State.nodesAbove (s : State) : Nat → Nat → List Nat
  | 0, i => [i]
  | lvl + 1, i => nodeKey (lvl + 1) i :: s.nodesAbove lvl (s.nodeRec (nodeKey (lvl + 1) i)).parent

/-- A PD freed by a flush (R281). -/
def State.flushPd (s : State) (d : Nat) : State :=
  let code := 0x0A
  ((s.qmDrop code (s.dropReq 36 d)).dropNote d code).freePd 36 d

/-- The beat boundary of the queues: configurations apply; queues to be flushed are detached; up to 4,096 detached PDs of the beat that
ends are freed (R280, R281). -/
def State.queueBoundary (s : State) : State :=
  let s := (s.sq.flushing.take 4096).foldl State.flushPd ({ s with sq := { s.sq with flushing := s.sq.flushing.drop 4096 } } : State)
  let s := s.sq.flushAt.foldl (fun s q =>
    let ds := s.queue q
    let s := ds.foldl (fun s d => s.addDemand q d false) s
    let s := ({ s with sq := { s.sq with flushing := s.sq.flushing ++ ds } } : State).setQueue q []
    if ds = [] then s else s.settleNodes (s.nodesAbove 4 q)) s
  let s := s.sq.cfgPend.foldl (fun s c =>
    { s with sq := { s.sq with cfg0 := Tab.set 64 s.sq.cfg0 c.1 c.2.1, cfg1 := Tab.set 1024 s.sq.cfg1 c.1 c.2.2 } }) s
  { s with sq := { s.sq with flushAt := [], cfgPend := [], replRan := 0, moved := s.sq.moved - 524288 } }

/-! ## BPM_SCR (R293) -/

/-- A START of BPM_SCR is refused with CONFIG (R293). -/
def State.bpmBad (s : State) : Bool :=
  let z := s.classSize
  let bad := (List.range 4).any fun c => z c % 64 != 0 || z c == 0
  let slots := fun (dram : Bool) => ((List.range 4).map fun c => s.poolCount dram c * (z c + 64)).sum
  bad || !(z 0 < z 1 && z 1 < z 2 && z 2 < z 3) || z 3 < 10236 || 64 * 2 ^ 20 < slots false
    || 80 * 2 ^ 30 < slots true + 6 * 2 ^ 30

/-- The start sequence of BPM_SCR: queues, handles and PDs cleared, charges, reservations and grants zero, free lists built (R293). -/
def State.bpmStart (s : State) : State :=
  let s := (List.range 64).foldl (fun s r => s.setReg (chargeReg r) 0) s
  let s := s.setReg 0xC000010 0
  { s with
    sq := { s.sq with built := true, handles := [], pds := [], queues := [], grants := [], reserved := [], arrivals := [], fabIn := [],
                      repl := [], flushing := [], flushAt := [], editQ := [], edit := none, out := [], landed := [], linger := [] }
    fab := { s.fab with demand := [], reqOn := [], taken := [], carried := [] } }

end Sys2Proof.Machine
end

