-- ==== Sys2Proof/Machine/Editor.lean ====
section
/-! DEFINITION. The egress editor: edit scripts, the ECN mark and egress records (spec/06_engine_isa R178, R179, 10_queues_buffers R288
to R290, 11_scheduling R314). -/

namespace Sys2Proof.Machine

/-! ## Edit commands (R178) -/

/-- A command of an edit script. -/
inductive EditCmd where
  | fin
  | del (off len : Nat)
  | ins (off : Nat) (data : List Byte)
  | ovr (off : Nat) (data : List Byte)
  | dec4 (off : Nat)
  | dec6 (off : Nat)
  | decm (off : Nat)
  | pcopy (off n : Nat)
  /-- An undefined code, or a count out of its range. -/
  | bad
  deriving DecidableEq, Repr

/-- The next command of a script and the bytes after it; a command that would run past the script's end ends it (R178). -/
def readEdit (bs : List Byte) : EditCmd × List Byte :=
  let off := beNat (sliceAt bs 1 2)
  let n := byteAt bs 3
  let need := fun (k : Nat) (c : EditCmd) => if bs.length < k then (EditCmd.fin, ([] : List Byte)) else (c, bs.drop k)
  match byteAt bs 0 with
  | 0x00 => (.fin, [])
  | 0x10 => need 4 (if n = 0 then .bad else .del off n)
  | 0x20 => if n = 0 then need 4 .bad else need (4 + n) (.ins off (sliceAt bs 4 n))
  | 0x30 => if n = 0 then need 4 .bad else need (4 + n) (.ovr off (sliceAt bs 4 n))
  | 0x40 => need 3 (.dec4 off)
  | 0x41 => need 3 (.dec6 off)
  | 0x42 => need 3 (.decm off)
  | 0x50 => need 4 (if n = 0 || 16 < n then .bad else .pcopy off n)
  | _ => (.bad, [])

/-- A checksum updated for one 16-bit word that changes from m to m2, in ones' complement. -/
def sumUpdate (hc m m2 : Nat) : Nat :=
  let t := (0xFFFF - hc) + (0xFFFF - m) + m2
  let t := t % 65536 + t / 65536
  0xFFFF - (t % 65536 + t / 65536)

/-- One byte lower, wrapping. -/
def decByte (n : Nat) : Nat := (n + 255) % 256

/-- Bytes with the place i replaced. -/
def putByte (bs : List Byte) (i v : Nat) : List Byte := setAt bs i (BitVec.ofNat 8 v)

/-- Two bytes in network order replaced. -/
def putPair (bs : List Byte) (i v : Nat) : List Byte := putByte (putByte bs i (v / 256)) (i + 1) v

/-- The range of a command in the frame, and the bytes that take its place; none where the command may not stand (R178, R179). -/
def editRange (frame pc : List Byte) (copy : Bool) : EditCmd → Option (Nat × Nat × List Byte)
  | .del off len => some (off, off + len, [])
  | .ins off data => some (off, off, data)
  | .ovr off data => some (off, off + data.length, data)
  | .dec4 off =>
    let h := sliceAt frame off 12
    let m := beNat (sliceAt h 8 2)
    let ttl := decByte (byteAt h 8)
    some (off, off + 12, putPair (putByte h 8 ttl) 10 (sumUpdate (beNat (sliceAt h 10 2)) m (ttl * 256 + m % 256)))
  | .dec6 off => some (off, off + 8, putByte (sliceAt frame off 8) 7 (decByte (byteAt frame (off + 7))))
  | .decm off => some (off, off + 4, putByte (sliceAt frame off 4) 3 (decByte (byteAt frame (off + 3))))
  | .pcopy off n => if copy then some (off, off + n, sliceAt pc 0 n) else none
  | _ => none

/-- The editor's work after one command (R178, R179). -/
def EditJob.apply (j : EditJob) (frame pc : List Byte) (copy : Bool) (c : EditCmd) (rest : List Byte) : EditJob :=
  if c = .fin then { j with rest := [], fin := true }
  else match editRange frame pc copy c with
    | none => { j with bad := true, fin := true }
    | some (a, b, new) =>
      if a < j.pos || frame.length < b then { j with bad := true, fin := true }
      else { j with rest := rest, out := j.out ++ (frame.take a).drop j.pos ++ new, pos := b }

/-- The rest of a script carried out. -/
def EditJob.run (frame pc : List Byte) (copy : Bool) : Nat → EditJob → EditJob
  | 0, j => { j with fin := true }
  | n + 1, j =>
    if j.fin then j
    else
      let (c, rest) := readEdit j.rest
      EditJob.run frame pc copy n (j.apply frame pc copy c rest)

/-! ## The editor's current PD -/

/-- The oldest PD that the editor may take up now (R284, R305). -/
def State.editTaken (s : State) : Option Taken :=
  match s.sq.editQ with
  | t :: _ => if t.ready ≤ s.bus.beats then some t else none
  | [] => none

/-- The editor's work on a PD: as left by the last command, or at its beginning. -/
def State.editJob (s : State) (h : Handle) : EditJob :=
  s.sq.edit.getD { rest := h.script, out := [], pos := 0, bad := false, fin := false }

/-- One command of the current script, when it is the one that the script holds next (R178, R179). -/
def State.editStep (s : State) (c : EditCmd) : State :=
  match s.editTaken with
  | none => s
  | some t =>
    let p := s.pdOf t.pd
    let h := s.handle p.handle
    let j := s.editJob h
    let (d, rest) := readEdit j.rest
    if j.fin || d ≠ c then s else { s with sq := { s.sq with edit := some (j.apply h.frame p.pcdata p.copy c rest) } }

/-- EDIT_END (R178). -/
def execEditEnd (s : State) : Host.Outcome State Fault Refusal := .next (s.editStep .fin)

/-- EDIT_DEL (R178). -/
def execEditDel (off : BitVec 16) (len : Byte) (s : State) : Host.Outcome State Fault Refusal :=
  .next (s.editStep (.del off.toNat len.toNat))

/-- EDIT_INS (R178). -/
def execEditIns (off : BitVec 16) (data : List Byte) (s : State) : Host.Outcome State Fault Refusal :=
  .next (s.editStep (.ins off.toNat data))

/-- EDIT_OVR (R178). -/
def execEditOvr (off : BitVec 16) (data : List Byte) (s : State) : Host.Outcome State Fault Refusal :=
  .next (s.editStep (.ovr off.toNat data))

/-- DEC4 (R178). -/
def execDec4 (off : BitVec 16) (s : State) : Host.Outcome State Fault Refusal := .next (s.editStep (.dec4 off.toNat))

/-- DEC6 (R178). -/
def execDec6 (off : BitVec 16) (s : State) : Host.Outcome State Fault Refusal := .next (s.editStep (.dec6 off.toNat))

/-- DECM (R178). -/
def execDecm (off : BitVec 16) (s : State) : Host.Outcome State Fault Refusal := .next (s.editStep (.decm off.toNat))

/-- PCOPY (R178). -/
def execPcopy (off : BitVec 16) (n : Byte) (s : State) : Host.Outcome State Fault Refusal :=
  .next (s.editStep (.pcopy off.toNat n.toNat))

/-! ## The ECN mark (R314) -/

/-- The offset of the EtherType past up to k tags. -/
def etherTypeAt (f : List Byte) : Nat → Nat → Nat
  | 0, a => a
  | k + 1, a => if beNat (sliceAt f a 2) = 0x8100 || beNat (sliceAt f a 2) = 0x88A8 then etherTypeAt f k (a + 4) else a

/-- An edited frame with CE set; none when the mark is not applicable (R314). -/
def markCe (f : List Byte) : Option (List Byte) :=
  let a := etherTypeAt f 2 12
  let ty := beNat (sliceAt f a 2)
  let ip := a + 2
  if f.length < ip + 2 then none
  else if ty = 0x0800 && byteAt f ip / 16 = 4 then
    let tos := byteAt f (ip + 1)
    if tos % 4 = 1 || tos % 4 = 2 then
      let m := beNat (sliceAt f ip 2)
      let hc := sumUpdate (beNat (sliceAt f (ip + 10) 2)) m (m - tos + (tos / 4 * 4 + 3))
      some (putPair (putByte f (ip + 1) (tos / 4 * 4 + 3)) (ip + 10) hc)
    else none
  else if ty = 0x86DD && byteAt f ip / 16 = 6 then
    let b := byteAt f (ip + 1)
    let e := b / 16 % 4
    if e = 1 || e = 2 then some (putByte f (ip + 1) (b - e * 16 + 48)) else none
  else none

/-! ## The egress edit (R288, R289) -/

/-- An entry that the editor or fabric transmit drops while it holds its PD: counted, then freed. -/
def State.takenDrop (s : State) (req d code : Nat) : State :=
  ((s.qmDrop code (s.dropReq req d)).dropNote d code).freePd req d

/-- An uncorrectable error in a buffer (0), a handle (1) or a PD (2) read by a requester: the entry is dropped; a handle or PD is
quarantined (R288). -/
def State.bufferError (s : State) (req d : Nat) (what : Nat) : State :=
  let p := s.pdOf d
  let h := s.handle p.handle
  if what = 0 then (s.reportTm 0xB0 1 1 req h.buf).takenDrop req d 0x0B
  else
    let s := (s.qmDrop 0x0B (s.dropReq req d)).reportTm 0xB0 2 1 req (if what = 1 then p.handle else d)
    ((s.setPd d { p with quar := true }).quarantine p.handle).endRead d

/-- The oldest taken PD edited, and its egress record made or the packet dropped (R289, R314). A line TARGET above 191 names no MAC context:
its record travels with requester 11, and the FE drops it as for a port that is down. DESIGN CHOICE, log 97. -/
def State.editOne (s : State) (t : Taken) : State :=
  let p := s.pdOf t.pd
  let h := s.handle p.handle
  let j := EditJob.run h.frame p.pcdata p.copy (h.script.length + 1) (s.editJob h)
  let f := j.out ++ h.frame.drop j.pos
  let s : State := { s with sq := { s.sq with editQ := s.sq.editQ.drop 1, edit := none } }
  if j.bad || 10236 < f.length then s.takenDrop 38 t.pd 9
  else
    let (s, f) := if t.mark then
      (match markCe f with
       | some g => (s, g)
       | none => (s.count 0xD0 0x43 0 1, f)) else (s, f)
    let host := s.qType t.queue == 2
    let target := s.qTarget t.queue
    let r : ERec := { req := if host then 12 else min (target / 16) 11, target := target, host := host, queue := t.queue, colour := h.colour,
                      dest := p.dest, frame := f, tag := h.tag, pd := t.pd }
    { s with sq := { s.sq with out := s.sq.out ++ [r] } }

/-- EGRESS_EDIT: the oldest PD taken by the editor; err names what had an uncorrectable error: 0 buffer, 1 handle, 2 PD (R288, R289). -/
def execEgressEdit (err : Option (Fin 3)) (s : State) : Host.Outcome State Fault Refusal :=
  match s.editTaken with
  | none => .next s
  | some t =>
    match err with
    | some w => .next (({ s with sq := { s.sq with editQ := s.sq.editQ.drop 1, edit := none } } : State).bufferError 38 t.pd w)
    | none => .next (s.editOne t)

/-- What is left of a beat's edits. -/
def State.editAll (s : State) : State :=
  (s.sq.editQ.filter fun t => t.ready ≤ s.bus.beats).foldl (fun s _ =>
    match s.editTaken with
    | some t => s.editOne t
    | none => s) s

end Sys2Proof.Machine
end

