-- ==== Sys2Proof/Machine/Sched.lean ====
section
/-! DEFINITION. The scheduler: the tree and its eligibility, decisions, shapers, AQM, sampling and the node and sample windows
(spec/11_scheduling). -/

namespace Sys2Proof.Machine

def schStat : Nat := 0xD000000

/-! ## Nodes (R294 to R297) -/

def SchNode.input (n : SchNode) : Nat := bits n.d0 30 28
def SchNode.qb (n : SchNode) : Nat := bits n.d0 23 20
def SchNode.weight (n : SchNode) : Nat := max (bits n.d1 31 20) 1
def SchNode.aqm (n : SchNode) : Nat := bits n.d1 19 16
def SchNode.profile (n : SchNode) : Nat := bits n.d1 11 0

/-- Nodes of a level. -/
def levelSize (lvl : Nat) : Nat :=
  match lvl with
  | 0 => 512
  | 1 => 16384
  | 2 => 65536
  | 3 => 262144
  | _ => 1048576

def chScr (c : Nat) : Nat := 0xD010000 + c * 0x10
def chCfg (c : Nat) : Nat := 0xD010004 + c * 0x10

/-- The output of a channel: 0 to 191 MAC context, 192 host, 193 fabric; none for OUT_KIND 3 (R297). -/
def State.chOut (s : State) (c : Nat) : Option Nat :=
  match s.fld (chCfg c) 29 28 with
  | 0 => some 193
  | 1 => some (s.fld (chCfg c) 20 13)
  | 2 => some 192
  | _ => none

/-- The channels of an output. -/
def State.outChildren (s : State) (o : Nat) : List Nat :=
  (s.sch.nodes.filter fun e => e.1 < 512 && e.2.en && s.chOut e.1 = some o).map (·.1)

/-- The channel above a node by its enabled parents; none when it is absent (R319). look gives the records that count. -/
def chanAbove (look : Nat → SchNode) : Nat → Nat → Option Nat
  | 0, i => if (look i).en then some i else none
  | lvl + 1, i =>
    let p := (look (nodeKey (lvl + 1) i)).parent
    if (look (nodeKey lvl p)).en then chanAbove look lvl p else none

/-! ## Eligibility and colour (R298 to R300) -/

/-- The head PD of a queue that the scheduler may take now (R267, R298). -/
def State.headPd (s : State) (q : Nat) : Option Nat :=
  match s.queue q with
  | d :: _ =>
    let p := s.pdOf d
    if p.landB < s.bus.beats && (s.qType q != 0 || decide ((0 : Int) < Tab.get (0 : Int) s.fab.cb p.dest)) then some d else none
  | [] => none

/-- A channel that may be served in this clock: RUNNING, not held, at most 2 decisions (R298, R304, R318). -/
def State.chReady (s : State) (c : Nat) : Bool :=
  s.scrState (chScr c) == 2 && !s.flag (chCfg c) 31 && (s.sch.clock != s.bus.ticks || Tab.get 0 s.sch.ranChan c < 2)

def State.tokens (s : State) (k : Nat) : Tokens := Tab.get {} s.sch.tokens k

/-- Whether a node or queue is eligible, and its colour: GREEN 0, YELLOW 1 (R298 to R300). The first argument counts the levels
below. -/
def State.colour (s : State) : Nat → Nat → Option Nat
  | 0, k => (s.headPd (k % 2 ^ 20)).map fun _ => 1
  | n + 1, k =>
    let below := (s.children (k / 2 ^ 20) (k % 2 ^ 20)).filterMap fun c => s.colour n c
    if below = [] || (n = 3 && !s.chReady k) then none
    else if (s.nodeRec k).profile = 0 then some (if below.contains 0 then 0 else 1)
    else
      let t := s.tokens k
      if t.pt ≤ 0 then none else some (if 0 < t.ct then 0 else 1)

/-- Eligibility and colour of a node by its number. -/
def State.nodeColour (s : State) (k : Nat) : Option Nat := s.colour (4 - k / 2 ^ 20) k

/-! ## Picking a queue (R301, R302) -/

/-- The first of a list of children at or after a pointer, with wrap-around. -/
def fromPtr (cs : List Nat) (p : Nat) : List Nat := (cs.filter fun c => p ≤ c % 2 ^ 20) ++ cs.filter fun c => c % 2 ^ 20 < p

def State.ptrsOf (s : State) (g : Nat) : Ptrs := Tab.get {} s.sch.ptrs g
def State.setPtrs (s : State) (g : Nat) (p : Ptrs) : State := { s with sch := { s.sch with ptrs := Tab.set {} s.sch.ptrs g p } }

/-- wg_green (R302). -/
def State.wgGreen (s : State) (g : Nat) (cs : List (Nat × Nat)) : Option (Nat × State) :=
  match (fromPtr ((cs.filter fun c => c.2 = 0).map (·.1)) (s.ptrsOf g).g).head? with
  | none => none
  | some c => some (c, s.setPtrs g { (s.ptrsOf g) with g := c % 2 ^ 20 + 1 })

/-- The moves of DPTR until a child is served (R302, step 3). -/
def State.wgMove (s : State) (g unit : Nat) (cs : List Nat) : Nat → Option (Nat × State)
  | 0 => none
  | n + 1 =>
    match (fromPtr cs ((s.ptrsOf g).d + 1)).head? with
    | none => none
    | some c =>
      let s := s.setDeficit c (s.deficit c + Int.ofNat ((s.nodeRec c).weight * unit))
      let s := s.setPtrs g { (s.ptrsOf g) with d := c % 2 ^ 20, had := true }
      if 0 < s.deficit c then some (c, s) else s.wgMove g unit cs n

/-- wg_dwrr (R302): unit is the quantum unit in bytes. -/
def State.wgDwrr (s : State) (g unit : Nat) (cs : List (Nat × Nat)) : Option (Nat × State) :=
  let el := cs.map (·.1)
  let fuel := (el.map fun c => (-(s.deficit c)).toNat / ((s.nodeRec c).weight * unit) + 2).sum
  match el.find? fun c => c % 2 ^ 20 == (s.ptrsOf g).d with
  | none => s.wgMove g unit el fuel
  | some c =>
    let s := if (s.ptrsOf g).had then s
      else (s.setDeficit c (s.deficit c + Int.ofNat ((s.nodeRec c).weight * unit))).setPtrs g { (s.ptrsOf g) with had := true }
    if 0 < s.deficit c then some (c, s) else s.wgMove g unit el fuel

/-- The child of a group that a decision takes: strict inputs first, then the weighted group, GREEN before YELLOW (R301); the last
component says that wg_dwrr chose it. -/
def State.choose (s : State) (g unit : Nat) (strict : List Nat) (wg : List Nat) : Option (Nat × Bool × State) :=
  let st := strict.filterMap fun c => (s.nodeColour c).map fun x => (c, x)
  let wc := wg.filterMap fun c => (s.nodeColour c).map fun x => (c, x)
  match st.find? fun c => c.2 = 0 with
  | some c => some (c.1, false, s)
  | none =>
    match s.wgGreen g wc with
    | some (c, s) => some (c, false, s)
    | none =>
      match st.head? with
      | some c => some (c.1, false, s)
      | none => (s.wgDwrr g unit wc).map fun x => (x.1, true, x.2)

/-- The walk down from a node: the children chosen, each with whether wg_dwrr chose it, the queue last (R301). -/
def State.pickBelow (s : State) : Nat → Nat → Option (List (Nat × Bool) × State)
  | 0, _ => some ([], s)
  | n + 1, k =>
    let cs := s.children (k / 2 ^ 20) (k % 2 ^ 20)
    let strict := (List.range 4).filterMap fun i => cs.find? fun c => (s.nodeRec c).input == i
    match s.choose k (64 * 2 ^ (s.nodeRec k).qb) strict (cs.filter fun c => (s.nodeRec c).input == 4) with
    | none => none
    | some (c, dw, s) => (s.pickBelow n c).map fun r => ((c, dw) :: r.1, r.2)

/-- The walk from an output (R297, R301). -/
def State.pickOut (s : State) (o : Nat) : Option (List (Nat × Bool) × State) :=
  match s.choose (2 ^ 24 + o) 1024 [] (s.outChildren o) with
  | none => none
  | some (c, dw, s) => (s.pickBelow 4 c).map fun r => ((c, dw) :: r.1, r.2)

/-! ## A decision (R303 to R305, R308, R312, R313, R340) -/

/-- Sojourn time of a PD in beats, modulo 2^22 (R312). -/
def State.sojourn (s : State) (d : Nat) : Nat := (s.beatN % 2 ^ 22 + 2 ^ 22 - (s.pdOf d).land % 2 ^ 22) % 2 ^ 22

/-- A signed field of n bits. -/
def signedFld (v n : Nat) : Int := if v < 2 ^ (n - 1) then Int.ofNat v else Int.ofNat v - Int.ofNat (2 ^ n)

/-- The byte count of a decision (R308). -/
def State.byteCount (s : State) (c d : Nat) (fabric : Bool) : Nat :=
  let p := s.pdOf d
  let h := s.handle p.handle
  let n : Int := Int.ofNat (if fabric then h.len + 8 * h.slen + p.pclen else h.len) + signedFld (s.fld (chCfg c) 27 21) 7
  if n < 1 then 1 else n.toNat

/-- A decision counted in its clock (R304). -/
def State.countClock (s : State) (o c : Nat) : State :=
  let fresh := s.sch.clock != s.bus.ticks
  let f := if fresh then 0 else s.sch.ranFab
  let e := if fresh then 0 else s.sch.ranEgr
  let ch := if fresh then [] else s.sch.ranChan
  { s with sch := { s.sch with
      clock := s.bus.ticks, ranFab := if o = 193 then f + 1 else f, ranEgr := if o = 193 then e else e + 1,
      ranChan := Tab.set 0 ch c (Tab.get 0 ch c + 1) } }

/-- The side of an output has a decision left in this clock (R304). -/
def State.sideReady (s : State) (o : Nat) : Bool :=
  s.sch.clock != s.bus.ticks || (if o = 193 then s.sch.ranFab < 24 else s.sch.ranEgr < 24)

/-- An output is eligible (R300). -/
def State.outEligible (s : State) (o : Nat) : Bool :=
  decide ((0 : Int) < Tab.get (0 : Int) s.sch.budget o) && (s.outChildren o).any fun c => (s.nodeColour c).isSome

/-- An output's turn in its clock: when more outputs of the egress side are eligible than it has decisions left, the first in the order of R41
with N = 193 are served (R304). -/
def State.outTurn (s : State) (o : Nat) : Bool :=
  if o = 193 then true
  else
    let left := 24 - (if s.sch.clock = s.bus.ticks then s.sch.ranEgr else 0)
    (((rotOrder s.beatN 193).filter s.outEligible).take left).contains o

/-- The charges of a decision of b bytes to the nodes of its path and to its output (R303, R308). -/
def State.charge (s : State) (o b : Nat) (path : List (Nat × Bool)) : State :=
  let s := path.foldl (fun s c =>
    let s := if c.2 then s.setDeficit c.1 (s.deficit c.1 - Int.ofNat b) else s
    if c.1 / 2 ^ 20 < 4 && (s.nodeRec c.1).profile ≠ 0 then
      let t := s.tokens c.1
      { s with sch := { s.sch with tokens := Tab.set {} s.sch.tokens c.1 { ct := t.ct - Int.ofNat (b * 256), pt := t.pt - Int.ofNat (b * 256) } } }
    else s) s
  { s with sch := { s.sch with budget := Tab.set (0 : Int) s.sch.budget o (Tab.get (0 : Int) s.sch.budget o - Int.ofNat (3 * b)) } }

/-- Deficits of the path's nodes below which no packet is left (R303). -/
def State.settleDeficits (s : State) (path : List (Nat × Bool)) : State := s.settleNodes (path.map (·.1))

/-- The head PD of a queue taken out of it (R340). -/
def State.takeHead (s : State) (q d : Nat) : State := (s.addDemand q d false).setQueue q ((s.queue q).drop 1)

/-- A PD handed to fabric transmit or to the egress editor: taken up at the next boundary, a beat later out of DRAM (R274, R284, R305). -/
def State.handOver (s : State) (o q d aqm : Nat) (mark : Bool) : State :=
  let p := s.pdOf d
  let fabric := o == 193
  let t : Taken := { pd := d, queue := q, mark := mark, aqm := aqm, ready := s.bus.beats + 1 + b2n (s.handle p.handle).dram }
  let s := s.setPd d { p with owner := if fabric then 37 else 38 }
  if fabric then { s with fab := { s.fab with taken := s.fab.taken ++ [t] } }
  else { s with sq := { s.sq with editQ := s.sq.editQ ++ [t] } }

/-- The decision for a queue reached by a path from an output (R303, R308, R313, R340). -/
def State.decide' (s : State) (o c q d : Nat) (path : List (Nat × Bool)) : State :=
  let aqm := (s.nodeRec (nodeKey 4 q)).aqm
  let so := s.sojourn d
  let mk := 0xD000100 + aqm * 8
  let s := (s.countClock o c).count 0xD0 0x40 o 1
  if aqm ≠ 0 && s.flag (mk + 4) 31 && s.fld (mk + 4) 21 0 < so then
    let s := ((s.takeHead q d).count 0xD0 0x41 aqm 1).raise schStat 3
    let h := (s.pdOf d).handle
    ((s.setHandle h { (s.handle h) with drop := (0xD0, 0x41) }).freePd 36 d).settleDeficits path
  else
    let mark := aqm ≠ 0 && s.qType q ≠ 0 && s.flag mk 31 && s.fld mk 21 0 < so
    let b := s.byteCount c d (o == 193)
    let beat := s.beatN
    let s := s.modSample (s.handle (s.pdOf d).handle).tag fun m => { m with sched := smpOff m.admBeat beat }
    let s := if mark then (s.count 0xD0 0x42 aqm 1).raise schStat 4 else s
    let s := (s.takeHead q d).charge o b path
    let s := if s.qType q = 0 then
      let dest := (s.pdOf d).dest
      ({ s with fab := { s.fab with cb := Tab.set (0 : Int) s.fab.cb dest (Tab.get (0 : Int) s.fab.cb dest - Int.ofNat b) } } : State).checkRequest dest
      else s
    (s.handOver o q d aqm mark).settleDeficits path

/-- SCHEDULER_DECISION: one decision for an output (R300 to R305); bad says that its head handle (false) or PD (true) has an
uncorrectable error (R288). -/
def execSchedulerDecision (o : Fin 194) (bad : Option Bool) (s : State) : Host.Outcome State Fault Refusal :=
  if Tab.get (0 : Int) s.sch.budget o ≤ 0 || !s.sideReady o || !s.outTurn o then .next s
  else match s.pickOut o with
    | none => .next s
    | some (path, s) =>
      let c := (path.headD (0, false)).1
      let q := (path.getLastD (0, false)).1 % 2 ^ 20
      match s.headPd q with
      | none => .next s
      | some d =>
        match bad with
        | some pd => .next ((((s.countClock o c).takeHead q d).bufferError 36 d (if pd then 2 else 1)).settleDeficits path)
        | none => .next (s.decide' o c q d path)

/-! ## The beat boundary (R306, R307, R309 to R311, R315, R316) -/

/-- The active profile's register block (R306, R310). -/
def State.shpProf (s : State) (n : Nat) : Nat := 0xD810000 + b2n (s.flag 0xD800000 0) * 0x10000 + n * 0x10

/-- The refill of one shaped node (R307); full puts it at its bursts (R322). -/
def State.refill (s : State) (full : Bool) (k : Nat) : State :=
  let a := s.shpProf (s.nodeRec k).profile
  let t := s.tokens k
  let cap := fun (x : Int) (burst : Nat) => min x (Int.ofNat (burst * 256))
  let v : Tokens :=
    if full then { ct := Int.ofNat (s.reg (a + 8) * 256), pt := Int.ofNat (s.reg (a + 0xC) * 256) }
    else { ct := cap (t.ct + Int.ofNat (s.reg a)) (s.reg (a + 8)), pt := cap (t.pt + Int.ofNat (s.reg (a + 4))) (s.reg (a + 0xC)) }
  { s with sch := { s.sch with tokens := Tab.set {} s.sch.tokens k v } }

/-- Shaped nodes (R299). -/
def State.shaped (s : State) : List Nat := (s.sch.nodes.filter fun e => e.1 / 2 ^ 20 < 4 && e.2.profile ≠ 0).map (·.1)

/-- An output's budget set. -/
def State.setBudget (s : State) (o : Nat) (v : Int) : State := { s with sch := { s.sch with budget := Tab.set (0 : Int) s.sch.budget o v } }

/-- A budget raised by its rate in 1/3 byte and capped at twice the rate (R311). -/
def State.raiseBudget (s : State) (o rate : Nat) : State :=
  s.setBudget o (min (Tab.get (0 : Int) s.sch.budget o + Int.ofNat rate) (Int.ofNat (2 * rate)))

/-- The fabric output's budget in bytes; SCH_STAT.FAB_ZERO shows a budget of 0, whatever it comes from (R311, R334, R353). -/
def State.fabricBudget (s : State) (fabBytes : Nat) : State :=
  let s := if fabBytes = 0 then s.raise schStat 5 else s
  (s.setBudget 193 (Int.ofNat (3 * fabBytes))).setReg 0xD00000C fabBytes

/-- Refills of a boundary, unless they are discarded, and the budgets of the line outputs and the host (R307, R311). -/
def State.refillAll (s : State) (lose : Bool) : State :=
  let s := if lose then s else s.shaped.foldl (fun s k => s.refill false k) s
  let chans := (s.listed 0xD010000 0xD012000).filter fun e => e.1 % 16 = 4
  let s := chans.foldl (fun s e =>
    let c := (e.1 - 0xD010004) / 16
    if bits e.2 29 28 = 1 && s.scrState (chScr c) ≠ 0 then s.raiseBudget (bits e.2 20 13) (bits e.2 9 0 * 320) else s) s
  s.raiseBudget 192 (min (s.fld 0xD000004 5 0) 40 * 320)

/-- Node writes of the beat that ends apply (R319). -/
def State.nodeBoundary (s : State) : State :=
  { s with sch := { s.sch with nodes := s.sch.pend.foldl (fun t e => Tab.set {} t e.1 e.2) s.sch.nodes, pend := [] } }

/-- An average after one more sample (R316). -/
def ewma (first : Bool) (e v w : Nat) : Nat :=
  if first then 256 * v else if e ≤ 256 * v then e + (256 * v - e) / 2 ^ w else e - ceilDiv (e - 256 * v) (2 ^ w)

/-- A queue's record after a sample (R316). -/
def QSample.add (r : QSample) (w depth delay : Nat) : QSample :=
  let z := r.n = 0
  { dmin := if z then depth else min r.dmin depth, dmax := if z then depth else max r.dmax depth, dew := ewma (!r.any) r.dew depth w,
    lmin := if z then delay else min r.lmin delay, lmax := if z then delay else max r.lmax delay, lew := ewma (!r.any) r.lew delay w,
    n := min (r.n + 1) 0xFFFF, any := true }

/-- Queue sampling at the boundary that begins beat b: the captures of the boundary before are stored (unless they are discarded by an
overrun) and a new block is captured (R315, R316). -/
def State.sampleBoundary (s : State) (lose : Bool) (b : Nat) : State :=
  let w := s.fld 0xD000008 3 0
  let t := if lose then s.sch.samples
    else s.sch.caps.foldl (fun t c => Tab.set {} t c.1 ((Tab.get {} t c.1).add w c.2.1 c.2.2)) s.sch.samples
  let caps := (List.range 1024).map fun i =>
    let q := b % 1024 * 1024 + i
    (q, s.depth q, ((s.queue q).head?.map s.sojourn).getD 0)
  { s with sch := { s.sch with samples := t, caps := caps } }

/-! ## Windows (R296, R317, R319) -/

def nodeWin (w : Nat) : Nat := 0xD020000 + w * 0x100

/-- A node's record as last written (R319). -/
def State.written (s : State) (k : Nat) : SchNode := ((s.sch.pend.filter (·.1 == k)).getLast?.map (·.2)).getD (s.nodeRec k)

/-- A number as a signed 32-bit field. -/
def int32 (v : Int) : Nat := (v % 4294967296).toNat

/-- NODE_READ: the node's record and its tokens and deficit (R319). -/
def execNodeRead (r : Requester) (w : Fin 2) (level : Fin 8) (s : State) : Host.Outcome State Fault Refusal :=
  if (r == .host) != (w == 0) then .next (s.raise schStat 0)
  else
    let a := nodeWin w
    let s := s.setFld a 6 4 level
    let i := s.fld (a + 4) 19 0
    if 4 < level.val || levelSize level ≤ i then .next (s.setFld a 30 28 2)
    else
      let k := nodeKey level i
      let t := s.tokens k
      let n := s.written k
      .next ((s.setFld a 30 28 0).setRegs (a + 8) [n.d0, n.d1, int32 (t.ct / 256), int32 (t.pt / 256), int32 (s.deficit k)])

/-- Attachment fields of D0 (R319): EN, INPUT and PARENT. -/
def attachMask : Nat := 0xF00FFFFF

/-- NODE_WRITE: the record applies at the next boundary; attachment fields only while the channels above are STOPPED or absent (R319). -/
def execNodeWrite (r : Requester) (w : Fin 2) (level : Fin 8) (s : State) : Host.Outcome State Fault Refusal :=
  if (r == .host) != (w == 0) then .next (s.raise schStat 0)
  else
    let a := nodeWin w
    let s := s.setFld a 6 4 level
    let i := s.fld (a + 4) 19 0
    if 4 < level.val || levelSize level ≤ i then .next (s.setFld a 30 28 2)
    else
      let k := nodeKey level i
      let old := s.written k
      let d0 := s.reg (a + 8)
      let d1 := s.reg (a + 0xC)
      let new : SchNode := { d0 := d0, d1 := d1 }
      let free := fun (look : Nat → SchNode) => match chanAbove look level i with
        | some c => s.scrState (chScr c) == 0
        | none => true
      let ok := old.d0 &&& attachMask == d0 &&& attachMask
        || (free s.written && free (fun j => if j = k then new else s.written j))
      let n : SchNode := { d0 := if ok then d0 else (old.d0 &&& attachMask) + bits d0 23 20 * 2 ^ 20, d1 := d1 }
      let s := if ok then s.setFld a 30 28 0 else (s.setFld a 30 28 1).raise schStat 2
      .next { s with sch := { s.sch with pend := s.sch.pend ++ [(k, n)] } }

/-- SAMPLE_READ: the queue's sample record, and its clear (R317). -/
def execSampleRead (r : Requester) (w : Fin 2) (clr : Bool) (s : State) : Host.Outcome State Fault Refusal :=
  if (r == .host) != (w == 0) then .next (s.raise schStat 1)
  else
    let a := 0xD030000 + w.val * 0x100
    let s := s.setFlag a 8 clr
    let q := s.fld (a + 4) 19 0
    let x := Tab.get {} s.sch.samples q
    let s := s.setRegs (a + 8) [x.dmin, x.dmax, x.dew, x.lmin, x.lmax, x.lew, x.n]
    if clr then
      .next { s with sch := { s.sch with samples := Tab.set {} s.sch.samples q { x with dmin := 0, dmax := 0, lmin := 0, lmax := 0, n := 0 } } }
    else .next s

/-! ## Channels (R319 to R322) -/

/-- The nodes below a channel, the channel itself left out. -/
def State.subtree (s : State) (c : Nat) : List Nat :=
  (s.sch.nodes.filter fun e => 512 ≤ e.1 && e.2.en && chanAbove s.nodeRec (e.1 / 2 ^ 20) (e.1 % 2 ^ 20) == some c).map (·.1)

/-- A START of a channel is refused with CONFIG (R320). -/
def State.chanBad (s : State) (c : Nat) : Bool :=
  let kind := s.fld (chCfg c) 29 28
  let out := s.fld (chCfg c) 20 13
  let sub := s.subtree c
  let twin := (List.range 512).any fun d => d != c && s.scrState (chScr d) != 0 && s.fld (chCfg d) 29 28 == 1 && s.fld (chCfg d) 20 13 == out
  !(s.nodeRec c).en || kind == 3 || (kind == 1 && (191 < out || twin))
    || sub.any fun k =>
      let n := s.nodeRec k
      4 < n.input
        || (n.input < 4 && sub.any fun j => j != k && j / 2 ^ 20 == k / 2 ^ 20 && (s.nodeRec j).parent == n.parent && (s.nodeRec j).input == n.input)
        || (k / 2 ^ 20 == 4 && s.qEn (k % 2 ^ 20) && (s.qType (k % 2 ^ 20) != kind || (kind == 1 && s.qTarget (k % 2 ^ 20) != out)))

/-- The start sequence of a channel as it completes: it takes the place of that boundary's refills (R322). -/
def State.chanStart (s : State) (c : Nat) : State :=
  let sub := s.subtree c
  let s := sub.foldl (fun s k => s.setDeficit k 0) s
  let s := (c :: sub.filter fun k => k / 2 ^ 20 < 4).foldl (fun s k =>
    let lo := (s.children (k / 2 ^ 20) (k % 2 ^ 20)).headD 0 % 2 ^ 20
    s.setPtrs k { g := lo, d := lo, had := false }) s
  let s := ((c :: sub).filter fun k => k / 2 ^ 20 < 4 && (s.nodeRec k).profile ≠ 0).foldl (fun s k => s.refill true k) s
  if s.fld (chCfg c) 29 28 = 1 then s.setBudget (s.fld (chCfg c) 20 13) (Int.ofNat (s.fld (chCfg c) 9 0 * 320)) else s

end Sys2Proof.Machine
end

