-- ==== Sys2Proof/Machine/Fabric.lean ====
section
/-! DEFINITION. The fabric interface: lanes, cells, sending, reassembly, credits and control messages (spec/12_fabric). -/

namespace Sys2Proof.Machine

def fabCfg : Nat := 0xE000004
def fabStat : Nat := 0xE000008
def fabLaneReg (l : Nat) : Nat := 0xE010000 + l * 0x10
def fabReachReg (m : Nat) : Nat := 0xE020000 + m * 4

/-- This module's number (R330). -/
def State.fabMod (s : State) : Nat := s.fld fabCfg 5 0

/-- The pair's module number is in use: ALIAS_EN, in ACTIVE (R502). -/
def State.aliased (s : State) : Bool := s.flag 0x300000 7 && s.fld 0x30000C 2 0 == 4

/-- SMOD of data cells, and of control cells to a module: only those to the mate keep the module's own number (R502). -/
def State.srcMod (s : State) (data : Bool) (m : Nat) : Nat :=
  if s.aliased && (data || m ≠ s.fld 0xE000050 5 0) then s.fld 0x300000 13 8 else s.fabMod

/-- The reassembly window in beats (FAB_CFG). -/
def State.fabWin (s : State) : Nat := min (max (s.fld fabCfg 19 16) 4) 8

/-- STATE of a fabric lane (R346). -/
def State.fabLaneSt (s : State) (l : Nat) : Nat := s.fld (fabLaneReg l) 2 0

def State.fabLane (s : State) (l : Nat) : FabLane := Tab.get {} s.fab.lanes l

def State.setFabLane (s : State) (l : Nat) (x : FabLane) : State := { s with fab := { s.fab with lanes := Tab.set {} s.fab.lanes l x } }

/-- Lanes that are IN. -/
def State.fabIn (s : State) : List Nat := (List.range 128).filter fun l => s.fabLaneSt l == 4

/-- Planes with at least one lane IN, one bit each (R344, R345). -/
def State.fabPlanes (s : State) : Nat :=
  ((List.range 8).map fun p => b2n (s.fabIn.any fun l => l / 16 == p) * 2 ^ p).sum

def State.fabReach (s : State) (m : Nat) : Nat := s.fld (fabReachReg m) 7 0

/-- A lane's enable bit and its bit of the active link set. -/
def State.fabEn (s : State) (l : Nat) : Bool := s.flag (0xE000040 + l / 32 * 4) (l % 32)
def State.fabSet (s : State) (l : Nat) : Bool := s.flag (0xE000030 + l / 32 * 4) (l % 32)

/-! ## Lane states (R346 to R349) -/

/-- A STATUS to every other module (R345). -/
def State.sendStatus (s : State) : State :=
  (List.range 64).foldl (fun s m =>
    if m = s.fabMod then s
    else ({ s with fab := { s.fab with statusAt := Tab.set 0 s.fab.statusAt m s.bus.beats } } : State).ctlSend m (4 * 2 ^ 60 + s.fabPlanes)) s

/-- A STATUS is sent when what was done between two states changed the receive planes (R345, R347). -/
def State.sendIfPlanes (s : State) (before : Nat) : State :=
  if s.fabPlanes ≠ before && s.scrRunning .fab then s.sendStatus else s

/-- A lane's state replaced. -/
def State.putLaneSt (s : State) (l v : Nat) : State := s.setFld (fabLaneReg l) 2 0 v

/-- A lane enters TRAINING: its marker search begins again (R346). -/
def State.fabTrain (s : State) (l : Nat) (rf : Bool) : State :=
  ((s.putLaneSt l 1).setFabLane l { sendRf := rf }).setLock (.fab ⟨l % 128, Nat.mod_lt _ (by decide)⟩) {}

/-- A lane becomes READY (R346). -/
def State.fabReady (s : State) (l : Nat) : State := (s.putLaneSt l 3).setFabLane l { (s.fabLane l) with ready := s.bus.beats }

/-- A lane that is IN, READY or DRAINING becomes FAILED (R348). -/
def State.fabFail (s : State) (l cause : Nat) : State :=
  let st := s.fabLaneSt l
  if st = 3 || st = 4 || st = 5 then
    let planes := s.fabPlanes
    let s := (((s.putLaneSt l 6).setFld (fabLaneReg l) 26 24 cause).raise (fabLaneReg l) 6).raise fabStat 7
    let s : State := { s with fab := { s.fab with failed := s.fab.failed ++ [l], tx := s.fab.tx.filter fun c => c.lane != l } }
    (s.reportTm 0xE0 1 2 l cause).sendIfPlanes planes
  else s

/-- The clock after a failure: FAILED lanes train, unless they are no longer enabled (R346). -/
def State.fabClock (s : State) : State :=
  let ls := s.fab.failed
  ls.foldl (fun s l => if s.fabLaneSt l = 6 then (if s.fabEn l then s.fabTrain l true else s.putLaneSt l 0) else s)
    ({ s with fab := { s.fab with failed := [] } } : State)

/-- The marker lock of a lane moved: SYNC when it locked, a failure or new training when it lost lock (R346, R348). -/
def State.fabLock (s : State) (l : Nat) (locked lost : Bool) : State :=
  if locked && s.fabLaneSt l = 1 then (s.putLaneSt l 2).setFabLane l { (s.fabLane l) with good := 0, sendRf := false }
  else if lost then (if s.fabLaneSt l = 2 then s.fabTrain l (s.fabLane l).sendRf else s.fabFail l 2)
  else s

/-- LANE_ENABLE: a write of FAB_LANE_EN_i powers lanes up or down (R346). -/
def execLaneEnable (i : Fin 4) (v : Word) (s : State) : Host.Outcome State Fault Refusal :=
  let s := s.setReg (0xE000040 + i.val * 4) v.toNat
  .next ((List.range 32).foldl (fun s j =>
    let l := 32 * i.val + j
    let st := s.fabLaneSt l
    if bitOf v.toNat j then (if st = 0 then s.fabTrain l false else s)
    else if st = 1 || st = 2 || st = 3 then s.putLaneSt l 0 else s) s)

/-- What fails a lane is seen: a lock that is lost, frame errors above ERR_LIM, RF in two consecutive markers (causes 2 to 4, R348); the loss
of signal (1) is the command's own event. -/
def State.failSeen (s : State) (l cause : Nat) : Bool :=
  match cause with
  | 1 => true
  | 2 => (s.lock (.fab ⟨l % 128, Nat.mod_lt _ (by decide)⟩)).st != .locked
  | 3 => s.fld 0xE00000C 23 16 < (s.fabLane l).bad.length
  | 4 => 2 ≤ (s.fabLane l).rf
  | _ => false

/-- LANE_FAIL: signal lost, lock lost, frame errors or the peer's RF (causes 1 to 4, R348). -/
def execLaneFail (l : Fin 128) (cause : Fin 5) (s : State) : Host.Outcome State Fault Refusal :=
  .next (if s.failSeen l cause then s.fabFail l cause else s)

/-- LANE_DRAIN_END: a lane that has been DRAINING for 16 beats (R346). -/
def execLaneDrainEnd (l : Fin 128) (s : State) : Host.Outcome State Fault Refusal :=
  .next (if s.fabLaneSt l = 5 && (s.fabLane l).drain + 16 ≤ s.bus.beats then (if s.fabEn l then s.fabReady l else s.putLaneSt l 0) else s)

/-- LANE_RETURN: a lane of the active link set that has been READY for RET_HOLD beats enters IN, at a boundary whose beat number is a multiple
of 16 (R349). -/
def execLaneReturn (l : Fin 128) (s : State) : Host.Outcome State Fault Refusal :=
  .next (if s.fabLaneSt l = 3 && s.fabSet l && (s.fabLane l).ready + max (s.fld 0xE00000C 15 0) 1 ≤ s.bus.beats && s.beatN % 16 = 0 && s.bus.clk = 0 then
      (s.putLaneSt l 4).sendIfPlanes s.fabPlanes
    else s)

/-- Uncorrectable frames among the last 1,024 after one more frame. -/
def FabLane.frame (x : FabLane) (bad : Bool) : FabLane :=
  let n := x.frames + 1
  { x with frames := n, bad := (if bad then [n] else []) ++ x.bad.filter fun k => n < k + 1024 }

/-- The fixed bits of a frame marker, byte 0 first (R325). -/
def markerPattern : Nat := 0xC35A960FF069A53C

/-- One step of a CRC-16 with polynomial 0x1021, most significant bit first (R325, R490). -/
def crc16Bit (c : BitVec 16) (b : Bool) : BitVec 16 :=
  if (c.getLsbD 15).xor b then (c <<< 1) ^^^ 0x1021#16 else c <<< 1

/-- The CRC-16 of R325 and R490 over a message, most significant bit first. -/
def crc16 {n : Nat} (m : BitVec n) : BitVec 16 := (List.range n).foldl (fun c i => crc16Bit c (m.getLsbD (n - 1 - i))) 0xFFFF#16

/-- A marker's fields may be used: its pattern stands and the CRC over its bytes 8 to 13 is right (R325). -/
def markerOk (m : BitVec 128) : Bool :=
  (m.extractLsb' 64 64).toNat == markerPattern && crc16 (m.extractLsb' 16 48) == m.extractLsb' 0 16

/-- A marker of its pattern, FLAGS, bytes 9 to 13 and CRC, byte 0 in the highest bits (R325). -/
def markerOf (pattern : BitVec 64) (flags : Byte) (body : BitVec 40) (crc : BitVec 16) : BitVec 128 := pattern ++ flags ++ body ++ crc

/-- FABRIC_FRAME_RECEIVED: a lane's frame with the bytes of its marker: 0 to 7, FLAGS, 9 to 13, and the CRC; bad says that a codeword of the frame
cannot be corrected (R324 to R326, R346, R348). -/
def execFabricFrameReceived (l : Fin 128) (pattern : BitVec 64) (flags : Byte) (body : BitVec 40) (crc : BitVec 16) (bad : Bool) (s : State) :
    Host.Outcome State Fault Refusal :=
  let marker := markerOf pattern flags body crc
  let st := s.fabLaneSt l
  if st = 0 || st = 6 then .next s
  else
    let a := fabLaneReg l
    let f := bits marker.toNat 63 56
    let ok := markerOk marker
    let s := if ok then
        (((s.setFld a 23 16 (bits marker.toNat 47 40)).setFld a 15 8 (bits marker.toNat 55 48)).setFlag a 5 (bitOf f 6)).setFlag a 4 (bitOf f 7)
      else s
    let x := (s.fabLane l).frame bad
    let x := { x with rf := if ok && bitOf f 7 then x.rf + 1 else 0, lastBad := bad,
                      good := if st = 2 && !bad && ok && bitOf f 5 then x.good + 1 else 0 }
    let s := s.setFabLane l x
    let s := if bad then (s.raise fabStat 0).count 0xE0 0x42 7 1 else s
    .next (if st = 2 && 64 ≤ x.good then s.fabReady l
      else if s.fld 0xE00000C 23 16 < x.bad.length then s.fabFail l 3
      else if 2 ≤ x.rf then s.fabFail l 4
      else s)

/-- The link-set activation at its target boundary (R347). -/
def State.linkSetSwitch (s : State) : State :=
  let planes := s.fabPlanes
  let s := (List.range 128).foldl (fun s l =>
    let new := s.flag (0xE000020 + l / 32 * 4) (l % 32)
    let st := s.fabLaneSt l
    if new && !s.fabSet l && st = 3 then s.putLaneSt l 4
    else if !new && s.fabSet l && st = 4 then (s.putLaneSt l 5).setFabLane l { (s.fabLane l) with drain := s.bus.beats }
    else s) s
  ((List.range 4).foldl (fun s i => s.setReg (0xE000030 + i * 4) (s.reg (0xE000020 + i * 4))) s).sendIfPlanes planes

/-! ## Cells (R328, R332) -/

/-- The CRC-32 of IEEE 802.3 over bytes. -/
def crcIeee (bs : List Byte) : Nat := (~~~ (crc32 0xFFFFFFFF#32 bs)).toNat

/-- A cell's 16 header bytes and 256 payload bytes, with its CRC (R328). -/
def cellBytes (type smod dmod stamp seq : Nat) (last : Bool) (lenm1 : Nat) (payload : List Byte) : List Byte :=
  let h := type * 2 ^ 126 + smod % 64 * 2 ^ 120 + dmod % 64 * 2 ^ 114 + stamp % 65536 * 2 ^ 98 + seq % 2048 * 2 ^ 87 + b2n last * 2 ^ 86
    + lenm1 % 256 * 2 ^ 78
  beBytes (h + crcIeee (beBytes h 16 ++ payload)) 16 ++ payload

/-- A PD's packet in its stream: fabric packet header, script, per-copy data and frame (R331, R332). -/
def State.fabBytes (s : State) (d : Nat) : List Byte :=
  let p := s.pdOf d
  let h := s.handle p.handle
  let w := h.len % 2 ^ 14 * 2 ^ 114 + h.slen % 16 * 2 ^ 110 + p.pclen % 32 * 2 ^ 105 + p.dest / 64 % 1024 * 2 ^ 95 + h.colour % 4 * 2 ^ 93
    + b2n p.copy * 2 ^ 92
  beBytes w 16 ++ h.script ++ sliceAt p.pcdata 0 p.pclen ++ h.frame

/-- Payload bytes 256 at a time; the rest of the last cell is not given (R328). -/
def cut256 : Nat → List Byte → List (List Byte)
  | 0, _ => []
  | n + 1, bs => if bs.length ≤ 256 then [bs] else bs.take 256 :: cut256 n (bs.drop 256)

/-- A payload filled up to 256 bytes with bytes that the spec leaves open. -/
def fillCell (bs : List Byte) : List Byte := bs ++ (List.range (256 - bs.length)).map Config.cellFill

/-! ## Sending (R331, R333 to R335, R344) -/

/-- Data slots of a beat on the lanes that are IN, slot by slot (R327). -/
def dataSlots (b : Nat) (ls : List Nat) : List (Nat × Nat) :=
  (List.range 16).flatMap fun k => (ls.filter fun l => !(k == 0 && b % 4 == l % 4)).map fun l => (l, k)

/-- Slots of the planes in turn: a stream is spread over all planes that reach its module; among a plane's slots the order is the module's own
(R333). DESIGN CHOICE, log 98. -/
def spreadSlots (cs : List (Nat × Nat)) : List (Nat × Nat) :=
  let ps := (List.range 8).map fun p => cs.filter fun c => c.1 / 16 == p
  (List.range 256).flatMap fun i => ps.filterMap fun p => p[i]?

/-- The PDs of the stream to a module: those carried, then those handed over (R331, R335). -/
def State.streamTo (s : State) (m : Nat) : List Nat :=
  Tab.get [] s.fab.carried m ++ (s.fab.taken.filter fun t => t.ready ≤ s.bus.beats && (s.pdOf t.pd).dest % 64 == m).map (·.pd)

/-- A stream given up: its PDs are freed (R335, R354). -/
def State.dropStream (s : State) (ds : List Nat) : State :=
  ds.foldl (fun s d =>
    let h := (s.pdOf d).handle
    (s.setHandle h { (s.handle h) with drop := (0xE0, 0x44) }).freePd 37 d) s

/-- A stream cut into cells in the slots given to it; its PDs are freed and their samples close (R331, R510). -/
def State.placeStream (s : State) (b m : Nat) (ds : List Nat) (slots : List (Nat × Nat)) : State :=
  let parts := cut256 (slots.length + 1) (ds.flatMap s.fabBytes)
  let n := parts.length
  let smod := s.srcMod true m
  let cells := (parts.zip slots).zipIdx.map fun e =>
    ({ lane := e.1.2.1, slot := e.1.2.2,
       bytes := cellBytes 1 smod m b e.2 (e.2 + 1 == n) (e.1.1.length - 1) (fillCell e.1.1) } : TxCell)
  let s : State := { s with fab := { s.fab with tx := s.fab.tx ++ cells } }
  let s := slots.foldl (fun s c => s.count 0xE0 0x40 c.1 1) s
  ds.foldl (fun s d => (s.closeSample (s.handle (s.pdOf d).handle).tag 0 0 0 false).freePd 37 d) s

/-- One stream of the beat: placed, carried over or discarded; what remains of the free slots (R333, R335, R352). -/
def State.sendStream (s : State) (b m : Nat) (ds : List Nat) (free : List (Nat × Nat)) : State × List (Nat × Nat) :=
  let s : State := { s with fab := { s.fab with carried := Tab.set [] s.fab.carried m [] } }
  let reach := s.fabReach m
  if reach = 0 then ((s.dropStream ds).count 0xE0 0x44 m 1, free)
  else
    let mine := spreadSlots (free.filter fun c => bitOf reach (c.1 / 16))
    let n := ceilDiv ((ds.map fun d => (s.fabBytes d).length).sum) 256
    if mine.length < n then
      ((({ s with fab := { s.fab with carried := Tab.set [] s.fab.carried m ds } } : State).count 0xE0 0x46 0 1).raise fabStat 3, free)
    else
      let use := mine.take n
      (s.placeStream b m ds use, free.filter fun c => !use.contains c)

/-- No data cell is placed: the beat is not aligned and ALIGN_STOP is set (R352). -/
def State.alignStopped (s : State) : Bool := s.flag fabCfg 6 && !s.flag 0x100014 0

/-- The data cells of beat b (R331, R333, R335). -/
def State.sendData (s : State) (b : Nat) : State :=
  let ms := (rotOrder (b + 63) 64).filter fun m => s.streamTo m != []
  let ls := ms.map fun m => (m, s.streamTo m)
  let s : State := { s with fab := { s.fab with taken := s.fab.taken.filter fun t => s.bus.beats < t.ready } }
  let free := if ls = [] || s.alignStopped then [] else dataSlots b s.fabIn
  (ls.foldl (fun (x : State × List (Nat × Nat)) e => x.1.sendStream b e.1 e.2 x.2) (s, free)).1

/-- The module whose oldest message has waited longest, among those that a lane may carry to (R333, R344). -/
def State.oldestCtl (s : State) (l : Nat) : Option Nat :=
  (s.fab.ctl.foldl (fun (o : Option (Nat × Nat)) e =>
    match e.2 with
    | [] => o
    | w :: _ =>
      let reach := s.fabReach e.1
      if reach ≠ 0 && !bitOf reach (l / 16) then o
      else match o with
        | none => some (e.1, w.1)
        | some x => if w.1 < x.2 then some (e.1, w.1) else o) none).map (·.1)

/-- A message slot that carries nothing: MTYPE 0 (R344). -/
def emptyMessage (i : Nat) : List Byte := beBytes ((Config.emptyMessage i).toNat) 8

/-- The control cells of beat b (R327, R344). -/
def State.sendControl (s : State) (b : Nat) : State :=
  (s.fabIn.filter fun l => l % 4 == b % 4).foldl (fun s l =>
    match s.oldestCtl l with
    | none => s
    | some m =>
      let q := Tab.get [] s.fab.ctl m
      let ws := (q.take 32).flatMap fun w => beBytes w.2.toNat 8
      let pay := ws ++ (List.range (32 - min q.length 32)).flatMap emptyMessage
      let c : TxCell := { lane := l, slot := 0, bytes := cellBytes 2 (s.srcMod false m) m b 0 true 255 pay }
      ({ s with fab := { s.fab with ctl := Tab.set [] s.fab.ctl m (q.drop 32), tx := s.fab.tx ++ [c] } } : State).count 0xE0 0x40 l 1) s

/-- PDs that fabric transmit reads with an uncorrectable error (R288). -/
def State.fabReadErrors (s : State) (errs : List (Nat × Nat)) : State :=
  errs.foldl (fun s e =>
    if (s.fab.taken.any fun t => t.pd == e.1) && (s.pdOf e.1).owner == 37 then
      ({ s with fab := { s.fab with taken := s.fab.taken.filter fun t => t.pd != e.1 } } : State).bufferError 37 e.1 e.2
    else s) s

/-- Fabric transmit at the boundary that begins beat b (R331, R335, R344, R353, R354). -/
def State.fabTransmit (s : State) (b : Nat) : State :=
  let s : State := { s with fab := { s.fab with tx := [] } }
  let st := s.scrState (scrAddr .fab)
  let s := if st = 2 || st = 3 then s.sendData b else s
  if st = 2 then s.sendControl b else s

/-- Bytes of streams that wait for the next beat. -/
def State.carriedBytes (s : State) : Nat :=
  (s.fab.carried.map fun e => (e.2.map fun d => (s.fabBytes d).length).sum).sum

/-- The fabric output's budget in bytes at the boundary that begins beat d (R334, R352, R353, R502, R519, R549). -/
def State.fabBudget (s : State) (d : Nat) : Nat :=
  if !s.scrRunning .fab || s.alignStopped || s.flag 0x400000 0 || s.flag 0x50 8 || (s.flag 0x300000 7 && !s.aliased) then 0
  else 256 * ((dataSlots (d + 1) s.fabIn).length - s.fld fabCfg 15 8) - s.carriedBytes

/-! ## Receiving and reassembly (R336 to R338) -/

/-- A 16-bit difference as a signed number (R336). -/
def diff16 (a b : Nat) : Int :=
  let d := (a + 65536 - b % 65536) % 65536
  if d < 32768 then Int.ofNat d else Int.ofNat d - 65536

/-- A control cell came from a module (R345). -/
def State.hear (s : State) (m : Nat) : State := { s with fab := { s.fab with heard := Tab.set 0 s.fab.heard m (s.bus.beats + 1) } }

/-- A discarded cell, by its reason. -/
def State.cellDrop (s : State) (reason bit : Nat) : State := (s.count 0xE0 0x42 reason 1).raise fabStat bit

/-- A data cell taken into its stream (R336, R337, R502). -/
def State.cellData (s : State) (l smod dmod stamp : Nat) (c : RxCell) : State :=
  let held := (s.fab.rx.map fun x => x.cells.length).sum
  let mine := s.fab.rx.find? fun x => x.smod == smod && x.stamp == stamp
  if dmod ≠ s.fabMod && !(s.aliased && dmod = s.fld 0x300000 13 8) then s.count 0xE0 0x42 6 1
  else if 24576 ≤ held then s.cellDrop 4 5
  else match mine with
    | some x =>
      if x.cells.any fun k => k.seq == c.seq then s.count 0xE0 0x42 5 1
      else
        let rx := s.fab.rx.map fun y => if y.smod == smod && y.stamp == stamp then { y with cells := y.cells ++ [c] } else y
        ({ s with fab := { s.fab with rx := rx } } : State).count 0xE0 0x41 l 1
    | none =>
      ({ s with fab := { s.fab with rx := s.fab.rx ++ [{ smod := smod, stamp := stamp, cells := [c] }] } } : State).count 0xE0 0x41 l 1

/-- A cell received whole on a lane: what it leaves, and the messages of an accepted control cell with their source (R326, R329, R336,
R353). -/
def State.cellIn (s : State) (l : Nat) (hdr : BitVec 128) (payload : List Byte) : State × Nat × List (BitVec 64) :=
  let h := hdr.toNat
  let st := s.fabLaneSt l
  let type := bits h 127 126
  let smod := bits h 125 120
  let stamp := bits h 113 98
  let h0 := h - h % 2 ^ 32
  let d := diff16 stamp s.beatN
  if (st ≠ 4 && st ≠ 5) || !s.scrRunning .fab || type = 0 || (s.fabLane l).lastBad then (s, 0, [])
  else if type = 3 || h % 2 ^ 32 ≠ crcIeee (beBytes h0 16 ++ payload) then (s.cellDrop 1 0, 0, [])
  else if d < 2 - Int.ofNat s.fabWin then (s.cellDrop 2 1, 0, [])
  else if 1 < d then (s.cellDrop 3 2, 0, [])
  else if type = 1 then
    (s.cellData l smod (bits h 119 114) stamp
      { seq := bits h 97 87, last := bitOf h 86, bytes := payload.take (bits h 85 78 + 1) }, 0, [])
  else ((s.hear smod).count 0xE0 0x41 l 1, smod, (List.range 32).map fun i => BitVec.ofNat 64 (beNat (sliceAt payload (8 * i) 8)))

/-- A complete stream's bytes; none while a cell is missing (R337). -/
def RxStream.whole (x : RxStream) : Option (List Byte) :=
  match x.cells.find? (·.last) with
  | none => none
  | some e =>
    let cs := (List.range (e.seq + 1)).filterMap fun i => x.cells.find? fun c => c.seq == i
    if cs.length = e.seq + 1 then some (cs.flatMap (·.bytes)) else none

/-- The packets of a stream (R331, R332); a packet that the stream does not hold whole ends it. -/
def splitPackets (smod : Nat) : Nat → List Byte → List FabPkt
  | 0, _ => []
  | n + 1, bs =>
    let w := beNat (bs.take 16)
    let len := bits w 127 114
    let sl := 8 * bits w 113 110
    let pc := bits w 109 105
    if bs.length < 16 + sl + pc + len then []
    else
      let r := bs.drop 16
      { smod := smod, eidx := bits w 104 95, colour := bits w 94 93, copy := bitOf w 92, script := r.take sl, pcdata := (r.drop sl).take pc,
        frame := (r.drop (sl + pc)).take len } :: splitPackets smod n (r.drop (sl + pc + len))

/-- The streams whose boundary begins beat b: complete ones go to the square, incomplete ones are lost (R337). -/
def State.streamRelease (s : State) (b : Nat) : State :=
  let due := fun (x : RxStream) => (x.stamp + s.fabWin) % 65536 == b % 65536
  let xs := (List.range 64).filterMap fun m => s.fab.rx.find? fun x => due x && x.smod == m
  let s : State := { s with fab := { s.fab with rx := s.fab.rx.filter fun x => !due x } }
  xs.foldl (fun s x =>
    match x.whole with
    | none => (s.count 0xE0 0x43 x.smod 1).raise fabStat 4
    | some bs => { s with sq := { s.sq with fabIn := s.sq.fabIn ++ splitPackets x.smod (bs.length / 16 + 1) bs } }) s

/-! ## Credits (R342, R343) -/

/-- The next source module after a place whose request for an index is ON (R342). -/
def State.nextSource (s : State) (e : Nat) : Option Nat :=
  (rotOrder (Tab.get 0 s.fab.next e) 64).find? fun m => Tab.get false s.fab.srcOn (e * 64 + m)

/-- Grants of one egress index while its bucket holds one and fewer than 1,024 were sent (R342). -/
def State.grantLoop (s : State) (e g sent : Nat) : Nat → State × Nat
  | 0 => (s, sent)
  | n + 1 =>
    let b := Tab.get 0 s.fab.bucket e
    let stop := s.fld (0xE040004 + e * 8) 19 0
    let q := s.fld (0xE030000 + e * 4) 19 0
    if s.fld (0xE040000 + e * 8) 27 0 = 0 || b < 256 * 64 * g || 1024 ≤ sent || (stop ≠ 0 && stop * 16 < s.depth q) then (s, sent)
    else match s.nextSource e with
      | none => (s, sent)
      | some m =>
        let s : State := { s with fab := { s.fab with bucket := Tab.set 0 s.fab.bucket e (b - 256 * 64 * g), next := Tab.set 0 s.fab.next e ((m + 1) % 64) } }
        ((s.ctlSend m (2 * 2 ^ 60 + e * 2 ^ 48 + g)).count 0xE0 0x47 0 1).grantLoop e g (sent + 1) n

/-- The credit generators at a boundary (R342). -/
def State.creditBoundary (s : State) : State :=
  if !s.scrRunning .fab then s
  else
    let g := max (s.fld 0xE000058 31 16) 1
    let es := ((s.listed 0xE040000 0xE042000).filter fun e => e.1 % 8 = 0).map fun e => (e.1 - 0xE040000) / 8
    let es := (List.range 1024).filter fun e => es.contains e || s.fab.bucket.any fun x => x.1 == e
    (es.foldl (fun (x : State × Nat) e =>
      let s := x.1
      let v := min (Tab.get 0 s.fab.bucket e + s.fld (0xE040000 + e * 8) 27 0) (2 * 256 * 64 * g)
      ({ s with fab := { s.fab with bucket := Tab.set 0 s.fab.bucket e v } } : State).grantLoop e g x.2 3) (s, 0)).1

/-! ## Control messages (R341, R343 to R345) -/

/-- A REQUEST of a source module (R342). -/
def State.msgRequest (s : State) (src e : Nat) (on : Bool) : State :=
  { s with fab := { s.fab with srcOn := Tab.set false s.fab.srcOn (e * 64 + src) on } }

/-- A GRANT: credit for the DEST of the sender and the index (R343). -/
def State.msgGrant (s : State) (src e units : Nat) : State :=
  let dest := src + e * 64
  let cap : Int := Int.ofNat (64 * max (s.fld 0xE000058 15 0) 1)
  let v := min (Tab.get (0 : Int) s.fab.cb dest + Int.ofNat (64 * units)) cap
  ({ s with fab := { s.fab with cb := Tab.set (0 : Int) s.fab.cb dest v } } : State).checkRequest dest

/-- A STATUS (R345, R351). -/
def State.msgStatus (s : State) (src planes : Nat) : State :=
  if s.flag fabCfg 7 && src = s.fabMod then s
  else (s.setFld (fabReachReg src) 7 0 (planes &&& s.fabPlanes)).setFlag (fabReachReg src) 31 true

/-- REQUEST: a message of an accepted control cell (R342). -/
def execRequest (src : Fin 64) (e : BitVec 10) (on : Bool) (s : State) : Host.Outcome State Fault Refusal :=
  .next (if s.scrRunning .fab then (s.hear src).msgRequest src e.toNat on else s)

/-- GRANT: a message of an accepted control cell (R343). -/
def execGrant (src : Fin 64) (e : BitVec 10) (units : BitVec 20) (s : State) : Host.Outcome State Fault Refusal :=
  .next (if s.scrRunning .fab then (s.hear src).msgGrant src e.toNat units.toNat else s)

/-- STATUS: a message of an accepted control cell (R345). -/
def execStatus (src : Fin 64) (planes : Byte) (s : State) : Host.Outcome State Fault Refusal :=
  .next (if s.scrRunning .fab then (s.hear src).msgStatus src planes.toNat else s)

/-- A message of MTYPE 0 or 5 to 15 (R344). -/
def State.msgOther (s : State) (mtype : Nat) : State := if 5 ≤ mtype then s.cellDrop 1 0 else s

/-- EMPTY_MESSAGE: MTYPE 0 is ignored, 5 to 15 is a cell error (R344). -/
def execEmptyMessage (src : Fin 64) (mtype : BitVec 4) (s : State) : Host.Outcome State Fault Refusal :=
  .next (if s.scrRunning .fab then (s.hear src).msgOther mtype.toNat else s)

/-- REQUEST_REPEAT: an ON request 64 beats after it was last sent (R341). -/
def execRequestRepeat (dest : BitVec 16) (s : State) : Host.Outcome State Fault Refusal :=
  let d := dest.toNat
  .next (if s.scrRunning .fab && Tab.get false s.fab.reqOn d && Tab.get 0 s.fab.reqAt d + 64 ≤ s.bus.beats then s.sendRequest d true else s)

/-- STATUS_REFRESH (R345). -/
def execStatusRefresh (s : State) : Host.Outcome State Fault Refusal := .next (if s.scrRunning .fab then s.sendStatus else s)

/-- STATUS_TIMEOUT: no control cell from a module for STATUS_TMO beats (R345). -/
def execStatusTimeout (m : Fin 64) (s : State) : Host.Outcome State Fault Refusal :=
  let h := Tab.get 0 s.fab.heard m
  if h = 0 || s.bus.beats + 1 < h + s.fld 0xE00005C 15 0 then .next s
  else
    let ds := (s.fab.cb.filter fun e => e.1 % 64 == m.val).map (·.1)
    let s : State := { s with fab := { s.fab with heard := Tab.set 0 s.fab.heard m 0, cb := s.fab.cb.filter fun e => e.1 % 64 != m.val } }
    .next (ds.foldl (fun s d => s.checkRequest d) ((s.setFld (fabReachReg m) 7 0 0).raise fabStat 8))

/-! ## FAB_SCR (R353, R354) -/

/-- The start sequence of the fabric interface as it completes (R353). -/
def State.fabStart (s : State) : State :=
  let s := (List.range 64).foldl (fun s m => s.setFlag (fabReachReg m) 31 false) s
  let s := (List.range 128).foldl (fun s l => if s.fabSet l && s.fabLaneSt l = 3 then s.putLaneSt l 4 else s) s
  let s : State := { s with fab := { s.fab with cb := [], rx := [], ctl := [], reqOn := [] } }
  let s := s.fab.demand.foldl (fun s e =>
    ({ s with fab := { s.fab with reqOn := Tab.set false s.fab.reqOn e.1 true } } : State).sendRequest e.1 true) s
  s.sendStatus

/-- A stream of the fabric interface still waits (R354). -/
def State.fabBusy (s : State) : Bool := s.fab.taken != [] || s.fab.carried != []

/-- The streams that still wait after 1 ms are discarded (R354). -/
def State.fabDiscard (s : State) : State :=
  let ds := s.fab.carried.flatMap (·.2) ++ s.fab.taken.map (·.pd)
  ({ s with fab := { s.fab with carried := [], taken := [] } } : State).dropStream ds

end Sys2Proof.Machine
end

