-- ==== Sys2Proof/Machine/Mate.lean ====
section
/-! DEFINITION. Mated-pair protection: the interlock, heartbeats, states, takeback and standby health (spec/19_mated_pair). -/

namespace Sys2Proof.Machine

def mateCfg : Nat := 0x300000
def mateStat : Nat := 0x30000C
def mateEvent : Nat := 0x300010
def mateHealth : Nat := 0x300018

/-- Core clocks of a millisecond. -/
def msClocks : Nat := 1500000

/-- STATE: 0 OFF, 1 SYNCING, 2 STANDBY, 3 CLAIMING, 4 ACTIVE, 5 RELEASING, 6 FAULTED (R493). -/
def State.mateSt (s : State) : Nat := s.fld mateStat 2 0
def State.mateOn (s : State) : Bool := s.flag mateCfg 0
def State.secondary (s : State) : Bool := s.flag mateCfg 1
def State.revertive (s : State) : Bool := s.flag mateCfg 4
/-- MATE_SEEN_N reads low. -/
def State.seenLow (s : State) : Bool := s.flag mateStat 5
def State.healthOk (s : State) : Bool := s.flag mateHealth 7
/-- MSTATE of the mate's last heartbeat (R491). -/
def State.mateShows (s : State) : Nat := s.fld mateStat 15 8
def State.mateHeard (s : State) : Bool := s.mate.dirAt.isSome || s.fab.hbAt.isSome
/-- A class 3 report or a thermal stop keeps the module from claiming and from sending heartbeats (R519, R549). -/
def State.mateBarred (s : State) : Bool := s.flag 0x400000 0 || s.flag 0x50 8

/-! ## Heartbeats (R489 to R491) -/

/-- MSTATE as this module sends it (R491). -/
def State.mstate (s : State) : Nat := s.mateSt + b2n s.secondary * 2 ^ 3 + b2n s.mate.take * 2 ^ 4

/-- A heartbeat on both paths (R489, R490). -/
def State.sendHeartbeat (s : State) : State :=
  if !s.mateOn || s.mate.expired || s.mateBarred then s
  else
    let seq := s.fab.hbSeq
    let m := BitVec.ofNat 64 (3 * 2 ^ 60 + seq * 2 ^ 32 + s.mstate * 2 ^ 8 + s.fld mateHealth 7 0)
    let s : State := { s with fab := { s.fab with hbSeq := (seq + 1) % 65536 }, mate := { s.mate with sent := 0xA5C3#16 ++ m ++ crc16 m } }
    let s := s.count 0x03 0x40 0 1
    if s.flag 0xE000050 31 && s.scrRunning .fab then (s.ctlSend (s.fld 0xE000050 5 0) m.toNat).count 0x03 0x40 1 1 else s

/-! ## States (R493) and takeback (R498) -/

/-- The countdown runs: a PRIMARY in STANDBY with REVERTIVE 1, HEALTH.OK 1 and a mate that shows ACTIVE (R498). -/
def State.wtrRuns (s : State) : Bool :=
  s.mateSt == 2 && !s.secondary && s.revertive && s.healthOk && s.mateShows % 8 == 4 && s.mateHeard && !s.mate.take

/-- The countdown started, stopped or kept as its conditions now stand; LEFT_S as of now (R498). -/
def State.wtrRefresh (s : State) : State :=
  let whole := max (s.fld 0x300020 15 0) 1 * 1500000000
  let left := match s.mate.wtrAt, s.mate.wtrLeft with
    | some e, _ => e - s.bus.ticks
    | none, some n => n
    | none, none => whole
  let run := s.wtrRuns
  let s : State := { s with mate := { s.mate with wtrAt := if run then some (s.bus.ticks + left) else none, wtrLeft := if run then none else some left } }
  s.setFld 0x300020 31 16 (if run then ceilDiv left 1500000000 else 0)

/-- The countdown starts over from WTR_S (R498). -/
def State.wtrRestart (s : State) : State := ({ s with mate := { s.mate with wtrAt := none, wtrLeft := none } } : State).wtrRefresh

/-- STATE moved, with the extra heartbeat of R489 (R493). -/
def State.setMateSt (s : State) (v : Nat) : State :=
  if s.mateSt = v then s else (((s.setFld mateStat 2 0 v).raise mateEvent 0).sendHeartbeat).wtrRefresh

/-- TAKE changed, with the extra heartbeat (R489, R498). -/
def State.setTake (s : State) (b : Bool) : State :=
  if s.mate.take = b then s else ({ s with mate := { s.mate with take := b } } : State).sendHeartbeat

/-- Entry into STANDBY: the claim is released and the countdown starts over (R493, R498). -/
def State.toStandby (s : State) : State := ((s.setFlag mateStat 6 false).setMateSt 2).wtrRestart

/-- RELEASING, from ACTIVE (R495). -/
def State.release (s : State) : State :=
  if s.mateSt = 4 then (({ s with mate := { s.mate with relAt := s.bus.ticks } } : State).setFlag mateStat 6 false).setMateSt 5 else s

/-- HEALTH.OK computed anew; its fall clears TAKE and starts the countdown over (R498, R500). -/
def State.healthRefresh (s : State) : State :=
  let was := s.healthOk
  let m := s.fld mateHealth 14 8
  let ok := (s.fld mateHealth 6 0 &&& m) == m
  let s := s.setFlag mateHealth 7 ok
  if was && !ok then (s.setTake false).wtrRestart else s.wtrRefresh

/-- A heartbeat received on either path (R491, R495, R496). -/
def State.heartbeatIn (s : State) (mstate health : Nat) : State :=
  let s := ((s.setFld mateStat 15 8 mstate).setFld mateHealth 31 24 health).setFlag mateStat 4 false
  let s := s.setFlag mateEvent 4 (bitOf mstate 3 == s.secondary)
  let s := if s.mateSt = 5 && mstate % 8 = 4 then s.toStandby else s
  let s := if s.mateSt = 4 && s.secondary && s.revertive && !bitOf mstate 3 && bitOf mstate 4 && bitOf health 7 then s.release else s
  s.wtrRefresh

/-- A write of MATE_CFG: ROLE, ALIAS_EN and ALIAS_MOD are held while EN is 1; EN moves the state (R45, R493, R496). -/
def State.mateCfgWrite (s : State) (v : Nat) : State :=
  let old := s.reg mateCfg
  let lock := 0x3F82
  let on := bitOf old 0
  let new := if on then (v &&& 0xFF0071) ||| (old &&& lock) else v &&& 0xFF3FF3
  let s := if on && (v &&& lock) != (old &&& lock) then s.raise mateEvent 5 else s
  let s := (s.setReg mateCfg new)
  let s := if on then s else s.setFlag mateEvent 4 false
  if on && !bitOf v 0 then
    let s := { (s.setFlag mateStat 6 false) with mate := { s.mate with expired := false, take := false, wtrAt := none, wtrLeft := none, holdAt := none } }
    s.setMateSt 0
  else if !on && bitOf v 0 then
    ({ s with mate := { s.mate with kickAt := s.bus.ticks, expired := false } } : State).setMateSt 1
  else s.wtrRefresh

/-- MATE_ENABLE: a write of MATE_CFG that changes EN (R493). -/
def execMateEnable (v : Word) (s : State) : Host.Outcome State Fault Refusal :=
  .next (if bitOf v.toNat 0 = s.mateOn then s else s.mateCfgWrite v.toNat)

/-- SYNC (R499). -/
def execSync (s : State) : Host.Outcome State Fault Refusal := .next (if s.mateSt = 1 then s.toStandby else s)

/-- RELEASE (R495). -/
def execRelease (s : State) : Host.Outcome State Fault Refusal := .next s.release

/-- The countdown has ended: TAKE (R498). -/
def State.wtrDone (s : State) : State :=
  (({ s with mate := { s.mate with wtrAt := none, wtrLeft := some 0 } } : State).setFld 0x300020 31 16 0).setTake true

/-- FORCE_TAKE: the countdown ends at once (R498). -/
def execForceTake (s : State) : Host.Outcome State Fault Refusal := .next (if s.wtrRuns then s.wtrDone else s)

/-- WTR_EXPIRY (R498). -/
def execWtrExpiry (s : State) : Host.Outcome State Fault Refusal :=
  .next (match s.mate.wtrAt with
    | some e => if e ≤ s.bus.ticks && s.wtrRuns then s.wtrDone else s
    | none => s)

/-- KICK_MS in clocks (R487). -/
def State.kickClocks (s : State) : Nat :=
  let k := s.fld mateCfg 23 20
  (if k = 0 then 5 else min k 10) * msClocks

/-- MATE_KICK: firmware's kick; a host write is an unmapped access (R487, R493). -/
def execMateKick (r : Requester) (s : State) : Host.Outcome State Fault Refusal :=
  match r with
  | .host => .next (s.bumpReg 0x400040 1)
  | .mss =>
    let s : State := { s with mate := { s.mate with kickAt := s.bus.ticks, expired := if s.mateSt = 6 then false else s.mate.expired } }
    .next (if s.mateSt = 6 then s.setMateSt 1 else s)

/-- KICK_TIMEOUT (R487). -/
def execKickTimeout (s : State) : Host.Outcome State Fault Refusal :=
  .next (if !s.mate.expired && s.mate.kickAt + s.kickClocks ≤ s.bus.ticks then s.mateExpire else s)

/-- HEARTBEAT_SEND: in the beat of a whole TAI millisecond (R489). -/
def execHeartbeatSend (s : State) : Host.Outcome State Fault Refusal :=
  let ms := s.tim.sec * 1000 + s.tim.ns / 1000000
  .next (if s.mate.lastMs = some ms then s else ({ s with mate := { s.mate with lastMs := some ms } } : State).sendHeartbeat)

/-- DIRECT_HEARTBEAT: a frame on MATE_HB_RX (R490). -/
def execDirectHeartbeat (f : BitVec 96) (s : State) : Host.Outcome State Fault Refusal :=
  let m := f.extractLsb' 16 64
  if f.extractLsb' 80 16 ≠ 0xA5C3#16 then .next s
  else if crc16 m ≠ f.extractLsb' 0 16 then .next (s.count 0x03 0x42 0 1)
  else if m.extractLsb' 60 4 ≠ 3#4 then .next s
  else
    let s := (s.setFld 0x30001C 31 16 (m.extractLsb' 32 16).toNat).count 0x03 0x41 0 1
    .next (({ s with mate := { s.mate with dirAt := some s.bus.ticks } } : State).heartbeatIn (m.extractLsb' 8 8).toNat (m.extractLsb' 0 8).toNat)

/-- A HEARTBEAT message of the fabric: only the mate's counts (R350, R491). -/
def State.msgHeartbeat (s : State) (src seq mstate health : Nat) : State :=
  if src ≠ s.fld 0xE000050 5 0 then s
  else
    let s := (s.setFld 0xE000054 31 16 seq).count 0x03 0x41 1 1
    ({ s with fab := { s.fab with hbAt := some s.bus.ticks } } : State).heartbeatIn mstate health

/-- HEARTBEAT: a message of an accepted control cell (R350). -/
def execHeartbeat (src : Fin 64) (seq : BitVec 16) (mstate health : Byte) (s : State) : Host.Outcome State Fault Refusal :=
  .next (if s.scrRunning .fab then (s.hear src).msgHeartbeat src seq.toNat mstate.toNat health.toNat else s)

/-- A control message carried out by its MTYPE (R344). -/
def State.message (s : State) (src : Nat) (m : BitVec 64) : State :=
  let n := m.toNat
  match bits n 63 60 with
  | 1 => s.msgRequest src (bits n 57 48) (bitOf n 59)
  | 2 => s.msgGrant src (bits n 57 48) (bits n 19 0)
  | 3 => s.msgHeartbeat src (bits n 47 32) (bits n 15 8) (bits n 7 0)
  | 4 => s.msgStatus src (bits n 7 0)
  | t => s.msgOther t

/-- CELL_RECEIVED: a cell received whole in this beat, with its messages when it is a control cell (R326, R329, R336, R344). -/
def execCellReceived (l : Fin 128) (hdr : BitVec 128) (payload : List Byte) (s : State) : Host.Outcome State Fault Refusal :=
  let (s, src, ms) := s.cellIn l hdr payload
  .next (ms.foldl (fun s m => s.message src m) s)

/-- Milliseconds since a clock; saturating, and 0xFFFF where nothing came (R490). -/
def State.ageMs (s : State) (at' : Option Nat) : Nat :=
  match at' with
  | none => 65535
  | some t => min ((s.bus.ticks - t) / msClocks) 65535

/-- MATE_DECLARED_FAILED: both ages beyond DETECT_MS, or one of them (R492). -/
def execMateDeclaredFailed (s : State) : Host.Outcome State Fault Refusal :=
  let lim := max (s.fld mateCfg 19 16) 1
  let d := decide (lim < s.ageMs s.mate.dirAt)
  let f := decide (lim < s.ageMs s.fab.hbAt)
  .next (if !s.mateOn then s
    else if d && f then (if s.flag mateStat 4 then s else (s.raise mateStat 4).raise mateEvent 1)
    else if d || f then s.raise mateEvent 2
    else s)

/-! ## Claims (R488, R494) -/

/-- The conditions of R494 but for MATE_SEEN_N. -/
def State.mayClaim (s : State) : Bool :=
  let st := s.mateShows % 8
  s.mateSt == 2 && !s.mateBarred && !s.flag mateEvent 4 && decide (s.mate.backoff ≤ s.bus.ticks) && (s.healthOk || s.flag mateCfg 6)
    && (s.flag mateStat 4 || (s.mateHeard && (st == 5 || st == 6 || st == 1 || st == 0)))

/-- CLAIM (R494). -/
def execClaim (s : State) : Host.Outcome State Fault Refusal :=
  .next (if !s.mayClaim then s
    else if s.seenLow then s.raise mateEvent 3
    else (((({ s with mate := { s.mate with holdAt := some s.bus.ticks } } : State).setFlag mateStat 6 true).setMateSt 3).count 0x03 0x43 0 1))

/-- CLAIM_HOLD_END: MATE_SEEN_N was high for the whole 10 us (R488, R502). -/
def execClaimHoldEnd (s : State) : Host.Outcome State Fault Refusal :=
  .next (match s.mate.holdAt with
    | some t =>
      if s.mateSt = 3 && !s.seenLow && t + 15000 ≤ s.bus.ticks then
        let s := ({ s with mate := { s.mate with holdAt := none, take := false } } : State).setMateSt 4
        if s.flag mateCfg 7 && s.scrRunning .fab then s.sendStatus else s
      else s
    | none => s)

/-- A withdrawal: the wire is released and no claim is made for a while (R488). -/
def State.withdraw (s : State) (ms : Nat) : State :=
  (({ s with mate := { s.mate with holdAt := none, backoff := s.bus.ticks + ms * msClocks } } : State).toStandby).count 0x03 0x44 0 1

/-- MATE_SEEN_LOW (R488). -/
def execMateSeenLow (s : State) : Host.Outcome State Fault Refusal :=
  let s := s.setFlag mateStat 5 true
  .next (if s.mateSt ≠ 3 then s
    else if s.secondary then s.withdraw 1
    else if s.mateHeard && bitOf s.mateShows 3 then { s with mate := { s.mate with holdAt := none } }
    else (s.raise mateEvent 4).withdraw (1 + s.serial % 8))

/-- MATE_SEEN_HIGH (R488). -/
def execMateSeenHigh (s : State) : Host.Outcome State Fault Refusal :=
  let s := s.setFlag mateStat 5 false
  .next (if s.mateSt = 3 && s.mate.holdAt = none then { s with mate := { s.mate with holdAt := some s.bus.ticks } } else s)

/-- CLAIM_BACKOFF_END (R488). -/
def execClaimBackoffEnd (s : State) : Host.Outcome State Fault Refusal :=
  .next (if s.mate.backoff ≤ s.bus.ticks then { s with mate := { s.mate with backoff := 0 } } else s)

/-- RELEASING_TIMEOUT: 50 ms after entry, or when the mate shows ACTIVE (R493). -/
def execReleasingTimeout (s : State) : Host.Outcome State Fault Refusal :=
  .next (if s.mateSt = 5 && (s.mate.relAt + 50 * msClocks ≤ s.bus.ticks || s.mateShows % 8 = 4) then s.toStandby else s)

/-! ## Self-test (R501) -/

/-- SELF_TEST_FRAME: every 100 ms in STANDBY firmware sends a frame (R501). -/
def execSelfTestFrame (frame : List Byte) (s : State) : Host.Outcome State Fault Refusal :=
  let due := match s.mate.testAt with
    | some t => decide (t + 100 * msClocks ≤ s.bus.ticks)
    | none => true
  .next (if s.mateSt = 2 && s.mssMode = 1 && due then
      ({ s with mate := { s.mate with test := some frame, testAt := some s.bus.ticks } } : State).mssSend (s.fld 0x300024 19 0) frame
    else s)

/-- The self-test frame comes back on a ring of firmware: LOOP is set (R500, R501). -/
def State.testBack (s : State) (frame : List Byte) : State :=
  if s.mate.test = some frame then (({ s with mate := { s.mate with test := none } } : State).setFlag mateHealth 0 true).healthRefresh else s

/-- SELF_TEST_TIMEOUT: not returned within 10 ms (R501). -/
def execSelfTestTimeout (s : State) : Host.Outcome State Fault Refusal :=
  .next (match s.mate.test, s.mate.testAt with
    | some _, some t =>
      if t + 10 * msClocks ≤ s.bus.ticks then (({ s with mate := { s.mate with test := none } } : State).setFlag mateHealth 0 false).healthRefresh else s
    | _, _ => s)

end Sys2Proof.Machine
end

