-- ==== Sys2Proof/Machine/Host.lean ====
section
/-! DEFINITION. The host interface: host-side resets, DMA rings, interrupts and mailboxes (spec/14_host). -/

namespace Sys2Proof.Machine

def hifStat : Nat := 0x600000
def pcieStat : Nat := 0x600004

/-- A ring's register at an offset of its block. -/
def ringReg (inj : Bool) (r o : Nat) : Nat := (if inj then 0x602000 else 0x601000) + r * 0x40 + o

def State.ring (s : State) (inj : Bool) (r : Nat) : Ring := Tab.get {} (if inj then s.hif.ir else s.hif.pr) r

def State.setRing (s : State) (inj : Bool) (r : Nat) (x : Ring) : State :=
  if inj then { s with hif := { s.hif with ir := Tab.set {} s.hif.ir r x } }
  else { s with hif := { s.hif with pr := Tab.set {} s.hif.pr r x } }

/-- A punt ring served by firmware (R407). -/
def State.fwRing (s : State) (r : Nat) : Bool := s.flag (0x900010 + r / 32 * 4) (r % 32)

/-- Descriptors of a ring (R381). -/
def State.ringSize (s : State) (inj : Bool) (r : Nat) : Nat := 2 ^ min (max (s.fld (ringReg inj r 8) 20 16) 6) 16

/-- HEAD, TAIL and ACK modulo the ring's size (R381). -/
def State.ringIdx (s : State) (inj : Bool) (r o : Nat) : Nat := s.fld (ringReg inj r o) 15 0 % s.ringSize inj r

/-- Descriptors that the host has posted and that are not written back (R382). -/
def State.ringPosted (s : State) (inj : Bool) (r : Nat) : Nat :=
  (s.ringIdx inj r 0xC + s.ringSize inj r - s.ringIdx inj r 0x10) % s.ringSize inj r

/-- Write-backs that the host has not consumed (R398). -/
def State.ringUnread (s : State) (inj : Bool) (r : Nat) : Nat :=
  (s.ringIdx inj r 0x10 + s.ringSize inj r - s.ringIdx inj r 0x14) % s.ringSize inj r

/-- The function may master the bus: link up, Bus Master Enable, D0 (R380). -/
def State.busMaster (s : State) : Bool := s.flag pcieStat 11 && s.flag pcieStat 8 && !s.flag pcieStat 10

/-- A ring's DMA may run. -/
def State.ringDma (s : State) (inj : Bool) (r : Nat) : Bool := s.busMaster || (!inj && s.fwRing r)

def State.ringHalted (s : State) (inj : Bool) (r : Nat) : Bool := s.flag (ringReg inj r 0x1C) 4

/-! ## Interrupts (R396 to R399) -/

/-- TIME_US microseconds have passed since a ring's unread write-backs rose from 0; a TIME_US of 0 disables the condition (R398). -/
def State.timePassed (s : State) (inj : Bool) (r : Nat) : Bool :=
  let t := s.fld (ringReg inj r 0x18) 31 16
  t != 0 && (s.ring inj r).rose.any fun c => c + t * 1500 ≤ s.bus.ticks

/-- The moderation condition of a ring (R398). -/
def State.moderated (s : State) (inj : Bool) (r : Nat) : Bool :=
  let n := s.ringUnread inj r
  max (s.fld (ringReg inj r 0x18) 7 0) 1 ≤ n || (1 ≤ n && s.timePassed inj r)

/-- A source's cause is active (R396, R407). -/
def State.srcActive (s : State) (n : Nat) : Bool :=
  if n < 64 then !s.fwRing n && s.moderated false n
  else if n < 128 then s.moderated true (n - 64)
  else if n < 144 then s.flag (0x70000C + (n - 128) * 0x20) 4
  else if n < 160 then s.flag (0x70000C + (n - 128) * 0x20) 0
  else if n = 160 then (s.reg 0x400008 &&& s.reg 0x40000C) != 0
  else if n = 161 then s.fld 0xA000020 31 16 < s.lrn.recs.length
  else if n = 162 then s.fld 0x9000310 31 16 < s.cls.recs.length
  else if n = 163 then (s.reg 0x200008 &&& s.reg 0x20000C) != 0
  else if n = 164 then (s.reg 0x300010 &&& s.reg 0x300014) != 0
  else if n = 165 then s.flag 0x800000 0 || s.flag 0x801000 16
  else if n = 166 then s.reg 0x900008 != s.reg 0x90000C
  else false

def vecCtrl (v : Nat) : Nat := 0x61000C + v * 0x10
def pbaReg (v : Nat) : Nat := 0x610800 + v / 32 * 4
def pendReg (v : Nat) : Nat := 0x603508 + v / 32 * 4

/-- A vector's message: sent, or noted in the PBA while it is masked or no message may be sent (R380, R397). -/
def State.sendVec (s : State) (v : Nat) : State :=
  if s.busMaster && !s.flag (vecCtrl v) 0 then { s with hif := { s.hif with msix := Tab.set 0 s.hif.msix v (Tab.get 0 s.hif.msix v + 1) } }
  else s.setFlag (pbaReg v) (v % 32) true

/-- PBA bits whose vectors may be sent now (R380, R397). -/
def State.flushPba (s : State) : State :=
  (List.range 64).foldl (fun s v =>
    if s.flag (pbaReg v) (v % 32) && s.busMaster && !s.flag (vecCtrl v) 0 then (s.setFlag (pbaReg v) (v % 32) false).sendVec v else s) s

/-- Active causes raise their vectors and drive INT_N (R397, R399). -/
def State.irq (s : State) : State :=
  let maps := s.listed 0x603000 0x603300
  let on := maps.filter fun e => (bitOf e.2 31 || bitOf e.2 30) && s.srcActive ((e.1 - 0x603000) / 4)
  let s := on.foldl (fun s e =>
    let v := bits e.2 5 0
    if bitOf e.2 31 && !s.flag (pendReg v) (v % 32) then (s.setFlag (pendReg v) (v % 32) true).sendVec v else s) s
  { s with hif := { s.hif with intN := on.any fun e => bitOf e.2 30 } }

/-- VECTOR_EOI: PEND clears, and rises again at once while a cause is active (R397). -/
def execVectorEoi (v : Fin 64) (s : State) : Host.Outcome State Fault Refusal :=
  .next (s.setFlag (pendReg v) (v.val % 32) false).irq

/-- MSIX_UNMASK: the vector's mask bit is cleared; a message that waited is sent (R397). -/
def execMsixUnmask (v : Fin 64) (s : State) : Host.Outcome State Fault Refusal := .next (s.setFlag (vecCtrl v) 0 false).flushPba.irq

/-- MODERATION_TIMER: TIME_US after a ring's unread write-backs rose from 0 its source becomes active (R398). -/
def execModerationTimer (inj : Bool) (r : Fin 64) (s : State) : Host.Outcome State Fault Refusal :=
  .next (if s.moderated inj r then s.irq else s)

/-- A write of ACK: the time condition starts over when nothing is unread (R398). -/
def State.ackWritten (s : State) (inj : Bool) (r : Nat) : State :=
  if s.ringUnread inj r = 0 then s.setRing inj r { (s.ring inj r) with rose := none } else s

/-- HEAD one further (R383, R398). -/
def State.headNext (s : State) (inj : Bool) (r : Nat) : State :=
  let fresh := s.ringUnread inj r = 0
  let s := s.setReg (ringReg inj r 0x10) ((s.ringIdx inj r 0x10 + 1) % s.ringSize inj r)
  if fresh then s.setRing inj r { (s.ring inj r) with rose := some s.bus.ticks } else s

/-! ## Host-side resets (R380) -/

/-- A ring at its reset: registers and descriptors; accepted punts are discarded (R384). -/
def State.resetRing (s : State) (inj : Bool) (r : Nat) : State :=
  let s : State := { s with bus := { s.bus with lowHalf := Tab.set 0 s.bus.lowHalf (ringReg inj r 0) 0 } }
  let s := (s.ring inj r).punts.foldl (fun s p => s.closeSample p.tag 3 6 1 false) s
  ((List.range 9).foldl (fun s i => s.setReg (ringReg inj r (4 * i)) (if i = 6 then 1 else 0)) s).setRing inj r {}

/-- Every ring, the source map, the vectors, the MSI-X table and the mailboxes at reset (R380, R402). -/
def State.hostReset (s : State) : State :=
  let s := (List.range 64).foldl (fun s r => (s.resetRing false r).resetRing true r) s
  let clear := fun (s : State) (lo hi : Nat) => { s with bus := { s.bus with regs := s.bus.regs.filter fun e => e.1 < lo || hi ≤ e.1 } }
  let s := clear (clear (clear s 0x603000 0x603600) 0x610000 0x610900) 0x700000 0x700400
  let s : State := { s with bus := { s.bus with lowHalf := Tab.clear s.bus.lowHalf 0x700000 0x700400 } }
  let s : State := { s with mss := { s.mss with taken := [] }, hif := { s.hif with mbxNow := [] } }
  s.irq

/-- PERST_N_ASSERT (R380). -/
def execPerstNAssert (s : State) : Host.Outcome State Fault Refusal :=
  let s : State := { s with hif := { s.hif with perst := true } }
  let s := if s.flag pcieStat 11 then s.raise hifStat 1 else s
  .next ((s.setReg pcieStat (b2n (s.flag pcieStat 9) * 2 ^ 9)).hostReset.tellFirmware 1)

/-- PERST_N_RELEASE: link training may begin (R430). -/
def execPerstNRelease (s : State) : Host.Outcome State Fault Refusal := .next { s with hif := { s.hif with perst := false } }

/-- PCIE_LINK_UP: training completes at a speed and a width; bme is the Bus Master Enable that the host's configuration sets (R430). -/
def execPcieLinkUp (speed width : Fin 16) (bme : Bool) (s : State) : Host.Outcome State Fault Refusal :=
  if s.hif.perst || s.boot.inReset || s.elec.clkBad.contains .pcieRef then .next s
  else .next (s.setReg pcieStat (2 ^ 11 + b2n (s.flag pcieStat 10) * 2 ^ 10 + b2n (s.flag pcieStat 9) * 2 ^ 9 + b2n bme * 2 ^ 8
    + width.val * 2 ^ 4 + speed.val)).flushPba

/-- HOT_RESET: a hot reset, or the link down from the data link layer (R380). A hot reset too takes the link down on its way, though it is up
again after it (PRESUMED, log 75). -/
def execHotReset (linkDown : Bool) (s : State) : Host.Outcome State Fault Refusal :=
  let up := s.flag pcieStat 11
  let s := if up then s.raise hifStat 1 else s
  let keep := if linkDown then 0 else s.reg pcieStat % 2 ^ 8 + b2n up * 2 ^ 11
  .next ((s.setReg pcieStat (keep + b2n (s.flag pcieStat 9) * 2 ^ 9)).hostReset.tellFirmware 2)

/-- FUNCTION_LEVEL_RESET: as PERST_N, but for the link (R380). -/
def execFunctionLevelReset (s : State) : Host.Outcome State Fault Refusal :=
  let s := s.raise hifStat 2
  .next (((s.setFlag pcieStat 10 false).setFlag pcieStat 8 false).hostReset.tellFirmware 3)

/-- D3HOT_ENTRY (R380). -/
def execD3hotEntry (s : State) : Host.Outcome State Fault Refusal := .next ((s.setFlag pcieStat 10 true).tellFirmware 4)

/-- D0_RETURN (R380). -/
def execD0Return (s : State) : Host.Outcome State Fault Refusal := .next (s.setFlag pcieStat 10 false).flushPba

/-- BUS_MASTER_ENABLE_CLEAR (R380). -/
def execBusMasterEnableClear (s : State) : Host.Outcome State Fault Refusal := .next (s.setFlag pcieStat 8 false)

/-- The number by which an error report names a requester: 0 the host, 1 firmware. -/
def requesterNo : Requester → Nat
  | .host => 0
  | .mss => 1

/-- HOST_READ_TIMEOUT: a host read that the module could not complete within 50 ms (R379, R526). -/
def execHostReadTimeout (addr : BitVec 28) (s : State) : Host.Outcome State Fault Refusal :=
  let s := (s.bumpReg 0x400048 1).report 0x06 2 1 (requesterNo .host) addr.toNat
  .next { s with bus := { s.bus with cpl := some { req := .host, addr := addr.toNat, data := 0, status := .completerAbort } } }

/-! ## Rings (R381 to R385) -/

/-- RING_ENABLE: a write of a ring's CFG with EN rising (R378, R384). -/
def execRingEnable (inj : Bool) (r : Fin 64) (v : Word) (s : State) : Host.Outcome State Fault Refusal :=
  let a := ringReg inj r 8
  if s.flag a 31 || !bitOf v.toNat 31 then .next s
  else if s.flag pcieStat 9 then .next (s.raise (ringReg inj r 0x1C) 3)
  else
    let s := (s.ring inj r).punts.foldl (fun s p => s.closeSample p.tag 3 6 1 false) s
    let s := ((s.setReg a (v.toNat &&& 0xC01F0000)).setReg (ringReg inj r 0xC) 0).setReg (ringReg inj r 0x10) 0
    .next (((s.setReg (ringReg inj r 0x14) 0).setFlag (ringReg inj r 0x1C) 4 false).setRing inj r {})

/-- RING_DISABLE: a write of a ring's CFG with EN falling; LOG2SIZE stays (R384). -/
def execRingDisable (inj : Bool) (r : Fin 64) (v : Word) (s : State) : Host.Outcome State Fault Refusal :=
  let a := ringReg inj r 8
  if !s.flag a 31 || bitOf v.toNat 31 then .next s
  else
    let s := if bits v.toNat 20 16 ≠ s.fld a 20 16 then s.raise (ringReg inj r 0x1C) 3 else s
    let s := (s.setFlag a 31 false).setFlag a 30 (bitOf v.toNat 30)
    .next (if inj then s.setRing inj r { (s.ring inj r) with fetched := [] } else s)

/-- DESCRIPTOR_FETCH: the next posted descriptor of a ring, or a fetch that ends with an error (R385, R395). -/
def execDescriptorFetch (inj : Bool) (r : Fin 64) (ok : Bool) (w0 w1 w2 w3 : Dword) (s : State) : Host.Outcome State Fault Refusal :=
  let x := s.ring inj r
  let used := x.fetched.length + (if inj then x.prog.length else 0)
  let en := s.flag (ringReg inj r 8) 31 || (!inj && x.punts != [])
  if !en || s.ringHalted inj r || !s.ringDma inj r || s.ringPosted inj r ≤ used || (inj && 32 ≤ x.fetched.length) then .next s
  else
    let s := s.count 0x06 0x42 r.val 1
    if ok then .next (s.setRing inj r { x with fetched := x.fetched ++ [{ w0 := w0, w1 := w1, w2 := w2, w3 := w3 }] })
    else
      let s := s.raise (ringReg inj r 0x1C) 4
      .next (match inj, x.punts[x.fetched.length]? with
        | false, some p => ((s.count 0x06 1 r 1).closeSample p.tag 3 6 1 false).setRing inj r { x with punts := dropAt x.punts x.fetched.length }
        | _, _ => s)

/-! ## Punts (R386 to R392) -/

/-- Bytes that the punt store holds (R389). -/
def State.puntStore (s : State) : Nat := (s.hif.pr.map fun e => (e.2.punts.map fun p => p.script.length + p.frame.length).sum).sum

/-- A refusal at a ring (R390): 1 punt ring full, 2 punt overload. -/
def State.puntRefuse (s : State) (r why : Nat) : State :=
  let s := (s.bumpReg (ringReg false r 0x20) 1).raise (ringReg false r 0x1C) 0
  if why = 2 then s.raise hifStat 3 else s

/-- A punt offered to a ring: accepted, or refused with why (R389, R390). -/
def State.puntOffer (s : State) (r : Nat) (p : Punt) : State × Option Nat :=
  let x := s.ring false r
  if !s.flag (ringReg false r 8) 31 || s.ringHalted false r || !s.ringDma false r || s.ringPosted false r ≤ x.punts.length then
    (s.puntRefuse r 1, some 1)
  else if 4194304 < s.puntStore + p.script.length + p.frame.length then (s.puntRefuse r 2, some 2)
  else (s.setRing false r { x with punts := x.punts ++ [p] }, none)

/-- A write of the DMA engine. -/
def State.dmaWrite (s : State) (mss : Bool) (a : Nat) (bs : List Byte) : State :=
  { s with hif := { s.hif with dma := s.hif.dma ++ [{ mss := mss, addr := a, bytes := bs }] } }

/-- The address of the descriptor at HEAD (R381). -/
def State.headAddr (s : State) (inj : Bool) (r : Nat) : Nat := s.reg64 (ringReg inj r 0) + 32 * s.ringIdx inj r 0x10

/-- A posted punt buffer is as R391 wants it. -/
def RingDesc.puntOk (d : RingDesc) : Bool :=
  let n := d.w1.toNat % 65536
  d.w0.toNat % 64 = 0 && n % 64 = 0 && 128 ≤ n && n ≤ 16384

/-- W1 to W3 of a punt's write-back (R386). -/
def puntWords (d : RingDesc) (p : Punt) (ok trunc : Bool) : Nat × Nat × Nat :=
  (d.w1.toNat % 65536 + b2n ok * (p.frame.length % 2 ^ 14) * 2 ^ 16 + p.script.length / 8 % 16 * 2 ^ 30 + p.kind % 8 * 2 ^ 34
      + p.reason % 65536 * 2 ^ 37 + p.ctx % 256 * 2 ^ 53 + p.pass % 4 * 2 ^ 61,
   p.adm % 2 ^ 32 + p.ns % 2 ^ 30 * 2 ^ 32 + p.colour % 4 * 2 ^ 62,
   p.sec % 2 ^ 32 + b2n trunc * 2 ^ 60 + b2n (!ok) * 2 ^ 61 + 2 ^ 63)

/-- A punt's data and then its descriptor written back (R383, R388, R391, R501). -/
def State.puntBack (s : State) (r : Nat) (d : RingDesc) (p : Punt) : State :=
  let mss := s.fwRing r
  let ok := d.puntOk
  let n := d.w1.toNat % 65536
  let bs := p.script ++ p.frame
  let trunc := ok && decide (n < bs.length)
  let (w1, w2, w3) := puntWords d p ok trunc
  let a := s.headAddr false r
  let s := if ok then s.dmaWrite mss d.w0.toNat (bs.take n) else s
  let s := (s.dmaWrite mss (a + 8) (leBytes w1 8 ++ leBytes w2 8)).dmaWrite mss (a + 24) (leBytes w3 8)
  let s := if mss && ok then s.testBack p.frame else s
  let x := s.ring false r
  let s := s.setRing false r { x with punts := x.punts.drop 1, fetched := x.fetched.drop 1 }
  let s := s.headNext false r
  if ok then
    let s := if trunc then s.raise (ringReg false r 0x1C) 1 else s
    (s.count 0x06 0x40 r 1).closeSample p.tag 2 0 0 false
  else ((s.raise (ringReg false r 0x1C) 2).count 0x06 1 r 1).closeSample p.tag 3 6 1 false

/-- The ring whose turn it is: PRIO 1 before PRIO 0, rising with wrap-around (R392, R395). base is 0 for punts, 2 for injects. -/
def State.ringTurn (s : State) (inj : Bool) (can : Nat → Bool) : Option (Nat × State) :=
  let base := if inj then 2 else 0
  let pick := fun (k : Nat) => (rotOrder (Tab.get 0 s.hif.turn (base + k)) 64).find? fun r => can r && s.flag (ringReg inj r 8) 30 == (k == 0)
  let take := fun (k r : Nat) => (r, ({ s with hif := { s.hif with turn := Tab.set 0 s.hif.turn (base + k) ((r + 1) % 64) } } : State))
  match pick 0, pick 1 with
  | some r, _ => some (take 0 r)
  | none, some r => some (take 1 r)
  | none, none => none

/-- The punt writer's time for a buffer of n bytes at 200 Gb/s: 3/50 clock a byte (R392). -/
def State.puntTime (s : State) (n : Nat) : State := { s with hif := { s.hif with puntBusy := s.bus.ticks * 50 + 3 * n } }

/-- PUNT_WRITE: the next punt of the rings is written back, unless the writer is still busy with the one before (R383, R391, R392, R397). -/
def execPuntWrite (s : State) : Host.Outcome State Fault Refusal :=
  if s.bus.ticks * 50 < s.hif.puntBusy then .next s
  else match s.ringTurn false fun r => s.ringDma false r && !s.ringHalted false r && (s.ring false r).punts != [] && (s.ring false r).fetched != [] with
  | none => .next s
  | some (r, s) =>
    match (s.ring false r).punts, (s.ring false r).fetched with
    | p :: _, d :: _ =>
      let n := if d.puntOk then min (p.script.length + p.frame.length) (d.w1.toNat % 65536) else 0
      .next ((s.puntBack r d p).puntTime n).irq
    | _, _ => .next s

/-! ## Injects (R393 to R395) -/

/-- Inject descriptors whose outcome is known are written back in ring order (R383, R394). -/
def State.injectFlush (s : State) (r : Nat) : Nat → State
  | 0 => s
  | n + 1 =>
    let x := s.ring true r
    match x.prog with
    | some st :: rest =>
      let s := s.dmaWrite false (s.headAddr true r + 24) (leBytes (st + 2 ^ 63) 8)
      let s := s.setRing true r { x with prog := rest, base := x.base + 1 }
      ((s.headNext true r).count 0x06 0x41 (r * 8 + st) 1).injectFlush r n
    | _ => s

/-- The outcome of an inject descriptor by its number in its ring; nothing after the ring was reset (R394). -/
def State.injectDone (s : State) (inj : Option (Nat × Nat)) (st : Nat) : State :=
  match inj with
  | none => s
  | some (r, k) =>
    let x := s.ring true r
    if k < x.base || x.base + x.prog.length ≤ k then s
    else (s.setRing true r { x with prog := setAt x.prog (k - x.base) (some st) }).injectFlush r (x.prog.length + 1)

/-- STATUS of a descriptor refused by its check (R394). -/
def RingDesc.injectBad (d : RingDesc) : Option Nat :=
  let w := d.w1.toNat
  let len := bits w 13 0
  if len < 60 || 10236 < len || 8 < bits w 17 14 then some 1
  else if d.w0.toNat % 8 ≠ 0 || bits w 55 54 = 3 || bits w 63 56 ≠ 0 || d.w2.toNat / 2 ^ 32 ≠ 0 then some 5
  else none

/-- INJECT_READ: the next inject descriptor is checked, its packet read (bytes, or an error) and built into a record of requester 16
(R393 to R395). -/
def execInjectRead (ok : Bool) (bytes : List Byte) (s : State) : Host.Outcome State Fault Refusal :=
  match s.ringTurn true fun r => s.busMaster && !s.ringHalted true r && (s.ring true r).fetched != [] with
  | none => .next s
  | some (r, s') =>
    let x := s'.ring true r
    match x.fetched with
    | [] => .next s
    | d :: rest =>
      let w := d.w1.toNat
      let n := 8 * bits w 17 14 + bits w 13 0
      let k := x.base + x.prog.length
      let t := s'.setRing true r { x with fetched := rest, prog := x.prog ++ [none] }
      match d.injectBad with
      | some st => .next ((t.raise (ringReg true r 0x1C) 2).injectDone (some (r, k)) st).irq
      | none =>
        if !ok then .next (t.injectDone (some (r, k)) 2).irq
        else if t.hif.budget < 3 * n then .next s
        else
          let rec' : XRec := { kind := 2, queue := bits w 37 18, dest := bits w 53 38, colour := bits w 55 54, req := 16,
                               script := sliceAt bytes 0 (8 * bits w 17 14), frame := sliceAt (bytes.drop (8 * bits w 17 14)) 0 (bits w 13 0),
                               pkt := 0, tag := none, inj := some (r, k) }
          .next { t with hif := { t.hif with budget := t.hif.budget - 3 * n }, cross := { t.cross with offer := t.cross.offer ++ [rec'] } }

/-- The injects' budget at a beat boundary (R395). -/
def State.injectBudget (s : State) : State := { s with hif := { s.hif with budget := min (s.hif.budget + 12800) 76800 } }

/-! ## Mailboxes (R400 to R405) -/

def mbx (m o : Nat) : Nat := 0x700000 + m * 0x20 + o

/-- The requester that sends on a mailbox is the one that writes (R404). -/
def mbxSender (r : Requester) (m : Nat) : Bool := (r == .host) == decide (m < 16)

/-- A message taken out of a mailbox. -/
def State.mbxClear (s : State) (m : Nat) : State := (s.setFlag (mbx m 0xC) 0 false).setRegs (mbx m 0x10) [0, 0, 0]

/-- A message posted: the pointer and the tag (R400). -/
def State.mbxPut (s : State) (m lo hi tag : Nat) : State := (s.setRegs (mbx m 0x10) [lo, hi, tag]).setFlag (mbx m 0xC) 0 true

/-- What took effect at a mailbox in this clock. -/
def State.mbxNow (s : State) (m : Nat) : MbxNow :=
  let x := Tab.get {} s.hif.mbxNow m
  if x.tick = s.bus.ticks then x else { tick := s.bus.ticks }

def State.setMbxNow (s : State) (m : Nat) (x : MbxNow) : State := { s with hif := { s.hif with mbxNow := Tab.set {} s.hif.mbxNow m x } }

/-- MAILBOX_POST: a write of TAG (R400, R404). -/
def execMailboxPost (r : Requester) (m : Fin 32) (tag : Word) (s : State) : Host.Outcome State Fault Refusal :=
  .next (if !mbxSender r m then s.raise (mbx m 0xC) 5
    else if s.flag (mbx m 0xC) 0 then
      (s.setMbxNow m { (s.mbxNow m) with again := some (s.reg (mbx m 0), s.reg (mbx m 4), tag.toNat), rej := s.flag (mbx m 0xC) 6 }).raise (mbx m 0xC) 6
    else (s.mbxPut m (s.reg (mbx m 0)) (s.reg (mbx m 4)) tag.toNat).irq)

/-- A POP (R401). A WITHDRAW of the same clock is ignored beside it, and a TAG write of the same clock that found the mailbox full posts its
message after it (R403). -/
def State.mbxPop (s : State) (m : Nat) : State :=
  let x := s.mbxNow m
  let c := mbx m 0xC
  if x.withdrawn then (((s.setMbxNow m { x with withdrawn := false, popped := true }).raise c 4).raise c 7).irq
  else if s.flag c 0 then
    let s := ((s.setMbxNow m { x with popped := true, again := none }).mbxClear m).raise c 4
    match x.again with
    | some (lo, hi, tag) => ((s.mbxPut m lo hi tag).setFlag c 6 x.rej).irq
    | none => s.irq
  else s

/-- POP (R401, R404). -/
def execPop (r : Requester) (m : Fin 32) (s : State) : Host.Outcome State Fault Refusal :=
  .next (if mbxSender r m then s.raise (mbx m 0xC) 5 else s.mbxPop m)

/-- WITHDRAW (R403, R404). -/
def execWithdraw (r : Requester) (m : Fin 32) (s : State) : Host.Outcome State Fault Refusal :=
  .next (if !mbxSender r m then s.raise (mbx m 0xC) 5
    else if (s.mbxNow m).popped || !s.flag (mbx m 0xC) 0 then s.raise (mbx m 0xC) 7
    else (s.setMbxNow m { (s.mbxNow m) with withdrawn := true }).mbxClear m)

end Sys2Proof.Machine
end

