-- ==== Sys2Proof/Machine/Slots.lean ====
section
/-! DEFINITION. The beat number, its ties to TAI, and the activation slots (spec/02_beat). -/

namespace Sys2Proof.Machine

def beatStat : Nat := 0x100014

/-- Target register of a slot; its control register lies 4 above (R36). -/
def slotTgt : SlotId → Nat
  | .flxCal f => 0x1080048 + f.val * 0x1000
  | .pg => 0x2000018
  | .avePs => 0x30F0000
  | .lkpUpd w => 0x5000030 + w.val * 8
  | .pat => 0x9000028
  | .shp => 0xD800008
  | .fabLset => 0xE000010
  | .pmuSnap => 0x500008

/-- Every activation slot. -/
def allSlots : List SlotId :=
  (List.finRange 12).map SlotId.flxCal ++ [.pg, .avePs, .lkpUpd 0, .lkpUpd 1, .pat, .shp, .fabLset, .pmuSnap]

/-- PENDING of a slot. -/
def State.slotPending (s : State) (k : SlotId) : Bool := s.flag (slotTgt k + 4) 4

/-- The change that a slot holds armed. -/
def State.slotArmed (s : State) (k : SlotId) : Option Armed := Tab.get none s.bus.armed (slotTgt k)

/-- d of R37: how far a target lies ahead of a beat, as a signed 32-bit number. -/
def aheadBy (target beat : Nat) : Int := signed32 ((target + 2 ^ 32 - beat % 2 ^ 32) % 2 ^ 32)

/-- A slot's armed change replaced, with PENDING. -/
def State.setArmed (s : State) (k : SlotId) (x : Option Armed) : State :=
  ({ s with bus := { s.bus with armed := Tab.set none s.bus.armed (slotTgt k) x } } : State).setFlag (slotTgt k + 4) 4 x.isSome

/-- An ARM for TARGET as it stands; rejected while PENDING is 1 (R37, R38). -/
def State.slotArm (s : State) (k : SlotId) : State :=
  if s.slotPending k then s.raise (slotTgt k + 4) 7
  else
    let t := s.reg (slotTgt k)
    s.setArmed k (some { target := BitVec.ofNat 32 t, late := aheadBy t s.beatN ≤ 0 })

/-- ARM: a write of ARM, with or without CANCEL (R37, R38). -/
def execArm (k : SlotId) (cancelToo : Bool) (s : State) : Host.Outcome State Fault Refusal :=
  .next (if s.slotPending k && cancelToo then (s.slotArm k).setArmed k none else s.slotArm k)

/-- CANCEL (R38, R39). -/
def execCancel (k : SlotId) (s : State) : Host.Outcome State Fault Refusal :=
  .next (if s.slotPending k then s.setArmed k none else s)

/-- A slot whose change the boundary that begins beat b applies (R37). -/
def State.slotDue (s : State) (b : Nat) (k : SlotId) : Bool :=
  match s.slotArmed k with
  | some a => a.late || a.target.toNat == b % 2 ^ 32
  | none => false

/-- A slot's change as applied, before its effect on its unit (R37). -/
def State.slotApplied (s : State) (k : SlotId) : State :=
  let late := match s.slotArmed k with
    | some a => a.late
    | none => false
  let s := (s.setArmed k none).raise (slotTgt k + 4) 5
  if late then (((s.raise (slotTgt k + 4) 6).raise beatStat 6).bumpReg 0x100040 1).count 0x01 0x40 0 1 else s

/-- Slots that hold a change are judged against a new beat number (R28, R37). -/
def State.slotsJudged (s : State) : State :=
  allSlots.foldl (fun s k =>
    match s.slotArmed k with
    | some a => s.setArmed k (some { a with late := aheadBy a.target.toNat s.beatN ≤ 0 })
    | none => s) s

/-! ## The beat and TAI (R25 to R28) -/

/-- The beat number that TAI gives (R25): the beat in progress at the time counter's value. -/
def State.taiBeat (s : State) : Nat := s.tim.sec * 5859375 + s.tim.ns * 3 / 512

/-- The beat number replaced. -/
def State.setBeat (s : State) (n : Nat) : State := { s with bus := { s.bus with beat := BitVec.ofNat 64 n } }

/-- EPOCH_LOAD (R26): once, after the time subsystem has locked. -/
def execEpochLoad (s : State) : Host.Outcome State Fault Refusal :=
  .next (if s.flag beatStat 1 || !s.tim.everLocked then s else ((s.setBeat s.taiBeat).raise beatStat 1).slotsJudged)

/-- A REALIGN that waits (R28). R28 gives it no condition, so that it is accepted while EPOCH_SET is 0 too. DEDUCED, log 37. -/
def State.realign (s : State) : State := s.setFlag beatStat 3 true

/-- REALIGN (R28). -/
def execRealign (s : State) : Host.Outcome State Fault Refusal := .next s.realign

/-- REALIGN_LOAD (R28). -/
def execRealignLoad (s : State) : Host.Outcome State Fault Refusal :=
  .next (if s.flag beatStat 3 then (((s.setBeat s.taiBeat).setFlag beatStat 3 false).raise beatStat 4).slotsJudged else s)

/-- The signed offset of this moment from the nearest TAI-derived beat boundary, in 1/65,536 ns (R27). -/
def State.beatOffset (s : State) : Int :=
  let t := 3 * ((s.tim.ns * 65536 + s.tim.frac) % 33554432)
  let r := t % (512 * 65536)
  (if r < 256 * 65536 then Int.ofNat r else Int.ofNat r - 512 * 65536) / 3

/-- The beats by which the beat number leads TAI, to the nearest (R28). -/
def State.beatLead (s : State) : Int :=
  Int.ofNat s.beatN - Int.ofNat (s.tim.sec * 5859375 + (s.tim.ns * 3 + 256) / 512)

/-- A signed number as a 32-bit register value, saturating. -/
def sat32 (x : Int) : Nat := (BitVec.ofInt 32 (max (-2147483648) (min x 2147483647))).toNat

/-- The alignment of a boundary as measured (R27, R28). -/
def State.alignBoundary (s : State) : State :=
  if !s.flag beatStat 1 then s
  else
    let o := s.beatOffset
    let lim := Int.ofNat (max (s.fld 0x100020 15 0) 1 * 65536)
    let out := decide (lim < o) || decide (o < -lim)
    let was := s.flag beatStat 0
    let first := !s.flag beatStat 2
    let s := ((s.setReg 0x10001C (sat32 o)).setReg 0x100018 (sat32 s.beatLead)).setFlag beatStat 0 !out
    if out then
      let s := s.raise beatStat 2
      if was || first then s.report 0x01 2 2 0 (sat32 o) else s
    else s

/-- The PMU snapshot at boundary b (R506). -/
def State.pmuSnapshot (s : State) (b : Nat) : State :=
  let s : State := { s with pmu := { s.pmu with snap := s.pmu.cnt } }
  (s.setReg 0x500010 ((s.reg 0x500010 + 1) % 2 ^ 32)).setReg64 0x500014 b

end Sys2Proof.Machine
end

