-- ==== Sys2Proof/Machine/Scr.lean ====
section
/-! DEFINITION. Stop-change-restart: the checks of START and STOP, the start sequences and the drains (spec/02_beat R42 to R45, and the
chapters of the functions). -/

namespace Sys2Proof.Machine

/-- Every stop-change-restart function. -/
def allScrs : List ScrId :=
  (List.finRange 12).map ScrId.line ++ (List.finRange 12).map ScrId.flx ++ (List.finRange 17).map ScrId.ave ++ [.lkp, .tcm, .bpm]
    ++ (List.finRange 512).map ScrId.sch ++ [.fab]

def State.scrSt (s : State) (k : ScrId) : ScrSt := Tab.get {} s.bus.scrs (scrAddr k)
def State.setScrSt (s : State) (k : ScrId) (x : ScrSt) : State := { s with bus := { s.bus with scrs := Tab.set {} s.bus.scrs (scrAddr k) x } }

/-- STATE of a function. -/
def State.scrOf (s : State) (k : ScrId) : Nat := s.scrState (scrAddr k)

def State.allAveStopped (s : State) : Bool := (List.finRange 17).all fun p => s.scrStopped (.ave p)

/-! ## Checks (R44, R76, R150, R196, R239, R293, R320, R353) -/

/-- A START of a FlexE group is refused with CONFIG (R76). -/
def State.flxBad (s : State) (f : Nat) : Bool :=
  let n := s.fld (flxBase f + 4) 31 12
  let ks := s.flxPhys f
  let num := fun k => s.fld (flxBase f + 0x10 + k * 4) 7 0
  n == 0 || n == 0xFFFFF || (s.flxSpan f && f % 2 == 1) || (if s.flxCarrier f then ks != [] else ks == [])
    || ks.any (fun j => ks.any fun k => j < k && (num j == num k || s.flxPhyPort f j == s.flxPhyPort f k))
    || ks.any (fun k => !(s.flxGroups f).contains (s.flxPhyPort f k / 8))
    || !s.calOk f (s.txCalB f)

/-- A START is refused with CONFIG. -/
def State.scrBad (s : State) : ScrId → Bool
  | .line g =>
    let m := s.pgMode g
    let n := s.fld (pgModeAddr g) 12 8
    9 ≤ m || (m == 8 && (n % 2 == 1 || n < 2 || 16 < n)) || (s.flag (pgModeAddr g) 16 && !(1 ≤ m && m ≤ 3))
  | .flx f => s.flxBad f
  | .ave p => s.aveConfigBad p
  | .lkp => s.lkpBad
  | .tcm => s.tcmBad
  | .bpm => s.bpmBad
  | .sch c => s.chanBad c
  | .fab => false

/-- The data plane is powered down: minimal or recovery mode (R442, R444). -/
def State.poweredDown (s : State) : Bool := decide (2 ≤ s.mssMode)

/-- A function that a START depends on is not in the required state. Under CARRIER = 1 with SPAN = 1 port group f + 1 is one that the group uses
(R62), and R76 asks of each that it be in mode 8: so does the model, where R73 names group f alone. DEDUCED, log 92. -/
def State.startDepends (s : State) : ScrId → Bool
  | .flx f => (s.flxGroups f).any fun g =>
      s.scrState (0x1000000 + g * 0x1000) != 2 || (if s.flxCarrier f then s.pgMode g != 8 else !s.flag (pgModeAddr g) 16)
  | .sch _ | .fab => !s.scrRunning .bpm
  | _ => false

/-- A function that a STOP depends on is not in the required state. -/
def State.stopDepends (s : State) : ScrId → Bool
  | .line g => (List.range 12).any fun f => s.scrState (flxBase f) != 0 && (s.flxGroups f).contains g.val
  | .lkp | .tcm => !s.allAveStopped
  | .bpm => !(s.allLineStopped && s.allAveStopped && s.scrStopped .fab)
  | _ => false

/-- A command rejected with a reason (R44). -/
def State.scrReject (s : State) (k : ScrId) (why : Nat) : State := (s.raise (scrAddr k) 8).setFld (scrAddr k) 23 20 why

/-- A command accepted: it is acted on at the next boundary (R43). -/
def State.scrAccept (s : State) (k : ScrId) (cmd : Nat) : State := s.setScrSt k { (s.scrSt k) with cmd := cmd }

/-- A START as written (R44). In minimal and recovery mode every function stays powered down and STOPPED (R442); that its START shows DEPENDENCY
is the model's choice (DESIGN CHOICE, log 99). A dependency is judged before the configuration, as R76 and R320 list them. DEDUCED, log 35. -/
def State.startCmd (s : State) (k : ScrId) : State :=
  let st := s.scrOf k
  if (s.scrSt k).cmd ≠ 0 || st = 3 then s.scrReject k 1
  else if st = 1 || st = 2 then s.scrReject k 2
  else if st = 4 then s.scrReject k 3
  else if s.poweredDown || s.startDepends k then s.scrReject k 5
  else if s.scrBad k then s.scrReject k 4
  else s.scrAccept k 1

/-- A STOP as written (R44). -/
def State.stopCmd (s : State) (k : ScrId) : State :=
  let st := s.scrOf k
  if (s.scrSt k).cmd ≠ 0 then s.scrReject k 1
  else if st = 0 || st = 3 then s.scrReject k 2
  else if s.stopDepends k then s.scrReject k 5
  else s.scrAccept k 2

/-- START (R43, R44). -/
def execStart (f : ScrId) (s : State) : Host.Outcome State Fault Refusal := .next (s.startCmd f)

/-- STOP (R43, R44). -/
def execStop (f : ScrId) (s : State) : Host.Outcome State Fault Refusal := .next (s.stopCmd f)

/-- INVALID_CMD: CMD = 3 (R44). -/
def execInvalidCmd (f : ScrId) (s : State) : Host.Outcome State Fault Refusal := .next (s.scrReject f 6)

/-! ## Start sequences -/

/-- Lane rates of a port group as its mode gives them, or off (R47, R77, R78). -/
def State.laneRates (s : State) (g : Nat) (on : Bool) : State :=
  let m := s.pgMode g
  let n := if m = 8 then s.fld (pgModeAddr g) 12 8 / 2 else if m < 8 then 8 else 0
  (List.range 8).foldl (fun s i => s.setFld (lnStat (8 * g + i)) 7 5 (if on && i < n then laneRateCode m else 0)) s

/-- What a START does at the boundary at which it is acted on. -/
def State.startActs (s : State) : ScrId → State
  | .line g => ((s.laneRates g true).pcsReset g).refreshGroup g
  | .flx f => ((s.flxReset f).applyCli f).takeRxCli f
  | .lkp => s.lkpStart
  | .tcm => s.tcmStart
  | .bpm => s.bpmStart
  | .ave p => s.aveStarts p
  | _ => s

/-- The completed start sequence of an avenue: it is cleared and rebuilt from the avenue chosen as it began, its supervisor threads start and
SYNC_DONE is set (R153). -/
def State.aveDone (s : State) (p : Nat) : State :=
  let s := s.clearAvenue p
  let s := match Tab.get 0 s.eng.rebuild p with
    | 0 => s
    | q + 1 => ((s.copyCode q p).copyGraph q p).copySlice q p
  (s.startSupervisor p).setFlag (aveStat p) 0 true

/-- A rebuild can complete: its source slice has no command in progress (R231). -/
def State.sourceIdle (s : State) (p : Nat) : Bool :=
  match Tab.get 0 s.eng.rebuild p with
  | 0 => true
  | q + 1 => s.sliceIdle q

/-- What a function does as it becomes RUNNING: the fabric interface begins (R353). -/
def State.startDone (s : State) : ScrId → State
  | .line g => s.refreshGroup g
  | .flx f => s.refreshGroup f
  | .fab => s.fabStart
  | _ => s

/-- START_SEQUENCE_COMPLETE: the start sequence is complete, or, with an avenue's fault code, has failed; code 0x02 is an error in the source
of its rebuild (R43, R150, R153). A port group without its reference clock does not come to it (R545). -/
def execStartSequenceComplete (f : ScrId) (fault : BitVec 8) (s : State) : Host.Outcome State Fault Refusal :=
  let noClock := match f with
    | .line g => s.elec.clkBad.any fun c => match c with
      | .lref k => k.val == g.val / 4
      | _ => false
    | _ => false
  let code := match f with
    | .ave p =>
      if s.usableEngines p < 32 then 1
      else if s.engRetired p supEngine then 3
      else if fault = 2 && Tab.get 0 s.eng.rebuild p.val ≠ 0 then 2
      else 0
    | _ => 0
  let ends := fun (s : State) (e : ScrEvent) => s.setScrSt f { (s.scrSt f) with ev := some e }
  if s.scrOf f ≠ 1 || (s.scrSt f).ev ≠ none || noClock then .next s
  else if code ≠ 0 then .next (ends s (.fault (BitVec.ofNat 8 code)))
  else match f with
    | .ave p => if s.sourceIdle p then .next (ends (s.aveDone p) .startDone) else .next s
    | .sch c => .next (ends (s.chanStart c) .startDone)
    | _ => .next (ends s .startDone)

/-- The clocks for which a function has been STARTING or DRAINING. -/
def State.scrAge (s : State) (k : ScrId) : Nat := s.bus.ticks + 1 - (s.scrSt k).since

/-- START_TIMEOUT: 50 ms after START where R77 and R322 say so (R43). -/
def execStartTimeout (f : ScrId) (s : State) : Host.Outcome State Fault Refusal :=
  let old := match f with
    | .line _ | .flx _ | .sch _ => decide (75000000 ≤ s.scrAge f)
    | _ => true
  if s.scrOf f = 1 && (s.scrSt f).ev = none && old then .next (s.setScrSt f { (s.scrSt f) with ev := some (.fault 0xFE) }) else .next s

/-! ## Drains (R78, R151, R321, R354) -/

/-- The MAC contexts of a port group's ports, or of a FlexE group's clients. -/
def State.scrCtx (s : State) (k : ScrId) (m : Nat) : Bool :=
  match k, s.ctxOwner m with
  | .line g, .eth p => p / 8 == g.val
  | .flx f, .client f' _ => f' == f.val
  | _, _ => false

/-- A draining function finds itself drained. -/
def State.scrDrained (s : State) (k : ScrId) : Bool :=
  match k with
  | .line _ | .flx _ => s.line.pkts.all fun e => !s.scrCtx k e.2.ctx
  | .ave p =>
    let l := s.aveLogical p
    (!s.flag (aveWin p + 4) 4 || (s.kerbQueue l == [] && Tab.get [] s.line.recQ l == []))
      && (s.eng.slots.all fun e => e.1 / 1024 != p.val) && Tab.get [] s.eng.exits p.val == []
  | .fab => !s.fabBusy
  | _ => true

/-- DRAIN_COMPLETE: a draining function is drained (R43). -/
def execDrainComplete (f : ScrId) (s : State) : Host.Outcome State Fault Refusal :=
  if s.scrOf f = 3 && (s.scrSt f).ev = none && s.scrDrained f then .next (s.setScrSt f { (s.scrSt f) with ev := some .drainDone }) else .next s

/-- DRAIN_TIMEOUT: not drained after 1 ms (R78, R151, R321, R354). -/
def execDrainTimeout (f : ScrId) (s : State) : Host.Outcome State Fault Refusal :=
  if s.scrOf f = 3 && (s.scrSt f).ev = none && 1500000 ≤ s.scrAge f then .next (s.setScrSt f { (s.scrSt f) with ev := some (.fault 0xFF) }) else .next s

/-- What a STOP does at the boundary at which it is acted on: frames in reception are lost (R78), traces end (R515). -/
def State.stopActs (s : State) : ScrId → State
  | .line g => s.refreshGroup g
  | .flx f =>
    (s.flxGroups f).foldl State.refreshGroup (s.flxReset f)
  | .ave p => if s.flag (aveWin p + 4) 4 then (s.dropTrace (s.aveLogical p) 0).dropTrace (s.aveLogical p) 1 else s
  | .tcm => s.tcmStop
  | _ => s

/-- What reaching STOPPED does: a port group's lanes are powered down (R78). -/
def State.stopDone (s : State) : ScrId → State
  | .line g =>
    let s := s.laneRates g false
    s.refreshGroup g
  | _ => s

/-- What a fault does to a function (R354). -/
def State.faultActs (s : State) (k : ScrId) (code : BitVec 8) : State :=
  match k with
  | .fab => if code = 0xFF then s.fabDiscard else s
  | .ave p => s.report 0x30 0x06 2 p code.toNat
  | .line g => s.refreshGroup g
  | .flx f => s.refreshGroup f
  | _ => s

/-! ## The boundary (R31, R43) -/

/-- A function enters a state. -/
def State.scrEnter (s : State) (k : ScrId) (st : Nat) : State :=
  (s.setFld (scrAddr k) 2 0 st).setScrSt k { cmd := 0, ev := none, since := if st = 1 || st = 3 then s.bus.ticks + 1 else 0 }

/-- The transitions of one function that fall due at a boundary (R43). -/
def State.scrStep (s : State) (k : ScrId) : State :=
  let x := s.scrSt k
  let st := s.scrOf k
  if x.cmd = 1 then ((s.setFld (scrAddr k) 31 24 0).scrEnter k 1).startActs k
  else if x.cmd = 2 then
    if st = 4 then (s.scrEnter k 0).stopDone k else (s.scrEnter k 3).stopActs k
  else match x.ev with
    | some .startDone => (s.scrEnter k 2).startDone k
    | some (.fault c) => ((s.setFld (scrAddr k) 31 24 c.toNat).scrEnter k 4).faultActs k c
    | some .drainDone => (s.scrEnter k 0).stopDone k
    | none => if st = 3 && s.scrDrained k then (s.scrEnter k 0).stopDone k else s

/-- The stop-change-restart transitions of a boundary (R31). -/
def State.scrBoundary (s : State) : State :=
  if s.bus.scrs = [] then s
  else allScrs.foldl (fun s k => if s.scrSt k = {} then s else s.scrStep k) s

end Sys2Proof.Machine
end

