-- ==== Sys2Proof/Machine/Time.lean ====
section
/-! DEFINITION. Time, references and time-stamping: the TAI counter, the reference channels, the voter, the servo, triggers and
captures (spec/18_time). -/

namespace Sys2Proof.Machine

def timStat : Nat := 0x200004
def timEvent : Nat := 0x200008
def refReg (n o : Nat) : Nat := 0x200100 + n * 0x20 + o
def trgReg (t o : Nat) : Nat := 0x200200 + t * 0x20 + o

/-- STATE: 0 FREE, 1 ACQUIRING, 2 LOCKED, 3 HOLDOVER (R475). -/
def State.timSt (s : State) : Nat := s.fld timStat 1 0

/-- STATE moved; a change raises STATE_CHG (R475). -/
def State.setTimSt (s : State) (v : Nat) : State :=
  if s.timSt = v then s
  else
    let s : State := { s with tim := { s.tim with good := 0, bad := 0, everLocked := s.tim.everLocked || v == 2 } }
    (s.setFld timStat 1 0 v).raise timEvent 0

/-- The time counter at a number of 1/65,536 ns, wrapping at 2^48 seconds; below half a second no vote of that second has been taken (R466,
R472). -/
def State.setTime (s : State) (n : Int) : State :=
  let m := (n % (2 ^ 48 * 1000000000 * 65536)).toNat
  let ns := m / 65536 % 1000000000
  { s with tim := { s.tim with sec := m / 65536000000000, ns := ns, frac := m % 65536, voted := s.tim.voted && decide (500000000 ≤ ns) } }

/-- F in force, in 1/65,536 ppm (R466). -/
def State.freq (s : State) : Int := signed32 (s.reg 0x200030)

/-- One tick of the 800 MHz clock: 1.25 ns x (1 + F) (R466). -/
def State.timeTick (s : State) : State :=
  let u : Int := 81920 * (65536000000 + s.freq) + Int.ofNat s.tim.res
  let s := s.setTime (Int.ofNat s.now65536 + u / 65536000000)
  { s with tim := { s.tim with res := (u % 65536000000).toNat, ticks := s.tim.ticks + 1,
                               pulse := s.tim.pulse.filterMap fun p => if p.2 ≤ 1 then none else some (p.1, p.2 - 1) } }

/-! ## Triggers (R480 to R483) -/

/-- d of R480. -/
def State.trgAhead (s : State) (t : Nat) : Int := aheadBy (s.reg (trgReg t 4)) s.tim.sec

/-- The time to a trigger's target in ns. -/
def State.trgLeft (s : State) (t : Nat) : Int := s.trgAhead t * 1000000000 + Int.ofNat (s.reg (trgReg t 8)) - Int.ofNat s.tim.ns

/-- A trigger's target is reached; with ACTION 2, 64 beats of 512/3 ns before it (R480, R483). -/
def State.trgReached (s : State) (t : Nat) : Bool :=
  let d := s.trgAhead t
  decide (d < 0) || (decide (d = 0) && decide (s.reg (trgReg t 8) ≤ s.tim.ns))
    || (s.fld (trgReg t 0) 2 0 == 2 && decide (3 * (s.trgLeft t * 65536 - Int.ofNat s.tim.frac) ≤ 32768 * 65536))

/-- The period of a trigger in ns; 0 where it acts as a one-shot (R481, R482). -/
def State.trgPeriod (s : State) (t : Nat) : Nat :=
  if s.flag (trgReg t 0) 29 then s.reg (trgReg t 0xC) * 1000000000 + s.reg (trgReg t 0x10) else 0

/-- The next target of a periodic trigger: the anchor plus the smallest number of periods that lies ahead (R481). -/
def State.trgNext (s : State) (t : Nat) : State :=
  let per := Int.ofNat (s.trgPeriod t)
  let anc := Tab.get 0 s.tim.anchor t
  let rel := -(aheadBy (anc / 1000000000) s.tim.sec) * 1000000000 + Int.ofNat s.tim.ns - Int.ofNat (anc % 1000000000)
  let rel3 := 3 * (rel * 65536 + Int.ofNat s.tim.frac) + (if s.fld (trgReg t 0) 2 0 = 2 then 32768 * 65536 else 0)
  let k := rel3 / (3 * per * 65536) + 1
  let old := aheadBy (s.reg (trgReg t 4)) (anc / 1000000000) * 1000000000 + Int.ofNat (s.reg (trgReg t 8)) - Int.ofNat (anc % 1000000000)
  let skip := (k - old / per - 1).toNat
  let new := Int.ofNat anc + k * per
  let s := (s.setReg (trgReg t 4) (new / 1000000000 % 2 ^ 32).toNat).setReg (trgReg t 8) (new % 1000000000).toNat
  s.setFld (trgReg t 0x18) 31 16 (min (s.fld (trgReg t 0x18) 31 16 + skip) 65535)

/-- What a firing does, by ACTION (R483). -/
def State.trgAct (s : State) (t : Nat) : State :=
  match s.fld (trgReg t 0) 2 0 with
  | 1 =>
    let w := s.fld (trgReg t 0x14) 15 0
    let w := if w = 0 then 100 else w
    { s with tim := { s.tim with pulse := Tab.set 0 s.tim.pulse (s.fld (trgReg t 0) 8 8) (ceilDiv (4 * w) 5) } }
  | 2 =>
    if !s.flag beatStat 1 then s.raise (trgReg t 0x18) 3
    else
      let sec := Int.ofNat s.tim.sec + s.trgAhead t
      let b := sec * 5859375 + Int.ofNat (ceilDiv (s.reg (trgReg t 8) * 3) 512)
      let s := s.setReg (slotTgt .shp) (b % 2 ^ 32).toNat
      if s.slotPending .shp then (s.slotArm .shp).raise (trgReg t 0x18) 2 else s.slotArm .shp
  | 3 => { s with tim := { s.tim with telemetry := s.tim.telemetry + 1 } }
  | 4 => if s.flag beatStat 3 then s else s.realign
  | _ => s

/-- A trigger fires (R481 to R483). -/
def State.trgFire (s : State) (t : Nat) (late : Bool) : State :=
  let s := ((s.trgAct t).raise (trgReg t 0x18) 0).count 0x02 0x43 t 1
  let s := if late then s.raise (trgReg t 0x18) 1 else s
  let s := if s.flag (trgReg t 0) 30 then s.raise timEvent 2 else s
  if s.trgPeriod t = 0 then s.setFlag (trgReg t 0) 31 false else s.trgNext t

/-- TRIGGER_ENABLE: a write of a trigger's CTL with EN rising (R481). -/
def execTriggerEnable (t : Fin 8) (v : Word) (s : State) : Host.Outcome State Fault Refusal :=
  if s.flag (trgReg t 0) 31 || !bitOf v.toNat 31 then .next s
  else
    let s := (s.setReg (trgReg t 0) (v.toNat &&& 0xE0000107)).setFld (trgReg t 0x18) 31 16 0
    .next { s with tim := { s.tim with anchor := Tab.set 0 s.tim.anchor t (s.reg (trgReg t 4) * 1000000000 + s.reg (trgReg t 8)) } }

/-- TRIGGER_FIRE: in the tick in which the target is reached (R480). -/
def execTriggerFire (t : Fin 8) (s : State) : Host.Outcome State Fault Refusal :=
  .next (if s.flag (trgReg t 0) 31 && s.trgReached t then s.trgFire t false else s)

/-! ## Steps of the counter (R468, R469, R474, R482) -/

/-- The triggers after a step: one-shots that it passed fire late, periodic ones take new targets; before is which were reached (R482). -/
def State.trgStepped (s : State) (before : List Nat) : State :=
  (List.range 8).foldl (fun s t =>
    if !s.flag (trgReg t 0) 31 then s
    else if s.trgPeriod t ≠ 0 then s.trgNext t
    else if s.trgReached t && !before.contains t then s.trgFire t true
    else s) s

/-- The counter stepped to a time (R468). -/
def State.timeStep (s : State) (n : Int) : State :=
  let before := (List.range 8).filter fun t => s.trgReached t
  let s := ((s.setTime n).raise timStat 4).count 0x02 0x42 0 1
  let s := s.logOpen 1 0x02
  let s := if s.flag 0x200000 0 then s.setTimSt 1 else s
  s.trgStepped before

/-- The seconds of TIM_SET, and its nanoseconds held below a second (R468). -/
def State.setSec (s : State) : Nat := s.reg 0x200024 + s.fld 0x200028 15 0 * 2 ^ 32
def State.setNs (s : State) : Nat := min (s.fld 0x200020 29 0) 999999999

/-- A write of MODE 1 or 2 (R468). -/
def State.timeSet (s : State) (mode : Nat) : State :=
  if s.tim.setMode ≠ 0 then s.raise timStat 6
  else ({ s with tim := { s.tim with setMode := mode } } : State).setFlag 0x20002C 31 true

/-- TIME_SET: MODE 1 (R468). -/
def execTimeSet (s : State) : Host.Outcome State Fault Refusal := .next (s.timeSet 1)

/-- TIME_ADD: MODE 2 (R468). -/
def execTimeAdd (s : State) : Host.Outcome State Fault Refusal := .next (s.timeSet 2)

/-- TIME_NS_READ: NS is returned; FRAC and the seconds are latched for the requester (R467). -/
def execTimeNsRead (r : Requester) (s : State) : Host.Outcome State Fault Refusal :=
  .next ({ s with tim := { s.tim with latch := Tab.set (0, 0) s.tim.latch (requesterNo r) (s.tim.frac, s.tim.sec) } }.answer r 0x200010 s.tim.ns)

/-! ## Captures (R484) -/

/-- A record of SRC stands behind one of the same tick with a lower SRC: r belongs after w (R484). -/
def capAfter (w r : List Nat) : Bool :=
  r.headD 0 == w.headD 0 && (r.getD 1 0) % 2 ^ 30 == (w.getD 1 0) % 2 ^ 30 && (r.getD 2 0) % 2 ^ 16 == (w.getD 2 0) % 2 ^ 16 && decide (w.getD 2 0 < r.getD 2 0)

/-- A record entered into the capture queue, records of one tick in rising SRC order (R484). -/
def insertCap (w : List Nat) (q : List (List Nat)) : List (List Nat) :=
  let later := (q.reverse.takeWhile (capAfter w)).length
  q.take (q.length - later) ++ w :: q.drop (q.length - later)

/-- A capture record (R484). -/
def State.capture (s : State) (src : Nat) (rising : Bool) : State :=
  let close := match Tab.get none s.tim.edge src with
    | some t => decide (s.tim.ticks < t + 80)
    | none => false
  let s : State := { s with tim := { s.tim with edge := Tab.set none s.tim.edge src (some s.tim.ticks) } }
  if close then s
  else if 64 ≤ s.tim.caps.length then s.raise timEvent 5
  else
    let w := [s.tim.sec % 2 ^ 32, s.tim.ns + b2n rising * 2 ^ 30, s.tim.frac + src * 2 ^ 16]
    ((({ s with tim := { s.tim with caps := insertCap w s.tim.caps } } : State).raise timEvent 3).count 0x02 0x44 src 1).writtenAny 12

/-- TEVT_EDGE (R484). -/
def execTevtEdge (i : Fin 4) (rising : Bool) (s : State) : Host.Outcome State Fault Refusal :=
  .next (if s.flag 0x200300 (2 * i.val + b2n (!rising)) then s.capture i rising else s)

/-- A transmit time-stamp record, of which the last two words are given (R478). -/
def State.txRecord (s : State) (sec ns w2 w3 : Nat) : State :=
  if 1024 ≤ s.tim.txts.length then s.raise timEvent 5
  else (({ s with tim := { s.tim with txts := s.tim.txts ++ [[sec % 2 ^ 32, ns, w2, w3]] } } : State).raise timEvent 4).count 0x02 0x45 0 1

/-- QUEUE_FIRST_WORD_READ: the oldest record of the transmit or the capture queue is latched (R484). -/
def execQueueFirstWordRead (r : Requester) (tx : Bool) (s : State) : Host.Outcome State Fault Refusal :=
  if tx then
    let w := s.tim.txts.headD []
    .next ({ s with tim := { s.tim with txLatch := w } }.answer r 0x200400 (w.headD 0))
  else
    let w := s.tim.caps.headD []
    .next ({ s with tim := { s.tim with capLatch := w } }.answer r 0x200310 (w.headD 0))

/-- QUEUE_LAST_WORD_READ: the latched record is removed (R484). -/
def execQueueLastWordRead (r : Requester) (tx : Bool) (s : State) : Host.Outcome State Fault Refusal :=
  if tx then
    let w := s.tim.txLatch
    .next ({ s with tim := { s.tim with txLatch := [], txts := if w = [] then s.tim.txts else s.tim.txts.drop 1 } }.answer r 0x20040C (w.getD 3 0))
  else
    let w := s.tim.capLatch
    .next ({ s with tim := { s.tim with capLatch := [], caps := s.tim.caps.erase w } }.answer r 0x200318 (w.getD 2 0))

/-! ## Reference channels (R471) -/

/-- Whole nanoseconds of a time in 1/65,536 ns. -/
def toNs (x : Int) : Int := if x % 65536 = 0 then x / 65536 else Config.roundNs x

def State.refKind (s : State) (n : Nat) : Nat := if s.flag (refReg n 0) 31 then s.fld (refReg n 0) 1 0 else 0

/-- A channel's last measurement while the channel is valid (R471). -/
def State.refValid (s : State) (n : Nat) : Option Int :=
  match s.refKind n, Tab.get none s.tim.meas n with
  | 1, some (o, t) => if s.tim.ticks ≤ t + 880000000 then some o else none
  | 2, some (o, t) => if s.tim.ticks ≤ t + 1600000000 then some o else none
  | _, _ => none

/-- A measurement taken (R471). -/
def State.measure (s : State) (n : Nat) (o : Int) : State :=
  let s : State := { s with tim := { s.tim with meas := Tab.set none s.tim.meas n (some (o, s.tim.ticks)) } }
  (s.setReg (refReg n 0xC) (sat32 (toNs o))).setFlag (refReg n 0x10) 0 (s.refValid n).isSome

/-- A 16-bit field as a signed number. -/
def signed16 (n : Nat) : Int := if n < 32768 then Int.ofNat n else Int.ofNat n - 65536

/-- REFERENCE_PPS_EDGE: o = S + DLY - L (R471), and its capture (R484). -/
def execReferencePpsEdge (n : Fin 3) (s : State) : Host.Outcome State Fault Refusal :=
  if s.refKind n ≠ 1 then .next s
  else
    let l := Int.ofNat (s.tim.ns * 65536 + s.tim.frac)
    let near : Int := if s.tim.ns < 500000000 then 0 else 65536000000000
    .next ((s.measure n (near + signed16 (s.fld (refReg n 0) 23 8) * 65536 - l)).capture (4 + n.val) true)

/-- The two halves of a 64-bit register written: the low half as it was last written, the high half now (R6). -/
def State.commitHigh (s : State) (lo v : Nat) : State := (s.setReg lo (Tab.get 0 s.bus.lowHalf lo).toNat).setReg (lo + 4) v

/-- REFERENCE_OFFSET_SUBMIT: the write of the high half submits o on a KIND 2 channel (R471). -/
def execReferenceOffsetSubmit (n : Fin 3) (v : Word) (s : State) : Host.Outcome State Fault Refusal :=
  let s := s.commitHigh (refReg n 4) v.toNat
  .next (if s.fld (refReg n 0) 1 0 = 2 then
      s.measure n ((BitVec.ofNat 64 (s.reg64 (refReg n 4))).toInt)
    else s)

/-- REFERENCE_EDGE_MISSING: no edge of a KIND 1 channel within 1.1 s (R471). -/
def execReferenceEdgeMissing (n : Fin 3) (s : State) : Host.Outcome State Fault Refusal :=
  .next (if s.refKind n = 1 && (s.refValid n).isNone then (s.setFlag (refReg n 0x10) 0 false).raise (refReg n 0x10) 1 else s)

/-! ## The voter, the servo and the state (R472 to R476) -/

/-- A vote over the valid channels' measurements: the voted offset, and the channels that disagree (R472). -/
def voteOf (dis : Int) (ms : List (Nat × Int)) : Option Int × List Nat :=
  let near := fun (a b : Int) => decide (-dis ≤ a - b) && decide (a - b ≤ dis)
  match ms with
  | [a, b] => if near a.2 b.2 then (some ((a.2 + b.2) / 2), []) else (none, [a.1, b.1])
  | [a, b, c] =>
    let med := max (min a.2 b.2) (min (max a.2 b.2) c.2)
    let ins := ms.filter fun m => near m.2 med
    let out := (ms.filter fun m => !near m.2 med).map (·.1)
    match ins with
    | [x, y] => (some ((x.2 + y.2) / 2), out)
    | [_, _, _] => (some med, [])
    | _ => (none, ms.map (·.1))
  | _ => (none, [])

/-- A channel marked, or not, as disagreeing (R472). -/
def State.markDis (s : State) (n : Nat) (dis : Bool) : State :=
  let s := s.setFlag (refReg n 0x10) 2 dis
  if dis then (((s.raise (refReg n 0x10) 3).bumpReg (refReg n 0x14) 1).raise timEvent 1).count 0x02 0x41 n 1 else s

/-- F held within its limits (R473). -/
def State.clampF (s : State) (f : Int) : Int :=
  let f := if s.flag beatStat 1 then max (s.tim.holdF - 327680) (min f (s.tim.holdF + 327680)) else f
  max (-32768000) (min f 32768000)

/-- F replaced. -/
def State.setFreq (s : State) (f : Int) : State := s.setReg 0x200030 (BitVec.ofInt 32 f).toNat

/-- The servo after a vote with a majority: a step, or F (R473, R474). -/
def State.servo (s : State) (v : Int) : State :=
  let big := decide (Int.ofNat (s.fld 0x200038 31 16) * 65536000 < v.natAbs)
  if s.timSt = 1 && big && s.flag 0x200000 1 && !s.flag beatStat 1 then s.timeStep (Int.ofNat s.now65536 + v)
  else
    let s := if s.timSt = 1 && big then s.raise timStat 5 else s
    let f := s.clampF (Config.servoF v (max (s.fld 0x200034 23 16) 1) s.freq s.fresh)
    { (s.setFreq f) with fresh := s.fresh + 1 }

/-- The mean F of the last 60 s of LOCKED (R475). -/
def State.meanF (s : State) : Int := if s.tim.hist = [] then s.freq else s.tim.hist.sum / Int.ofNat s.tim.hist.length

/-- STATE after a vote (R475). -/
def State.voteState (s : State) (v : Option Int) : State :=
  match v with
  | none =>
    if s.timSt = 2 || (s.timSt = 1 && s.tim.everLocked) then
      let s : State := { s with tim := { s.tim with holdF := s.meanF } }
      (if s.flag 0x200000 0 then s.setFreq s.tim.holdF else s).setTimSt 3
    else if s.timSt = 1 then s.setTimSt 0
    else s
  | some v =>
    let small := decide (v.natAbs ≤ s.fld 0x200034 15 0 * 65536)
    match s.timSt with
    | 1 =>
      let g := if small then s.tim.good + 1 else 0
      let s : State := { s with tim := { s.tim with good := g } }
      if 8 ≤ g then s.setTimSt 2 else s
    | 2 =>
      let b := if small then 0 else s.tim.bad + 1
      let s : State := { s with tim := { s.tim with bad := b } }
      if 8 ≤ b then s.setTimSt 1 else s
    | _ => s.setTimSt 1

/-- F of a vote in LOCKED kept, with the mean of the last 60 (R475). -/
def State.keepF (s : State) : State :=
  let s : State := { s with tim := { s.tim with hist := (s.freq :: s.tim.hist).take 60 } }
  { s with tim := { s.tim with holdF := s.meanF } }

/-- The vote of a second: the valid channels judged, STATE moved and the servo run (R472 to R476). -/
def State.vote (s : State) : State :=
  let s : State := { s with tim := { s.tim with voted := true } }
  let ms := (List.range 3).filterMap fun n => (s.refValid n).map fun o => (n, o)
  let r := voteOf (Int.ofNat (max (s.fld 0x200038 15 0) 1 * 65536)) ms
  let s := (List.range 3).foldl (fun s n => (s.setFlag (refReg n 0x10) 0 (s.refValid n).isSome).markDis n (r.2.contains n)) s
  let s := (s.count 0x02 0x40 0 1).setFlag timStat 3 r.1.isSome
  let s : State := match r.1 with
    | some v => s.setReg 0x20003C (sat32 (toNs v))
    | none => s
  let s := s.voteState r.1
  let s : State := match r.1 with
    | some v => if s.flag 0x200000 0 then s.servo v else s
    | none => s
  if s.timSt = 2 then s.keepF else s

/-- The vote of the current second is due: its nanosecond 500,000,000 has come, or a step of the counter has passed it (R472). That a second whose
middle a step passes is voted on in the step's tick is the model's choice (DESIGN CHOICE, log 99). -/
def State.voteDue (s : State) : Bool := decide (500000000 ≤ s.tim.ns) && !s.tim.voted

/-- VOTE: in the first tick at or after nanosecond 500,000,000 of a second, once (R472). -/
def execVote (s : State) : Host.Outcome State Fault Refusal := .next (if s.voteDue then s.vote else s)

/-! ## Ticks (R466, R471, R472, R480) -/

/-- A channel's edge or write has not come in time (R471). -/
def State.refExpired (s : State) (n : Nat) : Bool := s.flag (refReg n 0x10) 0 && (s.refValid n).isNone

/-- A channel that is valid no longer; a missing KIND 1 edge sets LOS_SEEN (R471). -/
def State.refExpire (s : State) (n : Nat) : State :=
  if !s.refExpired n then s
  else
    let s := s.setFlag (refReg n 0x10) 0 false
    if s.refKind n = 1 then s.raise (refReg n 0x10) 1 else s

/-- What a tick brings by itself and no command of that tick has done: channels expire, the vote is taken, triggers that are reached fire. -/
def State.tickEnd (s : State) : State :=
  let s := (List.range 3).foldl State.refExpire s
  let s := if s.voteDue then s.vote else s
  (List.range 8).foldl (fun s t => if s.flag (trgReg t 0) 31 && s.trgReached t then s.trgFire t false else s) s

/-- TIME_TICK: the tick ends and the counter advances; a write of TIM_SET_CTL that waits applies (R466, R468). -/
def execTimeTick (s : State) : Host.Outcome State Fault Refusal :=
  let s := s.tickEnd
  let mode := s.tim.setMode
  let s := s.timeTick
  if mode = 0 then .next s
  else
    let s := { (s.setFlag 0x20002C 31 false) with tim := { s.tim with setMode := 0 } }
    let sec := s.setSec
    let off := (Int.ofNat sec - (if sec < 2 ^ 47 then 0 else 2 ^ 48)) * 1000000000 + Int.ofNat s.setNs
    .next (s.timeStep (if mode = 1 then (Int.ofNat sec * 1000000000 + Int.ofNat s.setNs) * 65536 else Int.ofNat s.now65536 + off * 65536))

end Sys2Proof.Machine
end

