-- ==== Sys2Proof/Machine/Cross.lean ====
section
/-! DEFINITION. What leaves the avenues at a boundary, the crossing, and the transmit MAC (spec/01_module R12 to R18, 02_beat R29, R30,
03_line R60, 04_parse_graph R101 to R105, 18_time R478, R479). -/

namespace Sys2Proof.Machine

/-! ## The descriptors of the records (R266, R290) -/

/-- The crossing descriptor of a record (R266). -/
def XRec.desc (r : XRec) : Nat :=
  r.frame.length % 2 ^ 14 + r.script.length / 8 % 2 ^ 4 * 2 ^ 14 + r.kind % 4 * 2 ^ 18
    + (if r.kind = 1 then r.queue % 2 ^ 16 else r.queue % 2 ^ 20) * 2 ^ 20
    + (if r.kind = 1 then 0 else r.dest % 2 ^ 16) * 2 ^ 40 + r.colour % 4 * 2 ^ 56 + r.req % 64 * 2 ^ 58

/-- A record's bytes in the data flits, without their padding: descriptor, edit script, frame (R266). -/
def XRec.bytes (r : XRec) : List Byte := leBytes r.desc 8 ++ r.script ++ r.frame

/-- What the square reads of a record's bytes; what the FE keeps beside them stays as it is (R266). -/
def XRec.crossed (r : XRec) : XRec :=
  let bs := r.bytes
  let d := leNat (bs.take 8)
  let n := bits d 17 14 * 8
  let kind := bits d 19 18
  { r with kind := kind, queue := if kind = 1 then bits d 35 20 else bits d 39 20, dest := bits d 55 40, colour := bits d 57 56,
           req := bits d 63 58, script := (bs.drop 8).take n, frame := (bs.drop (8 + n)).take (bits d 13 0) }

/-- The egress descriptor of a record (R290). -/
def ERec.desc (r : ERec) : Nat :=
  r.frame.length % 2 ^ 14 + b2n r.host * 2 ^ 14 + r.target % 2 ^ 8 * 2 ^ 16 + r.queue % 2 ^ 20 * 2 ^ 24 + r.colour % 4 * 2 ^ 44

/-- An egress record's bytes in the data flits, without their padding (R290). -/
def ERec.bytes (r : ERec) : List Byte := leBytes r.desc 8 ++ r.frame

/-- What the FE reads of an egress record's bytes; a DMA ring has 6 bits (R290). -/
def ERec.crossed (r : ERec) : ERec :=
  let bs := r.bytes
  let d := leNat (bs.take 8)
  let host := bits d 15 14 = 1
  { r with host := host, target := if host then bits d 21 16 else bits d 23 16, queue := bits d 43 24, colour := bits d 45 44,
           frame := (bs.drop 8).take (bits d 13 0) }

/-! ## Packets at the end of their window (R32, R101 to R105, R254) -/

/-- What the packets of a boundary give: records for the crossing and punts, each with its requester in order; a punt carries its ring,
its packet and the drop taken when the ring refuses it. -/
structure Exits where
  recs : List XRec
  punts : List (Nat × Nat × Punt × Nat × Nat)
  deriving DecidableEq, Repr

/-- The punt of a packet of the FE (R386, R387). -/
def puntOf (pk : Pkt) (x : Exit) (kind reason : Nat) (script : List Byte) : Punt :=
  { kind := kind, reason := reason, ctx := pk.ctx, pass := pk.pass, adm := x.admBeat, sec := pk.tsSec, ns := pk.tsNs, colour := 0, script := script,
    frame := pk.data, tag := pk.tag }

/-- A packet's next pass, in the recirculation queue of its target avenue, or its drop, which is counted at the target (R100, R103 to R105,
R152). DESIGN CHOICE, log 83: the spec does not say at which of the two avenues. -/
def State.recircEnter (s : State) (l : Nat) (x : Exit) : State :=
  let w := leNat (Tab.getList 0 x.hv 0x30 8)
  let dst := if bitOf w 25 then bits w 29 26 else l
  let q := Tab.get [] s.line.recQ dst
  if (s.servingAve dst).isNone then s.dropPkt x.pkt 0x30 1 dst
  else if 256 ≤ q.length then (s.raise 0x2000034 29).dropPkt x.pkt 0x30 5 dst
  else
    let p := s.pkt x.pkt
    let p := { p with lave := dst, pass := p.pass + 1, winBase := bits w 15 0, startNode := bits w 24 16, carry := Tab.getList 0 x.hv 0x40 32 }
    let s := s.setPkt x.pkt p
    { s with line := { s.line with recQ := Tab.set [] s.line.recQ dst (q ++ [x.pkt]) } }

/-- A RECIRC disposition at the boundary (R101, R104). -/
def State.recircExit (s : State) (l : Nat) (x : Exit) (e : Exits) : State × Exits :=
  let pk := s.pkt x.pkt
  let ring := s.fld 0x2000000 21 16
  if 3 ≤ pk.pass then
    let s := s.raise 0x2000034 30
    if s.flag 0x2000000 8 then (s, { e with punts := e.punts ++ [(ring, x.pkt, puntOf pk x 5 0 [], 0x30, 6)] })
    else (s.dropPkt x.pkt 0x30 6 l, e)
  else
    let level := s.fld 0x2000034 14 0
    if level < 5 then
      let s := s.raise 0x2000034 31
      if s.flag 0x2000000 9 then (s, { e with punts := e.punts ++ [(ring, x.pkt, puntOf pk x 4 0 [], 0x30, 4)] })
      else (s.dropPkt x.pkt 0x30 4 l, e)
    else ((s.setFld 0x2000034 14 0 (level - 5)).recircEnter l x, e)

/-- One packet of logical avenue l at the end of its window (R32, R52, R59, R84, R180, R254). -/
def State.exitOne (s : State) (l : Nat) (x : Exit) (e : Exits) : State × Exits :=
  let pk := s.pkt x.pkt
  let b := s.beatN
  let s := s.modSample pk.tag fun m => { m with exitB := smpOff m.admBeat b }
  let s := match x.cand with
    | some c => if pk.bad = 2 || pk.bad = 3 || pk.bad = 8 then s else s.lrnOffer c
    | none => s
  if pk.bad ≠ 0 then (s.dropPkt x.pkt 0x10 pk.bad pk.ctx, e)
  else match x.disp with
    | .fwd queue dest colour scan =>
      let m1 := leNat (Tab.getList 0 x.hv 8 8)
      let r : XRec := { kind := 0, queue := queue, dest := dest, colour := colour, req := l, script := x.script, frame := pk.data, pkt := x.pkt,
                        tag := pk.tag, inj := none, scan := scan, hdrEnd := bits m1 47 32 + bits m1 56 48, hash := leNat (Tab.getList 0 x.hv 16 4), bad := pk.storeBad }
      (s, { e with recs := e.recs ++ [r] })
    | .repl list colour =>
      let r : XRec := { kind := 1, queue := list, dest := 0, colour := colour, req := l, script := x.script, frame := pk.data, pkt := x.pkt,
                        tag := pk.tag, inj := none, bad := pk.storeBad }
      (s, { e with recs := e.recs ++ [r] })
    | .punt ring reason cause script unit code =>
      (s, { e with punts := e.punts ++ [(ring, x.pkt, puntOf pk x cause reason (if script then x.script else []), unit, code)] })
    | .recirc => s.recircExit l x e
    | .drop unit code prog =>
      if prog then (((s.count 0x30 0x40 (l * 256 + code % 256) 1).closeSample pk.tag 3 0x30 code true).forget x.pkt, e)
      else (s.dropPkt x.pkt unit code l, e)

/-- The packets that leave the avenues at the boundary that begins beat b, avenues in the order of R41. -/
def State.exitAll (s : State) (b : Nat) : State × List (Nat × Exits) :=
  (rotOrder b 16).foldl (fun a l =>
    let ps := (List.range 17).filter fun p => a.1.flag (aveWin p + 4) 4 && a.1.aveLogical p == l
    let (s, xs) := ps.foldl (fun c p =>
      let (s, x) := c.1.takeExits p
      (s, c.2 ++ x)) (a.1, [])
    let (s, e) := xs.foldl (fun c x => c.1.exitOne l x c.2) (s, ({ recs := [], punts := [] } : Exits))
    (s, a.2 ++ [(l, e)])) (s, [])

/-! ## Punts at the boundary (R389, R390) -/

/-- A punt refused: the drop of its origin (R390). -/
def State.puntDrop (s : State) (l ring pkt why unit code : Nat) : State :=
  if unit = 0x06 then s.dropPkt pkt 0x06 why ring else s.dropPkt pkt unit code l

/-- A program's punt offered to its ring; one whose frame the kerb store cannot give is not accepted (R390, R517). -/
def State.puntOfPkt (s : State) (ring pkt : Nat) (p : Punt) : State × Option Nat :=
  if (s.pkt pkt).storeBad then (s.puntRefuse ring 1, some 1) else s.puntOffer ring p

/-- The punts of one requester: a logical avenue, host-bound egress (16) or firmware (17). -/
def State.puntsOf (s : State) (r : Nat) (es : List (Nat × Exits)) (egress firmware : List (Nat × Punt)) : State :=
  if r < 16 then
    (es.filter fun e => e.1 == r).foldl (fun s e => e.2.punts.foldl (fun s x =>
      let (ring, n, p, unit, code) := x
      match s.puntOfPkt ring n p with
      | (s, none) => s.forget n
      | (s, some why) => s.puntDrop r ring n why unit code) s) s
  else
    (if r = 16 then egress else firmware).foldl (fun s x =>
      match s.puntOffer x.1 x.2 with
      | (s, none) => s
      | (s, some why) => (s.count 0x06 why x.1 1).closeSample x.2.tag 3 6 why false) s

/-- Every punt of the boundary, in the order of R41 with N = 18 (R389). -/
def State.puntAll (s : State) (b : Nat) (es : List (Nat × Exits)) (egress : List (Nat × Punt)) : State :=
  let fw := s.hif.firmware
  let s : State := { s with hif := { s.hif with firmware := [] } }
  (rotOrder b 18).foldl (fun s r => s.puntsOf r es egress fw) s

/-! ## The crossing, FE to TM (R13, R16, R17, R276, R277) -/

/-- Bytes of data flits in a beat (R13). -/
def dataBytes : Nat := 10656 * 64

def padded (n : Nat) : Nat := ceilDiv n 8 * 8
def XRec.size (r : XRec) : Nat := padded r.bytes.length
def ERec.size (r : ERec) : Nat := padded r.bytes.length

/-- The flit in which a record begins, when it is sent marked uncorrectable (R517). -/
def State.markFlit (s : State) (pos : Nat) (r : XRec) : State :=
  if r.bad then { s with cross := { s.cross with marked := s.cross.marked ++ [pos / 64] } } else s

/-- A record handed to the crossing: a copy for a scan, its blocks, its inject descriptor (R85, R245, R394). -/
def State.handed (s : State) (r : XRec) : State :=
  let s := if r.pkt = 0 then s else (s.patCopy r.pkt r.scan r.hdrEnd r.hash).forget r.pkt
  s.injectDone r.inj 0

/-- A record of the FE that is dropped before it is placed: its sample closes, its blocks and its inject descriptor go. -/
def State.recDrop (s : State) (r : XRec) (unit code st : Nat) : State :=
  let s := s.closeSample r.tag 3 unit code false
  let s := if r.pkt = 0 then s else s.forget r.pkt
  s.injectDone r.inj st

/-- The work of the crossing in one direction: the state, the bytes used, the records placed with their first byte. -/
structure Placing (α : Type) where
  s : State
  pos : Nat
  out : List (Nat × α)

/-- The records of one FE requester in their order; the first that does not fit and every later one wait, or, spilled before, are
dropped (R17). -/
def placeTm (b : Nat) (req : Nat) (spilled : Bool) (w : Placing XRec) : List XRec → Placing XRec
  | [] => w
  | r :: rest =>
    if w.pos + r.size ≤ dataBytes then
      match w.s.spendGrant req (unitsOf r.frame.length (r.script.length / 8)) with
      | some s => placeTm b req spilled { s := (s.handed r).markFlit w.pos r, pos := w.pos + r.size, out := w.out ++ [(w.pos, r)] } rest
      | none => placeTm b req spilled { w with s := (w.s.qmDrop 1 req).recDrop r 0xB0 1 3 } rest
    else if spilled then
      { w with s := (r :: rest).foldl (fun s r => ((s.count 0x00 1 req 1).raise 0x40 1).recDrop r 0x00 1 4) w.s }
    else { w with s := { w.s with cross := { w.s.cross with spillTm := Tab.set [] w.s.cross.spillTm req (r :: rest) } } }

/-- The hand-off of FE records at the boundary that begins beat b (R16, R17). -/
def State.placeAllTm (s : State) (b : Nat) (es : List (Nat × Exits)) : State :=
  let spill := s.cross.spillTm
  let offer := s.cross.offer
  let s : State := { s with cross := { s.cross with spillTm := [], offer := [], flyTm := [] } }
  let order := rotOrder b 18
  let w := order.foldl (fun w r => placeTm b r true w (Tab.get [] spill r)) ({ s := s, pos := 0, out := [] } : Placing XRec)
  let new := fun r => if r < 16 then ((es.filter fun e => e.1 == r).map fun e => e.2.recs).flatten else offer.filter fun x => x.req == r
  let w := order.foldl (fun w r => placeTm b r false w (new r)) w
  let s : State := { w.s with cross := { w.s.cross with flyTm := w.out } }
  if w.out = [] then s else s.written' 17 0

/-! ## The crossing, TM to FE (R16, R17, R289) -/

/-- The records of one TM requester (R17); the editor frees the PD of a record that is placed or dropped (R289), and a record for the
line closes its sample (R510). -/
def placeFe (req : Nat) (spilled : Bool) (w : Placing ERec) : List ERec → Placing ERec
  | [] => w
  | r :: rest =>
    if w.pos + r.size ≤ dataBytes then
      let s := if r.host then w.s else w.s.closeSample r.tag 1 0 0 false
      placeFe req spilled { s := s.freePd 38 r.pd, pos := w.pos + r.size, out := w.out ++ [(w.pos, r)] } rest
    else if spilled then
      { w with s := (r :: rest).foldl (fun s r => (((s.count 0x00 1 (32 + req) 1).raise 0x40 1).closeSample r.tag 3 0 1 false).freePd 38 r.pd) w.s }
    else { w with s := { w.s with cross := { w.s.cross with spillFe := Tab.set [] w.s.cross.spillFe req (r :: rest) } } }

/-- The hand-off of egress records at the boundary that begins beat b (R16, R17). -/
def State.placeAllFe (s : State) (b : Nat) : State :=
  let spill := s.cross.spillFe
  let out := s.sq.out
  let s : State := { s with cross := { s.cross with spillFe := [], flyFe := [] }, sq := { s.sq with out := [] } }
  let order := rotOrder b 13
  let w := order.foldl (fun w r => placeFe r true w (Tab.get [] spill r)) ({ s := s, pos := 0, out := [] } : Placing ERec)
  let w := order.foldl (fun w r => placeFe r false w (out.filter fun x => x.req == r)) w
  let s : State := { w.s with cross := { w.s.cross with flyFe := w.out } }
  if w.out = [] then s else s.written' 17 1

/-! ## Delivery (R12, R18, R277) -/

/-- A record has bytes in a data flit. -/
def inFlit (pos size f : Nat) : Bool := pos / 64 ≤ f && f ≤ (pos + size - 1) / 64

/-- The flits of this beat in one direction are checked; records with bytes in a bad data flit are dropped, a bad
control flit is sent again and the grants that it carried are lost (R12, R18, R277). Flits that were sent marked are bad ones (R517). The next boundary delivers what is left. -/
def State.checkFlits (s : State) (toTm : Bool) (badData : List Nat) (badCtl : Bool) : State :=
  let dir := b2n (!toTm)
  let badData := badData ++ (if toTm then s.cross.marked.filter fun f => !badData.contains f else [])
  let s := badData.foldl (fun s f => if toTm then s.reportTm 0x00 1 1 dir f else s.report 0x00 1 1 dir f) s
  let s := if badCtl then
      let s := (if toTm then s.reportTm 0x00 2 0 dir 0 else s.report 0x00 2 0 dir 0).raise 0x40 3
      if toTm then s else ({ s with cross := { s.cross with ctlBad := true } } : State).loseGrants
    else s
  if toTm then
    let fly := s.cross.flyTm
    let s : State := { s with cross := { s.cross with flyTm := [], marked := [] } }
    (fly.foldl (fun s e =>
      if badData.any (inFlit e.1 e.2.size) then ((s.count 0x00 2 e.2.req 1).raise 0x40 2).closeSample e.2.tag 3 0 2 false
      else { s with cross := { s.cross with dueTm := s.cross.dueTm ++ [e.2] } }) s)
  else
    let fly := s.cross.flyFe
    let s : State := { s with cross := { s.cross with flyFe := [] } }
    (fly.foldl (fun s e =>
      if badData.any (inFlit e.1 e.2.size) then
        ((s.count 0x00 2 (32 + e.2.req) 1).raise 0x40 2).closeSample (if e.2.host then e.2.tag else none) 3 0 2 false
      else { s with cross := { s.cross with dueFe := s.cross.dueFe ++ [e.2] } }) s)

/-- CROSSING_DELIVERY (R12, R18, R277). -/
def execCrossingDelivery (toTm : Bool) (badData : List Nat) (badCtl : Bool) (s : State) : Host.Outcome State Fault Refusal :=
  .next (s.checkFlits toTm badData badCtl)

/-- The boundary's delivery: records to the square, egress records to the MACs; the host-bound ones are given back as punts (R12, R389);
TM reports ride the control flits, 64 a beat (R520). -/
def State.deliver (s : State) : State × List (Nat × Punt) :=
  let s := if s.cross.marked = [] then s else s.checkFlits true [] false
  let tm := (s.cross.dueTm ++ s.cross.flyTm.map (·.2)).map XRec.crossed
  let fe := (s.cross.dueFe ++ s.cross.flyFe.map (·.2)).map ERec.crossed
  let rep := if s.cross.ctlBad then [] else s.err.tmBuf.take 64
  let s : State := { s with cross := { s.cross with dueTm := [], flyTm := [], dueFe := [], flyFe := [], ctlBad := false },
                            sq := { s.sq with arrivals := tm }, err := { s.err with tmBuf := s.err.tmBuf.drop rep.length } }
  let line : List EgressRec := (fe.filter fun r => !r.host).map fun r => { target := r.target, frame := r.frame }
  let s : State := { s with line := { s.line with egress := s.line.egress ++ line } }
  let s := rep.foldl (fun s r => s.errEnter r) s
  (s, (fe.filter fun r => r.host).map fun r =>
    (r.target, { kind := 6, reason := 0, ctx := 0, pass := 0, adm := r.queue, sec := 0, ns := 0, colour := r.colour, script := [], frame := r.frame,
                      tag := r.tag }))

/-! ## The transmit MAC (R60, R78, R478, R479, R486, R519, R549, R555) -/

/-- Where the PTP message of an event message begins in a frame, and how it is carried: 0 IEEE 802.3, 4 IPv4, 6 IPv6 (R477). -/
def ptpAt (f : List Byte) : Option (Nat × Nat) :=
  let a := etherTypeAt f 2 12
  let ty := beNat (sliceAt f a 2)
  let ip := a + 2
  let ihl := byteAt f ip % 16 * 4
  let found :=
    if ty = 0x88F7 then some (ip, 0)
    else if ty = 0x0800 && byteAt f (ip + 9) = 17 && beNat (sliceAt f (ip + ihl + 2) 2) = 319 then some (ip + ihl + 8, 4)
    else if ty = 0x86DD && byteAt f (ip + 6) = 17 && beNat (sliceAt f (ip + 42) 2) = 319 then some (ip + 48, 6)
    else none
  match found with
  | some (p, k) => if byteAt f p % 16 ≤ 3 && p + 34 ≤ f.length then some (p, k) else none
  | none => none

/-- A checksum updated for words that change. -/
def sumUpdates (hc : Nat) : List (Nat × Nat) → Nat
  | [] => hc
  | (m, m2) :: t => sumUpdates (sumUpdate hc m m2) t

/-- A one-step Sync with its correctionField as sent at a time in 1/65,536 ns (R479). -/
def oneStep (f : List Byte) (p kind t : Nat) : List Byte :=
  let origin := (beNat (sliceAt f (p + 34) 6) * 1000000000 + beNat (sliceAt f (p + 40) 4)) * 65536
  let old := beNat (sliceAt f (p + 8) 8)
  let new := (old + t % 2 ^ 64 + 2 ^ 64 - origin % 2 ^ 64) % 2 ^ 64
  let g := f.take (p + 8) ++ beBytes new 8 ++ f.drop (p + 16)
  if kind = 4 then putPair g (p - 2) 0
  else if kind = 6 then
    let w := fun (i : Nat) => (beNat (sliceAt f (p + 8 + 2 * i) 2), beNat (sliceAt g (p + 8 + 2 * i) 2))
    putPair g (p - 2) (sumUpdates (beNat (sliceAt f (p - 2) 2)) [w 0, w 1, w 2, w 3])
  else g

/-- A frame sent by the transmit MAC of a context (R478, R479, R555). -/
def State.sendFrame (s : State) (m : Nat) (f : List Byte) : State :=
  let t := (Int.ofNat s.now65536 + signed32 (s.reg (0x201008 + m * 0x10))).toNat
  let cfg := s.reg (0x201000 + m * 0x10)
  let (s, f) := match ptpAt f with
    | some (p, k) =>
      if bitOf cfg 31 then
        let ty := byteAt f p % 16
        let s := if bitOf cfg 29 then
            s.txRecord (t / 65536 / 1000000000) (t / 65536 % 1000000000) (t % 65536 + m * 2 ^ 16 + ty * 2 ^ 24)
              (beNat (sliceAt f (p + 30) 2) + byteAt f (p + 4) * 2 ^ 16)
          else s
        (s, if bitOf cfg 30 && ty = 0 && !bitOf (byteAt f (p + 6)) 1 && p + 44 ≤ f.length then oneStep f p k t else f)
      else (s, f)
    | none => (s, f)
  let f := f ++ List.replicate (60 - f.length) 0
  let s := (s.macCount m 3 1).macCount m 4 (f.length + 4)
  { s with line := { s.line with sent := { ctx := m, bytes := f, sec := t / 65536 / 1000000000, ns := t / 65536 % 1000000000 } :: s.line.sent } }

/-- EGRESS_FRAME_TRANSMIT: the oldest egress record is sent by its MAC context, or dropped: port stopped, port down, standby. -/
def execEgressFrameTransmit (s : State) : Host.Outcome State Fault Refusal :=
  match s.line.egress with
  | [] => .next s
  | r :: rest =>
    let s : State := { s with line := { s.line with egress := rest } }
    let m := r.target
    let draining := decide (m < 192) && s.ctxScr m != 2 && s.ctxOwner m != .none
    if draining then .next (s.count 0x10 6 m 1)
    else if 192 ≤ m || !s.txUp m || !s.rxUp m || s.flag 0x400000 0 || s.flag 0x50 8 then .next (s.count 0x10 5 m 1)
    else if s.standby then .next (s.count 0x10 9 m 1)
    else .next (s.sendFrame m r.frame).irq

end Sys2Proof.Machine
end

