-- ==== Sys2Proof/Machine/DramView.lean ====
section
/-! DEFINITION. What the accessible regions of the DRAM halves hold: the lookup extension, the counter pairs and the square's descriptors,
handles and slots are the units' own state seen at half addresses (spec/01_module R11, 07_tables R190, R192, 10_queues_buffers R270,
R273, R274, R292, 13_stacked_dram R356). -/

namespace Sys2Proof.Machine

/-! ## The packet buffer (R270, R273, R274, R292) -/

/-- Offsets of the PDs, of the handles and of the slots of tier 1 (R292). -/
def pdBase : Nat := 0
def handleBase : Nat := 0x100000000

/-- Bytes of a slot of a class: the script's 64 and the frame's SIZE (R270). -/
def State.slotBytes (s : State) (c : Nat) : Nat := s.classSize c + 64

/-- Offset of the pool of a class: the pools follow in class order, each sized by its COUNT and slot size (R292). -/
def State.slotBase (s : State) (c : Nat) : Nat :=
  0x180000000 + ((List.range c).map fun k => s.poolCount true k * s.slotBytes k).sum

/-- Class, buffer and byte of the slot at an offset of the packet buffer. -/
def State.slotAt (s : State) (a : Nat) : Option (Nat × Nat × Nat) :=
  ((List.range 4).find? fun c => s.slotBase c ≤ a && a < s.slotBase (c + 1)).map fun c =>
    (c, (a - s.slotBase c) / s.slotBytes c, (a - s.slotBase c) % s.slotBytes c)

/-- The handle whose packet a slot of tier 1 holds. -/
def State.slotOwner (s : State) (c k : Nat) : Option Nat :=
  (s.sq.handles.find? fun e => e.2.st != .free && e.2.dram && e.2.cls == c && e.2.buf == k).map (·.1)

/-- The next PD of the queue that a PD stands in; of a PD that no other follows the table gives none (R274). DESIGN CHOICE, log 54. -/
def State.nextPd (s : State) (d : Nat) : Nat :=
  let after := s.sq.queues.filterMap fun e => ((e.2.dropWhile fun x => x != d).drop 1).head?
  after.headD (Config.lastPd (BitVec.ofNat 27 d)).toNat

/-- The four words of a PD, W0 in the lowest bytes (R274). -/
def State.pdWords (s : State) (d : Nat) : List Nat :=
  let p := s.pdOf d
  [s.nextPd d + p.handle % 2 ^ 27 * 2 ^ 27 + p.gen % 2 ^ 4 * 2 ^ 54 + b2n p.copy * 2 ^ 58,
   p.owner % 2 ^ 6 + p.pclen % 2 ^ 5 * 2 ^ 6 + p.dest % 2 ^ 16 * 2 ^ 16 + p.land % 2 ^ 22 * 2 ^ 32,
   leNat (p.pcdata.take 8), leNat ((p.pcdata.drop 8).take 8)]

/-- A PD with the fields that four words give; its place in its queue is the square's (R274). -/
def Pd.ofWords (p : Pd) (w0 w1 w2 w3 : Nat) : Pd :=
  let n := bits w1 10 6
  { p with handle := bits w0 53 27, gen := bits w0 57 54, copy := bitOf w0 58, owner := bits w1 5 0, pclen := n, dest := bits w1 31 16,
           land := p.land - p.land % 2 ^ 22 + bits w1 53 32, pcdata := (leBytes w2 8 ++ leBytes w3 8).take n }

/-- STATE of a handle as a number (R273). -/
def HandleState.code : HandleState → Nat
  | .free => 0
  | .held => 1
  | .quarantined => 2

/-- The two words of a handle (R273). -/
def Handle.words (h : Handle) : List Nat :=
  [h.ref % 2 ^ 13 + h.gen % 2 ^ 4 * 2 ^ 13 + h.st.code * 2 ^ 17 + h.charge % 2 ^ 6 * 2 ^ 19 + h.len % 2 ^ 14 * 2 ^ 25 + h.slen % 2 ^ 4 * 2 ^ 39
     + h.colour % 4 * 2 ^ 43 + b2n h.dram * 2 ^ 45 + h.cls % 4 * 2 ^ 46 + b2n h.moving * 2 ^ 48,
   h.buf % 2 ^ 26]

/-- A handle with the fields that two words give; STATE 3 does not occur (R273). -/
def Handle.ofWords (h : Handle) (w0 w1 : Nat) : Handle :=
  { h with ref := bits w0 12 0, gen := bits w0 16 13, charge := bits w0 24 19, len := bits w0 38 25, slen := bits w0 42 39,
           colour := bits w0 44 43, dram := bitOf w0 45, cls := bits w0 47 46, moving := bitOf w0 48, buf := bits w1 25 0,
           st := (match bits w0 18 17 with
             | 0 => .free
             | 1 => .held
             | 2 => .quarantined
             | _ => h.st) }

/-- A byte of a slot: its script from byte 0, its frame from byte 64; elsewhere the DRAM's own (R270). -/
def Handle.slotByte (h : Handle) (o raw : Nat) : Nat :=
  if o < 64 then ((h.script[o]?).map (·.toNat)).getD raw else ((h.frame[o - 64]?).map (·.toNat)).getD raw

/-- A byte of a slot written. -/
def Handle.putSlot (h : Handle) (o : Nat) (v : Byte) : Handle :=
  if o < 64 then { h with script := setAt h.script o v } else { h with frame := setAt h.frame (o - 64) v }

/-- A byte of the packet buffer's slots, over what the DRAM itself holds there. -/
def State.slotRead (s : State) (a raw : Nat) : Nat :=
  match s.slotAt a with
  | none => raw
  | some (c, k, o) =>
    match s.slotOwner c k with
    | none => raw
    | some h => (s.handle h).slotByte o raw

/-- A byte of the packet buffer's slots written. -/
def State.slotWrite (s : State) (a : Nat) (v : Byte) : State :=
  match s.slotAt a with
  | none => s
  | some (c, k, o) =>
    match s.slotOwner c k with
    | none => s
    | some h => s.setHandle h ((s.handle h).putSlot o v)

/-! ## A burst of a half (R11, R356) -/

/-- What the 64 bytes at a half address hold: raw is what the DRAM itself holds there. -/
def State.dramLine (s : State) (tm : Bool) (a : Nat) (raw : Line) : Line :=
  let n := a / 64
  if tm then
    if a < handleBase then BitVec.ofNat 512 (lineOf (s.pdWords (2 * n) ++ s.pdWords (2 * n + 1)))
    else if a < s.slotBase 0 then
      let h := (a - handleBase) / 16
      BitVec.ofNat 512 (lineOf ((List.range 4).flatMap fun i => (s.handle (h + i)).words))
    else BitVec.ofNat 512 (leNat ((List.range 64).map fun i => BitVec.ofNat 8 (s.slotRead (n * 64 + i) (lineField raw i 1))))
  else if a < 0x200000000 then s.rawWord (sramWords + n)
  else if a < 0x220000000 then
    let p := (a - 0x200000000) / 64 * 4
    BitVec.ofNat 512 (lineOf ((List.range 4).flatMap fun i => let c := Tab.get (0, 0) s.tbl.statDram (p + i); [c.1, c.2]))
  else raw

/-- The 64 bytes at a half address written. -/
def State.setDramLine (s : State) (tm : Bool) (a : Nat) (l : Line) : State :=
  let n := a / 64
  let w := lineWord l
  if tm then
    if a < handleBase then
      (s.setPd (2 * n) ((s.pdOf (2 * n)).ofWords (w 0) (w 1) (w 2) (w 3))).setPd (2 * n + 1) ((s.pdOf (2 * n + 1)).ofWords (w 4) (w 5) (w 6) (w 7))
    else if a < s.slotBase 0 then
      let h := (a - handleBase) / 64 * 4
      (List.range 4).foldl (fun s i => s.setHandle (h + i) ((s.handle (h + i)).ofWords (w (2 * i)) (w (2 * i + 1)))) s
    else (List.range 64).foldl (fun s i => s.slotWrite (n * 64 + i) (BitVec.ofNat 8 (lineField l i 1))) s
  else if a < 0x200000000 then s.setRaw (sramWords + n) l
  else if a < 0x220000000 then
    let p := (a - 0x200000000) / 64 * 4
    let t := (List.range 4).foldl (fun t i => Tab.set (0, 0) t (p + i) (w (2 * i), w (2 * i + 1))) s.tbl.statDram
    { s with tbl := { s.tbl with statDram := t } }
  else s

end Sys2Proof.Machine
end

