-- ==== Sys2Proof/Machine/Hbm.lean ====
section
/-! DEFINITION. The stacked-DRAM controller: the address map, the queues, service, refresh, parking, error correction, repair and the
training helper (spec/13_stacked_dram). -/

namespace Sys2Proof.Machine

/-! ## Address map (R355 to R358) -/

def hbmHalf (tm : Bool) (r : Nat) : Nat := 0xF000000 + b2n tm * 0x20 + r
def hbmStk (k r : Nat) : Nat := 0xF010000 + k * 0x20 + r
def hbmCh (c r : Nat) : Nat := 0xF020000 + c * 0x400 + r

/-- Channels of a half (R357). -/
def halfChans (tm : Bool) : Nat := if tm then 108 else 20

/-- Bytes of a granule (R357). -/
def State.grain (s : State) (tm : Bool) : Nat := 64 * 2 ^ min (s.fld (hbmHalf tm 0) 10 8) 6

/-- The end of the accessible regions of a half (R356). -/
def halfEnd (tm : Bool) : Nat := if tm then 0x1400000000 else 0x380000000

/-- The global channel and the offset within it of a half address (R355, R357). -/
def State.dramPlace (s : State) (tm : Bool) (a : Nat) : Nat × Nat :=
  let g := s.grain tm
  let n := a / g
  let i := n % halfChans tm
  let chan := if tm then i / 4 else 27 + i / 4
  (32 * (i % 4) + chan, n / halfChans tm * g + a % g)

/-- The half that serves a global channel (R11, R355). -/
def chanTm (c : Nat) : Bool := decide (c % 32 < 27)

/-- The half address of an offset within a channel (R357). -/
def State.dramAddr (s : State) (c o : Nat) : Nat :=
  let tm := chanTm c
  let g := s.grain tm
  let i := (if tm then c % 32 else c % 32 - 27) * 4 + c / 32
  (o / g * halfChans tm + i) * g + o % g

/-- A burst's offset within its channel (R358). -/
def burstOff (p bank row col : Nat) : Nat := row * 32768 + bank * 2048 + col * 128 + p * 64

/-- The number of a burst's place. -/
def burstKey (pc bank row col : Nat) : Nat := ((pc * 16 + bank) * 24576 + row) * 16 + col

def State.dramChan (s : State) (c : Nat) : DramChan := Tab.get {} s.hbm.chans c
def State.setDramChan (s : State) (c : Nat) (x : DramChan) : State := { s with hbm := { s.hbm with chans := Tab.set {} s.hbm.chans c x } }

/-- A bank: a row kept open for OPEN_MAX clocks has been precharged (R364). -/
def State.bankOf (s : State) (pc b : Nat) : DramBank :=
  let k := Tab.get {} s.hbm.banks (pc * 16 + b)
  if k.kept && k.keptAt + max (s.fld 0xF000040 15 4) 1 ≤ s.bus.ticks then { k with row := none, kept := false } else k

def State.setBank (s : State) (pc b : Nat) (x : DramBank) : State :=
  { s with hbm := { s.hbm with banks := Tab.set {} s.hbm.banks (pc * 16 + b) x } }

/-- Where a row lies under the remap table (R372). -/
def DramChan.rowOf (x : DramChan) (p bank row : Nat) : Nat :=
  match x.remap.find? fun e => e.2.any fun r => r.pc == p && r.bank == bank && r.row == row with
  | some (_, some r) => 24448 + r.spare
  | _ => row

/-- A report of the controller of a half. -/
def State.hbmReport (s : State) (tm : Bool) (code cls inst detail : Nat) : State :=
  if tm then s.reportTm 0xF0 code cls inst detail else s.report 0xF0 code cls inst detail

def State.dramReply (s : State) (agent a : Nat) (d : Line) (err : Bool) : State :=
  { s with hbm := { s.hbm with reply := some { agent := agent, addr := a, data := d, err := err } } }

/-! ## The refresh schedule (R365) -/

/-- The refresh interval of a stack is halved (R365). -/
def State.ref2x (s : State) (k : Nat) : Bool := 85 < s.fld (hbmStk k 4) 31 24 || s.flag 0xF000044 8

/-- The refresh time of a stack up to now: a clock counts 1, or 2 at the shorter interval; 5,850 make an interval. -/
def State.refTime (s : State) (k : Nat) : Nat := Tab.get 0 s.hbm.refAcc k + (s.bus.ticks - s.hbm.refAt) * (if s.ref2x k then 2 else 1)

/-- The refresh times carried to now, before an interval changes. -/
def State.refCarry (s : State) : State :=
  { s with hbm := { s.hbm with refAcc := (List.range 4).foldl (fun t k => Tab.set 0 t k (s.refTime k)) s.hbm.refAcc, refAt := s.bus.ticks } }

/-- Refreshes that a bank is owed; below 0, in advance. -/
def State.refDebt (s : State) (c pc bank : Nat) : Int :=
  Int.ofNat ((s.refTime (c / 32) - (s.dramChan c).base) / 5850) - Int.ofNat (s.bankOf pc bank).refs

/-- POSTPONE (HBM_REF_CFG). -/
def State.postpone (s : State) : Nat := min (max (s.fld 0xF000044 3 0) 1) 8

/-- A refresh of a bank, out of service for 160 ns from now on (R365). -/
def State.bankRefresh (s : State) (pc bank : Nat) : State :=
  let k := s.bankOf pc bank
  s.setBank pc bank { k with row := none, kept := false, busy := s.bus.ticks + 240, refs := k.refs + 1 }

/-- A channel is in self-refresh. -/
def DramChan.asleep (x : DramChan) : Bool :=
  match x.park with
  | .asleep _ _ => true
  | _ => false

/-- A bank that had no queued burst owes no refresh as the next burst reaches it: refreshes are pulled in while it is idle (R365). DEDUCED, log
100. -/
def State.refreshIdle (s : State) (c pc bank : Nat) : State :=
  if (Tab.get [] s.hbm.queue pc).any fun b => b.bank == bank then s
  else
    let k := s.bankOf pc bank
    let due := (s.refTime (c / 32) - (s.dramChan c).base) / 5850
    if k.refs < due then s.setBank pc bank { k with refs := due } else s

/-- In every clock the refresh of a bank with queued bursts whose debt has reached POSTPONE is issued at once (R365). -/
def State.refreshClock (s : State) : State :=
  s.hbm.queue.foldl (fun s e =>
    let c := e.1 / 2
    (List.range 16).foldl (fun s bank =>
      if (e.2.any fun b => b.bank == bank) && !(s.dramChan c).asleep && (s.bankOf e.1 bank).busy ≤ s.bus.ticks
          && Int.ofNat s.postpone ≤ s.refDebt c e.1 bank then
        (s.count 0xF0 0x44 c 1).bankRefresh e.1 bank
      else s) s) s

/-! ## Requests (R356, R359, R367, R368, R375) -/

/-- A refused access (R356). -/
def State.dramRefuse (s : State) (b : Burst) : State :=
  let s := (s.raise (hbmHalf b.tm 8) 4).hbmReport b.tm 3 1 (b2n b.tm) b.addr
  if b.write then s else s.dramReply b.agent b.addr 0 true

/-- A burst enters the queue of its pseudo-channel; a channel on its way into self-refresh turns back, and one in self-refresh begins to
wake (R359, R368). -/
def State.dramEnter (s : State) (b : Burst) : State :=
  let c := b.pc / 2
  let x := s.dramChan c
  let now := s.bus.ticks
  let b := { b with since := now, id := s.hbm.next }
  let s := s.refreshIdle c b.pc b.bank
  let s : State := { s with hbm := { s.hbm with
    queue := Tab.set [] s.hbm.queue b.pc (Tab.get [] s.hbm.queue b.pc ++ [b]), next := s.hbm.next + 1 } }
  match x.park with
  | .awake => s
  | .entering _ => s.setDramChan c { x with park := .awake }
  | .asleep t none => s.setDramChan c { x with park := .asleep t (some now), first := some b.id }
  | .asleep _ (some _) => s

/-- Room in the queue of a burst's direction (R359). -/
def State.dramRoom (s : State) (b : Burst) : Bool :=
  ((Tab.get [] s.hbm.queue b.pc).filter fun e => e.write == b.write).length < 64

/-- A burst offered: refused, accepted, or waiting behind an earlier burst, a full queue or a cleared EN (R356, R359, R375). -/
def State.dramOffer (s : State) (b : Burst) : State :=
  if halfEnd b.tm ≤ b.addr then s.dramRefuse b
  else if s.flag (hbmHalf b.tm 0) 31 && !s.flag (hbmCh (b.pc / 2) 0) 0 then s.dramRefuse b
  else if s.flag (hbmHalf b.tm 0) 31 && s.dramRoom b && !(s.hbm.waiting.any fun e => e.pc == b.pc && e.write == b.write) then s.dramEnter b
  else { s with hbm := { s.hbm with waiting := s.hbm.waiting ++ [b] } }

/-- The burst of a half address. -/
def State.burstAt (s : State) (tm : Bool) (agent a : Nat) (data : Option (List Byte × Nat)) : Burst :=
  let base := a / 64 * 64
  let (c, o) := s.dramPlace tm base
  let lo := a % 64
  { tm := tm, agent := agent, pc := c * 2 + bits o 6 6, bank := bits o 14 11, row := o / 32768, col := bits o 10 7, addr := base,
    write := data.isSome,
    data := match data with
      | some (bs, n) => BitVec.ofNat 512 (leNat (bs.take n) * 2 ^ (8 * lo))
      | none => 0,
    mask := match data with
      | some (_, n) => BitVec.ofNat 64 ((2 ^ n - 1) * 2 ^ lo)
      | none => 0,
    since := 0, id := 0 }

/-- The bursts of a request of len bytes at a half address (R359). -/
def State.splitRequest (s : State) (tm : Bool) (agent : Nat) : Nat → Nat → Nat → Option (List Byte) → List Burst
  | 0, _, _, _ => []
  | k + 1, a, len, data =>
    if len = 0 then []
    else
      let n := min len (64 - a % 64)
      s.burstAt tm agent a (data.map fun d => (d, n)) :: s.splitRequest tm agent k (a + n) (len - n) (data.map fun d => d.drop n)

/-- DRAM_REQUEST: a read of len bytes, or a write of them (R356, R357, R359). -/
def execDramRequest (tm : Bool) (agent : Fin 8) (addr : BitVec 37) (len : BitVec 16) (data : Option (List Byte)) (s : State) :
    Host.Outcome State Fault Refusal :=
  .next ((s.splitRequest tm agent (len.toNat / 64 + 2) addr.toNat len.toNat data).foldl (fun s b => s.dramOffer b) s)

/-- DRAM_QUEUE_ENTRY: the burst that has waited longest for a pseudo-channel's queue enters it (R359, R375). -/
def execDramQueueEntry (c : Fin 128) (p : Fin 2) (write : Bool) (s : State) : Host.Outcome State Fault Refusal :=
  match findIdx? (fun (b : Burst) => b.pc == c.val * 2 + p.val && b.write == write) s.hbm.waiting with
  | none => .next s
  | some i =>
    match s.hbm.waiting[i]? with
    | none => .next s
    | some b =>
      if !s.flag (hbmHalf b.tm 0) 31 then .next s
      else
        let t : State := { s with hbm := { s.hbm with waiting := dropAt s.hbm.waiting i } }
        .next (if !s.flag (hbmCh c 0) 0 then t.dramRefuse b else if s.dramRoom b then t.dramEnter b else s)

/-! ## Choosing a burst (R360, R361, R368, R369, R372) -/

/-- A burst's row is being copied (R372). -/
def DramChan.held (x : DramChan) (b : Burst) : Bool :=
  x.remap.any fun e => e.2.any fun r => r.from?.isSome && r.pc == b.pc % 2 && r.bank == b.bank && r.row == b.row

/-- A stack is parked by PARK or by its temperature (R367, R369). -/
def State.stackParked (s : State) (k : Nat) : Bool := s.flag (hbmStk k 0) 31 || s.flag (hbmStk k 4) 3

/-- Activations of a channel in the last microsecond (R369). -/
def State.actsNow (s : State) (c : Nat) : List Nat := (s.dramChan c).acts.filter fun t => s.bus.ticks < t + 1500

/-- A burst that may be served now. -/
def State.dramCan (s : State) (b : Burst) : Bool :=
  let c := b.pc / 2
  let x := s.dramChan c
  let k := s.bankOf b.pc b.bank
  let hit := k.row == some (x.rowOf (b.pc % 2) b.bank b.row)
  x.park == .awake && x.first.all (· == b.id) && !x.held b && k.busy ≤ s.bus.ticks
    && (hit || !chanTm c || !s.flag (hbmStk (c / 32) 4) 3 || (s.actsNow c).length < x.limit)

/-- AGE_CAP, WR_HI and WR_LO of a half (HBM_HALF_SCHED). -/
def State.ageCap (s : State) (tm : Bool) : Nat := max (s.fld (hbmHalf tm 4) 31 16) 1
def State.wrHi (s : State) (tm : Bool) : Nat := min (s.fld (hbmHalf tm 4) 15 8) 64
def State.wrLo (s : State) (tm : Bool) : Nat := min (s.fld (hbmHalf tm 4) 7 0) (s.wrHi tm - 1)

/-- The next burst of a pseudo-channel, whether it reached the age cap, and whether a drain goes on (R360, R361). -/
def State.dramPick (s : State) (pc : Nat) : Option (Burst × Bool) × Bool :=
  let tm := chanTm (pc / 2)
  let q := Tab.get [] s.hbm.queue pc
  let ws := q.filter (·.write)
  let rs := q.filter fun b => !b.write
  let drain := if s.wrHi tm ≤ ws.length then true else if ws.length ≤ s.wrLo tm then false else Tab.get false s.hbm.drain pc
  let ok := q.filter s.dramCan
  let hit := fun (b : Burst) => (s.bankOf pc b.bank).row == some ((s.dramChan (pc / 2)).rowOf (pc % 2) b.bank b.row)
  let first := ok.find? fun b => (s.dramChan (pc / 2)).first == some b.id
  let aged := ok.find? fun b => b.since + s.ageCap tm ≤ s.bus.ticks
  match first, aged with
  | some b, _ => (some (b, false), drain)
  | none, some b => (some (b, true), drain)
  | none, none =>
    let dir := ok.filter fun b => b.write == (drain || rs == [])
    ((match dir.find? hit with | some b => some (b, false) | none => dir.head?.map fun b => (b, false)), drain)

/-! ## Service (R362, R364, R370) -/

/-- A corrected (1) or an uncorrectable error (2) found by a read of a burst of a channel (R370). -/
def State.dramErr (s : State) (c a err : Nat) : State :=
  let tm := chanTm c
  let st := hbmHalf tm 8
  match err with
  | 0 => s
  | 1 => ((s.bumpReg (hbmCh c 4) 1).raise st 2).hbmReport tm 1 0 c a
  | _ =>
    let s := (s.raise st 3).setReg (hbmHalf tm 0x10) (a % 2 ^ 32)
    (s.setReg (hbmHalf tm 0x14) (a / 2 ^ 32 % 32 + 2 ^ 31)).hbmReport tm 2 1 c a

/-- What a read of a place finds: the error that is there or the worse one that the cells show now. -/
def State.foundErr (s : State) (key err : Nat) : Nat := max err (Tab.get 0 s.hbm.flaw key)

/-- Data and errors of a place replaced. -/
def State.putBurst (s : State) (key : Nat) (d : Line) (flaw : Nat) : State :=
  { s with hbm := { s.hbm with mem := Tab.set 0 s.hbm.mem key d, flaw := Tab.set 0 s.hbm.flaw key flaw } }

/-- The data at a burst's half address, whose place is key (R11, R292). -/
def State.burstData (s : State) (b : Burst) (key : Nat) : Line := s.dramLine b.tm b.addr (Tab.get 0 s.hbm.mem key)

/-- The data at a burst's half address replaced. -/
def State.storeBurst (s : State) (b : Burst) (key : Nat) (d : Line) (flaw : Nat) : State :=
  (s.setDramLine b.tm b.addr d).putBurst key d flaw

/-- A write burst carried out (R359, R370, R530). -/
def State.dramWrite (s : State) (b : Burst) (key err : Nat) : State :=
  let c := b.pc / 2
  let full := b.mask == BitVec.allOnes 64
  let e := if full then 0 else s.foundErr key err
  let s := s.dramErr c b.addr e
  let d := if full then b.data else mergeLine (s.burstData b key) b.data b.mask
  match s.injectionFor 16 c with
  | some (ty, s) => s.storeBurst b key d (if e = 2 then 2 else ty)
  | none => s.storeBurst b key d (if e = 2 then 2 else 0)

/-- A read burst carried out: writes that wait for the same burst answer first (R362, R370). -/
def State.dramRead (s : State) (b : Burst) (key err : Nat) : State :=
  let c := b.pc / 2
  let ws := (Tab.get [] s.hbm.queue b.pc).filter fun w => w.write && w.addr == b.addr
  let full := ws.any fun w => w.mask == BitVec.allOnes 64
  let e := if full then 0 else s.foundErr key err
  let s := s.dramErr c b.addr e
  if e = 2 then
    ({ s with fresh := s.fresh + 1 } : State).dramReply b.agent b.addr (Config.erroredBurst s.fresh) true
  else
    let old := s.burstData b key
    let s := if full then s else s.putBurst key old 0
    s.dramReply b.agent b.addr (ws.foldl (fun d w => mergeLine d w.data w.mask) old) false

/-- The page-close predictor's bank after a burst to a row; more says that another burst to that row waits (R364). -/
def DramBank.after (x : DramBank) (mode row now : Nat) (more : Bool) : DramBank :=
  let ctr := if x.kept then (if x.row = some row then min (x.ctr + 1) 3 else x.ctr - 1) else x.ctr
  let keep := if mode = 1 then false else if mode = 2 then true else decide (2 ≤ ctr)
  if more then { x with row := some row, kept := false, ctr := ctr }
  else if keep then { x with row := some row, kept := true, keptAt := now, ctr := ctr }
  else { x with row := none, kept := false, ctr := ctr }

/-- BURST_SERVICE: one burst of a pseudo-channel; err is what its read finds in the cells: 0 nothing, 1 a symbol, 2 more (R360 to R362,
R364, R370). -/
def execBurstService (c : Fin 128) (p : Fin 2) (err : Fin 3) (s : State) : Host.Outcome State Fault Refusal :=
  let pc := c.val * 2 + p.val
  match s.dramPick pc with
  | (none, _) => .next s
  | (some (b, aged), drain) =>
    let x := s.dramChan c
    let row := x.rowOf p b.bank b.row
    let k := s.bankOf pc b.bank
    let hit := k.row == some row
    let q := (Tab.get [] s.hbm.queue pc).filter fun e => e.id != b.id
    let more := q.any fun e => e.bank == b.bank && e.row == b.row
    let now := s.bus.ticks
    let acts := if hit then s.actsNow c else s.actsNow c ++ [now]
    let s := (s.setBank pc b.bank (k.after (s.fld 0xF000040 1 0) row now more)).setDramChan c { x with first := none, last := now, acts := acts }
    let s := (s.count 0xF0 0x40 c 1)
    let s := if hit then s.count 0xF0 0x41 c 1 else s
    let s := if aged then (s.count 0xF0 0x42 c 1).raise (hbmHalf b.tm 8) 5 else s
    let s := if b.write then s.dramWrite b (burstKey pc b.bank row b.col) err else s.dramRead b (burstKey pc b.bank row b.col) err
    .next { s with hbm := { s.hbm with queue := Tab.set [] s.hbm.queue pc q, drain := Tab.set false s.hbm.drain pc drain } }

/-- OPEN_ROW_TIMEOUT: a row kept open is precharged after OPEN_MAX clocks (R364). -/
def execOpenRowTimeout (c : Fin 128) (p : Fin 2) (bank : Fin 16) (s : State) : Host.Outcome State Fault Refusal :=
  let pc := c.val * 2 + p.val
  let k := s.bankOf pc bank
  .next (s.setBank pc bank k)

/-! ## Refresh (R365) -/

/-- BANK_REFRESH: the bank's refresh is issued, postponed or forced (R365). -/
def execBankRefresh (c : Fin 128) (p : Fin 2) (bank : Fin 16) (s : State) : Host.Outcome State Fault Refusal :=
  let pc := c.val * 2 + p.val
  let debt := s.refDebt c pc bank
  let busy := (Tab.get [] s.hbm.queue pc).any fun b => b.bank == bank.val
  let max' : Int := Int.ofNat s.postpone
  .next (if (s.dramChan c).asleep then s
    else if busy then (if max' ≤ debt then (s.count 0xF0 0x44 c 1).bankRefresh pc bank else if 0 < debt then s.count 0xF0 0x43 c 1 else s)
    else if -max' < debt then s.bankRefresh pc bank else s)

/-! ## Parking (R367 to R369) -/

/-- Clocks of idleness before an entry (R367). -/
def State.idleClocks (s : State) (k : Nat) : Nat := max (s.fld (hbmStk k 0) 30 24) 1 * 8

def State.chanIdle (s : State) (c : Nat) : Bool := Tab.get [] s.hbm.queue (2 * c) == [] && Tab.get [] s.hbm.queue (2 * c + 1) == []

/-- Every bank of a channel precharged. -/
def State.precharge (s : State) (c : Nat) : State :=
  (List.range 32).foldl (fun s i =>
    let pc := c * 2 + i / 16
    s.setBank pc (i % 16) { (s.bankOf pc (i % 16)) with row := none, kept := false }) s

/-- SELF_REFRESH_ENTRY: an idle TM channel of a parked stack begins its entry (R367). -/
def execSelfRefreshEntry (c : Fin 128) (s : State) : Host.Outcome State Fault Refusal :=
  let x := s.dramChan c
  .next (if chanTm c && s.stackParked (c / 32) && x.park = .awake && s.chanIdle c && x.last + s.idleClocks (c / 32) ≤ s.bus.ticks then
      (s.precharge c).setDramChan c { x with park := .entering s.bus.ticks }
    else s)

/-- SELF_REFRESH_ENTRY_COMMAND: 23 clocks after the precharge (R367). -/
def execSelfRefreshEntryCommand (c : Fin 128) (s : State) : Host.Outcome State Fault Refusal :=
  let x := s.dramChan c
  match x.park with
  | .entering t =>
    if t + 23 ≤ s.bus.ticks then .next ((s.setDramChan c { x with park := .asleep s.bus.ticks none }).count 0xF0 0x45 c 1) else .next s
  | _ => .next s

/-- SELF_REFRESH_EXIT_COMPLETE: 23 clocks of residence and 600 of exit after a request woke the channel (R368). -/
def execSelfRefreshExitComplete (c : Fin 128) (s : State) : Host.Outcome State Fault Refusal :=
  let x := s.dramChan c
  let k := c.val / 32
  match x.park with
  | .asleep t (some w) =>
    let due := max (t + 23) w + 600
    if due ≤ s.bus.ticks then
      let s := ((s.bumpReg (hbmStk k 8) (due - w)).bumpReg (hbmStk k 0xC) 1).count 0xF0 0x46 c 1
      let s := (List.range 32).foldl (fun s i =>
        let pc := c.val * 2 + i / 16
        s.setBank pc (i % 16) { (s.bankOf pc (i % 16)) with refs := 0 }) s
      .next (s.setDramChan c { x with park := .awake, base := s.refTime k, last := s.bus.ticks })
    else .next s
  | _ => .next s

/-- A stack thermally parked: PARK_PCT of the activations of the last microsecond is each channel's limit from now on (R369). -/
def State.thermalPark (s : State) (k : Nat) : State :=
  if s.flag (hbmStk k 4) 3 then s
  else
    let s := ((s.setFlag (hbmStk k 4) 3 true).raise (hbmStk k 4) 4).reportTm 0xF0 4 2 k (s.fld (hbmStk k 4) 31 24)
    let pct := min (max (s.fld (hbmStk k 0) 23 16) 1) 100
    (List.range 27).foldl (fun s i =>
      let c := 32 * k + i
      s.setDramChan c { (s.dramChan c) with limit := (s.actsNow c).length * pct / 100 }) s

/-- STACK_TEMPERATURE_SAMPLE: a stack's sensor is read (R365, R369). -/
def execStackTemperatureSample (k : Fin 4) (temp : Byte) (s : State) : Host.Outcome State Fault Refusal :=
  let t := temp.toNat
  let s := s.refCarry.setFld (hbmStk k 4) 31 24 t
  let hi := s.fld (hbmStk k 0) 15 8
  let lo := min (s.fld (hbmStk k 0) 7 0) (hi - 1)
  let parked := s.flag (hbmStk k 4) 3
  .next (if !parked && hi ≤ t then s.thermalPark k else if parked && t ≤ lo && !s.flag 0x50 8 then s.setFlag (hbmStk k 4) 3 false else s)

/-! ## Scrubbing and repair (R371, R372) -/

/-- DRAM_SCRUB_READ: a burst of a channel, the reserved area included; err as for BURST_SERVICE (R370, R371). -/
def execDramScrubRead (c : Fin 128) (p : Fin 2) (bank : Fin 16) (row : Fin 24576) (col : Fin 16) (err : Fin 3) (s : State) :
    Host.Outcome State Fault Refusal :=
  let tm := chanTm c
  if !s.flag (hbmHalf tm 0xC) 0 then .next s
  else
    let key := burstKey (c.val * 2 + p.val) bank row col
    let e := s.foundErr key err
    let s := s.dramErr c (s.dramAddr c (burstOff p bank row col)) e
    .next (if e = 1 then s.putBurst key (Tab.get 0 s.hbm.mem key) 0 else s)

/-- A row remap or a spare lane is noted in firmware's log, or, taken back, is no longer to be reapplied (R372, R373, R421). -/
def State.logRepair (s : State) (code : Nat) : State :=
  let n := s.fresh
  let s : State := { s with fresh := n + 2 }
  if s.mssMode = 1 then s.logEvent (Config.eventSev 18).toNat 0xF0 code (Config.eventArg n).toNat (Config.eventArg (n + 1)).toNat else s

/-- REMAP_DATA_WRITE: the entry that IDX names (R372). -/
def execRemapDataWrite (c : Fin 128) (v : Word) (s : State) : Host.Outcome State Fault Refusal :=
  let n := v.toNat
  let x := s.dramChan c
  let i := s.fld (hbmCh c 0x10) 5 0
  let new : Remap := { pc := bits n 30 30, bank := bits n 29 26, row := bits n 25 11, spare := bits n 6 0,
                       from? := some (x.rowOf (bits n 30 30) (bits n 29 26) (bits n 25 11)) }
  let keep := fun (s : State) (r : Option Remap) => ({ s with boot := { s.boot with repairs := Tab.set none s.boot.repairs (c.val * 64 + i) r } } : State)
  if !bitOf n 31 then .next (keep (s.setDramChan c { x with remap := Tab.set none x.remap i none }) none)
  else if 24448 ≤ new.row
      || x.remap.any (fun e => e.1 != i && e.2.any fun r => r.pc == new.pc && r.bank == new.bank && r.spare == new.spare) then
    .next (s.raise (hbmHalf (chanTm c) 8) 6)
  else .next ((keep (s.setDramChan c { x with remap := Tab.set none x.remap i (some new) }) (some { new with from? := none })).logRepair 0x0701)

/-- REMAP_COPY_COMPLETE: the copy of an entry's row ends; err gives what each of the 16 bursts showed (R372). -/
def execRemapCopyComplete (c : Fin 128) (entry : Fin 64) (err : List (Fin 3)) (s : State) : Host.Outcome State Fault Refusal :=
  let x := s.dramChan c
  match Tab.get none x.remap entry with
  | none => .next s
  | some r =>
    match r.from? with
    | none => .next s
    | some src =>
      let pc := c.val * 2 + r.pc
      let s := (List.range 16).foldl (fun s j =>
        let a := burstKey pc r.bank src j
        let e := s.foundErr a ((err[j]?).getD 0)
        let s := s.dramErr c (s.dramAddr c (burstOff r.pc r.bank r.row j)) e
        s.putBurst (burstKey pc r.bank (24448 + r.spare) j) (Tab.get 0 s.hbm.mem a) (if e = 2 then 2 else 0)) s
      .next (s.setDramChan c { x with remap := Tab.set none x.remap entry (some { r with from? := none }) })

/-! ## Training (R374) -/

/-- A helper started, or ignored while one runs (R374). -/
def State.helperStart (s : State) (c op pc pattern : Nat) : State :=
  let a := hbmCh c 0x20
  if s.flag a 31 then s.raise (hbmHalf (chanTm c) 8) 1
  else
    let s := (((s.setFlag a 8 (pc == 1)).setFld a 7 4 pattern).setFlag a 31 true).setDramChan c { (s.dramChan c) with helper := op }
    s.setRegs (hbmCh c 0x30) [0, 0, 0]

/-- WRITE_THEN_COMPARE (R374). -/
def execWriteThenCompare (c : Fin 128) (pc : Fin 2) (pattern : BitVec 4) (s : State) : Host.Outcome State Fault Refusal :=
  .next (s.helperStart c 1 pc pattern.toNat)

/-- COMPARE_ONLY (R374). -/
def execCompareOnly (c : Fin 128) (pc : Fin 2) (pattern : BitVec 4) (s : State) : Host.Outcome State Fault Refusal :=
  .next (s.helperStart c 2 pc pattern.toNat)

/-- WRITE_ONLY (R374). -/
def execWriteOnly (c : Fin 128) (pc : Fin 2) (pattern : BitVec 4) (s : State) : Host.Outcome State Fault Refusal :=
  .next (s.helperStart c 3 pc pattern.toNat)

/-- TRAINING_HELPER_COMPLETE: the helper ends, with the lanes that failed a compare and the bits in error (R374). -/
def execTrainingHelperComplete (c : Fin 128) (lmask : Word) (spmask : BitVec 6) (ecnt : Word) (s : State) : Host.Outcome State Fault Refusal :=
  let a := hbmCh c 0x20
  if !s.flag a 31 then .next s
  else
    let op := (s.dramChan c).helper
    let pc := c.val * 2 + b2n (s.flag a 8)
    let s := (s.setFlag a 31 false).setDramChan c { (s.dramChan c) with helper := 0 }
    let pat := if s.fld a 7 4 ≤ 4 then s.fld a 7 4 else 0
    let s : State := if op = 2 then s
      else { s with hbm := { s.hbm with train := Tab.set none s.hbm.train pc (some (pat, if pat = 2 then s.reg64 (hbmCh c 0x28) else 0)) } }
    .next (if op = 3 then s else s.setRegs (hbmCh c 0x30) [lmask.toNat, spmask.toNat, ecnt.toNat])

/-! ## Registers -/

/-- Spare lanes of a pseudo-channel in use (R373). -/
def State.spareCount (s : State) (c p : Nat) : Nat :=
  let a := s.fld (hbmCh c 0x40 + p * 4) 5 0
  let b := s.fld (hbmCh c 0x40 + p * 4) 13 8
  b2n (decide (a < 36)) + b2n (decide (b < 36) && a != b)

/-- A read of HBM_CH_STAT (R367, R372, R373). -/
def State.chStat (s : State) (c : Nat) : Nat :=
  let x := s.dramChan c
  b2n (s.flag (hbmCh c 0) 0) + b2n x.asleep * 2 + s.spareCount c 0 * 2 ^ 4 + s.spareCount c 1 * 2 ^ 6 + x.remap.length * 2 ^ 8

/-- A read of HBM_STK_STAT. -/
def State.stkStat (s : State) (k : Nat) : Nat :=
  let sr := (List.range 27).any fun i => (s.dramChan (32 * k + i)).asleep
  putBits (putBits (s.reg (hbmStk k 4)) 8 8 (b2n (s.ref2x k))) 1 1 (b2n sr)

/-- A read of HBM_HALF_STAT: UP (R375). -/
def State.halfStat (s : State) (tm : Bool) : Nat :=
  let up := s.flag (hbmHalf tm 0) 31 && (List.range 128).all fun c => chanTm c != tm || s.flag (hbmCh c 0) 0
  putBits (s.reg (hbmHalf tm 8)) 0 0 (b2n up)

/-- A read of HBM_CH_REMAP_DATA (R372). -/
def State.remapData (s : State) (c : Nat) : Nat :=
  match Tab.get none (s.dramChan c).remap (s.fld (hbmCh c 0x10) 5 0) with
  | some r => 2 ^ 31 + r.pc * 2 ^ 30 + r.bank * 2 ^ 26 + r.row * 2 ^ 11 + r.spare
  | none => 0

end Sys2Proof.Machine
end

