-- ==== Sys2Proof/Machine/Crypto.lean ====
section
/-! DEFINITION. The digest and the signature of images and keys (spec/00_scope R3, 15_management R426, 17_update R449): SHA-384 and the
verification of ECDSA over P-384, as FIPS 180-4, FIPS 186-5 and SP 800-186 define them. PRESUMED, log 41: the spec names the algorithms only. -/

namespace Sys2Proof.Machine

/-! ## SHA-384 -/

/-- The whole k-th root of n, found from bit i - 1 down on top of a. -/
def rootOf (k n : Nat) : Nat → Nat → Nat
  | 0, a => a
  | i + 1, a => rootOf k n i (if (a + 2 ^ i) ^ k ≤ n then a + 2 ^ i else a)

/-- The first 80 primes. -/
def primes80 : List Nat := (List.range 410).filter fun p => 2 ≤ p && (List.range p).all fun d => d < 2 || p % d != 0

/-- The constants of the rounds: 64 bits of the fractions of the cube roots of the first 80 primes. -/
def shaK : List Dword := primes80.map fun p => BitVec.ofNat 64 (rootOf 3 (p * 2 ^ 192) 68 0)

/-- The eight working words. -/
structure Sha where
  a : Dword
  b : Dword
  c : Dword
  d : Dword
  e : Dword
  f : Dword
  g : Dword
  h : Dword
  deriving DecidableEq, Repr

/-- The words at the start: the fractions of the square roots of the ninth to the sixteenth prime. -/
def shaStart : Sha :=
  let r := fun (p : Nat) => BitVec.ofNat 64 (rootOf 2 (p * 2 ^ 128) 68 0)
  { a := r 23, b := r 29, c := r 31, d := r 37, e := r 41, f := r 43, g := r 47, h := r 53 }

/-- The message schedule, newest word first, n words longer. -/
def shaMore : Nat → List Dword → List Dword
  | 0, w => w
  | n + 1, w =>
    let x := w.getD 14 0
    let y := w.getD 1 0
    let s0 := x.rotateRight 1 ^^^ x.rotateRight 8 ^^^ x >>> 7
    let s1 := y.rotateRight 19 ^^^ y.rotateRight 61 ^^^ y >>> 6
    shaMore n ((s1 + w.getD 6 0 + s0 + w.getD 15 0) :: w)

/-- One round with its constant and its word. -/
def Sha.round (s : Sha) (kw : Dword × Dword) : Sha :=
  let t1 := s.h + (s.e.rotateRight 14 ^^^ s.e.rotateRight 18 ^^^ s.e.rotateRight 41) + ((s.e &&& s.f) ^^^ (~~~s.e &&& s.g)) + kw.1 + kw.2
  let t2 := (s.a.rotateRight 28 ^^^ s.a.rotateRight 34 ^^^ s.a.rotateRight 39) + ((s.a &&& s.b) ^^^ (s.a &&& s.c) ^^^ (s.b &&& s.c))
  { a := t1 + t2, b := s.a, c := s.b, d := s.c, e := s.d + t1, f := s.e, g := s.f, h := s.g }

/-- One block of 128 bytes. -/
def Sha.block (s : Sha) (bs : List Byte) : Sha :=
  let w := (List.range 16).map fun i => BitVec.ofNat 64 (beNat (sliceAt bs (8 * i) 8))
  let t := ((shaK.zip (shaMore 64 w.reverse).reverse).foldl Sha.round s)
  { a := s.a + t.a, b := s.b + t.b, c := s.c + t.c, d := s.d + t.d, e := s.e + t.e, f := s.f + t.f, g := s.g + t.g, h := s.h + t.h }

/-- So many blocks. -/
def Sha.blocks : Nat → Sha → List Byte → Sha
  | 0, s, _ => s
  | n + 1, s, bs => Sha.blocks n (s.block (bs.take 128)) (bs.drop 128)

/-- A message padded to whole blocks: a one bit, zeros, its length in bits. -/
def shaPad (bs : List Byte) : List Byte :=
  bs ++ 0x80#8 :: (List.replicate ((239 - bs.length % 128) % 128) 0 ++ beBytes (8 * bs.length) 16)

/-- SHA-384 of bytes. -/
def sha384 (bs : List Byte) : BitVec 384 :=
  let s := Sha.blocks ((shaPad bs).length / 128) shaStart (shaPad bs)
  BitVec.ofNat 384 ([s.a, s.b, s.c, s.d, s.e, s.f].foldl (fun n w => n * 2 ^ 64 + w.toNat) 0)

/-! ## ECDSA over P-384 -/

/-- The field, the order and the curve's constant b. -/
def p384 : Nat := 2 ^ 384 - 2 ^ 128 - 2 ^ 96 + 2 ^ 32 - 1
def n384 : Nat := 0xffffffffffffffffffffffffffffffffffffffffffffffffc7634d81f4372ddf581a0db248b0a77aecec196accc52973
def b384 : Nat := 0xb3312fa7e23ee7e4988e056be3f82d19181d9c6efe8141120314088f5013875ac656398d8a2ed19d2a85c8edd3ec2aef

/-- A point of the curve; none is the point at infinity. -/
abbrev Point := Option (Nat × Nat)

/-- The base point. -/
def g384 : Point :=
  some (0xaa87ca22be8b05378eb1c71ef320ad746e1d3b628ba79b9859f741e082542a385502f25dbf55296c3a545e3872760ab7,
    0x3617de4a96262c6f5d9e98bf9292dc29f8f41dbd289a147ce9da3113b5f0b8c00a60b1ce1d7e819d7a431d7c90ea0e5f)

/-- A power modulo m, of so many bits of the exponent. -/
def powMod (m : Nat) : Nat → Nat → Nat → Nat
  | 0, _, _ => 1
  | i + 1, x, e => (if e % 2 = 1 then x else 1) * powMod m i (x * x % m) (e / 2) % m

/-- The inverse modulo a prime of 384 bits. -/
def invMod (m x : Nat) : Nat := powMod m 384 (x % m) (m - 2)

/-- The sum of two points. -/
def Point.add (u v : Point) : Point :=
  match u, v with
  | none, _ => v
  | _, none => u
  | some (x1, y1), some (x2, y2) =>
    let p := p384
    let third := fun (l : Nat) =>
      let x3 := (l * l + 2 * p - x1 - x2) % p
      some (x3, (l * (x1 + p - x3) + p - y1) % p)
    if x1 = x2 then
      if (y1 + y2) % p = 0 then none
      else third (3 * (x1 * x1 + p - 1) * invMod p (2 * y1) % p)
    else third ((y2 + p - y1) * invMod p (x2 + p - x1) % p)

/-- A multiple of a point, of so many bits of the factor. -/
def Point.mul : Nat → Nat → Point → Point
  | 0, _, _ => none
  | i + 1, k, u => Point.add (if k % 2 = 1 then u else none) (Point.mul i (k / 2) (u.add u))

/-- A point lies on the curve. -/
def onCurve (x y : Nat) : Bool := x < p384 && y < p384 && y * y % p384 == (x * x * x + (p384 - 3) * x + b384) % p384

/-- A signature (r, s) of a digest by the key QX, QY verifies; numbers stand as octet strings, most significant byte first. -/
def ecdsaOk (key : List Byte) (digest : BitVec 384) (sig : List Byte) : Bool :=
  let qx := beNat (sliceAt key 0 48)
  let qy := beNat (sliceAt key 48 48)
  let r := beNat (sliceAt sig 0 48)
  let s := beNat (sliceAt sig 48 48)
  let w := invMod n384 s
  let at' := (Point.mul 384 (digest.toNat * w % n384) g384).add (Point.mul 384 (r * w % n384) (some (qx, qy)))
  onCurve qx qy && 1 ≤ r && r < n384 && 1 ≤ s && s < n384
    && (match at' with
      | some (x, _) => x % n384 == r
      | none => false)

end Sys2Proof.Machine
end

