-- ==== Sys2Proof/Machine/Pmu.lean ====
section
/-! DEFINITION. Performance counters, packet sampling and instruction traces as they are read (spec/20_counters_sampling). -/

namespace Sys2Proof.Machine

/-- The instances of an event of a unit, as a bound and a first number; none where the unit has no such event (R505, R507, R508). -/
def pmuInst (unit ev : Nat) : Option (Nat × Nat) :=
  match unit, ev with
  | 0x00, 1 | 0x00, 2 => some (0, 45)
  | 0x01, 0x40 => some (0, 1)
  | 0x01, 0x41 => some (1, 10)
  | 0x02, 0x41 => some (0, 3)
  | 0x02, 0x43 => some (0, 8)
  | 0x02, 0x44 => some (0, 7)
  | 0x02, 0x40 | 0x02, 0x42 | 0x02, 0x45 => some (0, 1)
  | 0x03, 0x40 | 0x03, 0x41 => some (0, 2)
  | 0x03, 0x42 | 0x03, 0x43 | 0x03, 0x44 => some (0, 1)
  | 0x05, 0x40 | 0x05, 0x41 | 0x05, 0x42 => some (0, 1)
  | 0x05, 0x43 => some (0, 32)
  | 0x06, 1 | 0x06, 2 | 0x06, 0x40 | 0x06, 0x42 => some (0, 64)
  | 0x06, 0x41 => some (0, 512)
  | 0x09, 0x40 => some (0, 4096)
  | 0x09, 0x41 => some (16, 32)
  | 0x09, 0x42 | 0x09, 0x43 => some (0, 256)
  | 0x10, e => if 1 ≤ e && e ≤ 9 then some (0, 192) else none
  | 0x20, e => if 1 ≤ e && e ≤ 10 then some (0, 16) else none
  | 0x30, 0x40 => some (0, 4096)
  | 0x30, 0x45 => some (0, 512)
  | 0x30, e => if (1 ≤ e && e ≤ 6) || (0x41 ≤ e && e ≤ 0x44) then some (0, 16) else none
  | 0x50, 0x40 | 0x50, 0x41 => some (0, 16)
  | 0x50, 0x42 => some (0, 64)
  | 0x90, 0x40 | 0x90, 0x41 | 0x90, 0x42 => some (1, 16)
  | 0xA0, 0x40 | 0xA0, 0x41 | 0xA0, 0x42 => some (0, 1)
  | 0xA0, 0x43 => some (1, 9)
  | 0xB0, e => if 1 ≤ e && e ≤ 0xB then some (0, 64) else none
  | 0xD0, 0x40 => some (0, 194)
  | 0xD0, 0x41 | 0xD0, 0x42 => some (0, 16)
  | 0xD0, 0x43 => some (0, 1)
  | 0xE0, 0x40 | 0xE0, 0x41 => some (0, 128)
  | 0xE0, 0x42 => some (1, 8)
  | 0xE0, 0x43 | 0xE0, 0x44 => some (0, 64)
  | 0xE0, 0x45 => some (0, 1024)
  | 0xE0, 0x46 | 0xE0, 0x47 => some (0, 1)
  | 0xF0, e => if 0x40 ≤ e && e ≤ 0x46 then some (0, 128) else none
  | _, _ => none

/-- The module implements a counter (R505); crossing requesters are 0 to 17 and 32 to 44. -/
def pmuKnown (id : Nat) : Bool :=
  let i := id % 4096
  match pmuInst (id / 2 ^ 20 % 256) (id / 4096 % 256) with
  | some (lo, hi) => decide (lo ≤ i) && decide (i < hi) && !(id / 2 ^ 20 % 256 == 0 && decide (18 ≤ i) && decide (i < 32))
  | none => false

/-- A counter on the TM (R505): the units of the TM and the DRAM channels of its half. -/
def pmuTm (id : Nat) : Bool :=
  let u := id / 2 ^ 20 % 256
  u == 0xB0 || u == 0xC0 || u == 0xD0 || u == 0xE0 || (u == 0xF0 && decide (64 ≤ id % 4096)) || (u == 0 && decide (32 ≤ id % 4096))

/-- The TM is powered down, as in minimal and recovery mode (R442, R444). -/
def State.tmOff (s : State) : Bool := 2 ≤ s.mssMode

/-- A counter window's answer: RES and the two counters (R503, R505). -/
def State.pmuWin (s : State) (w res v : Nat) : State :=
  let a := 0x501000 + w * 0x100
  ((s.setReg (a + 4) (res * 2 ^ 28)).setReg64 (a + 8) (v % 2 ^ 48)).setReg64 (a + 16) (v / 2 ^ 48 % 2 ^ 48)

/-- A read through a counter window of live or of snapshot values; the other requester's is ignored (R505, R506). -/
def State.pmuRead (s : State) (r : Requester) (w : Fin 2) (t : Tab Nat) : State :=
  if requesterNo r ≠ w.val then s.raise 0x500000 0
  else
    let id := s.fld (0x501000 + w.val * 0x100) 27 0
    if !pmuKnown id then s.pmuWin w 1 0
    else if pmuTm id && s.tmOff then s.pmuWin w 2 0
    else s.pmuWin w 0 (Tab.get 0 t id)

/-- LIVE_VALUE_READ (R505). -/
def execLiveValueRead (r : Requester) (w : Fin 2) (s : State) : Host.Outcome State Fault Refusal := .next (s.pmuRead r w s.pmu.cnt)

/-- SNAPSHOT_VALUE_READ (R506). -/
def execSnapshotValueRead (r : Requester) (w : Fin 2) (s : State) : Host.Outcome State Fault Refusal := .next (s.pmuRead r w s.pmu.snap)

/-- Every counter takes the events of the beat that ended (R503, R504). -/
def State.pmuBoundary (s : State) : State :=
  let cnt := s.pmu.now.foldl (fun t e => Tab.set 0 t e.1 ((Tab.get 0 t e.1 + e.2) % 2 ^ 96)) s.pmu.cnt
  { s with pmu := { s.pmu with cnt := cnt, now := [], tags := 0 } }

/-! ## Sample records (R512) -/

/-- The requester that OWNER names: bit 30 or 31 of a configuration register, 0 firmware, 1 the host. -/
def State.owns (s : State) (r : Requester) (a i : Nat) : Bool := (r == .host) == s.flag a i

/-- SMP_REC0_READ: the oldest record is latched (R512). -/
def execSmpRec0Read (r : Requester) (s : State) : Host.Outcome State Fault Refusal :=
  if s.owns r 0x500100 30 then
    let o := s.pmu.queue.head?
    .next ({ s with pmu := { s.pmu with latched := o } }.answer r 0x500200 (recWord o 0))
  else .next ((s.raise 0x500000 3).done r 0x500200)

/-- A sample record delivered to firmware joins its flow (R413): packets and octets, its first and its last second. -/
def State.flowSample (s : State) (rec' : List Byte) : State :=
  let k := Config.flowKey rec'
  let n := bits (leNat (rec'.take 8)) 45 32
  match s.mss.flows.find? fun f => f.key == k with
  | some _ =>
    let fs := s.mss.flows.map fun f => if f.key == k then { f with pkts := f.pkts + 1, octets := f.octets + n, last := s.bus.ticks } else f
    { s with mss := { s.mss with flows := fs } }
  | none =>
    if 1048576 ≤ s.mss.flows.length then s
    else { s with mss := { s.mss with flows := s.mss.flows ++ [{ key := k, pkts := 1, octets := n, first := s.bus.ticks, last := s.bus.ticks }] } }

/-- SMP_REC31_READ: the latched record leaves the queue; firmware takes it into its flow cache (R413, R512). -/
def execSmpRec31Read (r : Requester) (s : State) : Host.Outcome State Fault Refusal :=
  if s.owns r 0x500100 30 then
    let o := s.pmu.latched
    let s := match r, o with
      | .mss, some x => s.flowSample x
      | _, _ => s
    .next ({ s with pmu := { s.pmu with latched := none, queue := if o.isSome then s.pmu.queue.drop 1 else s.pmu.queue } }.answer r 0x50027C
      (recWord o 31))
  else .next ((s.raise 0x500000 3).done r 0x50027C)

/-! ## Traces (R515, R516) -/

/-- TRACE_ENABLE: a write of PMU_TRC_CTL (R515). -/
def execTraceEnable (l : Fin 16) (k : Fin 2) (v : Word) (s : State) : Host.Outcome State Fault Refusal :=
  let a := trcBase l k
  let s := s.setReg a (v.toNat &&& 0xC0FF0100)
  if bitOf v.toNat 31 then
    let s := (s.setReg (a + 8) 0).setTrace l k []
    .next (s.setFlag (a + 8) 14 (!s.flag (a + 4) 15))
  else .next (s.endTrace l k 4)

/-- TRACE_READ: a write of PMU_TRC_IDX (R516). -/
def execTraceRead (l : Fin 16) (k : Fin 2) (n : BitVec 12) (s : State) : Host.Outcome State Fault Refusal :=
  let a := trcBase l k
  let s := s.setReg (a + 0xC) n.toNat
  match s.flag (a + 8) 14, (s.trace l k)[n.toNat]? with
  | false, some (w0, w1, w2) => .next (((s.setReg64 (a + 0x10) w0.toNat).setReg64 (a + 0x18) w1.toNat).setReg64 (a + 0x20) w2.toNat)
  | _, _ => .next ((((s.setReg64 (a + 0x10) 0).setReg64 (a + 0x18) 0).setReg64 (a + 0x20) 0).raise 0x500000 4)

end Sys2Proof.Machine
end

