-- ==== Sys2Proof/Machine/Mss.lean ====
section
/-! DEFINITION. Mailbox commands of the management subsystem: how they are taken and answered, and those of routes, identity, sensors,
the log and the supervisors (spec/15_management). -/

namespace Sys2Proof.Machine

/-! ## Taking and answering (R408 to R411) -/

/-- Commands of the catalogue (R412, R454). -/
def opcodeKnown (op : Nat) : Bool :=
  [0x01, 0x02, 0x10, 0x11, 0x20, 0x21, 0x22, 0x30, 0x31, 0x32, 0x40, 0x41, 0x50, 0x51, 0x60, 0x61, 0x70, 0x80, 0x81, 0x90, 0xA0, 0xA1, 0xA2,
   0xA3, 0xA4, 0xA5, 0xB0, 0xC0, 0x100, 0x101, 0x102, 0x103, 0x104, 0x105, 0x106].contains op

/-- Commands served in minimal mode (R412); recovery mode serves them without the sensor commands (R444, R458). -/
def opcodeMinimal (recovery : Bool) (op : Nat) : Bool :=
  [0x01, 0x02, 0x90, 0xA0, 0xA1, 0xA2, 0xA3, 0xA4, 0xA5].contains op || decide (0x100 ≤ op) || (!recovery && (op == 0x80 || op == 0x81))

/-- The service of a command (R410). -/
def opService (op : Nat) : Nat := if 0x100 ≤ op then 0x100 else op / 16

/-- The STATUS with which a header is turned away (R411, R412). -/
def State.headStatus (s : State) (c0 : Nat) : Option Nat :=
  let op := bits c0 15 0
  if bits c0 23 16 ≠ 1 then some 2
  else if !opcodeKnown op then some 1
  else if 2 ≤ s.mssMode && !opcodeMinimal (s.mssMode == 3) op then some 8
  else if 4194304 < bits c0 63 32 then some 3
  else none

/-- COMMAND_TAKE: the next full command mailbox; its header and payload as read from host memory, or a read that fails (R408 to R410). -/
def execCommandTake (ok : Bool) (c0 c3 : Dword) (payload : List Byte) (s : State) : Host.Outcome State Fault Refusal :=
  if s.mssMode = 0 then .next s
  else match (rotOrder (s.mss.turn + 1) 16).find? fun m => s.flag (mbx m 0xC) 0 with
    | none => .next s
    | some m =>
      let ptr := s.reg (mbx m 0x10) + s.reg (mbx m 0x14) * 2 ^ 32
      let dead := !ok || ptr % 64 ≠ 0
      let op := bits c0.toNat 15 0
      let len := bits c0.toNat 63 32
      let c : MssCmd :=
        { mb := m, ptr := if dead then 0 else ptr, tag := s.reg (mbx m 0x18), op := op, len := len, cap := bits c3.toNat 31 0,
          payload := sliceAt payload 0 (min len payload.length), dead := dead,
          ans := if dead then some (0, []) else (s.headStatus c0.toNat).map fun st => (st, []) }
      let s := if dead then s.mbxPop m else (s.mbxPop m).count 0x09 0x40 op 1
      .next (({ s with mss := { s.mss with turn := m, taken := s.mss.taken ++ [c] } } : State).writtenAny 14)

/-- ANSWER_POST: the answer of the oldest command of a mailbox, once it is executed and the answer mailbox is empty; ok says that C1 could
be written (R409, R410). -/
def execAnswerPost (m : Fin 16) (ok : Bool) (s : State) : Host.Outcome State Fault Refusal :=
  match findIdx? (fun (c : MssCmd) => c.mb == m.val) s.mss.taken with
  | none => .next s
  | some i =>
    match s.mss.taken[i]? with
    | none => .next s
    | some c =>
      match c.ans with
      | none => .next s
      | some (st, bs) =>
        let a := 16 + m.val
        if s.mssMode = 0 || s.flag (mbx a 0xC) 0 || (!c.dead && ok && !s.busMaster) then .next s
        else
          let lost := c.dead || !ok
          let s : State := { s with mss := { s.mss with taken := dropAt s.mss.taken i } }
          let s := if lost || bs = [] then s else s.dmaWrite false (c.ptr + 32) bs
          let s := if lost then s else s.dmaWrite false (c.ptr + 8) (leBytes (st + bs.length * 2 ^ 32) 8)
          let p := if lost then 0 else c.ptr
          .next (((s.mbxPut a (p % 2 ^ 32) (p / 2 ^ 32) c.tag).count 0x09 0x41 a 1).irq)

/-- The command that a service executes next: its oldest one that is not executed (R410). -/
def State.nextCmd (s : State) (op : Nat) : Option (Nat × MssCmd) :=
  match findIdx? (fun (c : MssCmd) => c.ans == none && opService c.op == opService op) s.mss.taken with
  | none => none
  | some i =>
    match s.mss.taken[i]? with
    | some c => if c.op = op then some (i, c) else none
    | none => none

/-- A command's outcome kept until it is answered. -/
def State.setAns (s : State) (i : Nat) (c : MssCmd) (st : Nat) (bs : List Byte) : State :=
  { s with mss := { s.mss with taken := setAt s.mss.taken i { c with ans := some (st, bs) } } }

/-- What carrying out a command gives: the state, the STATUS and the answer bytes; none while it must wait. -/
abbrev CmdResult := Option (State × Nat × List Byte)

/-- A refusal that does nothing. -/
def State.no (s : State) (st : Nat) : CmdResult := some (s, st, [])

/-- A command of an opcode executed; an answer for which CAP is too small does nothing (R410, R411). -/
def State.command (s : State) (op : Nat) (f : List Byte → CmdResult) : State :=
  match s.nextCmd op with
  | none => s
  | some (i, c) =>
    match f c.payload with
    | none => s
    | some (s', st, bs) => if c.cap < bs.length then s.setAns i c 3 [] else s'.setAns i c st bs

/-- Payload word i (R412). -/
def word64 (p : List Byte) (i : Nat) : Nat := leNat (sliceAt p (8 * i) 8)

/-- A payload of the length that the command wants, else BAD_LEN (R411). -/
def State.len (s : State) (p : List Byte) (n : Nat) (k : CmdResult) : CmdResult := if p.length = n then k else s.no 3

/-- A parameter check, else BAD_PARAM (R411). -/
def State.param (s : State) (ok : Bool) (k : CmdResult) : CmdResult := if ok then k else s.no 4

/-! ## General commands, routes (R412) -/

/-- GET_INFO (R412). -/
def execGetInfo (s : State) : Host.Outcome State Fault Refusal :=
  .next (s.command 0x01 fun p => s.len p 0 <|
    let rec' := s.mssMode == 3
    let w0 := if rec' then Config.romVersion.toNat + 2 ^ 63 else s.reg64 0x801010
    let w1 := (if rec' then 0 else s.fld 0x701000 31 16) + (s.mssMode - 1) * 2 ^ 16
    some (s, 0, leBytes w0 8 ++ leBytes w1 8 ++ leBytes (s.reg 0x800004) 8))

/-- ECHO (R412). -/
def execEcho (s : State) : Host.Outcome State Fault Refusal := .next (s.command 0x02 fun p => some (s, 0, p))

/-- 64-bit words of a list of bytes. -/
def words64 (p : List Byte) (i : Nat) : Nat → List Nat
  | 0 => []
  | n + 1 => word64 p i :: words64 p (i + 1) n

/-- ROUTE_DELTA: a batch for the route-install agent; the answer is its result area (R211 to R214, R412). -/
def execRouteDelta (s : State) : Host.Outcome State Fault Refusal :=
  .next (s.command 0x10 fun p =>
    let n := p.length / 32 - 2
    if p.length < 64 || p.length % 32 ≠ 0 then s.no 3
    else
      let (t, r) := s.routeDelta (words64 p 0 4) ((List.range n).map fun i => words64 p (4 + 4 * i) 4)
      some (t, 0, (r.flatMap fun w => leBytes w 8) ++ leBytes 0 8))

/-- Prefixes of a family in SRAM and in DRAM. -/
def fibCounts (v6 : Bool) (ps : List Prefix) : Nat :=
  let d := (ps.filter (leafInDram ps v6)).length
  (ps.length - d) + d * 2 ^ 32

/-- ROUTE_STAT (R412). -/
def execRouteStat (s : State) : Host.Outcome State Fault Refusal :=
  .next (s.command 0x11 fun p => s.len p 0 <|
    some (s, 0, [s.tbl.lastSeq, s.tbl.lastPub, fibCounts false s.tbl.fib4.cur, fibCounts true s.tbl.fib6.cur].flatMap fun w => leBytes w 8))

/-- SHADOW_COMPARE: firmware compares a word of a routed table with its shadow, words of the lookup extension above those of lookup SRAM; found
is what it reads. A mismatch is rewritten through the overlay as it has room (R219, R223). -/
def execShadowCompare (word : BitVec 28) (found : BitVec 512) (s : State) : Host.Outcome State Fault Refusal :=
  let w := word.toNat
  match s.wordTable w with
  | none => .next s
  | some n =>
    if s.tdBridged n || s.mssMode ≠ 1 || found = s.shadowWord w then .next s
    else .next ((((s.raise lkpStat 4).report 0x50 3 1 n w).logEvent (Config.eventSev 15).toNat 0x50 0x0601 n w).askRewrite w)

/-! ## Sensors (R418, R419) -/

def State.sensor (s : State) (n : Nat) : Sensor := Tab.get {} s.mss.sensor n
def State.setSensor (s : State) (n : Nat) (x : Sensor) : State := { s with mss := { s.mss with sensor := Tab.set {} s.mss.sensor n x } }

/-- A monitored rail's nominal in mV: a set value for the core rails (R538). -/
def State.railMv (s : State) (i : Nat) : Nat :=
  if i = 2 then s.fld 0x58 15 0 else if i = 3 then s.fld 0x5C 15 0
  else [800, 1800, 0, 0, 850, 800, 1200, 800, 1200, 1800, 1050, 750].getD i 0

/-- What is held against the thresholds: the value, or for a supply monitor its deviation from nominal (R418, R419). -/
def State.sensorLevel (s : State) (n : Nat) (v : Int) : Int :=
  if 64 ≤ n && n < 88 then Int.ofNat (v - Int.ofNat (s.railMv ((n - 64) / 2))).natAbs
  else if 88 ≤ n && n < 100 then Int.ofNat (v - Int.ofNat (Config.nominalCurrent n)).natAbs
  else v

/-- WARN and CRIT of a sensor in hundredths of its unit (R418, R419). -/
def State.sensorThr (s : State) (n : Nat) : Int × Int :=
  let x := s.sensor n
  let d : Int × Int :=
    if n < 64 then (if 40 ≤ n && n < 48 then (144000, 152000) else (160000, 168000))
    else if n < 88 then (3 * Int.ofNat (s.railMv ((n - 64) / 2)), 5 * Int.ofNat (s.railMv ((n - 64) / 2)))
    else (Int.ofNat (Config.sensorThr n).1, Int.ofNat (Config.sensorThr n).2)
  (match x.warn with
    | some w => w * 100
    | none => d.1, match x.crit with
    | some c => c * 100
    | none => d.2)

/-- The hysteresis of a threshold in hundredths: 2 degrees, or 1 % (R419). -/
def sensorHyst (n : Nat) (thr : Int) : Int := if n < 64 then 3200 else thr / 100

/-- One sample of a sensor: its value, its maximum, and its ALARM as it rises or falls (R418, R419). -/
def State.sampleSensor (s : State) (n : Nat) (v : Int) : State :=
  let x := s.sensor n
  let l := s.sensorLevel n v * 100
  let (w, c) := s.sensorThr n
  let bw := if l < w - sensorHyst n w then x.belowWarn + 1 else 0
  let bc := if l < c - sensorHyst n c then x.belowCrit + 1 else 0
  let up := if c ≤ l then 2 else if w ≤ l then 1 else 0
  let alarm :=
    if x.alarm < up then up
    else if x.alarm = 2 && 100 ≤ bc then (if 100 ≤ bw then 0 else 1)
    else if x.alarm = 1 && 100 ≤ bw then 0
    else x.alarm
  let mx := match x.max with
    | some m => max m v
    | none => v
  let y : Sensor := { x with value := v, alarm := alarm, max := some mx, belowWarn := min bw 100, belowCrit := min bc 100 }
  let s := s.setSensor n y
  let arg := (BitVec.ofInt 64 v).toNat
  let s := if x.alarm < alarm then s.logEvent (Config.eventSev 10).toNat 0x09 0x0401 n arg
    else if alarm < x.alarm then s.logEvent (Config.eventSev 11).toNat 0x09 0x0402 n arg
    else s
  if alarm = 2 && x.alarm < 2 then s.report 0x09 3 2 n arg else s

/-- The sensor of the greatest value among some. -/
def State.hottest (s : State) (ns : List Nat) : Nat :=
  ns.foldl (fun b n => if (s.sensor b).value < (s.sensor n).value then n else b) (ns.headD 0)

/-- SENSOR_SAMPLE: every sensor, every 10 ms, on the housekeeping core; firmware that runs raises MBX_FW_BEAT (R418, R419, R532). -/
def execSensorSample (vs : List Word) (s : State) : Host.Outcome State Fault Refusal :=
  let s := (vs.take 134).zipIdx.foldl (fun s v => s.sampleSensor v.2 v.1.toInt) s
  let hot := s.hottest (List.range 40)
  let s := s.setReg 0x900004 (hot * 2 ^ 16 + (BitVec.ofInt 16 (s.sensor hot).value).toNat)
  let top := ((List.range 134).map fun n => (s.sensor n).alarm).foldl max 0
  let s := (s.setFlag 0x900000 4 (top == 2)).setFlag 0x900000 3 (decide (1 ≤ top))
  let low := ((List.range 34).map (100 + ·)).foldl (fun b n => if (s.sensor n).value < (s.sensor b).value then n else b) 100
  let s := if s.flag 0x701000 0 then s.setReg 0x701004 ((s.reg 0x701004 + 1) % 2 ^ 32) else s
  .next ((s.setFld 0x4000A4 31 24 (low - 100)).setFld 0x4000A4 23 16 ((s.sensor low).value.toNat)).irq

/-- SENSOR_READ (R412, R418). -/
def execSensorRead (s : State) : Host.Outcome State Fault Refusal :=
  .next (s.command 0x80 fun p => s.len p 8 <|
    let w := word64 p 0
    let first := bits w 7 0
    let n := bits w 15 8
    s.param (decide (1 ≤ n) && decide (first + n ≤ 134)) <|
    some (s, 0, (List.range n).flatMap fun i =>
      let x := s.sensor (first + i)
      leBytes ((BitVec.ofInt 32 x.value).toNat + (Config.sensorKind (first + i)).toNat * 2 ^ 32 + x.alarm * 2 ^ 36
        + (BitVec.ofInt 24 (x.max.getD 0)).toNat * 2 ^ 40) 8))

/-- SENSOR_THR (R412, R419). -/
def execSensorThr (s : State) : Host.Outcome State Fault Refusal :=
  .next (s.command 0x81 fun p => s.len p 8 <|
    let w := word64 p 0
    let n := bits w 7 0
    let warn := signed16 (bits w 31 16)
    let crit := signed16 (bits w 47 32)
    let warn := if n < 64 then min warn 1600 else warn
    let crit := if n < 64 then min crit 1680 else crit
    s.param (decide (n < 134) && decide (warn < crit)) <|
    some (s.setSensor n { (s.sensor n) with warn := some warn, crit := some crit }, 0, []))

/-! ## The event log (R422) -/

/-- Records of a log from a sequence number on, and whether it no longer holds that number. -/
def logFrom (l : List (List Byte)) (from' : Nat) : List (List Byte) × Bool :=
  let ahead := fun (r : List Byte) => aheadBy (leNat (r.take 4)) from'
  (l.filter fun r => decide (0 ≤ ahead r), match l with
    | r :: _ => decide (0 < ahead r)
    | [] => false)

/-- LOG_READ (R412, R422). -/
def execLogRead (s : State) : Host.Outcome State Fault Refusal :=
  .next (s.command 0x90 fun p => s.len p 8 <|
    let w := word64 p 0
    let n := bits w 47 32
    let src := bits w 49 48
    s.param (decide (1 ≤ n) && decide (n ≤ 2048) && src != 3) <|
    let (rs, gap) := logFrom (if src = 0 then s.mss.ring else if src = 1 then s.mss.retained else s.boot.flashLog) (bits w 31 0)
    let rs := rs.take n
    some (s, 0, leBytes (rs.length + b2n gap * 2 ^ 16) 8 ++ rs.flatMap id))

/-! ## The identity EEPROM (R423 to R427) -/

/-- A byte of the EEPROM outside the factory area. -/
def State.eep (s : State) (a : Nat) : Byte := Tab.get 0xFF s.mss.eeprom a
def State.eeps (s : State) (a n : Nat) : List Byte := (List.range n).map fun i => s.eep (a + i)
def State.setEeps (s : State) (a : Nat) (bs : List Byte) : State := { s with mss := { s.mss with eeprom := Tab.setList 0xFF s.mss.eeprom a bs } }

/-- A byte of the factory area (R424). -/
def factoryByte (i : Nat) : Byte :=
  if i < 6 then ([0x49, 0x44, 0x01, 0x01, 0x96, 0x56] : List Byte).getD i 0
  else if i < 12 then BitVec.ofNat 8 (Config.serial.toNat / 2 ^ (8 * (i - 6)))
  else if (512 ≤ i && i < 4092) then 0xFF
  else Config.factory i

/-- ID_READ (R412, R424). -/
def execIdRead (s : State) : Host.Outcome State Fault Refusal :=
  .next (s.command 0xA0 fun p => s.len p 0 <| some (s, 0, (List.range 4096).map factoryByte))

/-- OFF and COUNT of a tag command are in range (R412). -/
def tagOk (w : Nat) : Bool := decide (1 ≤ bits w 22 12) && decide (bits w 22 12 ≤ 2048) && decide (bits w 10 0 + bits w 22 12 ≤ 2048)

/-- TAG_READ (R412). -/
def execTagRead (s : State) : Host.Outcome State Fault Refusal :=
  .next (s.command 0xA1 fun p => s.len p 8 <|
    let w := word64 p 0
    s.param (tagOk w) <| some (s, 0, s.eeps (0x1000 + bits w 10 0) (bits w 22 12)))

/-- TAG_WRITE (R412, R425). -/
def execTagWrite (s : State) : Host.Outcome State Fault Refusal :=
  .next (s.command 0xA2 fun p =>
    let w := word64 p 0
    if p.length < 8 || (tagOk w && p.length ≠ 8 + bits w 22 12) then s.no 3
    else s.param (tagOk w) <| some (s.setEeps (0x1000 + bits w 10 0) (p.drop 8), 0, []))

def keySlot (k : Nat) : Nat := 0x1800 + k * 256

/-- A slot is enrolled (R426). -/
def State.keyEnrolled (s : State) (k : Nat) : Bool := s.eep (keySlot k) == 0x5A#8

/-- The public key of a slot (R426). -/
def State.keyOf (s : State) (k : Nat) : List Byte := s.eeps (keySlot k + 16) 96

/-- A slot's CRC made anew (R426). -/
def State.keyCrc (s : State) (k : Nat) : State := s.setEeps (keySlot k + 112) (leBytes (crcIeee (s.eeps (keySlot k) 112)) 4)

/-- KEY_ENROL (R426, R427). -/
def execKeyEnrol (s : State) : Host.Outcome State Fault Refusal :=
  .next (s.command 0xA3 fun p => s.len p 208 <|
    let k := byteAt p 0
    let signer := byteAt p 2
    let none' := (List.range 4).all fun i => !s.keyEnrolled i
    s.param (decide (k < 4)) <|
    let ok := s.eep (keySlot k) == 0xFF#8 &&
      ((none' && signer == 255) || (decide (signer < 4) && s.keyEnrolled signer &&
        ecdsaOk (s.keyOf signer) (sha384 (p.take 112)) (sliceAt p 112 96)))
    if ok then
      let t := (s.setEeps (keySlot k) [0x5A, BitVec.ofNat 8 (byteAt p 1)]).setEeps (keySlot k + 8) (sliceAt p 8 104)
      some (t.keyCrc k, 0, [])
    else s.no 8)

/-- KEY_REVOKE (R412, R427). -/
def execKeyRevoke (s : State) : Host.Outcome State Fault Refusal :=
  .next (s.command 0xA4 fun p => s.len p 104 <|
    let k := bits (word64 p 0) 1 0
    if s.eep (keySlot k) = 0xFF#8 then s.no 6
    else if s.keyEnrolled k && (List.range 4).any fun i => s.keyEnrolled i && ecdsaOk (s.keyOf i) (sha384 (p.take 8)) (sliceAt p 8 96) then
      some ((s.setEeps (keySlot k) [0]).keyCrc k, 0, [])
    else s.no 8)

/-- KEY_LIST (R412). -/
def execKeyList (s : State) : Host.Outcome State Fault Refusal :=
  .next (s.command 0xA5 fun p => s.len p 0 <| some (s, 0, s.eeps 0x1800 1024))

/-! ## Learned addresses and supervisors (R412, R417) -/

/-- EVPN_READ (R412). -/
def execEvpnRead (s : State) : Host.Outcome State Fault Refusal :=
  .next (s.command 0xB0 fun p => s.len p 8 <|
    let w := word64 p 0
    let n := bits w 37 24
    s.param (decide (1 ≤ n) && decide (n ≤ 8192)) <|
    some (s, 0, ((s.mss.evpn.drop (bits w 21 0)).take n).flatMap fun e => leBytes e.1 8 ++ leBytes (e.2.getD 0) 8))

/-- SUP_SEND: a message to ch3 of a logical avenue's supervisor, once it has room; late says that 1 ms has passed (R412, R417). -/
def execSupSend (late : Bool) (s : State) : Host.Outcome State Fault Refusal :=
  .next (s.command 0xC0 fun p =>
    let w := word64 p 0
    let n := bits w 9 8 + 1
    if p.length ≠ 8 + 8 * n then s.no 3
    else match s.servingAve (bits w 3 0) with
      | some q =>
        if s.chanRoom q supEngine 3 then
          some (s.putMsg q supEngine 3 ((words64 p 1 n).map (BitVec.ofNat 64)), 0, [])
        else if late then some (s.logOpen 2 0x09, 9, []) else none
      | none => if late then some (s.logOpen 2 0x09, 9, []) else none)

end Sys2Proof.Machine
end

