-- ==== Sys2Proof/Machine/Beat.lean ====
section
/-! DEFINITION. The core clock and the beat boundary: the hand-offs, the changes that apply and what falls due (spec/02_beat R29 to R31,
and the chapters of the units), and firmware's work with spares (spec/21_errors R531, R534). -/

namespace Sys2Proof.Machine

/-! ## The core clock -/

/-- The end of a clock: the header vectors that are complete in it, without a graph memory error, the windows that have ended, and its events
of RC counts; what was used in it is free again (R8, R24, R32, R33, R86, R113). -/
def State.clockEnd (s : State) : State :=
  let s := ((s.parseEnds).windowEnds).rcMerge
  { s with bus := { s.bus with ticks := s.bus.ticks + 1, clk := s.bus.clk + 1, used := [], late := [] } }

/-- The start of a clock: blocked commits, headers at their port groups, the transmit calendars, the statistics cache, the lookup banks, the
search slots, waiting policer writes, the overlay and the hash unit, firmware's rewrites and the hit bits' sample, failed fabric lanes, refreshes
that can wait no longer, and the vectors of the causes that are active (R68, R83, R125, R187, R192, R204, R209, R218, R222, R229, R244, R346, R365, R397). -/
def State.clockStart (s : State) : State :=
  let s := (((s.commitWaiting).kerbClock).flxClock).statClock
  let s := ((s.bankClock).searchClock).polSlots
  let s := (((s.ovlFree).hashClock).rewriteClock).leafSample
  ((s.fabClock).refreshClock).irq

/-- One core clock within a beat. -/
def State.clockTick (s : State) : State := (s.clockEnd).clockStart

/-- So many core clocks. -/
def State.clocks (s : State) : Nat → State
  | 0 => s
  | n + 1 => (s.clockTick).clocks n

/-! ## Overruns (R30) -/

/-- The consumer's unit identity in an overrun report. -/
def overUnit (x : Nat) : Nat := [0x01, 0x00, 0xB0, 0xE0, 0xE0, 0x50, 0xD0, 0xD0, 0x10, 0x01].getD x 0x01

/-- An overrun of exchange x with so many items discarded (R30). -/
def State.overrun (s : State) (x n : Nat) : State :=
  ((s.raise beatStat 5).report 0x01 0x01 3 (overUnit x) x).count 0x01 0x41 x n

/-- A packet or copy dropped with its PD by an overrun (R30). -/
def State.overPd (s : State) (req d : Nat) : State :=
  let h := (s.pdOf d).handle
  (s.setHandle h { (s.handle h) with drop := (0x01, 0x41) }).freePd req d

/-- What the beat that ends has still to do, or loses: landings, and the decisions handed over (R30, R267, R289). -/
def State.endOfBeat (s : State) (overs : List (Fin 10)) : State :=
  let s := if overs.contains 2 then
      let rs := s.sq.arrivals
      let s := (s.overrun 2 rs.length)
      rs.foldl (fun s r => s.closeSample r.tag 3 0x01 0x41 false) ({ s with sq := { s.sq with arrivals := [] } } : State)
    else s
  let s := s.landAll
  if overs.contains 3 then
    let b := s.bus.beats
    let ed := s.sq.editQ.filter fun t => t.ready ≤ b
    let tx := s.fab.taken.filter fun t => t.ready ≤ b
    let s := s.overrun 3 (ed.length + tx.length)
    let s : State := { s with sq := { s.sq with editQ := s.sq.editQ.filter (fun t => b < t.ready), edit := none },
                              fab := { s.fab with taken := s.fab.taken.filter (fun t => b < t.ready) } }
    let s := ed.foldl (fun s t => s.overPd 38 t.pd) s
    tx.foldl (fun s t => s.overPd 37 t.pd) s
  else s.editAll

/-! ## Exchanges at the boundary (R16, R17, R29, R41) -/

/-- A beat begins: its number, its first clock, the learning unit's budget, and the outputs of the beat that ended. -/
def State.beginBeat (s : State) : State :=
  { s with bus := { s.bus with beat := s.bus.beat + 1, clk := 0, beats := s.bus.beats + 1 }, hif := { s.hif with dma := [] }, line := { s.line with sent := [] },
           mss := { s.mss with mgmtOut := [] }, lrn := { s.lrn with ran := 0 } }

/-- The swap of the double buffers at the boundary that begins beat b (R29, R31). -/
def State.swapAll (s : State) (b : Nat) (overs : List (Fin 10)) : State :=
  let (s, egress) := s.deliver
  let s := if overs.contains 1 then
      let rs := s.cross.spillTm.flatMap (·.2)
      let s := (s.overrun 1 rs.length)
      rs.foldl (fun s r => s.recDrop r 0x01 0x41 4) ({ s with cross := { s.cross with spillTm := [] } } : State)
    else s
  let s := if overs.contains 8 then
      let lost := fun (g : Grant) => g.beat + 2 == s.bus.beats && !g.lost
      let s := s.overrun 8 (s.sq.grants.filter lost).length
      { s with sq := { s.sq with grants := s.sq.grants.map fun g => if lost g then { g with lost := true } else g } }
    else s
  let s := s.placeAllFe b
  let (s, es) := s.exitAll b
  let s := s.puntAll b es egress
  let s := s.placeAllTm b es
  let s := if overs.contains 4 then s.overrun 4 s.fab.tx.length else s
  let s := if overs.contains 5 then
      let s := s.overrun 5 s.tbl.statSel.length
      { s with tbl := { s.tbl with statSel := [] } }
    else s
  s.statBoundary

/-! ## Changes that apply (R31, R37) -/

/-- A number with the bits of a mask taken from another. -/
def maskPut (old mask v : Nat) : Nat := old - (old &&& mask) + (v &&& mask)

/-- A register's fields as last written: a setting that waits for its boundary is read back as it was written, as R319 says of a node
(R8, R31). DEDUCED, log 71. -/
def State.regSeen (s : State) (a : Nat) : Nat :=
  s.bus.pendRegs.foldl (fun v e => if e.1 = a then maskPut v e.2.1 e.2.2 else v) (s.reg a)

/-- The line registers whose settings show in a status: a MAC context's configuration (R52). -/
def State.afterReg (s : State) (a : Nat) : State :=
  if 0x1030000 ≤ a && a < 0x1033000 then s.refreshCtx ((a - 0x1030000) / 0x40) else s

/-- A register change that applies at this boundary (R31); the old value stays for the packets admitted before it (R40). -/
def State.applyReg (s : State) (e : Nat × Nat × Nat) : State :=
  let old := (s.bus.beats, e.1, BitVec.ofNat 32 (s.reg e.1))
  let s : State := { s with bus := { s.bus with before := old :: s.bus.before } }
  (s.setReg e.1 (maskPut (s.reg e.1) e.2.1 e.2.2)).afterReg e.1

/-- Old values that no packet in its window can still need are gone: a window is left at the fifth boundary (R32, R40). -/
def State.forgetBefore (s : State) : State :=
  { s with bus := { s.bus with before := s.bus.before.filter fun e => decide (s.bus.beats < e.1 + 6) } }

/-- What takes the front halves under the configuration of the beat that begins: the fabric interface, which cuts the decisions into cells,
and DRAM reads that waited for a share; bad names PDs that fabric transmit reads in error (R31, R190). -/
def State.consumeAll (s : State) (b : Nat) (bad : List (BitVec 27 × Fin 3)) : State :=
  let s := s.fabReadErrors (bad.map fun e => (e.1.toNat, e.2.val))
  ((s.fabTransmit b).streamRelease b).dramBoundary

/-- The effect of an activation on its unit at the boundary that begins beat b. The writers of the update overlay are committed with the
overlay's own boundary. -/
def State.slotEffect (s : State) (b : Nat) : SlotId → State
  | .flxCal f => s.calSwitchRequest f
  | .pg => s.pgSwitch
  | .avePs => s.psSwitch
  | .lkpUpd _ => s
  | .pat => s.patSwitch
  | .shp => s.setFlag 0xD800000 0 (!s.flag 0xD800000 0)
  | .fabLset => s.linkSetSwitch
  | .pmuSnap => s.pmuSnapshot b

/-- Every change of the boundary: register writes, activations, queue and node configurations, the overlay and the publications. -/
def State.applyAll (s : State) (b : Nat) : State :=
  let due := allSlots.filter (s.slotDue b)
  let pend := s.bus.pendRegs
  let s := pend.foldl State.applyReg ({ s with bus := { s.bus with pendRegs := [] } } : State)
  let s := due.foldl (fun s k => (s.slotApplied k).slotEffect b k) s
  let s : State := if s.upd.armed ≠ 0 && s.upd.back.isNone && due.any ([.avePs, .pg, .pat, .lkpUpd 1].contains ·) then { s with upd := { s.upd with target := b } } else s
  let ws := due.filterMap fun k => match k with
    | .lkpUpd w => some w.val
    | _ => none
  ((((s.fibBoundary b).overlayBoundary ws).queueBoundary).nodeBoundary)

/-- The changes other than activations and register writes that a boundary would make: queue and node configurations, flushes, overlay commits
and publications (R30). -/
def State.otherChanges (s : State) (b : Nat) : Nat :=
  let commits := ([0, 1].filter fun w => s.flag (updCtl w) 2).length + b2n (s.tbl.ovl.any fun o => !o.committed && o.go)
  s.sq.cfgPend.length + s.sch.pend.length + s.sq.flushAt.length + commits + (s.tbl.pubs.filter fun p => beatReached b p.beat).length

/-- The changes of the boundary are put off to the next: an activation among them is then late (R30). -/
def State.postponeAll (s : State) (b : Nat) : State :=
  let due := allSlots.filter (s.slotDue b)
  let s := s.overrun 9 (due.length + s.bus.pendRegs.length + s.otherChanges b)
  let s := due.foldl (fun s k =>
    match s.slotArmed k with
    | some a => s.setArmed k (some { a with late := true })
    | none => s) s
  { s with sq := { s.sq with replRan := 0, moved := s.sq.moved - 524288 } }

/-! ## Firmware's work with spares (R148, R531, R534) -/

/-- An engine that firmware takes out: once isolated and with every thread free, a spare of its avenue takes its place (R531). -/
def State.remapStep (s : State) (k : Nat) : State :=
  let p := k / 64
  let e := k % 64
  let gone : State := { s with err := { s.err with remap := s.err.remap.filter (· != k) } }
  match s.engLogical p e with
  | none => gone
  | some l =>
    if s.scrState (aveWin p) ≠ 2 || (s.freeThreads p e).length ≠ 8 then s
    else match (List.range 34).find? fun x => s.engSpare p x && !s.err.out.contains (p * 64 + x) with
      | none => gone
      | some x => ({ gone with err := { gone.err with out := k :: gone.err.out } } : State).remapEngine p l x

/-- Engines taken out are fit again when their avenue's self-test runs without a failure (R531). -/
def State.outClear (s : State) : State :=
  if s.err.out = [] then s
  else { s with err := { s.err with out := s.err.out.filter fun k => !(s.bistRuns (k / 64) && !s.flag (aveStat (k / 64)) 7) } }

/-- One step of firmware's re-homing of an avenue to the spare (R534). -/
def State.rehomeStep (s : State) : State :=
  match s.err.rehome with
  | none => s
  | some (p, q, n) =>
    let go := fun (s : State) (x : Option (Nat × Nat × Nat)) => ({ s with err := { s.err with rehome := x } } : State)
    if n = 0 then go (if h : p < 17 then s.stopCmd (.ave ⟨p, h⟩) else s) (some (p, q, 1))
    else if n = 1 then
      if s.scrState (aveWin p) = 0 then
        let l := s.aveLogical p
        let s := ((s.setReg (aveWin p + 4) 0).setReg (aveWin q + 4) (0x10 + l)).setReg (aveWin q + 0x10) 0
        go (if h : q < 17 then s.startCmd (.ave ⟨q, h⟩) else s) (some (p, q, 2))
      else if s.scrState (aveWin p) = 4 then go s none
      else s
    else if s.scrState (aveWin q) = 2 then go (s.setReg (aveWin p + 0x10) 1) none
    else if s.scrState (aveWin q) = 4 then go s none
    else s

/-- BIST_RUN of every avenue; the slices of those that run it pass commands by (R155). -/
def State.bistMirror (s : State) : State := ((List.range 17).foldl (fun s p => s.setFlag (aveStat p) 6 (s.bistRuns p)) s).passTested

/-! ## The boundary (R31) -/

/-- The recirculation bucket's refill (R102), under PG_RC_RATE as it applies from this boundary on, and before the boundary's decisions.
DEDUCED, log 11. -/
def State.rcRefill (s : State) (rate : Nat) : State :=
  s.setFld 0x2000034 14 0 (min (s.fld 0x2000034 14 0 + min (bits rate 11 0) 2048) (5 * min (bits rate 28 16) 4096))

/-- The boundary that begins the next beat: over names the exchanges that overran, bad the PDs that fabric transmit reads in error. -/
def State.beatBoundary (s : State) (overs : List (Fin 10)) (bad : List (BitVec 27 × Fin 3)) : State :=
  let s := ((s.endOfBeat overs).pmuBoundary).beginBeat
  let b := s.beatN
  let s := s.rcRefill (if overs.contains 9 then s.reg 0x2000030 else s.regSeen 0x2000030)
  let s := (s.swapAll b overs).forgetBefore
  let s := if overs.contains 9 then s.postponeAll b else s.applyAll b
  let s := s.consumeAll b bad
  let s := (s.endOldProt).alignBoundary
  let s := if overs.contains 6 then s.overrun 6 s.shaped.length else s
  let s := (s.refillAll (overs.contains 6)).injectBudget
  let s := if overs.contains 7 then s.overrun 7 s.sch.caps.length else s
  let s := (s.sampleBoundary (overs.contains 7) b).grantBoundary
  let s := (s.creditBoundary).scrBoundary
  let s := s.fabricBudget (s.fabBudget b)
  let s := s.err.remap.foldl State.remapStep s
  (((s.outClear).rehomeStep).bistMirror).irq

/-- BEAT_BOUNDARY: the rest of the beat passes and the next one begins (R24, R31). -/
def execBeatBoundary (overs : List (Fin 10)) (bad : List (BitVec 27 × Fin 3)) (s : State) : Host.Outcome State Fault Refusal :=
  .next (((s.clocks (255 - s.bus.clk.toNat)).clockEnd.beatBoundary overs bad).clockStart)

end Sys2Proof.Machine
end

