-- ==== Sys2Proof/Machine/View.lean ====
section
/-! DEFINITION. What a read of a register returns: the value it holds, or for a status register the state that it shows (spec/00_scope
R5, R8, and the register tables of the chapters). -/

namespace Sys2Proof.Machine

/-- The window (base, stride, host's number 0) that an offset belongs to: which requester it serves, and the status bit that an access
by the other sets (R202, R234, R280, R317, R319, R505). -/
def winOf (a : Nat) : Option (Nat × Nat × Nat) :=
  let go := fun (base stride stat bit : Nat) => if base ≤ a && a < base + 2 * stride then some ((a - base) / stride, stat, bit) else none
  (go 0x501000 0x100 0x500000 0).orElse fun _ => (go 0x6000000 0x1000 0x5000004 0).orElse fun _ =>
    (go 0x8020000 0x1000 0x8000004 3).orElse fun _ => (go 0x8050000 0x100 0x8000004 3).orElse fun _ =>
    (go 0xB010000 0x100 0xB000000 0).orElse fun _ => (go 0xD020000 0x100 0xD000000 0).orElse fun _ => go 0xD030000 0x100 0xD000000 1

/-- An access to a window by the requester that it does not serve: the status bit to set. -/
def winForeign (r : Requester) (a : Nat) : Option (Nat × Nat) :=
  match winOf a with
  | some (w, stat, bit) => if requesterNo r = w then none else some (stat, bit)
  | none => none

/-- TSTATE of a thread (AVE_ENG_STATE). -/
def thrCode : ThrState → Nat
  | .free => 0
  | .ready => 1
  | .blockedInt => 2
  | .blockedExt => 3
  | .halted => 4
  | .haltedDl => 5

/-- The state of a thread in a clock: one that its program or a fault has freed is FREE in the next (R130, R181). -/
def Thr.shownAt (x : Thr) (now : Nat) : ThrState := if x.st = .free && now < x.nextTick then x.prior else x.st

/-- AVE_ENG_STATE of a physical engine. -/
def State.engState (s : State) (p e : Nat) : Nat :=
  let l := if e = supEngine then none else s.engLogical p e
  let st := if s.engRetired p e then 3 else if e ≠ supEngine && l.isNone then 2 else if s.engIso p e then 1 else 0
  let ts := ((List.range 8).map fun t => thrCode ((s.thread p e t).shownAt s.bus.ticks) * 8 ^ t).sum
  b2n (e == supEngine) * 2 ^ 31 + (if st < 2 then l.getD 0 else 0) * 2 ^ 26 + st * 2 ^ 24 + ts

/-- Engine and thread that AVE_DBG_SEL names, and whether an access to its register is served (AVE_DBG_DATA). -/
def State.dbgServed (s : State) (p e : Nat) : Bool :=
  let a := aveWin p + 0x404 + e * 0x10
  let n := s.fld a 7 0
  let st := (s.thread p e (s.fld a 10 8)).st
  (32 ≤ n && n < 48) || (n < 50 && (st == .halted || st == .haltedDl))

/-- The 64-bit register that AVE_DBG_SEL names. -/
def State.dbgRead (s : State) (p e : Nat) : Nat :=
  let a := aveWin p + 0x404 + e * 0x10
  let n := s.fld a 7 0
  let x := s.thread p e (s.fld a 10 8)
  if !s.dbgServed p e then 0
  else if n < 32 then (Tab.get 0 x.g n).toNat
  else if n < 48 then (s.sreg p e (n - 32)).toNat
  else if n = 48 then x.p.toNat
  else x.pc.toNat + b2n x.cbank * 2 ^ 15

/-- A write of the 64-bit register that AVE_DBG_SEL names (R6, R139). -/
def State.dbgWrite (s : State) (p e v : Nat) : State :=
  let a := aveWin p + 0x404 + e * 0x10
  let n := s.fld a 7 0
  let t := s.fld a 10 8
  let x := s.thread p e t
  if !s.dbgServed p e then s.raise (aveStat p) 5
  else if n < 32 then s.setThread p e t { x with g := Tab.set 0 x.g n (BitVec.ofNat 64 v) }
  else if n < 48 then s.setSreg p e (n - 32) (BitVec.ofNat 64 v)
  else if n = 48 then s.setThread p e t { x with p := BitVec.ofNat 8 v }
  else s.setThread p e t { x with pc := BitVec.ofNat 15 v, cbank := bitOf v 15 }

/-- Seconds left in a trial (R460). -/
def State.trialLeft (s : State) : Nat :=
  match s.boot.trialEnd with
  | some e => min (ceilDiv (e - s.bus.ticks) 1500000000) 65535
  | none => 0

/-- The state that a status register of the avenues shows, by its offset; other registers hold what they show. -/
def State.aveView (s : State) (a : Nat) : Nat :=
  let p := (a - 0x3000000) / 0x100000
  let o := a % 0x100000
  if 0x200 ≤ o && o < 0x28C then s.engState p ((o - 0x200) / 4)
  else if 0x408 ≤ o && o < 0x400 + 35 * 0x10 && o % 16 = 8 then s.dbgRead p ((o - 0x400) / 16) % 2 ^ 32
  else if 0x40C ≤ o && o < 0x400 + 35 * 0x10 && o % 16 = 12 then s.dbgRead p ((o - 0x400) / 16) / 2 ^ 32
  else s.reg a

/-- 64-bit values that are written as a whole: offsets of their low halves (R6, R194, R202, R249, R263, R373, R381, R400, R471). -/
def lowWritten (a : Nat) : Bool :=
  (0x200104 ≤ a && a < 0x200164 && (a - 0x200104) % 0x20 = 0) || (0x601000 ≤ a && a < 0x603000 && a % 0x40 = 0)
    || (0x700000 ≤ a && a < 0x700400 && a % 0x20 = 0) || a = 0x6000008 || a = 0x6001008 || a = 0x9000204 || a = 0xA000018 || (0x5001010 ≤ a && a < 0x5003000 && a % 0x20 = 0x10) || (0xF020028 ≤ a && a < 0xF040000 && (a - 0xF020028) % 0x400 = 0)
    || (0x3000408 ≤ a && a < 0x4100000 && 0x408 ≤ a % 0x100000 && a % 0x100000 < 0x630 && a % 0x10 = 8)

/-- A register's fields as last written, the low half of a 64-bit value too while its high half is still to come (R6, R8). -/
def State.shown (s : State) (a : Nat) : Nat :=
  if lowWritten a then (Tab.get 0 s.bus.lowHalf a).toNat &&& ((regLookup a).map (·.1.rw)).getD 0 else s.regSeen a

/-- LAT_BOUND of a descriptor, from its KIND and DRAM (R194). -/
def State.tdLatency (s : State) (n : Nat) : Nat :=
  match s.tdKind n with
  | 1 => 48
  | 2 => if s.tdDram n then 192 else 48
  | 3 => if s.tdDram n then 288 else 192
  | 4 => if s.tdDram n then 384 else 288
  | 5 => 96
  | _ => 0

/-- What a register of the tables shows beside the fields it holds (R194, R204, R216). -/
def State.lkpView (s : State) (a : Nat) : Nat :=
  if a = 0x5000010 then
    (s.tbl.ovl.filter (·.committed)).length * 2 ^ 16 + (s.tbl.ovl.filter fun o => !o.committed).length
  else if a = 0x5000020 || a = 0x5000024 then putBits (s.regSeen a) 27 16 (s.stagedOf ((a - 0x5000020) / 4))
  else if 0x5001000 ≤ a && a < 0x5003000 && a % 0x20 = 0 then putBits (s.regSeen a) 21 18 (s.tdReads ((a - 0x5001000) / 0x20))
  else if 0x5001000 ≤ a && a < 0x5003000 && a % 0x20 = 4 then putBits (s.regSeen a) 15 0 (s.tdLatency ((a - 0x5001000) / 0x20))
  else if a = 0x6000010 || a = 0x6001010 then
    (let w := (a - 0x6000010) / 0x1000; putBits (s.regSeen a) 31 31 (b2n (s.tbl.hashBusy.contains w || s.tbl.hashQ.any (·.win == w))))
  else s.shown a

/-- What a register of the stacked-DRAM controller shows (R365, R367, R372, R373, R375). -/
def State.hbmView (s : State) (a : Nat) : Nat :=
  if a = 0xF000008 || a = 0xF000028 then s.halfStat (a == 0xF000028)
  else if 0xF010000 ≤ a && a < 0xF010080 && a % 0x20 = 4 then s.stkStat ((a - 0xF010000) / 0x20)
  else if 0xF020000 ≤ a && a < 0xF040000 && a % 0x400 = 0 then s.chStat ((a - 0xF020000) / 0x400)
  else if 0xF020000 ≤ a && a < 0xF040000 && a % 0x400 = 0x14 then s.remapData ((a - 0xF020000) / 0x400)
  else s.shown a

/-- The value of a register as a read returns it. -/
def State.view (s : State) (a : Nat) : Nat :=
  if a = 0x8 then s.serial % 2 ^ 32
  else if a = 0xC then s.serial / 2 ^ 32
  else if a = 0x58 || a = 0x5C then putBits (s.regSeen a) 31 16 (nominalMv ((a - 0x58) / 4))
  else if a = 0x100000 then s.beatN % 2 ^ 32
  else if a = 0x100004 then s.beatN / 2 ^ 32
  else if a = 0x100008 then s.bus.clk.toNat
  else if a = 0x200304 then s.tim.caps.length
  else if a = 0x200410 then s.tim.txts.length
  else if 0x200310 ≤ a && a < 0x20031C then s.tim.capLatch.getD ((a - 0x200310) / 4) 0
  else if 0x200400 ≤ a && a < 0x200410 then s.tim.txLatch.getD ((a - 0x200400) / 4) 0
  else if a = 0x200010 then s.tim.ns
  else if a = 0x30001C then putBits (s.regSeen a) 15 0 (s.ageMs s.mate.dirAt)
  else if a = 0x400050 then s.err.queue.length
  else if 0x400060 ≤ a && a < 0x400078 then recWord s.err.latched ((a - 0x400060) / 4)
  else if a = 0x500108 then s.pmu.slots.length * 2 ^ 16 + s.pmu.queue.length
  else if 0x500200 ≤ a && a < 0x500280 then recWord s.pmu.latched ((a - 0x500200) / 4)
  else if 0x603400 ≤ a && a < 0x603418 then
    ((List.range 32).map fun j => b2n (s.srcActive ((a - 0x603400) * 8 + j)) * 2 ^ j).sum
  else if a = 0x801008 then s.trialLeft
  else if a = 0x80100C && s.upd.writing.isSome then
    (let x := (Config.updProg s.bus.ticks).toNat; (1 + x % 5) * 2 ^ 28 + x / 8 % 1024)
  else if a = 0x1040004 then putBits (s.regSeen a) 31 16 s.kerbFree
  else if 0x5000000 ≤ a && a < 0x7000000 then s.lkpView a
  else if a = 0x9000000 then putBits (s.regSeen a) 10 10 (b2n (decide (s.fld 0x9000310 31 16 < s.cls.recs.length)))
  else if a = 0x9000310 then putBits (s.regSeen a) 12 0 s.cls.recs.length
  else if 0x9000300 ≤ a && a < 0x9000310 then recWord s.cls.latched ((a - 0x9000300) / 4)
  else if a = 0xA000008 then (match s.lrn.agePend with
    | some v => putBits (s.regSeen a) 15 0 v
    | none => s.regSeen a)
  else if a = 0xA000004 then putBits (s.regSeen a) 31 16 s.lrn.queue.length
  else if a = 0xA000020 then
    putBits (putBits (s.regSeen a) 15 15 (b2n (decide (s.fld a 31 16 < s.lrn.recs.length)))) 13 0 s.lrn.recs.length
  else if 0xA000030 ≤ a && a < 0xA000050 then recWord s.lrn.latched ((a - 0xA000030) / 4)
  else if graphBase ≤ a && a < 0x2200000 then s.graphWord (if 16 < s.fld 0x2000040 4 0 then 0 else s.fld 0x2000040 4 0) (a - graphBase)
  else if a = 0xB000000 then putBits (s.regSeen a) 5 5 (b2n (!s.sq.flushing.isEmpty))
  else if 0xC000060 ≤ a && a < 0xC000080 then s.poolFree (0xC000070 ≤ a) ((a - 0xC000060) / 4 % 4)
  else if a = 0xE000054 then putBits (s.regSeen a) 15 0 (s.ageMs s.fab.hbAt)
  else if 0xF000000 ≤ a then s.hbmView a
  else if 0x3000000 ≤ a && a < 0x4100000 && a % 0x100000 < 0xF0000 then s.aveView a
  else s.shown a

/-- 64-bit values that are read as a whole: offsets of their low halves (R5). -/
def lowRead (a : Nat) : Bool :=
  lowWritten a || a = 0x8 || a = 0x100000 || a = 0x500014 || a = 0x801010 || a = 0x801020
    || (0x502010 ≤ a && a < 0x502800 && 0x10 ≤ a % 0x40 && a % 0x40 < 0x28 && a % 8 = 0)
    || (0x1020010 ≤ a && a < 0x1021800 && (a % 0x40 = 0x10 || a % 0x40 = 0x18))
    || (0x1030010 ≤ a && a < 0x1033000 && 0x10 ≤ a % 0x40 && a % 0x40 < 0x38 && a % 8 = 0)
    || a = 0xF000010 || a = 0xF000030 || a = 0x603508 || a = 0x900010 || a = 0xC000008 || (0x501008 ≤ a && a < 0x501200 && (a % 0x100 = 8 || a % 0x100 = 0x10))
    || (0x700010 ≤ a && a < 0x700400 && a % 0x20 = 0x10)

/-- FRAC and the seconds are read as the last read of TIM_TIME_NS latched them for the requester (R467); the high half of a 64-bit value
is what the last read of its low half latched (R5). Of a requester that has never read the low half, the high half is the value it holds
(DESIGN CHOICE, log 76); what was latched stays for every later read of the high half, also after the pair is written anew (DEDUCED,
log 76). -/
def State.readFor (s : State) (r : Requester) (a : Nat) : Nat :=
  let t := Tab.get (0, 0) s.tim.latch (requesterNo r)
  if a = 0x200014 then t.1
  else if a = 0x200018 then t.2 % 2 ^ 32
  else if a = 0x20001C then t.2 / 2 ^ 32
  else if 4 ≤ a && lowRead (a - 4) then
    match Tab.get none s.bus.latch (requesterNo r * 2 ^ 28 + a) with
    | some v => v.toNat
    | none => s.view a
  else s.view a

end Sys2Proof.Machine
end

