-- ==== Sys2Proof/Machine/RegAccess.lean ====
section
/-! DEFINITION. Accesses to registers: what a write does, by the access types of its fields and by the rules of its own register, and the
accesses that are refused, unmapped or latching (spec/00_scope R4 to R8, 01_module R19, R20, 02_beat R31, R45, 14_host R378, 21_errors R526). -/

namespace Sys2Proof.Machine

/-- The state that a command answers; of a command that does not answer one, the state as it was. -/
def State.run (s : State) (f : State → Host.Outcome State Fault Refusal) : State :=
  match f s with
  | .next t => t
  | _ => s

/-- The recovery function decodes no other window than GEN, ERR, HIF, MBX, BOOT and UPD, and MSS (R378). -/
def State.hidden (s : State) (r : Requester) (a : Nat) : Bool :=
  r == .host && s.flag pcieStat 9 && !(a < 0x100000 || (0x400000 ≤ a && a < 0x500000) || (0x600000 ≤ a && a < 0x1000000))

/-- A register is defined at an offset, as a requester sees it (R20, R378). -/
def State.mapped (s : State) (r : Requester) (a : Nat) : Bool := (regLookup (canonAddr a)).isSome && !s.hidden r a

/-- An access that falls on no register: counted, and otherwise completed with 0 (R20, R526). -/
def State.unmapped (s : State) (r : Requester) (a : Nat) : State := (s.bumpReg 0x400040 1).done r a

/-! ## A write by the access types (R7, R8, R31, R45) -/

/-- A write of v to a register of a row: read-write bits take the value, at once or at the boundary; written ones clear W1C bits;
stopped-only bits keep theirs while their function is not STOPPED, and a change of them is noted; all others stay. -/
def State.plainWrite (s : State) (row : RegRow) (ix : List Nat) (a v : Nat) : State :=
  let old := s.reg a
  let scr := regScr row ix
  let held := if row.stp ≠ 0 && s.scrState scr ≠ 0 then row.stp else 0
  let s := if (old ^^^ v) &&& held = 0 then s else s.raise scr 9
  let now := row.rw - (row.rw &&& row.bnd) - (row.rw &&& held)
  let new := maskPut old now v
  let s := s.setReg a (new - (new &&& (v &&& row.w1c)))
  let s := if 0x1000000 ≤ a && row.rw ≠ 0 then s.writtenAny 11 else s
  if row.bnd = 0 then s else { s with bus := { s.bus with pendRegs := s.bus.pendRegs ++ [(a, row.bnd, v)] } }

/-- A write that only keeps the low half of a 64-bit value until its high half is written (R6). -/
def State.keepLow (s : State) (a v : Nat) : State :=
  { s with bus := { s.bus with lowHalf := Tab.set 0 s.bus.lowHalf a (BitVec.ofNat 32 v) } }

/-! ## Registers with rules of their own -/

/-- A write of a *_SCR register: W1C bits, then the command (R42, R44). -/
def State.scrWrite (s : State) (k : ScrId) (a v : Nat) : State :=
  let s := s.setReg a (s.reg a - (s.reg a &&& (v &&& 0x300)))
  let s := if bitOf v 8 then s.setFld a 23 20 0 else s
  match bits v 5 4 with
  | 1 => s.startCmd k
  | 2 => s.stopCmd k
  | 3 => s.scrReject k 6
  | _ => s

/-- A write of an activation slot's control register: W1C bits, then ARM and CANCEL (R36 to R38). -/
def State.actWrite (s : State) (k : SlotId) (a v : Nat) : State :=
  let s := s.setReg a (s.reg a - (s.reg a &&& (v &&& 0xE0)))
  if bitOf v 0 then s.run (execArm k (bitOf v 1)) else if bitOf v 1 then s.run (execCancel k) else s

/-- The size of a signed 6-bit tap. -/
def tapSize (n : Nat) : Nat := if n < 32 then n else 64 - n

/-- A write of LINE_LN_CFG: MAIN lowered until the taps' total is 64 (LINE_LN_CFG). -/
def State.lnCfgWrite (s : State) (a v : Nat) : State :=
  let others := tapSize (bits v 23 18) + tapSize (bits v 17 12) + tapSize (bits v 11 6)
  let v := v &&& 0xF0FFFFFF
  if others + bits v 5 0 ≤ 64 then s.setReg a v else (s.setReg a (putBits v 5 0 (64 - others))).raise (a + 4) 4

/-- A write of LRN_CFG: EN wants a bridged hash table of 16-byte entries; TABLE is held while EN is 1. -/
def State.lrnCfgWrite (s : State) (v : Nat) : State :=
  let on := s.flag 0xA000000 0
  let table := if on then s.fld 0xA000000 15 8 else bits v 15 8
  let s := if table = bits v 15 8 then s else s.raise lrnStat 7
  let fit := s.tdValid table && s.tdKind table == 2 && s.tdBridged table && s.tdEsize table == 16
  let s := if !on && bitOf v 0 && !fit then s.raise lrnStat 8 else s
  s.setReg 0xA000000 (table * 2 ^ 8 + (v &&& 6) + b2n (bitOf v 0 && (on || fit)))

/-- A write of a ring's register: those of a firmware's ring are closed to the host, BASE and LOG2SIZE are held while EN is 1 (R384,
R398, R407). -/
def State.ringWrite (s : State) (r : Requester) (row : RegRow) (ix : List Nat) (a v : Nat) : State :=
  let inj := decide (0x602000 ≤ a)
  let n := a / 0x40 % 64
  let st := ringReg inj n 0x1C
  let on := s.flag (ringReg inj n 8) 31
  if !inj && s.fwRing n && r == .host then s.raise st 3
  else match a % 0x40 with
    | 0 => if on then s.raise st 3 else s.keepLow a v
    | 4 => if on then s.raise st 3 else (s.commitHigh (a - 4) v).setFld (a - 4) 5 0 0
    | 8 =>
      if h : n < 64 then
        if !on && bitOf v 31 then s.run (execRingEnable inj ⟨n, h⟩ (BitVec.ofNat 32 v))
        else if on && !bitOf v 31 then s.run (execRingDisable inj ⟨n, h⟩ (BitVec.ofNat 32 v))
        else if on then
          let s := if bits v 20 16 ≠ s.fld a 20 16 then s.raise st 3 else s
          s.setFlag a 30 (bitOf v 30)
        else s.plainWrite row ix a v
      else s
    | 0x14 => (s.plainWrite row ix a v).ackWritten inj n
    | _ => s.plainWrite row ix a v

/-- A write of a mailbox's register: staging and posting by its sender, POP by its receiver (R400 to R404). -/
def State.mbxWrite (s : State) (r : Requester) (row : RegRow) (ix : List Nat) (a v : Nat) : State :=
  let m := (a - 0x700000) / 0x20
  if h : m < 32 then
    match a % 0x20 with
    | 0 => if mbxSender r m then s.keepLow a v else s.raise (mbx m 0xC) 5
    | 4 => if mbxSender r m then s.commitHigh (a - 4) v else s.raise (mbx m 0xC) 5
    | 8 => s.run (execMailboxPost r ⟨m, h⟩ (BitVec.ofNat 32 v))
    | 0xC =>
      let s := s.plainWrite row ix a v
      let s := if bitOf v 1 then s.run (execPop r ⟨m, h⟩) else s
      if bitOf v 2 then s.run (execWithdraw r ⟨m, h⟩) else s
    | _ => s.plainWrite row ix a v
  else s.plainWrite row ix a v

/-- A write of a register of the time subsystem. -/
def State.timWrite (s : State) (row : RegRow) (ix : List Nat) (a v : Nat) : State :=
  if a = 0x20002C then (if v % 4 = 1 then s.timeSet 1 else if v % 4 = 2 then s.timeSet 2 else s)
  else if a = 0x200030 then
    if s.flag 0x200000 0 then s.raise timStat 7
    else s.setFreq (max (-32768000) (min (signed32 v) 32768000))
  else if 0x200108 ≤ a && a < 0x200168 && (a - 0x200108) % 0x20 = 0 then
    if h : (a - 0x200108) / 0x20 < 3 then s.run (execReferenceOffsetSubmit ⟨_, h⟩ (BitVec.ofNat 32 v)) else s
  else if 0x200200 ≤ a && a < 0x200300 then
    let t := (a - 0x200200) / 0x20
    let o := a % 0x20
    if o = 0 && !s.flag a 31 && bitOf v 31 then
      if h : t < 8 then s.run (execTriggerEnable ⟨t, h⟩ (BitVec.ofNat 32 v)) else s
    else if s.flag (trgReg t 0) 31 && 4 ≤ o && o ≤ 0x10 then s.raise (trgReg t 0x18) 4
    else s.plainWrite row ix a v
  else s.plainWrite row ix a v

/-- A write of a register of the mate unit. -/
def State.mateWrite (s : State) (r : Requester) (row : RegRow) (ix : List Nat) (a v : Nat) : State :=
  if a = 0x300000 then s.mateCfgWrite v
  else if a = 0x300004 then
    let s := if bitOf v 0 then s.run execSync else s
    let s := if bitOf v 1 then s.run execRelease else s
    if bitOf v 2 then s.run execForceTake else s
  else if a = 0x300008 then (if r == .host || bitOf v 0 then s.run (execMateKick r) else s)
  else if a = 0x300018 then (s.plainWrite row ix a v).healthRefresh
  else if a = 0x300020 then (s.plainWrite row ix a v).wtrRefresh
  else s.plainWrite row ix a v

/-- A write of a register of the counters and traces. -/
def State.pmuWrite (s : State) (r : Requester) (row : RegRow) (ix : List Nat) (a v : Nat) : State :=
  if 0x501000 ≤ a && a < 0x501200 && a % 0x100 = 4 then
    if h : (a - 0x501000) / 0x100 < 2 then
      if v % 4 = 1 then s.pmuRead r ⟨_, h⟩ s.pmu.cnt else if v % 4 = 2 then s.pmuRead r ⟨_, h⟩ s.pmu.snap else s
    else s
  else if 0x502000 ≤ a && a < 0x502800 then
    if h : (a - 0x502000) / 0x80 < 16 then
      let k : Fin 2 := if a % 0x80 < 0x40 then 0 else 1
      if a % 0x40 = 0 then s.run (execTraceEnable ⟨_, h⟩ k (BitVec.ofNat 32 v))
      else if a % 0x40 = 0xC then s.run (execTraceRead ⟨_, h⟩ k (BitVec.ofNat 12 v))
      else s.plainWrite row ix a v
    else s
  else s.plainWrite row ix a v

/-- A write of ERR_INJ: the fields, then ARM (R530). -/
def State.injWrite (s : State) (row : RegRow) (ix : List Nat) (v : Nat) : State :=
  let s := s.plainWrite row ix 0x400090 v
  let m := bits v 7 0
  let t := bits v 25 24
  if bitOf v 31 && 1 ≤ m && m ≤ 17 && 1 ≤ t && t ≤ 2 then s.setFlag 0x400090 30 true else s

/-- A write of a register of the line side, FlexE and OTN. -/
def State.lineWrite (s : State) (row : RegRow) (ix : List Nat) (a v : Nat) : State :=
  if 0x1010000 ≤ a && a < 0x1010C00 && a % 0x20 = 0 then s.lnCfgWrite a v
  else if a = 0x1040008 then (if s.allLineStopped then s.plainWrite row ix a v else s.raise 0x1040004 2)
  else if 0x1080000 ≤ a && a < 0x108C000 && 0x400 ≤ a % 0x1000 then
    let f := (a - 0x1080000) / 0x1000
    if s.txCalB f == decide (0x800 ≤ a % 0x1000) then s.raise (flxBase f + 0x40) 2 else s.plainWrite row ix a v
  else if 0x10C0000 ≤ a then (s.plainWrite row ix a v).refreshGroup ((a - 0x10C0000) / 0x1000)
  else s.plainWrite row ix a v

/-- A word of the graph is about to be written: the copies of the avenues that run their self-test keep the old word (R87, R109, R155). -/
def State.graphPassed (s : State) (o : Nat) : State :=
  let v := s.reg (graphBase + o)
  let put := fun (t : Tab (Option Word)) (p : Nat) =>
    let k := p * 2 ^ 20 + o
    if s.bistRuns p then (if (Tab.get none t k).isSome then t else Tab.set none t k (some (BitVec.ofNat 32 v))) else Tab.set none t k none
  { s with eng := { s.eng with graphOld := (List.range 17).foldl put s.eng.graphOld } }

/-- A write of a register of the parse graph (R106, R107). -/
def State.pgWrite (s : State) (row : RegRow) (ix : List Nat) (a v : Nat) : State :=
  if a = 0x200000C then
    let s := s.plainWrite row ix a v
    if bitOf v 0 then s.run (execPgCheck (bitOf v 4)) else s
  else if a = 0x2000020 || a = 0x2000024 || 0x2100000 ≤ a then
    let b := if a < 0x2100000 then a == 0x2000024 else decide (0x2180000 ≤ a)
    let s' := if a < graphBase then s else s.graphPassed (a - graphBase)
    if s.pgWritable b then ((s'.plainWrite row ix a v).pgTouched b).writtenAny 6 else s.raise pgStat 4
  else s.plainWrite row ix a v

/-- A write of AVE_DBG_CTL: FORCE, ISO, and the threads to halt, resume and step (R135 to R141). -/
def State.dbgCtlWrite (s : State) (p : Fin 17) (e : Fin 35) (a v : Nat) : State :=
  let s := s.setFlag a 25 (bitOf v 25)
  let s := if bitOf v 24 = s.flag a 24 then s else s.run (execIso p e (bitOf v 24))
  let s := if bits v 7 0 = 0 then s else s.run (execHalt p e (BitVec.ofNat 8 v))
  let s := if bits v 15 8 = 0 then s else s.run (execResume p e (BitVec.ofNat 8 (bits v 15 8)))
  if bits v 23 16 = 0 then s else s.run (execStep p e (BitVec.ofNat 8 (bits v 23 16)))

/-- A write of the common block of the avenues (R142 to R144). -/
def State.codeRegWrite (s : State) (r : Requester) (row : RegRow) (ix : List Nat) (a v : Nat) : State :=
  if a = 0x30F000C then
    let s := s.plainWrite row ix a v
    if bitOf v 0 then s.run (execPsCheck (bitOf v 4)) else s
  else if 0x30F0014 ≤ a && a < 0x30F002C then
    let b := a % 8 == 0
    if s.codeWritable b then (s.plainWrite row ix a v).codeTouched b else s.raise psStat 4
  else if a = 0x30F0040 then s.run (execCodeData3Write r (BitVec.ofNat 32 v))
  else s.plainWrite row ix a v

/-- A write of a register of the avenues. -/
def State.aveWrite (s : State) (r : Requester) (row : RegRow) (ix : List Nat) (a v : Nat) : State :=
  let p := (a - 0x3000000) / 0x100000
  let o := a % 0x100000
  if 0xF0000 ≤ o then s.codeRegWrite r row ix a v
  else if o = 0x10 then (s.plainWrite row ix a v).bistMirror
  else if o = 0x14 then (s.holdOld a).plainWrite row ix a v
  else if 0x100 ≤ o && o < 0x180 then
    if s.scrState (aveWin p) = 2 then s.remapEngine p ((o - 0x100) / 4) (bits v 5 0)
    else if 33 < bits v 5 0 || s.engRetired p (bits v 5 0) then s.raise (aveStat p) 8
    else s.plainWrite row ix a v
  else if 0x400 ≤ o && o < 0x630 then
    if hp : p < 17 then
      if he : (o - 0x400) / 0x10 < 35 then
        match o % 0x10 with
        | 0 => s.dbgCtlWrite ⟨p, hp⟩ ⟨_, he⟩ a v
        | 0xC => s.dbgWrite p ((o - 0x400) / 0x10) ((Tab.get 0 s.bus.lowHalf (a - 4)).toNat + v * 2 ^ 32)
        | _ => s.plainWrite row ix a v
      else s
    else s
  else s.plainWrite row ix a v

/-- A write of a descriptor's word: the roots of a FIB are the agent's, and the two halves of the miss response apply together (R6, R194,
R208). -/
def State.tdWrite (s : State) (row : RegRow) (ix : List Nat) (a v : Nat) : State :=
  let o := a % 0x20
  let kind := s.tdKind ((a - 0x5001000) / 0x20)
  if (o = 8 || o = 0xC) && (kind == 3 || kind == 4) then s
  else if o = 0x14 then
    let low := (a - 4, 0xFFFFFFFF, (Tab.get 0 s.bus.lowHalf (a - 4)).toNat)
    ({ s with bus := { s.bus with pendRegs := s.bus.pendRegs ++ [low] } } : State).plainWrite row ix a v
  else s.plainWrite row ix a v

/-- A write of a register of the tables (R196, R203, R216). -/
def State.lkpWrite (s : State) (r : Requester) (row : RegRow) (ix : List Nat) (a v : Nat) : State :=
  if a = 0x5000020 || a = 0x5000024 then
    let w : Fin 2 := if a = 0x5000020 then 0 else 1
    if bitOf v 0 then s.run (execCommit w) else if bitOf v 1 then s.run (execDiscard w) else s
  else if 0x5001000 ≤ a && a < 0x5003000 then s.tdWrite row ix a v
  else if 0x6000000 ≤ a && a % 0x1000 = 0 then
    let w : Fin 2 := if a = 0x6000000 then 0 else 1
    let s := s.plainWrite row ix a v
    let t : Fin 4 := ⟨bits v 5 4 % 4, Nat.mod_lt _ (by decide)⟩
    if v % 4 = 1 then s.run (execWindowRead r w t) else if v % 4 = 2 then s.run (execWindowWrite r w t) else s
  else if 0x6000000 ≤ a && a % 0x1000 = 0xC then s.commitHigh (a - 4) v
  else if 0x6000000 ≤ a && a % 0x1000 = 0x10 then s.hashWrite r (if a = 0x6000010 then 0 else 1) (bits v 2 0) (bits v 15 8) (bitOf v 16)
  else s.plainWrite row ix a v

/-- A write of a register of classification (R231, R240, R249). -/
def State.clsWrite (s : State) (r : Requester) (row : RegRow) (ix : List Nat) (a v : Nat) : State :=
  if 0x8020000 ≤ a && a < 0x8022000 && a % 0x1000 = 0 then 
    s.tcmCommand r (if a = 0x8020000 then 0 else 1) (bits v 2 0) (bits v 10 8) false
  else if a = 0x8050000 || a = 0x8050100 then
    let w : Fin 2 := if a = 0x8050000 then 0 else 1
    if v % 4 = 1 then s.run (execPolicerWindowRead r w false) else if v % 4 = 2 then s.run (execPolicerWindowWrite r w) else s
  else if 0x9000010 ≤ a && a < 0x9000020 then
    let b := decide (0x9000018 ≤ a)
    if s.patProtected b then s.raise patStat 4 else (s.plainWrite row ix a v).patTouched b
  else if a = 0x9000020 then (if bitOf v 0 then s.run (execPatCheck (bitOf v 4)) else s.plainWrite row ix a v)
  else if a = 0x9000208 then s.run (execPatWinWrite r (BitVec.ofNat 32 v))
  else s.plainWrite row ix a v

/-- A write of a register of the learning unit. -/
def State.lrnWrite (s : State) (r : Requester) (row : RegRow) (ix : List Nat) (a v : Nat) : State :=
  if a = 0xA000000 then s.lrnCfgWrite v
  else if a = 0xA000008 then
    if s.fld a 7 0 = 0 then
      let s := s.plainWrite row ix a v
      if v % 256 = 0 then s else { s with lrn := { s.lrn with epochAt := s.bus.ticks } }
    else { s with lrn := { s.lrn with agePend := some (v % 65536) } }
  else if a = 0xA00001C then s.run (execUnfreeze r (BitVec.ofNat 32 v))
  else s.plainWrite row ix a v

/-- A write of a register of the square and the scheduler (R280, R281, R287, R306, R317, R319). -/
def State.tmWrite (s : State) (r : Requester) (row : RegRow) (ix : List Nat) (a v : Nat) : State :=
  let w : Fin 2 := if a % 0x200 < 0x100 then 0 else 1
  if 0xB010000 ≤ a && a < 0xB010200 && a % 0x100 = 0 then
    if v % 4 = 1 then s.run (execQueueRead r w) else if v % 4 = 2 then s.run (execQueueWrite r w)
    else if v % 4 = 3 then s.run (execFlush r w) else s
  else if a = 0xC000014 then s.run (execQuarantineRelease (BitVec.ofNat 27 v))
  else if 0xD020000 ≤ a && a < 0xD020200 && a % 0x100 = 0 then
    let s := s.plainWrite row ix a v
    let l : Fin 8 := ⟨bits v 6 4 % 8, Nat.mod_lt _ (by decide)⟩
    if v % 4 = 1 then s.run (execNodeRead r w l) else if v % 4 = 2 then s.run (execNodeWrite r w l) else s
  else if 0xD030000 ≤ a && a < 0xD030200 && a % 0x100 = 0 then
    let s := s.plainWrite row ix a v
    if v % 4 = 1 then s.run (execSampleRead r w (bitOf v 8)) else s
  else if (0xD810000 ≤ a && a < 0xD810010) || (0xD820000 ≤ a && a < 0xD820010) then s.raise 0xD800000 1
  else s.plainWrite row ix a v

/-- The spare lanes of a pseudo-channel as written are kept in firmware's log (R373). -/
def State.keepSpare (s : State) (c p : Nat) : State :=
  let v := s.reg (hbmCh c (0x40 + p * 4))
  let s : State := { s with boot := { s.boot with spares := Tab.set 0x3F3F s.boot.spares (c * 2 + p) v } }
  if v = 0x3F3F then s else s.logRepair 0x0702

/-- A write of a register of the fabric interface or of the DRAM controller (R346, R347, R365, R372 to R375). -/
def State.outWrite (s : State) (row : RegRow) (ix : List Nat) (a v : Nat) : State :=
  if 0xE000020 ≤ a && a < 0xE000030 then
    let s := s.plainWrite row ix a v
    if s.scrStopped .fab then s.setReg (a + 0x10) v else s
  else if 0xE000040 ≤ a && a < 0xE000050 then
    if h : (a - 0xE000040) / 4 < 4 then s.run (execLaneEnable ⟨_, h⟩ (BitVec.ofNat 32 v)) else s
  else if a = 0xF000000 || a = 0xF000020 then
    if s.flag a 31 && bits v 10 8 ≠ s.fld a 10 8 then (s.setFlag a 31 (bitOf v 31)).raise (a + 8) 1 else s.plainWrite row ix a v
  else if a = 0xF000044 then s.refCarry.plainWrite row ix a v
  else if 0xF020000 ≤ a then
    let c := (a - 0xF020000) / 0x400
    let stat := hbmHalf (chanTm c) 8
    if h : c < 128 then
      match a % 0x400 with
      | 0x14 => s.run (execRemapDataWrite ⟨c, h⟩ (BitVec.ofNat 32 v))
      | 0x20 => if v % 4 = 0 then s.plainWrite row ix a v else s.helperStart c (v % 4) (bits v 8 8) (bits v 7 4)
      | 0x2C => s.commitHigh (a - 4) v
      | 0x40 | 0x44 => if s.flag (hbmCh c 0) 0 then s.raise stat 1 else (s.plainWrite row ix a v).keepSpare c ((a % 0x400 - 0x40) / 4)
      | _ => s.plainWrite row ix a v
    else s
  else s.plainWrite row ix a v

/-- A write of a register of the host interface: rings, vectors and the rest. -/
def State.hifWrite (s : State) (r : Requester) (row : RegRow) (ix : List Nat) (a v : Nat) : State :=
  if 0x601000 ≤ a && a < 0x603000 then s.ringWrite r row ix a v
  else if a = 0x603500 then
    if h : v % 64 < 64 then s.run (execVectorEoi ⟨v % 64, h⟩) else s
  else if 0x610000 ≤ a && a < 0x610400 && a % 0x10 = 0xC then
    if h : (a - 0x610000) / 0x10 < 64 then
      if bitOf v 0 then s.setFlag a 0 true else s.run (execMsixUnmask ⟨_, h⟩)
    else s
  else s.plainWrite row ix a v

/-- A write of a register, by its unit. -/
def State.unitWrite (s : State) (r : Requester) (row : RegRow) (ix : List Nat) (a v : Nat) : State :=
  if lowWritten a && !(0x601000 ≤ a && a < 0x603000) && a / 0x100000 ≠ 7 then s.keepLow a v
  else match a / 0x100000 with
    | 0x01 => if a = 0x100010 then (let s := s.plainWrite row ix a v; if bitOf v 1 then s.realign else s) else s.plainWrite row ix a v
    | 0x02 => s.timWrite row ix a v
    | 0x03 => s.mateWrite r row ix a v
    | 0x04 => if a = 0x400090 then s.injWrite row ix v else s.plainWrite row ix a v
    | 0x05 => s.pmuWrite r row ix a v
    | 0x06 => s.hifWrite r row ix a v
    | 0x07 => s.mbxWrite r row ix a v
    | 0x08 | 0x09 => s.plainWrite row ix a v
    | n =>
      if n < 0x20 then s.lineWrite row ix a v
      else if n < 0x30 then s.pgWrite row ix a v
      else if n < 0x50 then s.aveWrite r row ix a v
      else if n < 0x80 then s.lkpWrite r row ix a v
      else if n < 0xA0 then s.clsWrite r row ix a v
      else if n < 0xB0 then s.lrnWrite r row ix a v
      else if n < 0xE0 then s.tmWrite r row ix a v
      else s.outWrite row ix a v

/-- A write of a defined register: activation slots and *_SCR registers by their common layouts, the others by their unit. -/
def State.defWrite (s : State) (r : Requester) (row : RegRow) (ix : List Nat) (a v : Nat) : State :=
  match allSlots.find? fun k => slotTgt k + 4 == a with
  | some k => s.actWrite k a v
  | none =>
    match allScrs.find? fun k => scrAddr k == a with
    | some k => s.scrWrite k a v
    | none => s.unitWrite r row ix a v

/-- A write on the register bus (R4, R19, R20): a naturally aligned 32-bit write of a requester. -/
def State.busWrite (s : State) (r : Requester) (a0 v : Nat) : State :=
  let a := canonAddr a0
  match regLookup a with
  | none => s.unmapped r a0
  | some (row, ix) =>
    if s.hidden r a0 || (row.fw && r == .host) then s.unmapped r a0
    else match winForeign r a with
      | some (stat, bit) => ((s.raise stat bit).done r a0).irq
      | none => ((s.defWrite r row ix a v).done r a0).irq

/-! ## Reads (R4, R5, R8, R20) -/

/-- The requester that OWNER of ERR_CFG names. -/
def State.errOwner (s : State) : Requester := if s.flag 0x400004 31 then .host else .mss

/-- The words of the learn records, of the error records and of the sample records. -/
def lrnRecWord (a : Nat) : Bool := decide (0xA000030 ≤ a) && decide (a < 0xA000050)
def errRecWord (a : Nat) : Bool := decide (0x400060 ≤ a) && decide (a < 0x400078)
def smpRecWord (a : Nat) : Bool := decide (0x500200 ≤ a) && decide (a < 0x500280)

/-- A word of a record read by the requester that is not the owner of its queue: the status bit to set (R264, R512, R523). -/
def State.recForeign (s : State) (r : Requester) (a : Nat) : Option (Nat × Nat) :=
  if lrnRecWord a && !s.lrnOwner r then some (lrnStat, 9)
  else if errRecWord a && r ≠ s.errOwner then some (0x400000, 2)
  else if smpRecWord a && !s.owns r 0x500100 30 then some (0x500000, 3)
  else none

/-- A read of a register changes more than its completion: RC fields, the words of owned records, and the fetch of a bundle that a read of
AVE_CODE_DATA0 begins and one of AVE_CODE_DATA3 ends (R8, R264, R512, R523, AVE_CODE_DATA). -/
def readActs (row : RegRow) (a : Nat) : Bool := row.rc != 0 || a = 0x30F0034 || a = 0x30F0040 || lrnRecWord a || errRecWord a || smpRecWord a

/-- A read on the register bus: the low half of a 64-bit value latches its high half for the requester; bits that a read clears are
cleared; a bundle is fetched from the copy of the avenue whose window is used. -/
def State.busRead (s : State) (r : Requester) (a0 : Nat) : State :=
  let a := canonAddr a0
  match regLookup a with
  | none => s.unmapped r a0
  | some (row, _) =>
    if s.hidden r a0 then s.unmapped r a0
    else match winForeign r a with
      | some (stat, bit) => (s.raise stat bit).done r a0
      | none => match s.recForeign r a with
      | some (stat, bit) => (s.raise stat bit).done r a0
      | none =>
        let s := if a = 0x30F0034 then s.codeFetch ((a0 - 0x3000000) / 0x100000) else s
        let v := s.readFor r a
        let p := (a - 0x3000000) / 0x100000
        let dbg := decide (0x3000408 ≤ a) && decide (a < 0x4100000) && lowWritten a
        let s := if dbg && !s.dbgServed p ((a % 0x100000 - 0x400) / 0x10) then s.raise (aveStat p) 5 else s
        let s : State := if lowRead a then
            { s with bus := { s.bus with latch := Tab.set none s.bus.latch (requesterNo r * 2 ^ 28 + (a + 4)) (some (BitVec.ofNat 32 (s.view (a + 4)))) } }
          else s
        let s := if row.rc = 0 then s else s.setReg a (s.reg a - (s.reg a &&& row.rc))
        let s := if a = 0x30F0040 then s.nextCodeAddr else s
        (s.answer r a0 v).irq

/-! ## The rows -/

/-- UNSUPPORTED_REQUEST_ACCESS: an access that is not a naturally aligned 32-bit access (R4, R526). -/
def execUnsupportedRequestAccess (r : Requester) (a : BitVec 28) (size : Nat) (_ : Bool) (s : State) : Host.Outcome State Fault Refusal :=
  if size = 4 && a.toNat % 4 = 0 then .next s
  else
    let s := (s.bumpReg 0x400044 1).report 0x06 3 1 (requesterNo r) a.toNat
    .next { s with bus := { s.bus with cpl := some { req := r, addr := a.toNat, data := 0, status := .unsupportedRequest } } }

/-- UNMAPPED_ACCESS: an aligned access at which no register is defined (R20). -/
def execUnmappedAccess (r : Requester) (a : BitVec 28) (wr : Bool) (s : State) : Host.Outcome State Fault Refusal :=
  .next (if s.mapped r a.toNat || a.toNat % 4 ≠ 0 then s else if wr then s.busWrite r a.toNat 0 else s.busRead r a.toNat)

/-- LATCHING_LOW_HALF_READ (R5). -/
def execLatchingLowHalfRead (r : Requester) (a : BitVec 28) (s : State) : Host.Outcome State Fault Refusal :=
  .next (if lowRead (canonAddr a.toNat) then s.busRead r a.toNat else s)

/-- HIGH_HALF_WRITE: the value takes effect with the high half (R6). -/
def execHighHalfWrite (r : Requester) (a : BitVec 28) (v : Word) (s : State) : Host.Outcome State Fault Refusal :=
  .next (if 4 ≤ a.toNat && lowWritten (canonAddr (a.toNat - 4)) then s.busWrite r a.toNat v.toNat else s)

/-- READ_CLEAR_READ: a read of a register whose read changes state (R8, AVE_CODE_DATA). -/
def execReadClearRead (r : Requester) (a : BitVec 28) (s : State) : Host.Outcome State Fault Refusal :=
  .next (match regLookup (canonAddr a.toNat) with
    | some (row, _) => if readActs row (canonAddr a.toNat) then s.busRead r a.toNat else s
    | none => s)

end Sys2Proof.Machine
end

