-- ==== Sys2Proof/Machine/Image.lean ====
section
/-! DEFINITION. Images, boot configuration records and the boot-state record: their layouts and checks, and how a section is loaded into its
unit (spec/16_start R434 to R438, 17_update R449 to R453, R463). -/

namespace Sys2Proof.Machine

/-! ## Headers (R449, R451, R453) -/

/-- The number in n bytes from byte i. -/
def numAt (h : List Byte) (i n : Nat) : Nat := leNat (sliceAt h i n)

def zeroAt (h : List Byte) (i n : Nat) : Bool := (sliceAt h i n).all (· == 0)

/-- KIND of an image: 1 main, 2 program, 3 configuration. -/
def imgKind (h : List Byte) : Nat := byteAt h 3
def imgSections (h : List Byte) : Nat := numAt h 32 4
def imgLen (h : List Byte) : Nat := numAt h 24 8

/-- The largest BODY_LEN of a KIND (R450). -/
def imgLimit (kind : Nat) : Nat := [0, 58720000, 67108864, 528384].getD kind 0

/-- The signer is accepted (R453). -/
def State.signerOk (s : State) (h : List Byte) : Bool :=
  let g := byteAt h 14
  g == 255 || (decide (g < 4) && s.keyEnrolled g && s.eeps (keySlot g + 8) 8 == sliceAt h 40 8
    && bitOf (s.eep (keySlot g + 1)).toNat (if imgKind h = 2 then 1 else 0))

/-- The key that a signer's images are checked against (R453). -/
def State.signerKey (s : State) (h : List Byte) : List Byte := if byteAt h 14 = 255 then Config.vendorKey else s.keyOf (byteAt h 14)

/-- The header checks in their order: the RESULT (R451). -/
def State.headerCheck (s : State) (kinds : List Nat) (h : List Byte) : Nat :=
  let step := s.fld 0 15 8
  let serial := numAt h 8 6
  if numAt h 0 2 ≠ 0x4D49 || byteAt h 2 ≠ 1 || imgSections h < 1 || 64 < imgSections h || !zeroAt h 36 4 || !zeroAt h 96 64 then 1
  else if imgKind h < 1 || 3 < imgKind h || !kinds.contains (imgKind h) then 2
  else if numAt h 4 2 ≠ s.fld 0 31 16 || step < byteAt h 6 || byteAt h 7 < step then 3
  else if serial ≠ 0 && (serial ≠ s.serial || s.serial = 0) then 4
  else if !s.signerOk h then 5
  else if !ecdsaOk (s.signerKey h) (sha384 (h.take 160)) (sliceAt h 160 96) then 6
  else if imgLen h = 0 || imgLimit (imgKind h) < imgLen h then 7
  else 0

/-- The body has the header's digest (R449). -/
def digestOk (h body : List Byte) : Bool := (sha384 body).toNat == beNat (sliceAt h 48 48)

/-! ## Sections (R450) -/

/-- An entry of the section table. -/
structure Section where
  kind : Nat
  off : Nat
  len : Nat
  crc : Nat
  rest : Bool
  deriving DecidableEq, Repr

def sectionAt (body : List Byte) (i : Nat) : Section :=
  let e := sliceAt body (32 * i) 32
  { kind := numAt e 0 2, off := numAt e 8 8, len := numAt e 16 8, crc := numAt e 24 4, rest := zeroAt e 2 2 && zeroAt e 28 4 }

def sectionBytes (body : List Byte) (i : Nat) : List Byte := sliceAt body (sectionAt body i).off (sectionAt body i).len

/-- How many sections of a kind an image's KIND allows: 0, 1, or any (2). -/
def sectionRoom (kind k : Nat) : Nat :=
  match kind with
  | 1 => if k = 1 then 1 else if 2 ≤ k && k ≤ 7 then 2 else 0
  | 2 => if k = 2 || k = 3 || k = 4 || k = 6 then 1 else 0
  | _ => if k = 8 then 1 else 0

/-- The length that a section's kind asks for. -/
def sectionLenOk (kind : Nat) (x : Section) (bs : List Byte) : Bool :=
  match x.kind with
  | 2 => decide (1 ≤ numAt bs 12 4) && decide (numAt bs 12 4 ≤ 32768) && x.len == 16 + 16 * numAt bs 12 4
  | 3 => x.len == 41732
  | 4 => x.len % 80 == 0 && (kind != 2 || decide (x.len ≤ 2048 * 80))
  | 5 => x.len % 176 == 0
  | 7 => decide (64 ≤ x.len) && x.len % 32 == 0
  | _ => true

/-- Section i of an image of a KIND with n sections is as it should be (R450). -/
def sectionOk (kind n : Nat) (body : List Byte) (i : Nat) : Bool :=
  let x := sectionAt body i
  let inside := x.off % 64 == 0 && decide (32 * n ≤ x.off) && decide (x.off + x.len ≤ body.length)
  let apart := (List.range n).all fun j =>
    let y := sectionAt body j
    j == i || decide (x.off + x.len ≤ y.off) || decide (y.off + y.len ≤ x.off)
  let count := ((List.range i).filter fun j => (sectionAt body j).kind == x.kind).length
  let room := sectionRoom kind x.kind
  x.rest && inside && apart && room != 0 && (room == 2 || count == 0)
    && sectionLenOk kind x (sectionBytes body i) && crcIeee (sectionBytes body i) == x.crc

/-- The first section that fails; none when every one passes. -/
def firstBadSection (kind n : Nat) (body : List Byte) : Option Nat := (List.range n).find? fun i => !sectionOk kind n body i

/-- The section of which an image of a KIND must have exactly one is there. -/
def sectionNeeded (kind n : Nat) (body : List Byte) : Bool :=
  kind == 2 || (List.range n).any fun i => (sectionAt body i).kind == if kind = 1 then 1 else 8

/-- The loader's checks of the main image: the failure code, 0 for none (R452). -/
def State.imageCheck (s : State) : Option (List Byte × List Byte) → Nat
  | none => 0x10
  | some (h, body) =>
    let c := s.headerCheck [1] h
    if c = 6 then 0x11
    else if c ≠ 0 then 0x10
    else if !digestOk h body then 0x11
    else if (firstBadSection 1 (imgSections h) body).isSome || !sectionNeeded 1 (imgSections h) body then 0x10
    else 0

/-! ## The boot configuration record (R436 to R438) -/

/-- An entry: 1 WRITE, 2 START, 3 WAIT, 4 IMAGE. -/
structure BcrEntry where
  op : Nat
  addr : Nat
  phase : Nat
  value : Nat
  arg : Nat
  deriving DecidableEq, Repr

def bcrSeq (b : List Byte) : Nat := numAt b 8 4
def bcrCount (b : List Byte) : Nat := numAt b 12 4

def bcrEntry (b : List Byte) (i : Nat) : BcrEntry :=
  let e0 := numAt b (64 + 16 * i) 8
  let e1 := numAt b (72 + 16 * i) 8
  { op := bits e0 39 32, addr := bits e0 31 0, phase := bits e0 63 40, value := bits e1 31 0, arg := bits e1 63 32 }

def bcrEntries (b : List Byte) : List BcrEntry := (List.range (bcrCount b)).map (bcrEntry b)

/-- The CRC of a copy as it should be (R437). -/
def bcrCrc (b : List Byte) : Nat := crcIeee (b.take 60 ++ sliceAt b 64 (16 * bcrCount b))

/-- Phases stand in non-decreasing order. -/
def phasesRise : Nat → List BcrEntry → Bool
  | _, [] => true
  | p, e :: es => decide (p ≤ e.phase) && phasesRise e.phase es

/-- A copy passes the checks of R437 and R438. -/
def bcrOk (type : Nat) (b : List Byte) : Bool :=
  let es := bcrEntries b
  numAt b 0 2 == 0x4243 && byteAt b 2 == 1 && byteAt b 3 == 0 && numAt b 4 2 == type && decide (1 ≤ bcrCount b) && decide (bcrCount b ≤ 32764)
    && decide (64 + 16 * bcrCount b ≤ b.length) && zeroAt b 16 44 && numAt b 60 4 == bcrCrc b
    && es.all (fun e => 1 ≤ e.op && e.op ≤ 4 && 1 ≤ e.phase && e.phase ≤ 4) && phasesRise 1 es

/-- The copy to be used: whether it is B, and its bytes (R436). -/
def State.bcrChoice (s : State) : Option (Bool × List Byte) :=
  let ok := fun (o : Option (List Byte)) => o.filter (bcrOk (s.fld 0 31 16))
  match ok s.boot.bcrA, ok s.boot.bcrB with
  | some a, some b => if 0 < aheadBy (bcrSeq b) (bcrSeq a) then some (true, b) else some (false, a)
  | some a, none => some (false, a)
  | none, some b => some (true, b)
  | none, none => none

/-- A copy with another SEQ, its CRC made anew (R464). -/
def bcrRenumber (b : List Byte) (seq : Nat) : List Byte :=
  let n := b.take 8 ++ leBytes seq 4 ++ b.drop 12
  n.take 60 ++ leBytes (bcrCrc n) 4 ++ n.drop 64

/-! ## The boot-state record (R434) -/

/-- The valid copy with the higher SEQ. -/
def State.bootRec (s : State) : Option BootRec :=
  match s.boot.rec0, s.boot.rec1 with
  | some a, some b => if 0 < aheadBy b.seq a.seq then some b else some a
  | some a, none => some a
  | none, o => o

/-- A record written over the copy with the lower SEQ. -/
def State.putRec (s : State) (r : BootRec) : State :=
  let seq := match s.bootRec with
    | some x => (x.seq + 1) % 2 ^ 32
    | none => 1
  let r := { r with seq := seq }
  let over1 := match s.boot.rec0, s.boot.rec1 with
    | some a, some b => decide (aheadBy b.seq a.seq ≤ 0)
    | some _, none => true
    | none, _ => false
  if over1 then { s with boot := { s.boot with rec1 := some r } } else { s with boot := { s.boot with rec0 := some r } }

/-- The boot-state fields as always-on SRAM holds them. -/
def State.sramRec (s : State) : BootRec :=
  { seq := 0, attempts := s.fld 0x800000 9 8, pending := s.boot.pend, lastFail := s.fld 0x800004 15 8, failStep := s.fld 0x800004 19 16,
    trial := s.flag 0x800000 7 }

/-- The record written with what the SRAM holds. -/
def State.writeRec (s : State) : State := (s.putRec s.sramRec).writtenAny 15

/-- The SRAM's fields loaded from the record; 0 without a valid copy (R428, R434). -/
def State.loadRec (s : State) : State :=
  let r : BootRec := s.bootRec.getD { seq := 0, attempts := 0, pending := false, lastFail := 0, failStep := 0, trial := false }
  let s := ((s.setFld 0x800000 9 8 r.attempts).setFlag 0x800000 7 r.trial).setFld 0x800004 19 8 (r.lastFail % 256 + r.failStep % 16 * 2 ^ 8)
  { s with boot := { s.boot with pend := r.pending } }

/-! ## Sections loaded into their units (R461, R463) -/

/-- Consecutive 32-bit words of bytes. -/
def words32 (bs : List Byte) (i : Nat) : Nat → List Nat
  | 0 => []
  | n + 1 => numAt bs i 4 :: words32 bs (i + 4) n

/-- Registers written in turn by firmware. -/
def State.fwWrites (s : State) (a : Nat) (vs : List Nat) : State := vs.zipIdx.foldl (fun s v => s.busWrite .mss (a + 4 * v.2) v.1) s

/-- A CODE section written into a code bank, with its entries and its tag. -/
def State.loadCode (s : State) (b : Bool) (bs : List Byte) : State :=
  let o := 4 * b2n b
  let s := ((s.busWrite .mss (0x30F0014 + o) (numAt bs 0 4)).busWrite .mss (0x30F001C + o) (numAt bs 4 4)).busWrite .mss (0x30F0024 + o) (numAt bs 8 4)
  let n := numAt bs 12 4
  ((List.range n).foldl (fun s i => s.writeCode b i (BitVec.ofNat 128 (numAt bs (16 + 16 * i) 16))) s).codeTouched b

/-- A GRAPH section written into a graph bank, with its tag. -/
def State.loadGraph (s : State) (b : Bool) (bs : List Byte) : State :=
  let o := bankOff b
  let s := s.fwWrites (0x2100000 + o) (words32 bs 0 2048)
  let s := s.fwWrites (0x2110000 + o) (words32 bs 8192 8192)
  let s := s.fwWrites (0x2120000 + o) (words32 bs 40960 192)
  s.busWrite .mss (if b then 0x2000024 else 0x2000020) (numAt bs 41728 4)

/-- A PATTERN section written into an image slot; none when it is larger than the slot's range. -/
def State.loadPattern (s : State) (b : Bool) (bs : List Byte) : Option State :=
  let base := s.fld (patBase b) 20 0 * 64
  if s.fld (patBase b + 4) 20 0 * 4096 < bs.length then none
  else
    let put := fun (d : Tab Line) (i : Nat) =>
      let n := min 64 (bs.length - 64 * i)
      Tab.set 0 d (base + i) (mergeLine (Tab.get 0 d (base + i)) (BitVec.ofNat 512 (numAt bs (64 * i) n)) (byteMask 0 n))
    some (({ s with tbl := { s.tbl with dram := (List.range (ceilDiv bs.length 64)).foldl put s.tbl.dram } } : State).patTouched b)

/-- A record of a TABLE section: the word, the byte mask and the data. -/
def tableRec (bs : List Byte) (i : Nat) : Nat × BitVec 64 × Line :=
  (numAt bs (80 * i) 4, BitVec.ofNat 64 (numAt bs (80 * i + 8) 8), BitVec.ofNat 512 (numAt bs (80 * i + 16) 64))

/-- A TABLE record may be written: a word of lookup SRAM that no hash table or FIB holds. -/
def State.tableRecOk (s : State) (w : Nat) : Bool :=
  decide (w < sramWords) && !([2, 3, 4].contains (((s.wordTable w).map s.tdKind).getD 0))

/-- A TABLE section committed at once (R463). -/
def State.loadTable (s : State) (bs : List Byte) : Option State :=
  let rs := (List.range (bs.length / 80)).map (tableRec bs)
  if rs.all fun r => s.tableRecOk r.1 then
    some ((rs.foldl (fun s r => s.setRaw r.1 (mergeLine (s.rawWord r.1) r.2.2 r.2.1)) s).shadowWords (rs.map (·.1)))
  else none

/-- A TABLE section staged as window writes of writer 1; none where one finds no overlay entry or no word to write (R215, R219, R461). -/
def State.stageTable (s : State) (bs : List Byte) : Option State :=
  (List.range (bs.length / 80)).foldl (fun o i =>
    match o with
    | none => none
    | some s =>
      let (w, m, d) := tableRec bs i
      if !s.tableRecOk w then none
      else
        let merges := s.tbl.ovl.any fun x => !x.committed && x.writer == 1 && !x.go && x.word == w
        if merges || s.winRoom then some (s.stage 1 false w d m) else none) (some s)

/-- A beat passes without an overrun. -/
def State.beatPasses (s : State) : State := s.run (execBeatBoundary [] [])

/-- The update engines brought to the end of a WRITE: at most three row operations (R233, R234). -/
def State.tcmRun (s : State) : State :=
  let s := (List.range 4).foldl (fun s _ => ((List.finRange 17).foldl (fun s p => s.run (execTcamRowOperation ⟨p, false⟩)) s).beatPasses) s
  s.run (execTcamCommandComplete 1)

/-- A record of a TCAM section written by a WRITE command of firmware's window; none when it is refused (R234, R463). -/
def State.loadTcamRec (s : State) (r : List Byte) : Option State :=
  let a := tcmWin 1
  let words := fun (i : Nat) => (List.range 20).map fun k => beNat (sliceAt r (i + 4 * k) 4)
  let s := (s.setFld (a + 4) 15 0 (numAt r 2 2)).setReg (a + 0xC) (numAt r 4 4)
  let s := ((s.setReg (a + 0x10) (byteAt r 8)).setRegs (a + 0x40) (words 16)).setRegs (a + 0x90) (words 96)
  let s := (s.tcmCommand .mss 1 1 (byteAt r 0) false).tcmRun
  if s.fld a 30 28 = 0 && !s.flag a 31 && byteAt r 0 < 8 then some s else none

/-- A TCAM section. -/
def State.loadTcam (s : State) (bs : List Byte) : Option State :=
  (List.range (bs.length / 176)).foldl (fun o i => o.bind fun s => s.loadTcamRec (sliceAt bs (176 * i) 176)) (some s)

/-- A ROUTES section passed to the route-install agent; none when the batch is refused or nothing of it published (R213). -/
def State.loadRoutes (s : State) (bs : List Byte) : Option State :=
  let n := bs.length / 32 - 2
  let (s, r) := s.routeDelta (words64 bs 0 4) ((List.range n).map fun i => words64 bs (4 + 4 * i) 4)
  if r.headD 0 % 256 < 2 then some s else none

/-- The check of a code bank, a graph bank or an image slot run to its end, behind one that runs: whether it is CLEAN afterwards. -/
def State.psClean (s : State) (b : Bool) : State × Bool :=
  let s := ((s.run (execPsCheckComplete none)).run (execPsCheck b)).run (execPsCheckComplete none)
  (s, s.flag psStat (if b then 2 else 1))

def State.pgClean (s : State) (b : Bool) : State × Bool :=
  let s := ((s.run execPgCheckComplete).run (execPgCheck b)).run execPgCheckComplete
  (s, s.flag pgStat (if b then 2 else 1))

def State.patClean (s : State) (b : Bool) : State × Bool :=
  let s := ((s.run execPatCheckComplete).run (execPatCheck b)).run execPatCheckComplete
  (s, s.flag patStat (if b then 2 else 1))

end Sys2Proof.Machine
end

