-- ==== Sys2Proof/Machine/Boot.lean ====
section
/-! DEFINITION. Resets, the boot sequence, the watchdog, and confirmation (spec/16_start), and the general register write, which BOOT_CTL
takes part in (spec/00_scope R8). -/

namespace Sys2Proof.Machine

def bootStat : Nat := 0x800000
def bootReason : Nat := 0x800004

/-- STEP of BOOT_STAT. -/
def State.bootStep (s : State) : Nat := s.fld bootStat 15 12

def State.confirmed (s : State) : Bool := s.flag bootStat 6

/-! ## Failures (R445, R446) -/

/-- A failure recorded: LAST_FAIL and FAIL_STEP in SRAM and in the record, and a critical event. The flash is not written when it failed
itself (R446). -/
def State.bootFail (s : State) (code step : Nat) : State :=
  let s := (s.setFld bootReason 15 8 code).setFld bootReason 19 16 step
  let s : State := { s with boot := { s.boot with coded := true } }
  let s := if code = 0x21 then s else s.writeRec
  let keep := s.boot.flashLog
  let s := s.logEvent 5 0x08 (Config.eventCode 3).toNat (s.reg bootReason) (Config.eventArg s.fresh).toNat
  let s : State := { s with fresh := s.fresh + 1 }
  if code = 0x21 then { s with boot := { s.boot with flashLog := keep } } else s

/-! ## Resets (R429) -/

/-- The module in reset, with what each kind of reset keeps: power says that the supplies were lost, cause is that of the start to come. -/
def State.restart (s : State) (power : Bool) (cause : Nat) : State :=
  let b := s.boot
  let step := if b.inReset then b.atStep else s.bootStep
  let boot : BootState :=
    { rec0 := b.rec0, rec1 := b.rec1, bcrA := b.bcrA, bcrB := b.bcrB, image := b.image, flashLog := b.flashLog,
      pend := !power && b.pend, cause := cause, coded := b.coded, atStep := step, repairs := b.repairs, spares := b.spares }
  let mss : MssState :=
    { retained := if power then [] else s.mss.retained, eeprom := s.mss.eeprom,
      sensor := s.mss.sensor.filterMap fun e => if e.2.value = 0 then none else some (e.1, { value := e.2.value }) }
  let elec : ElecState := { tapFe := s.elec.tapFe, tapTm := s.elec.tapTm, clkBad := s.elec.clkBad }
  let t : State := { State.reset with
    boot := boot, mss := mss, elec := elec, err := { stepAt := s.err.stepAt, raised := s.err.raised, wires := s.err.wires },
    hif := { perst := s.hif.perst }, fresh := s.fresh, pending := s.pending }
  if power then t else (t.setReg bootStat (s.reg bootStat &&& 0x3C0)).setReg bootReason (s.reg bootReason)

/-- Firmware reloaded and verified, and started: sessions and commands taken are gone, the data plane and the registers stay (R402, R410,
R429, R455). The loader that refuses the image enters recovery. -/
def State.firmwareRestart (s : State) (cause : Nat) : State :=
  let s := s.setFld bootReason 7 0 cause
  let s : State := { s with mss := { s.mss with taken := [] }, upd := { } }
  let s := ((s.setFld 0x801000 2 0 0).setFld 0x801000 7 4 0).setReg 0x801004 0
  let code := s.imageCheck s.boot.image
  if code ≠ 0 then
    let s := s.bootFail code 2
    let s : State := { s with boot := { s.boot with recCode := code } }
    ((((s.setFld 0x900000 1 0 3).setFlag 0x701000 0 false).setFld bootStat 15 12 11).setFlag 0x600004 9 true).raise bootStat 0
  else
    let s := (s.setFld 0x701000 31 16 (s.fld 0x701000 31 16 + 1)).setFlag 0x701000 0 true
    let s := s.setReg 0x800040 0x800007D0
    { s with boot := { s.boot with kick := s.bus.ticks } }

/-- A module reset (1) or a firmware restart (2) with a cause: held while firmware writes flash or the loader activates an image, and ignored
when one is held already (R448). -/
def State.resetOr (s : State) (kind cause : Nat) : State :=
  if s.boot.held.isSome then s
  else if s.boot.flashBusy then { s with boot := { s.boot with held := some (kind, cause) } }
  else if kind = 1 then s.restart false cause else (s.firmwareRestart cause).irq

/-- A power loss or RESET_N is never held. An image being written is lost: its first sector was erased (R448, R465). -/
def State.hardReset (s : State) (power : Bool) (cause : Nat) : State :=
  (match s.upd.writing with
    | some _ => { s with boot := { s.boot with image := none } }
    | none => s).restart power cause

/-- POWER_LOSS (R429). -/
def execPowerLoss (s : State) : Host.Outcome State Fault Refusal := .next (s.hardReset true 1)

/-- RESET_N: held low for 10 µs (R429). -/
def execResetN (s : State) : Host.Outcome State Fault Refusal := .next (s.hardReset false 2)

/-- A write of BOOT_CTL: without its key it is ignored and counted as unmapped (BOOT_CTL). -/
def bootKey (v : Word) : Bool := bits v.toNat 31 16 == 0xB007

/-- MODULE_RESET, written by a requester (R429, R448). -/
def State.moduleReset (s : State) (r : Requester) : State := s.resetOr 1 (if r = .host then 3 else 4)

/-- MODULE_RESET (R429, R448). -/
def execModuleReset (r : Requester) (s : State) : Host.Outcome State Fault Refusal := .next (s.moduleReset r)

/-- FW_RESTART: never counted, and CAUSE keeps the event that began the start (R429, R445). -/
def execFwRestart (_ : Requester) (s : State) : Host.Outcome State Fault Refusal := .next (s.resetOr 2 (s.fld bootReason 7 0))

/-! ## Confirmation (R441) -/

/-- The start confirmed: ATTEMPTS and PENDING clear, CONFIRMED set, the record written. -/
def State.confirmStart (s : State) : State :=
  let s := (s.setFld bootStat 9 8 0).setFlag bootStat 6 true
  ({ s with boot := { s.boot with pend := false } } : State).writeRec

/-- CONFIRM: firmware's write of CONFIRM (R441). -/
def execConfirm (s : State) : Host.Outcome State Fault Refusal := .next s.confirmStart

/-- CLR_ATTEMPTS (BOOT_CTL). -/
def execClrAttempts (s : State) : Host.Outcome State Fault Refusal :=
  .next ({ (s.setFld bootStat 9 8 0) with boot := { s.boot with pend := false } } : State).writeRec

/-! ## Watchdog and boot timeout (R439) -/

/-- The watchdog's period in clocks. -/
def State.wdtClocks (s : State) : Nat := max (s.fld 0x800040 15 0) 100 * msClocks

/-- KICK: the period starts over (R439). -/
def execKick (s : State) : Host.Outcome State Fault Refusal := .next { s with boot := { s.boot with kick := s.bus.ticks } }

/-- A start that has not been confirmed fails with a code at the STEP it is at (R446). -/
def State.failHere (s : State) (code : Nat) : State := if s.confirmed then s else s.bootFail code s.bootStep

/-- WATCHDOG_EXPIRY: a module reset before confirmation, a firmware restart after it (R439). -/
def execWatchdogExpiry (s : State) : Host.Outcome State Fault Refusal :=
  if !s.flag 0x800040 31 || s.bus.ticks < s.boot.kick + s.wdtClocks then .next s
  else if s.confirmed then .next (s.resetOr 2 5)
  else .next ((s.failHere 0x17).resetOr 1 5)

/-- The boot timeout in clocks, from the BCR in use; 0 acts as 30 s (R437). -/
def State.bootTimeout (s : State) : Nat :=
  let t := match if s.flag bootStat 5 then s.boot.bcrB else s.boot.bcrA with
    | some b => numAt b 6 2
    | none => 0
  (if t = 0 then 30 else t) * 1000 * msClocks

/-- BOOT_TIMEOUT: FORWARDING is not reached in time (R439). -/
def execBootTimeout (s : State) : Host.Outcome State Fault Refusal :=
  if s.boot.inReset || s.bootStep < 2 || 9 ≤ s.bootStep || s.bus.ticks < s.boot.launch + s.bootTimeout then .next s
  else .next ((s.failHere 0x16).resetOr 1 6)

/-! ## The boot sequence (R435) -/

/-- The latest start of each STEP in ms (R435). -/
def latestMs (n : Nat) : Nat := [0, 20, 60, 400, 500, 1000, 4000, 8000, 9000, 11000].getD n 0xFFFFFFFF

/-- STEP n begins: BOOT_STAT and BOOT_TIME_n (R435). -/
def State.enterStep (s : State) (n : Nat) : State :=
  let before := ((List.range n).map fun i => s.reg (0x800010 + 4 * i)).foldl max 0
  let late := if s.flag 0x800044 1 then 0xFFFFFFFF else latestMs n
  let t := max before (min (Config.bootMs s.fresh).toNat late)
  let s : State := { s with fresh := s.fresh + 1 }
  (s.setFld bootStat 15 12 n).setReg (0x800010 + 4 * n) t

/-- What a part of the boot gives: it goes on, or the start has ended here. -/
inductive Start where
  | on (s : State)
  | ended (s : State)

/-- The next part of a start that goes on. -/
def Start.andThen (r : Start) (f : State → Start) : Start :=
  match r with
  | .on s => f s
  | .ended s => .ended s

/-- A step begins, at which the start may come to a stand. -/
def State.stepOr (s : State) (hw : BootHw) (n : Nat) : Start :=
  let s := s.enterStep n
  if hw.hang.val = n && 2 ≤ n && n < 9 then .ended s else .on s

/-- Recovery mode with its code (R444). -/
def State.recovery (s : State) (code step : Nat) : State :=
  let s := s.bootFail code step
  let s : State := { s with boot := { s.boot with recCode := code } }
  let s := (s.setFld 0x900000 1 0 3).setFlag 0x600004 9 true
  (s.enterStep 11).raise bootStat 0

/-- A failure from step 8 on: recorded, then a module reset by firmware (R435). -/
def State.startFails (s : State) (code : Nat) : State := (s.bootFail code s.bootStep).restart false 4

/-- Steps 1 to 3: the record, the factory area, the flash (R424, R428, R431, R433). -/
def State.bootRom (s : State) (hw : BootHw) : Start :=
  let s := if s.boot.cause = 1 then s.loadRec else s
  let s : State := { s with boot := { s.boot with inReset := false, zero := s.bus.ticks, noSerial := !hw.eepromOk } }
  let s := ((s.setFlag bootStat 6 false).setFld bootReason 7 0 s.boot.cause).enterStep 0
  let s := if hw.eepromOk then s else (s.raise bootStat 4).logEvent 5 0x09 (Config.eventCode 6).toNat 0 0
  let mib := hw.flashMib.toNat
  if mib < 64 then .ended ((s.setReg 0x800044 (mib * 2 ^ 16)).recovery 0x21 0)
  else
    let s := s.setReg 0x800044 (mib * 2 ^ 16 + 4 + (if hw.slow then 2 else 1))
    if hw.flashHdr then .on s else .ended (s.recovery 0x21 0)

/-- Steps 4 to 6: the loader, and the attempt counted or minimal mode (R428, R445). -/
def State.bootCount (s : State) (hw : BootHw) : Start :=
  let s := s.enterStep 1
  if !hw.loaderOk then .ended (s.recovery 0x20 1)
  else
    let s := if s.boot.pend && !s.boot.coded then s.bootFail 0x19 s.boot.atStep else s
    if s.fld bootStat 9 8 = 3 then .on s
    else
      let s := s.setFld bootStat 9 8 (s.fld bootStat 9 8 + 1)
      .on ({ s with boot := { s.boot with pend := true, coded := false } } : State).writeRec

/-- Step 7: the main image checked and firmware launched; in minimal mode the start ends here (R435, R439, R442). -/
def State.bootLaunch (s : State) (minimal : Bool) (hw : BootHw) : Start :=
  (s.stepOr hw 2).andThen fun s =>
    let code := s.imageCheck s.boot.image
    if code ≠ 0 then .ended (s.recovery code 2)
    else
      let h := match s.boot.image with
        | some (h, _) => h
        | none => []
      let s := (s.setFld 0x701000 31 16 (s.fld 0x701000 31 16 + 1)).setFlag 0x701000 0 true
      let s := (s.setReg64 0x801010 (numAt h 16 8)).setReg 0x801018 (byteAt h 14 + b2n (numAt h 8 6 != 0) * 2 ^ 9)
      let s := s.setReg 0x800040 0x800007D0
      let s : State := { s with boot := { s.boot with launch := s.bus.ticks, kick := s.bus.ticks } }
      if minimal then .ended ((((s.setFld 0x900000 1 0 2).setFlag 0x600004 9 true).enterStep 10).raise bootStat 0)
      else .on s

/-! ## Entries (R438, R463) -/

/-- An IMAGE entry: the section loaded into its unit and checked; none when it fails. -/
def State.loadSection (s : State) (i : Nat) : Option State :=
  match s.boot.image with
  | none => none
  | some (h, body) =>
    if imgSections h ≤ i then none
    else
      let bs := sectionBytes body i
      match (sectionAt body i).kind with
      | 2 =>
        let b := s.flag psStat 0
        let (s, ok) := (s.loadCode b bs).psClean b
        if ok then some s else none
      | 3 =>
        let b := s.flag pgStat 0
        let (s, ok) := (s.loadGraph b bs).pgClean b
        if ok then some s else none
      | 4 => s.loadTable bs
      | 5 => s.loadTcam bs
      | 6 => (s.loadPattern false bs).bind fun s =>
        let (s, ok) := s.patClean false
        if ok then some s else none
      | 7 => s.loadRoutes bs
      | _ => none

/-- A START entry: the command, the boundary, the start sequence, the boundary. -/
def State.startEntry (s : State) (a : Nat) : Option State :=
  match allScrs.find? fun k => scrAddr k == a with
  | none => none
  | some k =>
    if s.scrOf k = 2 then none
    else
      let s := s.startCmd k
      if (s.scrSt k).cmd ≠ 1 then none
      else
        let s := ((s.beatPasses).run (execStartSequenceComplete k 0)).beatPasses
        if s.scrOf k = 2 then some s else none

/-- A read that a WAIT entry makes agrees. -/
def State.waitMet (s : State) (e : BcrEntry) : Bool := s.readFor .mss (canonAddr e.addr) &&& e.arg == e.value

/-- One entry; none when it fails. -/
def State.entry (s : State) (e : BcrEntry) : Option State :=
  let there := e.addr % 4 == 0 && decide (e.addr < 2 ^ 28) && s.mapped .mss e.addr
  match e.op with
  | 1 => if there then some (s.busWrite .mss e.addr e.value).beatPasses else none
  | 2 => if there then s.startEntry e.addr else none
  | 3 =>
    if !there then none
    else if s.waitMet e then some (s.busRead .mss e.addr)
    else
      let s := ((((s.run (execPsCheckComplete none)).run execPgCheckComplete).run execPatCheckComplete).beatPasses).beatPasses
      if s.waitMet e then some (s.busRead .mss e.addr) else none
  | _ => (s.loadSection e.addr).map State.beatPasses

/-- The entries of a phase in order; phase 3 leaves STEP 6 for STEP 7 at its first entry that is no IMAGE. A failed entry resets the module
with code 0x13. -/
def State.entries (s : State) (hw : BootHw) : List BcrEntry → Start
  | [] => .on s
  | e :: es =>
    let begun := if e.phase = 3 && e.op ≠ 4 && s.bootStep = 6 then s.stepOr hw 7 else .on s
    begun.andThen fun s =>
      match s.entry e with
      | some s => s.entries hw es
      | none => .ended (s.startFails 0x13)

def phaseOf (b : List Byte) (n : Nat) : List BcrEntry := (bcrEntries b).filter (·.phase == n)

/-! ## Steps 8 to 14 -/

/-- The core rails set to the nominals and the rises logged (R533, R539). -/
def State.setRails (s : State) (hw : BootHw) : Start :=
  if !hw.railOk then .ended (((s.raise 0x50 9).logOpen 4 0x00).startFails 0x13)
  else
    let up := fun d => min (Tab.get 0 s.err.raised d) 60
    let s := (s.setFld 0x58 15 0 (nominalMv 0 + up 0)).setFld 0x5C 15 0 (nominalMv 1 + up 1)
    .on (s.setFld 0x4000A4 15 8 (max (up 0) (up 1)))

/-- Wires logged of a link. -/
def State.wiresOf (s : State) (link : Nat) : Nat := (s.err.wires.filter fun w => w.1 == link).length

/-- Step 9: the crossing trained, a spare swapped in for every wire logged (R535). -/
def State.trainCrossing (s : State) (hw : BootHw) : Start :=
  if !hw.crossOk || (List.range 128).any fun l => 2 < s.wiresOf l then .ended (s.startFails 0x14)
  else
    let used := fun d => ((List.range 64).map fun l => s.wiresOf (d * 64 + l)).sum
    .on (((s.setFlag 0x40 0 true).setFld 0x400080 23 16 (used 0)).setFld 0x400084 23 16 (used 1))

/-- Step 10: the DRAM channels trained, repairs reapplied, both halves enabled (R372, R373). -/
def State.trainDram (s : State) (hw : BootHw) : Start :=
  if !hw.dramOk then .ended (s.startFails 0x15)
  else
    let s := s.boot.spares.foldl (fun s e => s.setReg (hbmCh (e.1 / 2) (0x40 + e.1 % 2 * 4)) e.2) s
    let s := s.boot.repairs.foldl (fun s e =>
      let c := e.1 / 64
      let x := s.dramChan c
      s.setDramChan c { x with remap := Tab.set none x.remap (e.1 % 64) e.2 }) s
    let s := (List.range 128).foldl (fun s c => s.setFlag (hbmCh c 0) 0 true) s
    .on ((s.setFlag 0xF000000 31 true).setFlag 0xF000020 31 true)

/-- Step 14: FORWARDING (R435, R441, R460). -/
def State.forwarding (s : State) : State :=
  let s := ((s.enterStep 9).raise bootStat 0).setFld 0x900000 1 0 1
  let s := s.logOpen 8 0x08
  if s.flag bootStat 7 then
    let m := match s.boot.image with
      | some (h, _) => byteAt h 15
      | none => 0
    { s with boot := { s.boot with trialEnd := some (s.bus.ticks + (if m = 0 then 10 else m) * 60000 * msClocks) } }
  else s.confirmStart

/-- Steps 8 to 14 (R435, R436). -/
def State.bootFirmware (s : State) (hw : BootHw) : Start :=
  (s.stepOr hw 3).andThen fun s =>
    match s.bcrChoice with
    | none => .ended (s.startFails 0x12)
    | some (copyB, b) =>
      ((((((((((s.setFlag bootStat 5 copyB).setReg 0x800048 (bcrSeq b)).entries hw (phaseOf b 1)).andThen fun s => s.setRails hw).andThen
        fun s => s.stepOr hw 4).andThen fun s => s.trainCrossing hw).andThen
        fun s => s.stepOr hw 5).andThen fun s => s.trainDram hw).andThen
        fun s => s.stepOr hw 6).andThen fun s => s.entries hw (phaseOf b 2 ++ phaseOf b 3)).andThen fun s =>
        ((if s.bootStep = 6 then s.stepOr hw 7 else .on s).andThen fun s => s.stepOr hw 8).andThen fun s =>
        (s.entries hw (phaseOf b 4)).andThen fun s => .on s.forwarding

def Start.state : Start → State
  | .on s => s
  | .ended s => s

/-- BOOT_START: a start runs to FORWARDING, to minimal or recovery mode, to the failure that ends it, or to the step at which it stands;
it holds while a die sensor reads 95 degrees or more, or without its clocks (R435, R542, R550). -/
def execBootStart (hw : BootHw) (s : State) : Host.Outcome State Fault Refusal :=
  let hot := (List.range 40).any fun n => 1520 ≤ (s.sensor n).value
  if !s.boot.inReset || hot || s.elec.clkBad.contains .sysRef || s.elec.clkBad.contains .aonClk then .next s
  else
    let r := (s.bootRom hw).andThen fun s =>
      let minimal := s.fld bootStat 9 8 == 3
      ((s.bootCount hw).andThen fun s => s.bootLaunch minimal hw).andThen fun s => s.bootFirmware hw
    .next r.state.irq

/-! ## The general register write (R8) -/

/-- A write of BOOT_CTL (BOOT_CTL, R441). -/
def State.bootCtlWrite (s : State) (r : Requester) (v : Word) : State :=
  if !bootKey v then s.unmapped r 0x800008
  else
    let n := v.toNat
    let s := s.done r 0x800008
    let s := if bitOf n 3 && r = .mss then s.run execConfirm else s
    let s := if bitOf n 2 then s.run execClrAttempts else s
    if bitOf n 0 then s.moduleReset r else if bitOf n 1 then s.run (execFwRestart r) else s

/-- REGISTER_WRITE: a write by the access types and the rules of its register (R8). -/
def execRegisterWrite (r : Requester) (a : BitVec 28) (v : Word) (s : State) : Host.Outcome State Fault Refusal :=
  if a.toNat % 4 ≠ 0 then .next s
  else if a.toNat = 0x800008 then .next (s.bootCtlWrite r v)
  else
    let s := s.busWrite r a.toNat v.toNat
    if a.toNat = 0x800040 && r = .mss && bitOf v.toNat 30 then .next (s.run execKick) else .next s

end Sys2Proof.Machine
end

