-- ==== Sys2Proof/Machine/Update.lean ====
section
/-! DEFINITION. The update commands, flash operations and the trial of a main image (spec/17_update R449 to R465). -/

namespace Sys2Proof.Machine

def updStat : Nat := 0x801000

/-- STATE of UPD_STAT: 0 IDLE, 1 RECEIVING, 2 VERIFIED, 3 ACTIVATING (R455). -/
def State.updState (s : State) : Nat := s.fld updStat 2 0

/-- An answer with its RESULT: STATUS is OK when it is 0 and DENIED otherwise. -/
def State.updAnswer (s : State) (res : Nat) (ws : List Nat) : CmdResult :=
  some ((s.setFld updStat 15 8 res).irq, if res = 0 then 0 else 8, (res :: ws).flatMap fun w => leBytes w 8)

/-- A word of an answer that has nothing to tell: a free value. -/
def State.openWord (s : State) : Nat × State := ((Config.eventArg s.fresh).toNat, { s with fresh := s.fresh + 1 })

/-- The session ends (R455). -/
def State.updIdle (s : State) : State :=
  { ((s.setFld updStat 2 0 0).setFld updStat 7 4 0).setReg 0x801004 0 with upd := { } }

/-- KINDs allowed in the current mode (R459). -/
def State.kindsAllowed (s : State) : List Nat := if s.mssMode = 2 then [1, 3] else if s.mssMode = 3 then [1] else [1, 2, 3]

/-- UPD_BEGIN: the header's checks and a new session; in minimal and recovery modes the main image's first sector is erased, flashOk saying
how that ends (R451, R454, R458, R459). -/
def execUpdBegin (flashOk : Bool) (s : State) : Host.Outcome State Fault Refusal :=
  .next (s.command 0x100 fun p => s.len p 256 <|
    if s.updState ≠ 0 then s.updAnswer 8 []
    else if s.mssMode = 3 && (s.boot.recCode = 0x20 || s.boot.recCode = 0x21) then s.updAnswer 0x0F []
    else
      let c := s.headerCheck s.kindsAllowed p
      if c ≠ 0 then s.updAnswer c []
      else
        let toFlash := s.mssMode ≠ 1 && imgKind p = 1
        let s : State := if toFlash then { s with boot := { s.boot with image := none } } else s
        if toFlash && !flashOk then s.updAnswer 0x0D []
        else
          let s := ((s.setFld updStat 2 0 1).setFld updStat 7 4 (imgKind p)).setReg 0x801004 0
          ({ s with upd := { header := p } } : State).updAnswer 0 [])

/-- UPD_DATA: a chunk at its offset; in minimal and recovery modes a main image's chunk is programmed, flashOk saying how that ends (R451,
R454, R458). -/
def execUpdData (flashOk : Bool) (s : State) : Host.Outcome State Fault Refusal :=
  .next (s.command 0x101 fun p =>
    let have' := s.upd.body.length
    let chunk := p.drop 8
    if p.length < 8 then s.no 3
    else if s.updState = 3 then s.updAnswer 8 [have']
    else if s.updState ≠ 1 then s.updAnswer 0x0E [have']
    else if word64 p 0 ≠ have' || imgLen s.upd.header < have' + chunk.length then s.updAnswer 9 [have']
    else if s.mssMode ≠ 1 && imgKind s.upd.header = 1 && !flashOk then s.updAnswer 0x0D [have']
    else
      let n := have' + chunk.length
      ({ s.setReg 0x801004 n with upd := { s.upd with body := s.upd.body ++ chunk } } : State).updAnswer 0 [n])

/-- UPD_VERIFY: the digest and the sections (R451, R454, R455). -/
def execUpdVerify (s : State) : Host.Outcome State Fault Refusal :=
  .next (s.command 0x102 fun p => s.len p 0 <|
    let (w, s) := s.openWord
    let h := s.upd.header
    let body := s.upd.body
    let n := imgSections h
    if s.updState = 3 then s.updAnswer 8 [w]
    else if s.updState ≠ 1 || body.length ≠ imgLen h then s.updAnswer 0x0E [w]
    else if !digestOk h body then s.updIdle.updAnswer 0x0A [w]
    else match firstBadSection (imgKind h) n body with
      | some i => s.updIdle.updAnswer 0x0B [putBits w 7 0 i]
      | none =>
        if !sectionNeeded (imgKind h) n body then s.updIdle.updAnswer 0x0B [w]
        else ((s.setFld updStat 2 0 2).raise updStat 16).updAnswer 0 [w])

/-- UPD_ABORT: the session is closed (R451, R455). -/
def execUpdAbort (s : State) : Host.Outcome State Fault Refusal :=
  .next (s.command 0x104 fun p => s.len p 0 <|
    if s.updState = 3 then s.updAnswer 8 [] else if s.updState = 0 then s.updAnswer 0x0E [] else s.updIdle.updAnswer 0 [])

/-- A trial runs and is not confirmed (R460). -/
def State.onTrial (s : State) : Bool := s.flag bootStat 7 && s.bootStep == 9 && s.boot.trialEnd.isSome && !s.confirmed

/-- UPD_CONFIRM (R460). -/
def execUpdConfirm (s : State) : Host.Outcome State Fault Refusal :=
  .next (s.command 0x105 fun p => s.len p 0 <|
    if !s.onTrial then s.updAnswer 0x0E []
    else (({ s with boot := { s.boot with trialEnd := none } } : State).setFlag bootStat 7 false).confirmStart.updAnswer 0 [])

/-- UPD_STATUS (R454). -/
def execUpdStatus (s : State) : Host.Outcome State Fault Refusal :=
  .next (s.command 0x106 fun p => s.len p 0 <|
    s.updAnswer 0 [s.updState + s.fld updStat 7 4 * 2 ^ 4 + s.upd.body.length * 2 ^ 32, s.reg64 0x801010, s.trialLeft])

/-! ## Activation (R457, R461, R462, R464) -/

/-- The units of a KIND 2 activation: their slot, and the status register with SW_FAIL in bit 5. -/
def unitSlot : Nat → SlotId
  | 0 => .avePs
  | 1 => .pg
  | 2 => .pat
  | _ => .lkpUpd 1

def slotStat : Nat → Option Nat
  | 0 => some psStat
  | 1 => some pgStat
  | 2 => some patStat
  | _ => none

/-- The units named by a mask. -/
def slotsIn (m : Nat) : List Nat := (List.range 4).filter (bitOf m)

/-- The section of a kind in the session's image. -/
def State.updSection (s : State) (kind : Nat) : Option (List Byte) :=
  ((List.range (imgSections s.upd.header)).find? fun i => (sectionAt s.upd.body i).kind == kind).map (sectionBytes s.upd.body)

/-- The units that receive a section. -/
def State.updUnits (s : State) : Nat :=
  b2n (s.updSection 2).isSome + b2n (s.updSection 3).isSome * 2 + b2n (s.updSection 6).isSome * 4 + b2n (s.updSection 4).isSome * 8

/-- Firmware can write the inactive copies and arm the slots now. -/
def State.updReady (s : State) (m : Nat) : Bool :=
  (slotsIn m).all (fun u => !s.slotPending (unitSlot u))
    && (!bitOf m 0 || s.codeWritable (!s.flag psStat 0)) && (!bitOf m 2 || !s.patProtected (!s.flag patStat 0))

/-- The sections written into the inactive copies and checked; none when one fails (R461 steps 1 and 2). -/
def State.updLoad (s : State) : State × Bool :=
  let clean := fun (x : State × Bool) (f : State → State × Bool) => (let y := f x.1; (y.1, x.2 && y.2))
  let r : State × Bool := (s, true)
  let r := match s.updSection 2 with
    | some bs => clean r fun t => (t.loadCode (!t.flag psStat 0) bs).psClean (!t.flag psStat 0)
    | none => r
  let r := match s.updSection 3 with
    | some bs => clean r fun t => (t.loadGraph (!t.flag pgStat 0) bs).pgClean (!t.flag pgStat 0)
    | none => r
  let r := match s.updSection 6 with
    | some bs => clean r fun t =>
      match t.loadPattern (!t.flag patStat 0) bs with
      | some t => t.patClean (!t.flag patStat 0)
      | none => (t, false)
    | none => r
  match s.updSection 4 with
  | some bs => clean r fun t =>
    match t.stageTable bs with
    | some t => (t, true)
    | none => (t.run (execDiscard 1), false)
  | none => r

/-- A slot armed by firmware for a beat, its DONE and LATE and its unit's SW_FAIL cleared first. -/
def State.updArm (s : State) (t : Nat) (u : Nat) : State :=
  let a := slotTgt (unitSlot u)
  let s := ((s.setReg a (t % 2 ^ 32)).setFlag (a + 4) 5 false).setFlag (a + 4) 6 false
  (match slotStat u with
    | some x => s.setFlag x 5 false
    | none => s).slotArm (unitSlot u)

/-- The end of a KIND 2 or 3 activation (R455). -/
def State.updEnd (s : State) (res w : Nat) : CmdResult :=
  let s := s.updIdle.raise updStat 16
  (if res = 0x0D then s.logOpen 17 0x08 else s).updAnswer res [w]

/-- An activation that was begun: the slots are read after the beat (R461 step 4, R462). -/
def State.updProgram (s : State) : CmdResult :=
  let m := s.upd.armed
  match s.upd.back with
  | some b => if (slotsIn b).any fun u => s.slotPending (unitSlot u) then none else s.updEnd 0x0D s.upd.target
  | none =>
    if (slotsIn m).any fun u => s.slotPending (unitSlot u) then none
    else
      let bad := (slotsIn m).any fun u => match slotStat u with
        | some x => s.flag x 5
        | none => false
      let late := (slotsIn m).any fun u => s.flag (slotTgt (unitSlot u) + 4) 6
      if bad then none
      else (s.setReg64 0x801020 s.upd.target).updEnd 0 (s.upd.target + b2n late * 2 ^ 63)

/-- The units that switched while another refused are armed for their previous copies, 8 beats on (R462). -/
def State.updBack (s : State) : State :=
  let m := s.upd.armed
  let switched := (slotsIn m).filter fun u => match slotStat u with
    | some x => !s.flag x 5
    | none => false
  if s.upd.back.isSome || (slotsIn m).any (fun u => s.slotPending (unitSlot u)) || !((slotsIn m).any fun u => match slotStat u with
      | some x => s.flag x 5
      | none => false) then s
  else
    let s : State := { s with upd := { s.upd with back := some ((switched.map (2 ^ ·)).sum) } }
    switched.foldl (fun s u => s.updArm (s.upd.target + 8) u) s

/-- A KIND 2 activation begins: loaded, checked and armed (R461 steps 1 to 3). -/
def State.updStart (s : State) (target : Nat) : State × Bool :=
  let m := s.updUnits
  let (s, ok) := s.updLoad
  if !ok then (s.run (execDiscard 1), false)
  else
    let b := s.beatN
    let t := if target = 0 then b + 5860 else if aheadBy target b ≤ 0 then b + 1 else b + (aheadBy target b).toNat
    let s : State := { s.setFld updStat 2 0 3 with upd := { s.upd with armed := m, target := t } }
    ((slotsIn m).foldl (fun s u => s.updArm (if target = 0 then t else target) u) s, true)

/-- The copy that a new BCR is written over, and its SEQ (R436, R464): B when true. -/
def State.bcrTarget (s : State) : Bool × Nat :=
  if s.mssMode = 1 then (!s.flag bootStat 5, (s.reg 0x800048 + 1) % 2 ^ 32)
  else match s.bcrChoice with
    | some (b, x) => (!b, (bcrSeq x + 1) % 2 ^ 32)
    | none => (false, 1)

/-- A flash write begins: the place that it writes to is erased. -/
def State.flashStart (s : State) : State := { s with boot := { s.boot with flashBusy := true } }

/-- A KIND 1 activation begins: the loader erases the main image's first sector (R457, R458). -/
def State.updImage (s : State) : State :=
  ({ s.setFld updStat 2 0 3 with upd := { s.upd with writing := some (s.upd.header, s.upd.body) }, boot := { s.boot with image := none } } : State).flashStart

/-- A KIND 3 activation begins: the other copy is erased (R464). -/
def State.updBcr (s : State) (bs : List Byte) : State :=
  let (b, seq) := s.bcrTarget
  let boot := if b then { s.boot with bcrB := none } else { s.boot with bcrA := none }
  ({ s.setFld updStat 2 0 3 with upd := { s.upd with bcr := some (b, bcrRenumber bs seq) }, boot := boot } : State).flashStart

/-- UPD_ACTIVATE. A KIND 1 activation is answered before the flash write begins; one of KIND 2 or 3 is answered by a later execution of the
same command, or at the end of its flash write (R454, R457, R461, R464). -/
def execUpdActivate (s : State) : Host.Outcome State Fault Refusal :=
  match s.nextCmd 0x103 with
  | none => .next s
  | some (i, c) =>
    let p := c.payload
    if p.length ≠ 8 || c.cap < 16 then .next (s.setAns i c 3 [])
    else if s.upd.armed ≠ 0 then .next ((s.updBack).command 0x103 fun _ => s.updBack.updProgram)
    else if s.upd.bcr.isSome then .next s
    else
      let (w, s) := s.openWord
      let ans := fun (s : State) (f : CmdResult) => s.command 0x103 fun _ => f
      if s.updState = 3 then .next (ans s (s.updAnswer 8 [w]))
      else if s.updState ≠ 2 then .next (ans s (s.updAnswer 0x0E [w]))
      else match imgKind s.upd.header with
        | 1 => .next (ans s (s.updImage.updAnswer 0 [w]))
        | 2 =>
          if !s.updReady s.updUnits then .next s
          else
            let (t, ok) := s.updStart (bits (word64 p 0) 31 0)
            .next (if ok then t else ans t (t.updEnd 0x0C w))
        | _ =>
          let bs := (s.updSection 8).getD []
          if bcrOk (s.fld 0 31 16) bs then .next (s.updBcr bs) else .next (ans s (s.updEnd 0x0C w))

/-! ## The end of a flash operation (R448, R457, R464) -/

/-- What the end of the write gives: 0 done, 1 failed twice in step 2 of R457 or a BCR's write, 2 failed twice in step 4. -/
def State.flashDone (s : State) (res : Fin 3) : State :=
  match s.upd.writing, s.upd.bcr with
  | some img, _ =>
    let s : State := if res = 1 then s else
      (({ (s.setFld bootStat 9 8 0).setFlag bootStat 7 true with boot := { s.boot with pend := false } } : State).writeRec)
    if res = 0 then ({ s with boot := { s.boot with image := some img, held := none } } : State).restart false 7
    else ((s.updIdle).setFld updStat 15 8 0x0D).logOpen 17 0x08
  | none, some (b, bs) =>
    let (w, s) := s.openWord
    if res ≠ 0 then s.command 0x103 fun _ => s.updEnd 0x0D w
    else
      let boot := if b then { s.boot with bcrB := some bs } else { s.boot with bcrA := some bs }
      let s : State := { s with boot := boot }
      s.command 0x103 fun _ => s.updEnd 0 w
  | none, none => s

/-- FLASH_OPERATION_END: a flash write ends; a held reset takes effect (R448). -/
def execFlashOperationEnd (res : Fin 3) (s : State) : Host.Outcome State Fault Refusal :=
  if !s.boot.flashBusy then .next s
  else
    let s := ({ s with boot := { s.boot with flashBusy := false } } : State).flashDone res
    match s.boot.held with
    | none => .next s.irq
    | some (kind, cause) => .next (({ s with boot := { s.boot with held := none } } : State).resetOr kind cause)

/-! ## The trial (R460) -/

/-- TRIAL_WARNING: 60 s before an unconfirmed trial ends (R460). -/
def execTrialWarning (s : State) : Host.Outcome State Fault Refusal :=
  .next (match s.boot.trialEnd with
    | some e => if s.onTrial && e ≤ s.bus.ticks + 60000 * msClocks then (s.raise updStat 16).irq else s
    | none => s)

/-- TRIAL_EXPIRY: failure 0x18 and a module reset by firmware (R460). -/
def execTrialExpiry (s : State) : Host.Outcome State Fault Refusal :=
  .next (match s.boot.trialEnd with
    | some e => if s.onTrial && e ≤ s.bus.ticks then (({ s with boot := { s.boot with trialEnd := none } } : State).bootFail 0x18 9).resetOr 1 4 else s
    | none => s)

end Sys2Proof.Machine
end

