-- ==== Sys2Proof/Machine/Errors.lean ====
section
/-! DEFINITION. The error unit's commands: reports, records, scrubbing, injection and the ageing monitors (spec/21_errors). -/

namespace Sys2Proof.Machine

/-! ## Reports (R521, R527) -/

/-- The class of a unit's code; none where the table has no such code (R527). -/
def errClass (unit code : Nat) : Option Nat :=
  if code = 0xF0 then some 0 else if code = 0xF1 then some 3 else if code = 0xF2 then some 1
  else match unit, code with
    | 0x00, 1 => some 1
    | 0x00, 2 => some 0
    | 0x00, 3 => some 0
    | 0x00, 4 => some 3
    | 0x01, 1 => some 3
    | 0x01, 2 => some 2
    | 0x06, 1 => some 1
    | 0x06, 2 => some 1
    | 0x06, 3 => some 1
    | 0x09, 1 => some 2
    | 0x09, 2 => some 2
    | 0x09, 3 => some 2
    | 0x09, 4 => some 0
    | 0x09, 5 => some 2
    | 0x10, 1 => some 0
    | 0x10, 2 => some 1
    | 0x20, 1 => some 0
    | 0x20, 2 => some 1
    | 0x30, 1 => some 0
    | 0x30, 2 => some 1
    | 0x30, 3 => some 0
    | 0x30, 4 => some 1
    | 0x30, 5 => some 2
    | 0x30, 6 => some 2
    | 0x50, 1 => some 1
    | 0x50, 2 => some 1
    | 0x50, 3 => some 1
    | 0x50, 4 => some 1
    | 0x50, 5 => some 1
    | 0x80, 1 => some 1
    | 0x80, 2 => some 1
    | 0x80, 3 => some 2
    | 0x80, 4 => some 1
    | 0x80, 5 => some 0
    | 0x80, 6 => some 1
    | 0x90, 1 => some 1
    | 0xB0, 1 => some 1
    | 0xB0, 2 => some 1
    | 0xB0, 3 => some 1
    | 0xC0, 1 => some 1
    | 0xC0, 2 => some 1
    | 0xE0, 1 => some 2
    | 0xF0, 1 => some 0
    | 0xF0, 2 => some 1
    | 0xF0, 3 => some 1
    | 0xF0, 4 => some 2
    | _, _ => none

/-- A report comes from the TM: of a unit there, or of a DRAM channel or half of the TM (R520). -/
def fromTm (unit code inst : Nat) : Bool :=
  unit == 0xB0 || unit == 0xC0 || unit == 0xD0 || unit == 0xE0
    || (unit == 0xF0 && (if code = 3 then inst == 1 else code == 4 || chanTm inst))

/-- Reports in rising order of unit and then of instance, those of one place as they stand (R521). -/
def insertReport (r : ErrReport) : List ErrReport → List ErrReport
  | [] => [r]
  | x :: rest => if r.unit < x.unit || (r.unit == x.unit && r.inst < x.inst) then r :: x :: rest else x :: insertReport r rest

/-- The packet of a MAC context whose bytes an uncorrectable block of the kerb store holds. The spec does not say which packet a block is given
to, so it is any of those that the store holds: a free value (DESIGN CHOICE, log 101). -/
def State.storeError (s : State) (m block : Nat) : State :=
  let ks := (s.line.pkts.filter fun e => e.2.ctx == m).map (·.1)
  match ks[Config.storeVictim block s.fresh % ks.length]? with
  | none => s
  | some k => { s.setPkt k { (s.pkt k) with storeBad := true } with fresh := s.fresh + 1 }

/-- Entry i of a record queue, or of the learning unit's trackers, discarded, and counted as lost by its unit: faults, match records, learn
candidates and records, samples, captures and transmit records (R517). How INSTANCE numbers the queues of one unit is the model's choice
(DESIGN CHOICE, log 101). -/
def State.recordGone (s : State) (unit inst i : Nat) : State :=
  match unit, inst with
  | 0x90, _ => ({ s with cls := { s.cls with recs := dropAt s.cls.recs i } } : State).raise patStat 8
  | 0xA0, 0 => ({ s with lrn := { s.lrn with recs := dropAt s.lrn.recs i, lost := s.lrn.lost + 1 } } : State).raise lrnStat 1
  | 0xA0, _ => { s with lrn := { s.lrn with queue := dropAt s.lrn.queue i } }
  | 0x05, _ => (({ s with pmu := { s.pmu with queue := dropAt s.pmu.queue i } } : State).count 0x05 0x42 0 1).raise 0x500000 2
  | 0x02, 0 => ({ s with tim := { s.tim with caps := dropAt s.tim.caps i } } : State).raise timEvent 5
  | 0x02, _ => ({ s with tim := { s.tim with txts := dropAt s.tim.txts i } } : State).raise timEvent 5
  | 0x30, p =>
    ({ s.setChan p supEngine 0 (dropAt (s.chan p supEngine 0) i) with
        eng := { s.eng with lost := Tab.set 0 s.eng.lost p (min (Tab.get 0 s.eng.lost p + 1) 0xFFFFFFFF) } } : State).raise (aveStat p) 2
  | _, _ => s

/-- What a report sets off beyond its record: a firmware restart for MSS SRAM, the boot-state fields reloaded and the retained log lost
for always-on SRAM; a packet of the kerb store that cannot be read, a statistics line that loses its deltas, a word of replication memory that stays
uncorrectable until it is written, an entry of a record queue (R517). -/
def State.reportActs (s : State) (r : ErrReport) : State :=
  if r.unit = 0x09 && r.code = 1 then s.resetOr 2 (s.fld bootReason 7 0)
  else if r.unit = 0x09 && r.code = 2 then ({ s with mss := { s.mss with retained := [] } } : State).loadRec
  else if r.code = 0xF2 then s.recordGone r.unit r.inst r.detail
  else if r.unit = 0x10 && r.code = 2 then s.storeError r.inst r.detail
  else if r.unit = 0x50 && r.code = 5 then
    { s with tbl := { s.tbl with statCache := Tab.set (0, 0) s.tbl.statCache r.detail (0, 0) } }
  else if r.unit = 0xB0 && r.code = 3 then { s with sq := { s.sq with replBad := (r.detail / 8) :: s.sq.replBad } }
  else s

/-- ERROR_REPORT: the reports of one clock (R520, R521, R527). -/
def execErrorReport (rs : List (Byte × Byte × BitVec 12 × Dword)) (s : State) : Host.Outcome State Fault Refusal :=
  let all := rs.filterMap fun x =>
    (errClass x.1.toNat x.2.1.toNat).map fun c =>
      ({ unit := x.1.toNat, code := x.2.1.toNat, cls := c, inst := x.2.2.1.toNat, detail := x.2.2.2.toNat } : ErrReport)
  let sorted := all.foldl (fun l r => insertReport r l) []
  .next (sorted.foldl (fun s r =>
    (if fromTm r.unit r.code r.inst then s.reportTm r.unit r.code r.cls r.inst r.detail else s.errEnter r).reportActs r) s).irq

/-- FATAL_HOLD_EXPIRY: the module reset that follows a class 3 report (R519). -/
def execFatalHoldExpiry (s : State) : Host.Outcome State Fault Refusal :=
  .next (match s.err.hold with
    | none => s
    | some c =>
      if s.bus.ticks < c + max (s.fld 0x400004 15 0) 1 * msClocks then s
      else (({ s with err := { s.err with hold := none } } : State).failHere 0x1A).resetOr 1 4)

/-! ## Records (R523, R524) -/

/-- ERR_REC0_READ: the oldest record is latched and its first word returned; 0 to the requester that is not the owner (R523). -/
def execErrRec0Read (r : Requester) (s : State) : Host.Outcome State Fault Refusal :=
  if r ≠ s.errOwner then .next ((s.raise 0x400000 2).answer r 0x400060 0)
  else
    let o := s.err.queue.head?
    .next (({ s with err := { s.err with latched := o } } : State).answer r 0x400060 (recWord o 0))

/-- SEV of a class's event (R518). -/
def classSev (c : Nat) : Nat := [1, 3, 4, 5].getD c 1

/-- ERR_REC5_READ: the last word of the latched record is returned and the record leaves the queue; firmware logs it (R523, R524). -/
def execErrRec5Read (r : Requester) (s : State) : Host.Outcome State Fault Refusal :=
  if r ≠ s.errOwner then .next ((s.raise 0x400000 2).answer r 0x400074 0)
  else
    match s.err.latched with
    | none => .next (s.answer r 0x400074 0)
    | some b =>
      let s : State := { s with err := { s.err with latched := none, queue := s.err.queue.drop 1 } }
      let w0 := leNat (sliceAt b 0 8)
      let c := bits w0 1 0
      let s := if r = .mss then s.logEvent (classSev c) (bits w0 23 16) (0x0800 + c * 0x100 + bits w0 15 8) w0 (leNat (sliceAt b 8 8)) else s
      .next (s.answer r 0x400074 (recWord (some b) 5)).irq

/-! ## Scrubbing and injection (R528 to R530) -/

/-- A finding of the sweep, and what it leads to (R528). -/
def State.scrubFound (s : State) : ScrubFind → State
  | .lookup w =>
    match s.wordTable w.toNat with
    | some n => s.tableError n w.toNat
    | none => s
  | .tcamRow p t i => (s.report 0x80 4 1 (p * 8 + t) i.toNat).askFixes p [.inPlace t i.toNat]
  | .tcamParity p t i => s.badCopy p t i.toNat
  | .code p _ a corrected => s.report 0x30 (if corrected then 1 else 2) (if corrected then 0 else 1) (p * 64 + 63) a.toNat
  | .graph p w corrected => s.report 0x20 (if corrected then 1 else 2) (if corrected then 0 else 1) p w.toNat
  | .policer x corrected => if corrected then s.report 0x80 5 0 (x.toNat % 16) x.toNat else s.polError x.toNat
  | .config unit mem w both =>
    let code := if both then 0xF1 else 0xF0
    let cls := if both then 3 else 0
    if fromTm unit.toNat code 0 then s.reportTm unit.toNat code cls mem.toNat w.toNat else s.report unit.toNat code cls mem.toNat w.toNat
  | .mss w corrected =>
    if corrected then s
    else (s.report 0x09 1 2 0 w.toNat).reportActs { unit := 0x09, code := 1, cls := 2, inst := 0, detail := w.toNat }
  | .alwaysOn w corrected =>
    if corrected then s
    else (s.report 0x09 2 2 0 w.toNat).reportActs { unit := 0x09, code := 2, cls := 2, inst := 0, detail := w.toNat }
  | .sweepEnd late =>
    let s := s.setFld 0x4000B4 31 16 (s.fld 0x4000B4 31 16 + 1)
    if late then s.raise 0x4000B4 0 else s

/-- ON_DIE_SCRUB, while SCRUB_EN is 1 (R528). -/
def execOnDieScrub (f : ScrubFind) (s : State) : Host.Outcome State Fault Refusal :=
  .next (if s.flag 0x4000B0 31 then (s.scrubFound f).irq else s)

/-- INJECTION_ARM: a write of ERR_INJ with ARM at 1 (R530). -/
def execInjectionArm (r : Requester) (v : Word) (s : State) : Host.Outcome State Fault Refusal :=
  .next (s.busWrite r 0x400090 (v ||| 0x80000000).toNat)

/-! ## Ageing (R531 to R535) -/

/-- The die of a monitor: 0 FE, 1 TM (R532). -/
def monDie (m : Nat) : Nat := if m = 22 || (23 ≤ m && m ≤ 28) || m = 31 || m = 33 then 1 else 0

def State.marginCrit (s : State) : Nat := s.fld 0x4000A0 15 8

/-- MARGIN_LOW, at or below MARGIN_CRIT one above it (ERR_LIFE_CFG). -/
def State.marginLow (s : State) : Nat := max (s.fld 0x4000A0 7 0) (s.marginCrit + 1)

/-- MAX_MV and STEP_MV as they act (ERR_LIFE_CFG). -/
def State.maxMv (s : State) : Nat := min (s.fld 0x4000A0 27 20) 60
def State.stepMv (s : State) : Nat := max (s.fld 0x4000A0 19 16) 1

/-- The rise of a die's core rail. -/
def State.raisedMv (s : State) (d : Nat) : Nat := Tab.get 0 s.err.raised d

/-- A step of a die's core rail, logged as event 0x0010 (R533, R539). -/
def State.railStep (s : State) (d : Nat) : State :=
  let mv := min (s.raisedMv d + s.stepMv) s.maxMv
  let s : State := { s with err := { s.err with raised := Tab.set 0 s.err.raised d mv, stepAt := Tab.set 0 s.err.stepAt d (s.tim.sec + 1) } }
  let s := s.setFld (0x58 + 4 * d) 15 0 (nominalMv d + mv)
  let s := s.setFld 0x4000A4 15 8 (max (s.raisedMv 0) (s.raisedMv 1))
  let n := s.fresh
  ({ s with fresh := n + 2 } : State).logEvent 4 0x09 0x0010 (Config.eventArg n).toNat (Config.eventArg (n + 1)).toNat

/-- MARGIN_LOW: a monitor has been below MARGIN_LOW for 60 s; pmbOk says that the regulator took the new voltage (R533, R539). -/
def execMarginLow (mon : Fin 34) (margin : Byte) (pmbOk : Bool) (s : State) : Host.Outcome State Fault Refusal :=
  let d := monDie mon
  let last := Tab.get 0 s.err.stepAt d
  if s.mssMode ≠ 1 || s.marginLow ≤ margin.toNat || s.maxMv ≤ s.raisedMv d || (last ≠ 0 && s.tim.sec + 1 < last + 86400) then .next s
  else
    let s := if pmbOk then s.railStep d else (s.raise 0x50 9).logOpen 4 0x00
    .next (s.report 0x09 4 0 mon margin.toNat).irq

/-- The spare avenue: out of service, STOPPED, its self-test passed (R534). -/
def State.spareAve (s : State) : Option Nat :=
  (List.range 17).find? fun q => !s.flag (aveWin q + 4) 4 && s.scrState (aveWin q) == 0 && s.bistRuns q && !s.flag (aveStat q) 7

/-- MARGIN_CRIT: a monitor has been below MARGIN_CRIT for 60 s while its die is at MAX_MV (R534). -/
def execMarginCrit (mon : Fin 34) (margin : Byte) (s : State) : Host.Outcome State Fault Refusal :=
  if s.mssMode ≠ 1 || s.marginCrit ≤ margin.toNat || s.raisedMv (monDie mon) < s.maxMv then .next s
  else
    let n := s.fresh
    let s := ({ s with fresh := n + 1 } : State).report 0x09 5 2 mon (Config.eventArg n).toNat
    let go := mon.val < 16 && s.flag 0x4000A0 31 && s.flag (aveWin mon + 4) 4 && s.err.rehome.isNone
    .next (match s.spareAve with
      | some q => if go then ({ s with err := { s.err with rehome := some (mon.val, q, 0) } } : State).irq else s.irq
      | none => s.irq)

/-- CROSSING_WIRE_FLAG: a wire needed correction in more than 1,000 flits in one second; firmware logs it (R535). -/
def execCrossingWireFlag (dir : Fin 2) (link : Fin 64) (wire : BitVec 6) (s : State) : Host.Outcome State Fault Refusal :=
  let a := 0x400080 + dir.val * 4
  let s := ((s.setFlag a 31 true).setFld a 13 8 link).setFld a 5 0 wire.toNat
  let k := (dir.val * 64 + link.val, wire.toNat)
  let s : State := if s.mssMode ≠ 1 || s.err.wires.contains k then s else
    ({ s with err := { s.err with wires := k :: s.err.wires } } : State).logOpen 7 0x00
  .next (s.report 0x00 3 0 link wire.toNat).irq

end Sys2Proof.Machine
end

