-- ==== Sys2Proof/Machine/Lock.lean ====
section
/-! DEFINITION. The marker-lock commands (spec/03_line R55 to R57, 12_fabric R325, R346). -/

namespace Sys2Proof.Machine

/-- MARKER_SEARCH_FIND: a pattern is found at a position while the machine searches (R55). -/
def execMarkerSearchFind (k : LockId) (pos : Nat) (s : State) : Host.Outcome State Fault Refusal := .next (s.setLock k ((s.lock k).find pos))

/-- MARKER_PERIOD: the position under test after one more period; laneOk says that the lane number agrees, deskewOk that the port's lanes
lie within the deskew range (R55 to R58). -/
def execMarkerPeriod (k : LockId) (found laneOk deskewOk : Bool) (s : State) : Host.Outcome State Fault Refusal :=
  let x := s.lock k
  let y := x.period found laneOk
  let s := s.setLock k y
  let lost := x.st == .locked && y.st != .locked
  .next (match k with
    | .fab l => s.fabLock l (x.st != .locked && y.st == .locked) lost
    | _ => s.lockDefects k lost deskewOk)

end Sys2Proof.Machine
end

