-- ==== Sys2Proof/Machine/Electrical.lean ====
section
/-! DEFINITION. Supplies, reference clocks, boundary scan, thermal stop and the crossing's training (spec/22_electrical, 01_module). -/

namespace Sys2Proof.Machine

/-- RAIL_OUT_OF_TOLERANCE: acts as a power loss (R540). -/
def execRailOutOfTolerance (s : State) : Host.Outcome State Fault Refusal := .next (s.hardReset true 1)

/-! ## Reference clocks (R545) -/

/-- The lanes of a port group lose lock (R58, R71, R75, R545). -/
def State.groupUnlock (s : State) (g : Nat) : State :=
  let s := s.unlock (s.groupLock g)
  ((List.range 8).foldl (fun s i => s.setFlag (lnStat (8 * g + i)) 1 false) s).refreshGroup g

/-- REFERENCE_CLOCK_LOSS: a clock is absent or out of limits, or, back, within them again (R545). -/
def execReferenceClockLoss (c : RefClock) (back : Bool) (s : State) : Host.Outcome State Fault Refusal :=
  if back then .next { s with elec := { s.elec with clkBad := s.elec.clkBad.filter (· != c) } }
  else if s.elec.clkBad.contains c then .next s
  else
    let s : State := { s with elec := { s.elec with clkBad := c :: s.elec.clkBad } }
    .next (match c with
      | .sysRef => s.hardReset false 2
      | .lref k => ((List.range 4).foldl (fun s i => s.groupUnlock (4 * k.val + i)) s).irq
      | .fref k => ((List.range 64).foldl (fun s i =>
          let l := 64 * k.val + i
          if 2 ≤ s.fabLaneSt l && s.fabLaneSt l ≤ 5 then s.fabLock l false true else s) s).irq
      | _ => s)

/-! ## Boundary scan (R546) -/

/-- The IDCODE of a die: the stepping, 0x5696 or 0x5697, the maker, 1. -/
def tapIdcode (tm : Bool) (step : Nat) : Word :=
  BitVec.ofNat 32 (step % 16 * 2 ^ 28 + (0x5696 + b2n tm) * 2 ^ 12 + Config.jtagMaker.toNat * 2 + 1)

/-- BOUNDARY_SCAN_INSTRUCTION: while RESET_N is high, every instruction but BYPASS, IDCODE and SAMPLE acts as BYPASS (R546). -/
def execBoundaryScanInstruction (tm : Bool) (i : TapInstr) (resetHigh : Bool) (s : State) : Host.Outcome State Fault Refusal :=
  let i := match i with
    | .other c => if resetHigh then .bypass else .other c
    | x => x
  .next { s with elec := if tm then { s.elec with tapTm := i } else { s.elec with tapFe := i } }

/-! ## Thermal stop (R549) -/

/-- THERMAL_STOP: a die sensor has reached 110 degrees (R549). -/
def execThermalStop (s : State) : Host.Outcome State Fault Refusal :=
  if s.flag 0x50 8 then .next s
  else
    let s := (s.setFlag 0x50 8 true).mateExpire
    let s := (List.range 4).foldl (fun s k => s.thermalPark k) s
    let s : State := { s with elec := { s.elec with serdesOn := false } }
    let n := s.fresh
    let s := ({ s with fresh := n + 2 } : State).logEvent 5 0x00 0x0020 (Config.eventArg n).toNat (Config.eventArg (n + 1)).toNat
    .next s.irq

/-! ## The crossing -/

/-- CROSSING_TRAINING_LOSS: UP falls and the module can no longer vouch for its data plane (R519, R527). -/
def execCrossingTrainingLoss (s : State) : Host.Outcome State Fault Refusal :=
  if !s.flag 0x40 0 then .next s else .next (((s.setFlag 0x40 0 false).report 0x00 4 3 0 0).irq)

end Sys2Proof.Machine
end

