-- ==== Sys2Proof/Machine/Services.lean ====
section
/-! DEFINITION. The services of the management subsystem: optics, BFD, LACP, the ARP and ND responder, CFM and IPFIX
(spec/15_management R412 to R417). -/

namespace Sys2Proof.Machine

/-- Firmware and its services run (R412). -/
def State.serving (s : State) : Bool := s.mssMode == 1

/-- A service's packet as requester 17, counted under its SERVICE (R406, R508). -/
def State.serviceSend (s : State) (service queue : Nat) (frame : List Byte) : State := (s.mssSend queue frame).count 0x09 0x43 service 1

/-! ## Optics (R412 to R414) -/

/-- PORT, BANK, OFF and COUNT of a CMIS access are in range (R412, R413). -/
def cmisOk (w : Nat) : Bool :=
  decide (bits w 6 0 < 96) && decide (bits w 15 8 < 4) && decide (1 ≤ bits w 39 32) && decide (bits w 39 32 ≤ 128) && decide (bits w 31 24 + bits w 39 32 ≤ 256)

/-- CMIS_READ: COUNT bytes of a module, or a device access that fails (R411, R412). -/
def execCmisRead (ok : Bool) (data : List Byte) (s : State) : Host.Outcome State Fault Refusal :=
  .next (s.command 0x20 fun p => s.len p 8 <|
    let w := word64 p 0
    s.param (cmisOk w) <|
    if ok then some (s, 0, sliceAt data 0 (bits w 39 32)) else some (s.logOpen 2 0x09, 9, []))

/-- CMIS_WRITE: bytes of a module, or a device access that fails (R411, R412). -/
def execCmisWrite (ok : Bool) (s : State) : Host.Outcome State Fault Refusal :=
  .next (s.command 0x21 fun p =>
    let w := word64 p 0
    if p.length < 8 || (cmisOk w && p.length ≠ 8 + bits w 39 32) then s.no 3
    else s.param (cmisOk w) <| if ok then s.no 0 else some (s.logOpen 2 0x09, 9, []))

/-- The state to which firmware brings a present module of a port (R414). -/
def State.moduleAim (s : State) (port : Nat) : Nat :=
  let g := port / 8
  let v := Tab.get 0 s.mss.module port
  if v = 0 || bitOf (Tab.get 0 s.mss.optics g) 16 then v
  else if s.scrRunning (.line (Fin.ofNat 12 g)) then 7
  else if s.scrStopped (.line (Fin.ofNat 12 g)) then 3 else max v 3

/-- Each module of a port group as firmware keeps it (R414). -/
def State.opticsKeep (s : State) (g : Nat) : State :=
  (List.range 8).foldl (fun s k =>
    { s with mss := { s.mss with module := Tab.set 0 s.mss.module (g * 8 + k) (s.moduleAim (g * 8 + k)) } }) s

/-- OPTICS_CFG (R412). -/
def execOpticsCfg (s : State) : Host.Outcome State Fault Refusal :=
  .next (s.command 0x22 fun p => s.len p 8 <|
    let w := word64 p 0
    s.param (decide (bits w 3 0 < 12) && decide (100 ≤ bits w 15 4) && decide (bits w 15 4 ≤ 1000) && decide (bits w 18 17 ≤ 2)) <|
    let t : State := { s with mss := { s.mss with optics := Tab.set 0 s.mss.optics (bits w 3 0) w } }
    some (t.opticsKeep (bits w 3 0), 0, []))

/-- What a poll found of one module: 0 inserted, 1 removed, 2 CMIS state change, 3 flag set, with its byte (R414, R421). -/
def State.opticsEvent (s : State) (port what val : Nat) : State :=
  let m := if what = 0 then 1 else if what = 1 then 0 else Tab.get 0 s.mss.module port
  ({ s with mss := { s.mss with module := Tab.set 0 s.mss.module port m } } : State).logEvent (Config.eventSev 12).toNat 0x09 (0x0301 + what) port val

/-- OPTICS_POLL: one poll of a port group's modules and what it found (R413, R414). -/
def execOpticsPoll (g : Fin 12) (evs : List (Fin 8 × BitVec 2 × Byte)) (s : State) : Host.Outcome State Fault Refusal :=
  if s.serving then
    .next ((evs.foldl (fun s (e : Fin 8 × BitVec 2 × Byte) => s.opticsEvent (g * 8 + e.1) e.2.1.toNat e.2.2.toNat) s).opticsKeep g).irq
  else .next s

/-! ## BFD (R412, R413, R415, R416) -/

def State.bfd (s : State) (i : Nat) : Option Bfd := Tab.get none s.mss.bfd i
def State.setBfd (s : State) (i : Nat) (x : Option Bfd) : State := { s with mss := { s.mss with bfd := Tab.set none s.mss.bfd i x } }

def Bfd.localDisc (x : Bfd) : Nat := bits x.b0 31 0
def Bfd.session (x : Bfd) : Nat := bits x.b1 14 0
def Bfd.admin (x : Bfd) : Bool := bitOf x.b1 15
def Bfd.mult (x : Bfd) : Nat := bits x.b1 31 24
def Bfd.desTx (x : Bfd) : Nat := bits x.b1 63 32
def Bfd.reqRx (x : Bfd) : Nat := bits x.b2 31 0
def Bfd.queue (x : Bfd) : Nat := bits x.b2 51 32
def Bfd.tlen (x : Bfd) : Nat := bits x.b3 7 0
def Bfd.ipOff (x : Bfd) : Nat := bits x.b3 15 8

/-- A session in a new state, logged when it is another one (R416, R421). -/
def State.bfdMove (s : State) (x : Bfd) (st diag : Nat) : State :=
  let y := { x with state := st, diag := diag }
  let s := s.setBfd x.session (some y)
  if st = x.state then s
  else (s.logEvent 3 0x09 0x0101 (x.session + st * 2 ^ 16 + diag * 2 ^ 18) x.state).irq

/-- Microseconds in core clocks of 1.5 GHz. -/
def usClocks (n : Nat) : Nat := n * 1500

/-- An interval of R413. -/
def bfdInterval (n : Nat) : Bool := decide (3300 ≤ n) && decide (n ≤ 10000000)

/-- BFD_SET: a new session, or new settings of one in place (R411 to R413, R415). -/
def execBfdSet (s : State) : Host.Outcome State Fault Refusal :=
  .next (s.command 0x30 fun p =>
    let b1 := word64 p 1
    let b2 := word64 p 2
    let b3 := word64 p 3
    let b0 := word64 p 0
    if p.length < 64 || p.length ≠ 64 + bits b3 7 0 then s.no 3
    else
      let n := bits b1 14 0
      let disc := bits b0 31 0
      let unique := s.mss.bfd.all fun e => e.1 == n || (match e.2 with
        | some x => x.localDisc != disc
        | none => true)
      s.param (disc != 0 && unique && decide (1 ≤ bits b1 31 24) && bfdInterval (bits b1 63 32) && bfdInterval (bits b2 31 0)
        && decide (42 ≤ bits b3 7 0) && decide (bits b3 7 0 ≤ 96)) <|
      let adm := bitOf b1 15
      let tmpl := p.drop 64
      match s.bfd n with
      | none =>
        let x : Bfd :=
          { b0 := b0, b1 := b1, b2 := b2, b3 := b3, tmpl := tmpl, state := if adm then 0 else 1, diag := if adm then 7 else 0,
            remDisc := bits b0 63 32, remTx := 0, remRx := 1, remMult := 0, poll := false, fin := false, heard := s.bus.ticks, sentAt := 0 }
        some (s.setBfd n (some x), 0, [])
      | some x =>
        let poll := x.poll || (x.state == 3 && (x.desTx != bits b1 63 32 || x.reqRx != bits b2 31 0))
        let y : Bfd := { x with b0 := b0, b1 := b1, b2 := b2, b3 := b3, tmpl := tmpl, poll := poll, remDisc := if bits b0 63 32 = 0 then x.remDisc else bits b0 63 32 }
        let t := if adm then s.bfdMove y 0 7 else if x.state = 0 then s.bfdMove y 1 0 else s.setBfd n (some y)
        some (t, 0, []))

/-- BFD_DEL (R412). -/
def execBfdDel (s : State) : Host.Outcome State Fault Refusal :=
  .next (s.command 0x31 fun p => s.len p 8 <|
    let n := bits (word64 p 0) 14 0
    if (s.bfd n).isSome then some (s.setBfd n none, 0, []) else s.no 6)

/-- What BFD_GET answers of a session (R412). -/
def State.bfdView (s : State) (n : Nat) : Nat :=
  match s.bfd n with
  | some x => x.state + x.diag * 2 ^ 2 + x.remDisc * 2 ^ 32
  | none => (Config.noSession n).toNat

/-- BFD_GET (R412). -/
def execBfdGet (s : State) : Host.Outcome State Fault Refusal :=
  .next (s.command 0x32 fun p => s.len p 8 <|
    let w := word64 p 0
    let n := bits w 31 16
    s.param (decide (1 ≤ n) && decide (n ≤ 4096) && decide (bits w 14 0 + n ≤ 32768)) <|
    some (s, 0, (List.range n).flatMap fun i => leBytes (s.bfdView (bits w 14 0 + i)) 8))

/-- The session of a received packet: by Your Discriminator, or by what its addresses found while REMOTE_DISC is 0 (R416). -/
def State.bfdFind (s : State) (your : Nat) (byAddr : Option Nat) : Option Bfd :=
  if your ≠ 0 then
    (s.mss.bfd.findSome? fun e => match e.2 with
      | some x => if x.localDisc = your then some x else none
      | none => none)
  else match byAddr with
    | some n => match s.bfd n with
      | some x => if x.remDisc = 0 then some x else none
      | none => none
    | none => none

/-- Word 0 of a message of the BFD library: SERVICE 1, the logical avenue, KIND, poll and final bits, state and SESSION (R417). -/
def bfdWord (l kind n st : Nat) (poll fin : Bool) : Nat :=
  n + st * 2 ^ 16 + b2n poll * 2 ^ 18 + b2n fin * 2 ^ 19 + kind * 2 ^ 48 + l * 2 ^ 52 + 2 ^ 56

/-- BFD_RECEIVE_CHECK: the library finds the session of a control packet and sends KIND 1, and KIND 2 where a field differs (R416, R417). -/
def execBfdReceiveCheck (l : Fin 16) (byAddr : Option (BitVec 15)) (st : BitVec 2) (poll fin : Bool) (mult : Byte) (my your tx rx echo : Word)
    (s : State) : Host.Outcome State Fault Refusal :=
  match s.servingAve l, s.bfdFind your.toNat (byAddr.map BitVec.toNat) with
  | some q, some x =>
    if my = 0 || mult = 0 || (your = 0 && 2 ≤ st.toNat) then .next s
    else
      let differs := x.state != st.toNat || x.remTx != tx.toNat || x.remRx != rx.toNat || x.remMult != mult.toNat || x.remDisc != my.toNat
      let n := if differs then 2 else 1
      if (s.chan q supEngine 4).length + n ≤ chanDepth supEngine 4 then
        let s := s.setBfd x.session (some { x with remMult := mult.toNat })
        let s := s.putMsg q supEngine 4 [BitVec.ofNat 64 (bfdWord l 1 x.session st.toNat poll fin)]
        .next (if differs then
          s.putMsg q supEngine 4 [BitVec.ofNat 64 (bfdWord l 2 x.session st.toNat poll fin), BitVec.ofNat 64 (my.toNat + your.toNat * 2 ^ 32),
            BitVec.ofNat 64 (tx.toNat + rx.toNat * 2 ^ 32), BitVec.ofNat 64 echo.toNat]
          else s)
      else .next s
  | _, _ => .next s

/-- The state and diagnostic of a session that receives a state (RFC 5880; R416): 0 AdminDown, 1 Down, 2 Init, 3 Up. -/
def Bfd.onState (x : Bfd) (st : Nat) : Nat × Nat :=
  match x.state, st with
  | 0, _ => (0, x.diag)
  | 1, 1 => (2, x.diag)
  | 1, 2 => (3, 0)
  | 1, _ => (1, x.diag)
  | 2, 0 => (1, 3)
  | 2, 2 | 2, 3 => (3, 0)
  | 2, _ => (2, x.diag)
  | _, 0 | _, 1 => (1, 3)
  | _, _ => (3, x.diag)

/-- A message of KIND 1 or KIND 2 of the BFD service (R416, R417). -/
def State.bfdMessage (s : State) (m : List Dword) : State :=
  let w := (m.headD 0).toNat
  match s.bfd (bits w 14 0) with
  | none => s
  | some x =>
    if bits w 51 48 = 1 then
      let x : Bfd := { x with heard := s.bus.ticks, poll := x.poll && !bitOf w 19, fin := x.fin || bitOf w 18 }
      let (st, dg) := x.onState (bits w 17 16)
      s.bfdMove x st dg
    else if bits w 51 48 = 2 then
      let a := (m.getD 1 0).toNat
      let b := (m.getD 2 0).toNat
      s.setBfd x.session (some { x with remDisc := bits a 31 0, remTx := bits b 31 0, remRx := bits b 63 32 })
    else s

/-- SUPERVISOR_MESSAGE: firmware takes the oldest ch4 message of a logical avenue's supervisor and acts by its SERVICE (R417). -/
def execSupervisorMessage (l : Fin 16) (s : State) : Host.Outcome State Fault Refusal :=
  if !s.serving then .next s
  else match s.servingAve l with
    | none => .next s
    | some q =>
      match s.takeMsg q supEngine 4 with
      | none => .next s
      | some (m, s) =>
        let sv := bits (m.headD 0).toNat 63 56
        let s := s.count 0x09 0x42 sv 1
        if sv = 1 then .next (s.bfdMessage m)
        else if 0x80 ≤ sv then
          let sev := (Config.eventSev 13).toNat
          .next (((s.logEvent sev 0x09 0x0C01 (m.getD 0 0).toNat (m.getD 1 0).toNat).logEvent sev 0x09 0x0C01 (m.getD 2 0).toNat (m.getD 3 0).toNat).irq)
        else .next s

/-- The detection time of a session in clocks: MULT times the agreed remote transmit interval (R416). -/
def Bfd.detect (x : Bfd) : Nat := x.mult * usClocks (max x.reqRx x.remTx)

/-- BFD_DETECTION_TIMEOUT: no KIND 1 message for the detection time, within 0.2 ms of it (R416). -/
def execBfdDetectionTimeout (sess : BitVec 15) (s : State) : Host.Outcome State Fault Refusal :=
  match s.bfd sess.toNat with
  | none => .next s
  | some x =>
    if s.serving && 2 ≤ x.state && x.detect ≤ s.bus.ticks - x.heard + 300000 then
      .next (s.bfdMove { x with remDisc := bits x.b0 63 32, poll := false } 1 1)
    else .next s

/-- The ones' complement sum of 16-bit words in network order. -/
def onesSum : List Byte → Nat
  | [] => 0
  | [a] => a.toNat * 256
  | a :: b :: t => a.toNat * 256 + b.toNat + onesSum t

/-- An Internet checksum over a sum. -/
def checksum (n : Nat) : Nat := 65535 - foldSum (foldSum n)

/-- The 24 bytes of a session's control packet (RFC 5880; R415). -/
def Bfd.control (x : Bfd) : List Byte :=
  let tx := if x.state = 3 then x.desTx else max x.desTx 1000000
  [BitVec.ofNat 8 (32 + x.diag), BitVec.ofNat 8 (x.state * 64 + b2n (x.poll && !x.fin) * 32 + b2n x.fin * 16), BitVec.ofNat 8 x.mult, 24]
    ++ beBytes x.localDisc 4 ++ beBytes x.remDisc 4 ++ beBytes tx 4 ++ beBytes x.reqRx 4 ++ beBytes 0 4

/-- A session's packet: template and control packet, with lengths and checksums filled in (R415). -/
def Bfd.packet (x : Bfd) : List Byte :=
  let o := x.ipOff
  let u := x.tlen - 8
  let f := x.tmpl ++ x.control
  let f := putPair (putPair f (u + 4) 32) (u + 6) 0
  let f :=
    if bitOf x.b1 16 then putPair f (o + 4) (f.length - o - 40)
    else
      let f := putPair (putPair f (o + 2) (f.length - o)) (o + 10) 0
      putPair f (o + 10) (checksum (onesSum (sliceAt f o (byteAt f o % 16 * 4))))
  let addrs := if bitOf x.b1 16 then sliceAt f (o + 8) 32 else sliceAt f (o + 12) 8
  let c := checksum (onesSum addrs + 17 + 32 + onesSum (f.drop u))
  putPair f (u + 6) (if c = 0 then 65535 else c)

/-- The transmit interval of a session in microseconds (RFC 5880). -/
def Bfd.interval (x : Bfd) : Nat := max (if x.state = 3 then x.desTx else max x.desTx 1000000) x.remRx

/-- BFD_TRANSMIT: a control packet at the end of an interval reduced by a jitter of 0 to 25 %, or 10 to 25 % when MULT is 1, or at once
to answer a poll (R415, R416). -/
def execBfdTransmit (sess : BitVec 15) (jitter : Fin 26) (s : State) : Host.Outcome State Fault Refusal :=
  match s.bfd sess.toNat with
  | none => .next s
  | some x =>
    let due := x.sentAt = 0 || usClocks x.interval * (100 - jitter) ≤ (s.bus.ticks - x.sentAt) * 100
    if s.serving && (x.fin || (x.remRx != 0 && due && (x.mult != 1 || 10 ≤ jitter.val))) then
      .next ((s.setBfd sess.toNat (some { x with sentAt := s.bus.ticks, fin := false })).serviceSend 1 x.queue x.packet)
    else .next s

/-! ## LACP (R412, R413) -/

def State.lacp (s : State) (a : Nat) : Option (List Nat) := Tab.get none s.mss.lacp a

/-- PORTMASK of an aggregation's words: bits 0 to 63 in W1, 64 to 95 in W2 (R412). -/
def lacpMask (w : List Nat) : Nat := w.getD 1 0 + w.getD 2 0 * 2 ^ 64

/-- Ports of an aggregation. -/
def lacpPorts (w : List Nat) : List Nat := (List.range 96).filter fun k => bitOf (lacpMask w) k

/-- LACP_SET (R412, R413). -/
def execLacpSet (s : State) : Host.Outcome State Fault Refusal :=
  .next (s.command 0x40 fun p => s.len p 32 <|
    let w := words64 p 0 4
    let a := bits (w.getD 0 0) 5 0
    s.param (decide (a < 48) && decide (lacpMask w < 2 ^ 96)) <|
    if 16 < (lacpPorts w).length then s.no 5
    else some ({ s with mss := { s.mss with lacp := Tab.set none s.mss.lacp a (some w) } }, 0, []))

/-- LACP_GET: 16 bytes of each member port (R412). -/
def execLacpGet (s : State) : Host.Outcome State Fault Refusal :=
  .next (s.command 0x41 fun p => s.len p 32 <|
    let a := bits (word64 p 0) 5 0
    s.param (decide (a < 48)) <|
    match s.lacp a with
    | none => s.no 6
    | some w => some (s, 0, (lacpPorts w).flatMap fun k =>
        let x := Tab.get {} s.mss.lport k
        leBytes (Config.lacpView x.actor x.partner x.system x.key x.port).toNat 16))

/-- The aggregation of a member port. -/
def State.lacpOf (s : State) (port : Nat) : Option (List Nat) :=
  s.mss.lacp.findSome? fun e => match e.2 with
    | some w => if bitOf (lacpMask w) port then some w else none
    | none => none

def State.setLport (s : State) (k : Nat) (x : LacpPort) : State := { s with mss := { s.mss with lport := Tab.set {} s.mss.lport k x } }

/-- LACP_PERIODIC_TRANSMIT: an LACPDU of a member port, every second or every 30 s (R413). -/
def execLacpPeriodicTransmit (port : Fin 96) (queue : BitVec 20) (frame : List Byte) (s : State) : Host.Outcome State Fault Refusal :=
  match s.lacpOf port with
  | none => .next s
  | some w =>
    let x := Tab.get {} s.mss.lport port.val
    let due := x.sentAt = 0 || usClocks (if bitOf (w.getD 3 0) 0 then 1000000 else 30000000) ≤ s.bus.ticks - x.sentAt
    if s.serving && due then .next ((s.setLport port { x with sentAt := s.bus.ticks }).serviceSend 2 queue.toNat frame) else .next s

/-- LACPDU_RECEIVED: actor and partner state as IEEE 802.1AX leaves them; a change is logged (R413, R421). -/
def execLacpduReceived (port : Fin 96) (actor partner : Byte) (system : BitVec 64) (key pnum : BitVec 16) (s : State) : Host.Outcome State Fault Refusal :=
  match s.lacpOf port with
  | none => .next s
  | some _ =>
    if s.serving then
      let x := Tab.get {} s.mss.lport port.val
      let y : LacpPort := { x with actor := actor.toNat, partner := partner.toNat, system := system.toNat, key := key.toNat, port := pnum.toNat, heard := s.bus.ticks }
      let s := s.setLport port y
      if x.actor = y.actor && x.partner = y.partner then .next s
      else .next (s.logEvent (Config.eventSev 16).toNat 0x09 0x0201 port (Config.lacpArg y.actor y.partner).toNat).irq
    else .next s

/-! ## ARP and ND responder (R412, R413) -/

def State.resp (s : State) (i : Nat) : Option (List Nat) := Tab.get none s.mss.resp i

/-- RESP_SET (R411, R412). -/
def execRespSet (s : State) : Host.Outcome State Fault Refusal :=
  .next (s.command 0x50 fun p => s.len p 32 <|
    let w := words64 p 0 4
    let i := bits (w.getD 0 0) 11 0
    match s.resp i with
    | some v => s.no (if v = w then 0 else 7)
    | none => some ({ s with mss := { s.mss with resp := Tab.set none s.mss.resp i (some w) } }, 0, []))

/-- RESP_DEL (R412). -/
def execRespDel (s : State) : Host.Outcome State Fault Refusal :=
  .next (s.command 0x51 fun p => s.len p 32 <|
    let i := bits (word64 p 0) 11 0
    if (s.resp i).isSome then some ({ s with mss := { s.mss with resp := Tab.set none s.mss.resp i none } }, 0, []) else s.no 6)

/-- A responder address is the one asked for. -/
def respIs (w : List Nat) (af : Bool) (vrf addr : Nat) : Bool :=
  bitOf (w.getD 0 0) 12 == af && bits (w.getD 0 0) 27 16 == vrf && w.getD 2 0 + w.getD 3 0 * 2 ^ 64 == addr

/-- RESPONDER_REQUEST: a configured address is answered, at most 200,000 times a second; another one goes to the host as a firmware
delivery (R413, R417). -/
def execResponderRequest (af : Bool) (vrf : BitVec 12) (addr : BitVec 128) (ctx : Byte) (queue : BitVec 20) (reply : List Byte) (ring : Fin 64)
    (frame : List Byte) (s : State) : Host.Outcome State Fault Refusal :=
  if !s.serving then .next s
  else if s.mss.resp.any fun e => match e.2 with
      | some w => respIs w af vrf.toNat addr.toNat
      | none => false then
    let n := if s.mss.answersAt = s.tim.sec then s.mss.answers else 0
    if n < 200000 then
      .next (({ s with mss := { s.mss with answers := n + 1, answersAt := s.tim.sec } } : State).serviceSend 3 queue.toNat reply)
    else .next s
  else
    let p : Punt :=
      { kind := 7, reason := 3, ctx := ctx.toNat, pass := 0, adm := s.beatN, sec := s.tim.sec, ns := s.tim.ns, colour := 0, script := [], frame := frame, tag := none }
    .next { s with hif := { s.hif with firmware := s.hif.firmware ++ [(ring.val, p)] } }

/-! ## CFM (R412, R413) -/

def State.mep (s : State) (n : Nat) : Option Mep := Tab.get none s.mss.mep n
def State.setMep (s : State) (n : Nat) (x : Mep) : State := { s with mss := { s.mss with mep := Tab.set none s.mss.mep n (some x) } }

/-- The CCM interval code of a MEP's settings (R412). -/
def mepCode (w : Nat) : Nat := bits w 50 48

/-- MEP_SET: at most 1,024 MEPs use the 3.33 ms interval (R412, R413). -/
def execMepSet (s : State) : Host.Outcome State Fault Refusal :=
  .next (s.command 0x60 fun p => s.len p 56 <|
    let w := word64 p 0
    let n := bits w 12 0
    s.param (decide (bits w 47 40 < 192)) <|
    let fast := s.mss.mep.filter fun e => e.1 != n && (match e.2 with
      | some x => mepCode x.w0 == 1
      | none => false)
    if mepCode w = 1 && 1024 ≤ fast.length then s.no 5
    else
      let x : Mep := match s.mep n with
        | some x => { x with w0 := w, maid := p.drop 8 }
        | none => { w0 := w, maid := p.drop 8, remote := 0, heard := 0, delay := 0, loss := 0, sentAt := 0, seq := 0 }
      some (s.setMep n x, 0, []))

/-- MEP_GET (R412). -/
def execMepGet (s : State) : Host.Outcome State Fault Refusal :=
  .next (s.command 0x61 fun p => s.len p 56 <|
    match s.mep (bits (word64 p 0) 12 0) with
    | none => s.no 6
    | some x => some (s, 0, Config.mepView x.remote x.delay x.loss))

/-- CFM_FRAME_RECEIVED: op 0 a CCM with the remote MEP's state, 1 a request that is answered, 2 a delay result, 3 a loss result (R413). -/
def execCfmFrameReceived (mep : BitVec 13) (op : Fin 4) (v : Dword) (queue : BitVec 20) (reply : List Byte) (s : State) : Host.Outcome State Fault Refusal :=
  match s.mep mep.toNat with
  | none => .next s
  | some x =>
    if !s.serving then .next s
    else match op with
      | 0 => .next (s.setMep mep.toNat { x with remote := v.toNat, heard := s.bus.ticks })
      | 1 => .next (s.serviceSend 4 queue.toNat reply)
      | 2 => .next (s.setMep mep.toNat { x with delay := v.toNat })
      | _ => .next (s.setMep mep.toNat { x with loss := v.toNat })

/-- Clocks of a CCM interval code; 0 for none. -/
def ccmClocks (code : Nat) : Nat :=
  [0, 5000000, 15000000, 150000000, 1500000000, 15000000000, 90000000000, 900000000000].getD code 0

/-- CCM_TRANSMIT: a continuity check message at a MEP's interval (R413). -/
def execCcmTransmit (mep : BitVec 13) (queue : BitVec 20) (frame : List Byte) (s : State) : Host.Outcome State Fault Refusal :=
  match s.mep mep.toNat with
  | none => .next s
  | some x =>
    if s.serving && mepCode x.w0 ≠ 0 && (x.seq = 0 || ccmClocks (mepCode x.w0) ≤ s.bus.ticks - x.sentAt) then
      .next ((s.setMep mep.toNat { x with sentAt := s.bus.ticks, seq := x.seq + 1 }).serviceSend 4 queue.toNat frame)
    else .next s

/-! ## IPFIX (R412, R413) -/

/-- Word i of a collector's settings. -/
def State.collector (s : State) (c i : Nat) : Nat := word64 (Tab.get [] s.mss.ipfix c) i

/-- IPFIX_SET (R412, R413). -/
def execIpfixSet (s : State) : Host.Outcome State Fault Refusal :=
  .next (s.command 0x70 fun p => s.len p 112 <|
    let w := word64 p 0
    s.param (decide (1 ≤ bits w 27 16) && decide (bits w 27 16 ≤ 3600) && decide (1 ≤ bits w 47 32) && decide (bits w 47 32 ≤ 600)) <|
    some ({ s with mss := { s.mss with ipfix := Tab.set [] s.mss.ipfix (bits w 1 0) p } }, 0, []))

/-- IPFIX_EXPORT: flow n is ACTIVE_S old or IDLE_S idle; it leaves the cache and goes to its collector, over the management port or a line
queue (R413). -/
def execIpfixExport (c : Fin 4) (n : BitVec 20) (frame : List Byte) (s : State) : Host.Outcome State Fault Refusal :=
  match s.mss.flows[n.toNat]? with
  | none => .next s
  | some f =>
    let w := s.collector c 0
    let t := s.bus.ticks
    let old := usClocks 1000000 * bits w 27 16 ≤ t - f.first || usClocks 1000000 * bits w 47 32 ≤ t - f.last
    if s.serving && bitOf w 2 && old then
      let s : State := { s with mss := { s.mss with flows := dropAt s.mss.flows n.toNat } }
      if bitOf w 3 then .next (s.serviceSend 5 (bits (s.collector c 1) 19 0) frame)
      else .next (({ s with mss := { s.mss with mgmtOut := s.mss.mgmtOut ++ [frame] } } : State).count 0x09 0x43 5 1)
    else .next s

end Sys2Proof.Machine
end

