-- ==== Sys2Proof/Machine/Dispatch.lean ====
section
/-! DEFINITION. The meaning of every command, one arm per row of spec/opcode_table.json. -/

namespace Sys2Proof.Machine

/-- The effect of a command on everything but the queue. -/
def exec (i : Instr) (s : State) : Host.Outcome State Fault Refusal :=
  match i with
  | .registerWrite r a v => Sys2Proof.Machine.execRegisterWrite r a v s
  | .unsupportedRequestAccess r a size wr => Sys2Proof.Machine.execUnsupportedRequestAccess r a size wr s
  | .unmappedAccess r a wr => Sys2Proof.Machine.execUnmappedAccess r a wr s
  | .latchingLowHalfRead r a => Sys2Proof.Machine.execLatchingLowHalfRead r a s
  | .highHalfWrite r a v => Sys2Proof.Machine.execHighHalfWrite r a v s
  | .readClearRead r a => Sys2Proof.Machine.execReadClearRead r a s
  | .beatBoundary overs bad => Sys2Proof.Machine.execBeatBoundary overs bad s
  | .crossingDelivery toTm badData badCtl => Sys2Proof.Machine.execCrossingDelivery toTm badData badCtl s
  | .epochLoad => Sys2Proof.Machine.execEpochLoad s
  | .realign => Sys2Proof.Machine.execRealign s
  | .realignLoad => Sys2Proof.Machine.execRealignLoad s
  | .arm k cancelToo => Sys2Proof.Machine.execArm k cancelToo s
  | .cancel k => Sys2Proof.Machine.execCancel k s
  | .start f => Sys2Proof.Machine.execStart f s
  | .stop f => Sys2Proof.Machine.execStop f s
  | .invalidCmd f => Sys2Proof.Machine.execInvalidCmd f s
  | .startSequenceComplete f fault => Sys2Proof.Machine.execStartSequenceComplete f fault s
  | .drainComplete f => Sys2Proof.Machine.execDrainComplete f s
  | .startTimeout f => Sys2Proof.Machine.execStartTimeout f s
  | .drainTimeout f => Sys2Proof.Machine.execDrainTimeout f s
  | .deadline p slot => Sys2Proof.Machine.execDeadline p slot s
  | .signalDetectLoss lane => Sys2Proof.Machine.execSignalDetectLoss lane s
  | .signalDetectReturn port => Sys2Proof.Machine.execSignalDetectReturn port s
  | .markerSearchFind k pos => Sys2Proof.Machine.execMarkerSearchFind k pos s
  | .markerPeriod k found laneOk deskewOk => Sys2Proof.Machine.execMarkerPeriod k found laneOk deskewOk s
  | .fecUncorrectable src ctxs => Sys2Proof.Machine.execFecUncorrectable src ctxs s
  | .serWindowEnd port corr => Sys2Proof.Machine.execSerWindowEnd port corr s
  | .localFaultReceived port => Sys2Proof.Machine.execLocalFaultReceived port s
  | .remoteFaultReceived port => Sys2Proof.Machine.execRemoteFaultReceived port s
  | .faultSequencesAbsent port isLocal => Sys2Proof.Machine.execFaultSequencesAbsent port isLocal s
  | .rdegReceived port on => Sys2Proof.Machine.execRdegReceived port on s
  | .frameHeaderToKerb m head => Sys2Proof.Machine.execFrameHeaderToKerb m head s
  | .frameDataArrival m data => Sys2Proof.Machine.execFrameDataArrival m data s
  | .frameEnd m len fcsOk => Sys2Proof.Machine.execFrameEnd m len fcsOk s
  | .gatherFrameComplete m fcsOk => Sys2Proof.Machine.execGatherFrameComplete m fcsOk s
  | .avenueAdmission l => Sys2Proof.Machine.execAvenueAdmission l s
  | .egressFrameTransmit => Sys2Proof.Machine.execEgressFrameTransmit s
  | .crReceived f calB => Sys2Proof.Machine.execCrReceived f calB s
  | .caReceived f k calB => Sys2Proof.Machine.execCaReceived f k calB s
  | .cBitFlipReceived f => Sys2Proof.Machine.execCBitFlipReceived f s
  | .caTimeout f => Sys2Proof.Machine.execCaTimeout f s
  | .flexeOverheadFrame f k group phyMap mfOk rpf skewNs cal => Sys2Proof.Machine.execFlexeOverheadFrame f k group phyMap mfOk rpf skewNs cal s
  | .otnCalendarSwitch g transmit => Sys2Proof.Machine.execOtnCalendarSwitch g transmit s
  | .otnMultiframeReceived g aligned smTti pmTti smBdi pmBdi smBip pmBip smBei pmBei maint => Sys2Proof.Machine.execOtnMultiframeReceived g aligned smTti pmTti smBdi pmBdi smBip pmBip smBei pmBei maint s
  | .otnSecond g => Sys2Proof.Machine.execOtnSecond g s
  | .headerVectorComplete p slot memErr => Sys2Proof.Machine.execHeaderVectorComplete p slot memErr s
  | .recirculationQueueTransfer l => Sys2Proof.Machine.execRecirculationQueueTransfer l s
  | .pgCheck bankB => Sys2Proof.Machine.execPgCheck bankB s
  | .pgCheckComplete => Sys2Proof.Machine.execPgCheckComplete s
  | .dispatch p => Sys2Proof.Machine.execDispatch p s
  | .bundleIssue p e ecc => Sys2Proof.Machine.execBundleIssue p e ecc s
  | .nop t gd => Sys2Proof.Machine.execNop t gd s
  | .add t gd rd ra rb => Sys2Proof.Machine.execAdd t gd rd ra rb s
  | .sub t gd rd ra rb => Sys2Proof.Machine.execSub t gd rd ra rb s
  | .and t gd rd ra rb => Sys2Proof.Machine.execAnd t gd rd ra rb s
  | .or t gd rd ra rb => Sys2Proof.Machine.execOr t gd rd ra rb s
  | .xor t gd rd ra rb => Sys2Proof.Machine.execXor t gd rd ra rb s
  | .andn t gd rd ra rb => Sys2Proof.Machine.execAndn t gd rd ra rb s
  | .shl t gd rd ra rb => Sys2Proof.Machine.execShl t gd rd ra rb s
  | .shr t gd rd ra rb => Sys2Proof.Machine.execShr t gd rd ra rb s
  | .sar t gd rd ra rb => Sys2Proof.Machine.execSar t gd rd ra rb s
  | .rol t gd rd ra rb => Sys2Proof.Machine.execRol t gd rd ra rb s
  | .min t gd rd ra rb => Sys2Proof.Machine.execMin t gd rd ra rb s
  | .max t gd rd ra rb => Sys2Proof.Machine.execMax t gd rd ra rb s
  | .minu t gd rd ra rb => Sys2Proof.Machine.execMinu t gd rd ra rb s
  | .maxu t gd rd ra rb => Sys2Proof.Machine.execMaxu t gd rd ra rb s
  | .mul t gd rd ra rb => Sys2Proof.Machine.execMul t gd rd ra rb s
  | .mulhu t gd rd ra rb => Sys2Proof.Machine.execMulhu t gd rd ra rb s
  | .clz t gd rd ra => Sys2Proof.Machine.execClz t gd rd ra s
  | .popc t gd rd ra => Sys2Proof.Machine.execPopc t gd rd ra s
  | .bswap t gd rd ra => Sys2Proof.Machine.execBswap t gd rd ra s
  | .csadd t gd rd ra rb => Sys2Proof.Machine.execCsadd t gd rd ra rb s
  | .crc32 t gd rd ra rb => Sys2Proof.Machine.execCrc32 t gd rd ra rb s
  | .addi t gd rd ra imm => Sys2Proof.Machine.execAddi t gd rd ra imm s
  | .andi t gd rd ra imm => Sys2Proof.Machine.execAndi t gd rd ra imm s
  | .ori t gd rd ra imm => Sys2Proof.Machine.execOri t gd rd ra imm s
  | .xori t gd rd ra imm => Sys2Proof.Machine.execXori t gd rd ra imm s
  | .shli t gd rd ra sh => Sys2Proof.Machine.execShli t gd rd ra sh s
  | .shri t gd rd ra sh => Sys2Proof.Machine.execShri t gd rd ra sh s
  | .sari t gd rd ra sh => Sys2Proof.Machine.execSari t gd rd ra sh s
  | .ext t gd rd ra pos len1 => Sys2Proof.Machine.execExt t gd rd ra pos len1 s
  | .ins t gd rd ra pos len1 => Sys2Proof.Machine.execIns t gd rd ra pos len1 s
  | .movi t gd rd imm => Sys2Proof.Machine.execMovi t gd rd imm s
  | .limm t gd rd lit => Sys2Proof.Machine.execLimm t gd rd lit s
  | .limmh t gd rd lit => Sys2Proof.Machine.execLimmh t gd rd lit s
  | .cmp t gd cond pd ra rb => Sys2Proof.Machine.execCmp t gd cond pd ra rb s
  | .cmpeqi t gd pd ra imm => Sys2Proof.Machine.execCmpeqi t gd pd ra imm s
  | .cmpnei t gd pd ra imm => Sys2Proof.Machine.execCmpnei t gd pd ra imm s
  | .cmplti t gd pd ra imm => Sys2Proof.Machine.execCmplti t gd pd ra imm s
  | .cmpgei t gd pd ra imm => Sys2Proof.Machine.execCmpgei t gd pd ra imm s
  | .cmpltui t gd pd ra imm => Sys2Proof.Machine.execCmpltui t gd pd ra imm s
  | .cmpgeui t gd pd ra imm => Sys2Proof.Machine.execCmpgeui t gd pd ra imm s
  | .tsti t gd pd ra imm => Sys2Proof.Machine.execTsti t gd pd ra imm s
  | .plog t gd fn pd pa pb => Sys2Proof.Machine.execPlog t gd fn pd pa pb s
  | .movp t gd rd => Sys2Proof.Machine.execMovp t gd rd s
  | .pmov t gd ra => Sys2Proof.Machine.execPmov t gd ra s
  | .rds t gd rd n => Sys2Proof.Machine.execRds t gd rd n s
  | .wrs t gd n rb => Sys2Proof.Machine.execWrs t gd n rb s
  | .fadds t gd rd n rb => Sys2Proof.Machine.execFadds t gd rd n rb s
  | .hld t gd rd ra imm => Sys2Proof.Machine.execHld t gd rd ra imm s
  | .hst t gd rd ra imm => Sys2Proof.Machine.execHst t gd rd ra imm s
  | .lld t gd rd ra imm => Sys2Proof.Machine.execLld t gd rd ra imm s
  | .lst t gd rd ra imm => Sys2Proof.Machine.execLst t gd rd ra imm s
  | .eput t gd ra => Sys2Proof.Machine.execEput t gd ra s
  | .eset t gd ra k => Sys2Proof.Machine.execEset t gd ra k s
  | .eclr t gd => Sys2Proof.Machine.execEclr t gd s
  | .lkp t gd rd ra table => Sys2Proof.Machine.execLkp t gd rd ra table s
  | .tcs t gd rd hoff prof => Sys2Proof.Machine.execTcs t gd rd hoff prof s
  | .pol t gd rd ra => Sys2Proof.Machine.execPol t gd rd ra s
  | .stat t gd ra rb => Sys2Proof.Machine.execStat t gd ra rb s
  | .waitr t gd => Sys2Proof.Machine.execWaitr t gd s
  | .send t gd ra last ch => Sys2Proof.Machine.execSend t gd ra last ch s
  | .recv t gd rd ch => Sys2Proof.Machine.execRecv t gd rd ch s
  | .recvt t gd rd pd ch => Sys2Proof.Machine.execRecvt t gd rd pd ch s
  | .abort t gd ra => Sys2Proof.Machine.execAbort t gd ra s
  | .brk t gd => Sys2Proof.Machine.execBrk t gd s
  | .br t gd target => Sys2Proof.Machine.execBr t gd target s
  | .call t gd rl target => Sys2Proof.Machine.execCall t gd rl target s
  | .loop t gd rl target => Sys2Proof.Machine.execLoop t gd rl target s
  | .jmp t gd rl => Sys2Proof.Machine.execJmp t gd rl s
  | .fwd t gd ra => Sys2Proof.Machine.execFwd t gd ra s
  | .repl t gd ra => Sys2Proof.Machine.execRepl t gd ra s
  | .punt t gd ra => Sys2Proof.Machine.execPunt t gd ra s
  | .recirc t gd ra => Sys2Proof.Machine.execRecirc t gd ra s
  | .drop t gd ra => Sys2Proof.Machine.execDrop t gd ra s
  | .lookupResponse t k bad => Sys2Proof.Machine.execLookupResponse t k bad s
  | .tcamSearchResponse t k falseAt parity => Sys2Proof.Machine.execTcamSearchResponse t k falseAt parity s
  | .policerResponse t k bad => Sys2Proof.Machine.execPolicerResponse t k bad s
  | .channelCommit p e ch => Sys2Proof.Machine.execChannelCommit p e ch s
  | .allThreadsBlocked p e => Sys2Proof.Machine.execAllThreadsBlocked p e s
  | .iso p e on => Sys2Proof.Machine.execIso p e on s
  | .halt p e mask => Sys2Proof.Machine.execHalt p e mask s
  | .resume p e mask => Sys2Proof.Machine.execResume p e mask s
  | .step p e mask => Sys2Proof.Machine.execStep p e mask s
  | .codeData3Write r v => Sys2Proof.Machine.execCodeData3Write r v s
  | .codeData0Read r p => Sys2Proof.Machine.execCodeData0Read r p s
  | .psCheck bankB => Sys2Proof.Machine.execPsCheck bankB s
  | .psCheckComplete eccAt => Sys2Proof.Machine.execPsCheckComplete eccAt s
  | .engineRemap p k phys => Sys2Proof.Machine.execEngineRemap p k phys s
  | .bistFail p e => Sys2Proof.Machine.execBistFail p e s
  | .editEnd => Sys2Proof.Machine.execEditEnd s
  | .editDel off len => Sys2Proof.Machine.execEditDel off len s
  | .editIns off data => Sys2Proof.Machine.execEditIns off data s
  | .editOvr off data => Sys2Proof.Machine.execEditOvr off data s
  | .dec4 off => Sys2Proof.Machine.execDec4 off s
  | .dec6 off => Sys2Proof.Machine.execDec6 off s
  | .decm off => Sys2Proof.Machine.execDecm off s
  | .pcopy off n => Sys2Proof.Machine.execPcopy off n s
  | .bankQueueEntry l bank => Sys2Proof.Machine.execBankQueueEntry l bank s
  | .policerQueueEntry l bank => Sys2Proof.Machine.execPolicerQueueEntry l bank s
  | .insert r w table static => Sys2Proof.Machine.execInsert r w table static s
  | .replace r w table static => Sys2Proof.Machine.execReplace r w table static s
  | .delete r w table => Sys2Proof.Machine.execDelete r w table s
  | .find r w table => Sys2Proof.Machine.execFind r w table s
  | .windowRead r w target => Sys2Proof.Machine.execWindowRead r w target s
  | .windowWrite r w target => Sys2Proof.Machine.execWindowWrite r w target s
  | .commit w => Sys2Proof.Machine.execCommit w s
  | .discard w => Sys2Proof.Machine.execDiscard w s
  | .overlayDrain bank => Sys2Proof.Machine.execOverlayDrain bank s
  | .routeDelta => Sys2Proof.Machine.execRouteDelta s
  | .shadowCompare word found => Sys2Proof.Machine.execShadowCompare word found s
  | .tcamQueueEntry p e t => Sys2Proof.Machine.execTcamQueueEntry p e t s
  | .tcamRowOperation p => Sys2Proof.Machine.execTcamRowOperation p s
  | .tcamWrite r w table => Sys2Proof.Machine.execTcamWrite r w table s
  | .tcamInsert r w table => Sys2Proof.Machine.execTcamInsert r w table s
  | .tcamDelete r w table => Sys2Proof.Machine.execTcamDelete r w table s
  | .tcamRead r w table => Sys2Proof.Machine.execTcamRead r w table s
  | .tcamClear r w table => Sys2Proof.Machine.execTcamClear r w table s
  | .tcamCommandComplete w => Sys2Proof.Machine.execTcamCommandComplete w s
  | .policerRefresh x => Sys2Proof.Machine.execPolicerRefresh x s
  | .policerWindowRead r w bad => Sys2Proof.Machine.execPolicerWindowRead r w bad s
  | .policerWindowWrite r w => Sys2Proof.Machine.execPolicerWindowWrite r w s
  | .patternScan u err => Sys2Proof.Machine.execPatternScan u err s
  | .patWinWrite r v => Sys2Proof.Machine.execPatWinWrite r v s
  | .patCheck slotB => Sys2Proof.Machine.execPatCheck slotB s
  | .patCheckComplete => Sys2Proof.Machine.execPatCheckComplete s
  | .patOldProtEnd => Sys2Proof.Machine.execPatOldProtEnd s
  | .patRec0Read r => Sys2Proof.Machine.execPatRec0Read r s
  | .patRec3Read r => Sys2Proof.Machine.execPatRec3Read r s
  | .learnExecute ager => Sys2Proof.Machine.execLearnExecute ager s
  | .freezeExpiry key => Sys2Proof.Machine.execFreezeExpiry key s
  | .unfreeze r v => Sys2Proof.Machine.execUnfreeze r v s
  | .epochAdvance => Sys2Proof.Machine.execEpochAdvance s
  | .lrnRec0Read r => Sys2Proof.Machine.execLrnRec0Read r s
  | .lrnRec7Read r => Sys2Proof.Machine.execLrnRec7Read r s
  | .recordLanding => Sys2Proof.Machine.execRecordLanding s
  | .queueRead r w => Sys2Proof.Machine.execQueueRead r w s
  | .queueWrite r w => Sys2Proof.Machine.execQueueWrite r w s
  | .flush r w => Sys2Proof.Machine.execFlush r w s
  | .move => Sys2Proof.Machine.execMove s
  | .replicationEngine => Sys2Proof.Machine.execReplicationEngine s
  | .free req pd => Sys2Proof.Machine.execFree req pd s
  | .quarantineRelease h => Sys2Proof.Machine.execQuarantineRelease h s
  | .egressEdit err => Sys2Proof.Machine.execEgressEdit err s
  | .schedulerDecision o bad => Sys2Proof.Machine.execSchedulerDecision o bad s
  | .sampleRead r w clr => Sys2Proof.Machine.execSampleRead r w clr s
  | .nodeRead r w level => Sys2Proof.Machine.execNodeRead r w level s
  | .nodeWrite r w level => Sys2Proof.Machine.execNodeWrite r w level s
  | .fabricFrameReceived l pattern flags body crc bad => Sys2Proof.Machine.execFabricFrameReceived l pattern flags body crc bad s
  | .cellReceived l hdr payload => Sys2Proof.Machine.execCellReceived l hdr payload s
  | .request src e on => Sys2Proof.Machine.execRequest src e on s
  | .grant src e units => Sys2Proof.Machine.execGrant src e units s
  | .heartbeat src seq mstate health => Sys2Proof.Machine.execHeartbeat src seq mstate health s
  | .status src planes => Sys2Proof.Machine.execStatus src planes s
  | .emptyMessage src mtype => Sys2Proof.Machine.execEmptyMessage src mtype s
  | .requestRepeat dest => Sys2Proof.Machine.execRequestRepeat dest s
  | .statusRefresh => Sys2Proof.Machine.execStatusRefresh s
  | .statusTimeout m => Sys2Proof.Machine.execStatusTimeout m s
  | .laneEnable n v => Sys2Proof.Machine.execLaneEnable n v s
  | .laneFail l cause => Sys2Proof.Machine.execLaneFail l cause s
  | .laneDrainEnd l => Sys2Proof.Machine.execLaneDrainEnd l s
  | .laneReturn l => Sys2Proof.Machine.execLaneReturn l s
  | .dramRequest tm agent addr len data => Sys2Proof.Machine.execDramRequest tm agent addr len data s
  | .dramQueueEntry c p write => Sys2Proof.Machine.execDramQueueEntry c p write s
  | .burstService c p err => Sys2Proof.Machine.execBurstService c p err s
  | .openRowTimeout c p bank => Sys2Proof.Machine.execOpenRowTimeout c p bank s
  | .bankRefresh c p bank => Sys2Proof.Machine.execBankRefresh c p bank s
  | .selfRefreshEntry c => Sys2Proof.Machine.execSelfRefreshEntry c s
  | .selfRefreshEntryCommand c => Sys2Proof.Machine.execSelfRefreshEntryCommand c s
  | .selfRefreshExitComplete c => Sys2Proof.Machine.execSelfRefreshExitComplete c s
  | .stackTemperatureSample k temp => Sys2Proof.Machine.execStackTemperatureSample k temp s
  | .dramScrubRead c p bank row col err => Sys2Proof.Machine.execDramScrubRead c p bank row col err s
  | .remapDataWrite c v => Sys2Proof.Machine.execRemapDataWrite c v s
  | .remapCopyComplete c entry err => Sys2Proof.Machine.execRemapCopyComplete c entry err s
  | .writeThenCompare c pc pattern => Sys2Proof.Machine.execWriteThenCompare c pc pattern s
  | .compareOnly c pc pattern => Sys2Proof.Machine.execCompareOnly c pc pattern s
  | .writeOnly c pc pattern => Sys2Proof.Machine.execWriteOnly c pc pattern s
  | .trainingHelperComplete c lmask spmask ecnt => Sys2Proof.Machine.execTrainingHelperComplete c lmask spmask ecnt s
  | .perstNAssert => Sys2Proof.Machine.execPerstNAssert s
  | .perstNRelease => Sys2Proof.Machine.execPerstNRelease s
  | .hotReset linkDown => Sys2Proof.Machine.execHotReset linkDown s
  | .functionLevelReset => Sys2Proof.Machine.execFunctionLevelReset s
  | .d3hotEntry => Sys2Proof.Machine.execD3hotEntry s
  | .d0Return => Sys2Proof.Machine.execD0Return s
  | .busMasterEnableClear => Sys2Proof.Machine.execBusMasterEnableClear s
  | .hostReadTimeout addr => Sys2Proof.Machine.execHostReadTimeout addr s
  | .ringEnable inj r v => Sys2Proof.Machine.execRingEnable inj r v s
  | .ringDisable inj r v => Sys2Proof.Machine.execRingDisable inj r v s
  | .puntWrite => Sys2Proof.Machine.execPuntWrite s
  | .descriptorFetch inj r ok w0 w1 w2 w3 => Sys2Proof.Machine.execDescriptorFetch inj r ok w0 w1 w2 w3 s
  | .injectRead ok bytes => Sys2Proof.Machine.execInjectRead ok bytes s
  | .moderationTimer inj r => Sys2Proof.Machine.execModerationTimer inj r s
  | .vectorEoi v => Sys2Proof.Machine.execVectorEoi v s
  | .msixUnmask v => Sys2Proof.Machine.execMsixUnmask v s
  | .mailboxPost r m tag => Sys2Proof.Machine.execMailboxPost r m tag s
  | .pop r m => Sys2Proof.Machine.execPop r m s
  | .withdraw r m => Sys2Proof.Machine.execWithdraw r m s
  | .commandTake ok c0 c3 payload => Sys2Proof.Machine.execCommandTake ok c0 c3 payload s
  | .answerPost m ok => Sys2Proof.Machine.execAnswerPost m ok s
  | .getInfo => Sys2Proof.Machine.execGetInfo s
  | .echo => Sys2Proof.Machine.execEcho s
  | .routeStat => Sys2Proof.Machine.execRouteStat s
  | .cmisRead ok data => Sys2Proof.Machine.execCmisRead ok data s
  | .cmisWrite ok => Sys2Proof.Machine.execCmisWrite ok s
  | .opticsCfg => Sys2Proof.Machine.execOpticsCfg s
  | .bfdSet => Sys2Proof.Machine.execBfdSet s
  | .bfdDel => Sys2Proof.Machine.execBfdDel s
  | .bfdGet => Sys2Proof.Machine.execBfdGet s
  | .lacpSet => Sys2Proof.Machine.execLacpSet s
  | .lacpGet => Sys2Proof.Machine.execLacpGet s
  | .respSet => Sys2Proof.Machine.execRespSet s
  | .respDel => Sys2Proof.Machine.execRespDel s
  | .mepSet => Sys2Proof.Machine.execMepSet s
  | .mepGet => Sys2Proof.Machine.execMepGet s
  | .ipfixSet => Sys2Proof.Machine.execIpfixSet s
  | .sensorRead => Sys2Proof.Machine.execSensorRead s
  | .sensorThr => Sys2Proof.Machine.execSensorThr s
  | .logRead => Sys2Proof.Machine.execLogRead s
  | .idRead => Sys2Proof.Machine.execIdRead s
  | .tagRead => Sys2Proof.Machine.execTagRead s
  | .tagWrite => Sys2Proof.Machine.execTagWrite s
  | .keyEnrol => Sys2Proof.Machine.execKeyEnrol s
  | .keyRevoke => Sys2Proof.Machine.execKeyRevoke s
  | .keyList => Sys2Proof.Machine.execKeyList s
  | .evpnRead => Sys2Proof.Machine.execEvpnRead s
  | .supSend late => Sys2Proof.Machine.execSupSend late s
  | .opticsPoll g evs => Sys2Proof.Machine.execOpticsPoll g evs s
  | .bfdReceiveCheck l byAddr st poll fin mult my your tx rx echo => Sys2Proof.Machine.execBfdReceiveCheck l byAddr st poll fin mult my your tx rx echo s
  | .supervisorMessage l => Sys2Proof.Machine.execSupervisorMessage l s
  | .bfdDetectionTimeout sess => Sys2Proof.Machine.execBfdDetectionTimeout sess s
  | .bfdTransmit sess jitter => Sys2Proof.Machine.execBfdTransmit sess jitter s
  | .lacpPeriodicTransmit port queue frame => Sys2Proof.Machine.execLacpPeriodicTransmit port queue frame s
  | .responderRequest af vrf addr ctx queue reply ring frame => Sys2Proof.Machine.execResponderRequest af vrf addr ctx queue reply ring frame s
  | .sensorSample vs => Sys2Proof.Machine.execSensorSample vs s
  | .powerLoss => Sys2Proof.Machine.execPowerLoss s
  | .resetN => Sys2Proof.Machine.execResetN s
  | .moduleReset r => Sys2Proof.Machine.execModuleReset r s
  | .fwRestart r => Sys2Proof.Machine.execFwRestart r s
  | .bootStart hw => Sys2Proof.Machine.execBootStart hw s
  | .confirm => Sys2Proof.Machine.execConfirm s
  | .clrAttempts => Sys2Proof.Machine.execClrAttempts s
  | .kick => Sys2Proof.Machine.execKick s
  | .watchdogExpiry => Sys2Proof.Machine.execWatchdogExpiry s
  | .bootTimeout => Sys2Proof.Machine.execBootTimeout s
  | .updBegin flashOk => Sys2Proof.Machine.execUpdBegin flashOk s
  | .updData flashOk => Sys2Proof.Machine.execUpdData flashOk s
  | .updVerify => Sys2Proof.Machine.execUpdVerify s
  | .updActivate => Sys2Proof.Machine.execUpdActivate s
  | .updAbort => Sys2Proof.Machine.execUpdAbort s
  | .updConfirm => Sys2Proof.Machine.execUpdConfirm s
  | .updStatus => Sys2Proof.Machine.execUpdStatus s
  | .trialWarning => Sys2Proof.Machine.execTrialWarning s
  | .trialExpiry => Sys2Proof.Machine.execTrialExpiry s
  | .timeTick => Sys2Proof.Machine.execTimeTick s
  | .timeNsRead r => Sys2Proof.Machine.execTimeNsRead r s
  | .timeSet => Sys2Proof.Machine.execTimeSet s
  | .timeAdd => Sys2Proof.Machine.execTimeAdd s
  | .referencePpsEdge n => Sys2Proof.Machine.execReferencePpsEdge n s
  | .referenceOffsetSubmit n v => Sys2Proof.Machine.execReferenceOffsetSubmit n v s
  | .referenceEdgeMissing n => Sys2Proof.Machine.execReferenceEdgeMissing n s
  | .vote => Sys2Proof.Machine.execVote s
  | .triggerEnable t v => Sys2Proof.Machine.execTriggerEnable t v s
  | .triggerFire t => Sys2Proof.Machine.execTriggerFire t s
  | .tevtEdge n rising => Sys2Proof.Machine.execTevtEdge n rising s
  | .queueFirstWordRead r tx => Sys2Proof.Machine.execQueueFirstWordRead r tx s
  | .queueLastWordRead r tx => Sys2Proof.Machine.execQueueLastWordRead r tx s
  | .mateEnable v => Sys2Proof.Machine.execMateEnable v s
  | .sync => Sys2Proof.Machine.execSync s
  | .release => Sys2Proof.Machine.execRelease s
  | .forceTake => Sys2Proof.Machine.execForceTake s
  | .mateKick r => Sys2Proof.Machine.execMateKick r s
  | .kickTimeout => Sys2Proof.Machine.execKickTimeout s
  | .heartbeatSend => Sys2Proof.Machine.execHeartbeatSend s
  | .directHeartbeat f => Sys2Proof.Machine.execDirectHeartbeat f s
  | .mateDeclaredFailed => Sys2Proof.Machine.execMateDeclaredFailed s
  | .claim => Sys2Proof.Machine.execClaim s
  | .claimHoldEnd => Sys2Proof.Machine.execClaimHoldEnd s
  | .mateSeenLow => Sys2Proof.Machine.execMateSeenLow s
  | .claimBackoffEnd => Sys2Proof.Machine.execClaimBackoffEnd s
  | .releasingTimeout => Sys2Proof.Machine.execReleasingTimeout s
  | .wtrExpiry => Sys2Proof.Machine.execWtrExpiry s
  | .selfTestFrame frame => Sys2Proof.Machine.execSelfTestFrame frame s
  | .selfTestTimeout => Sys2Proof.Machine.execSelfTestTimeout s
  | .liveValueRead r w => Sys2Proof.Machine.execLiveValueRead r w s
  | .snapshotValueRead r w => Sys2Proof.Machine.execSnapshotValueRead r w s
  | .smpRec0Read r => Sys2Proof.Machine.execSmpRec0Read r s
  | .smpRec31Read r => Sys2Proof.Machine.execSmpRec31Read r s
  | .traceEnable l k v => Sys2Proof.Machine.execTraceEnable l k v s
  | .traceRead l k n => Sys2Proof.Machine.execTraceRead l k n s
  | .errorReport rs => Sys2Proof.Machine.execErrorReport rs s
  | .fatalHoldExpiry => Sys2Proof.Machine.execFatalHoldExpiry s
  | .errRec0Read r => Sys2Proof.Machine.execErrRec0Read r s
  | .errRec5Read r => Sys2Proof.Machine.execErrRec5Read r s
  | .onDieScrub f => Sys2Proof.Machine.execOnDieScrub f s
  | .injectionArm r v => Sys2Proof.Machine.execInjectionArm r v s
  | .marginLow mon margin pmbOk => Sys2Proof.Machine.execMarginLow mon margin pmbOk s
  | .marginCrit mon margin => Sys2Proof.Machine.execMarginCrit mon margin s
  | .crossingWireFlag dir link wire => Sys2Proof.Machine.execCrossingWireFlag dir link wire s
  | .railOutOfTolerance => Sys2Proof.Machine.execRailOutOfTolerance s
  | .referenceClockLoss c back => Sys2Proof.Machine.execReferenceClockLoss c back s
  | .thermalStop => Sys2Proof.Machine.execThermalStop s
  | .boundaryScanInstruction tm ir resetHigh => Sys2Proof.Machine.execBoundaryScanInstruction tm ir resetHigh s
  | .signalDetectGain lane => Sys2Proof.Machine.execSignalDetectGain lane s
  | .mateSeenHigh => Sys2Proof.Machine.execMateSeenHigh s
  | .crossingTrainingLoss => Sys2Proof.Machine.execCrossingTrainingLoss s
  | .pcieLinkUp speed width bme => Sys2Proof.Machine.execPcieLinkUp speed width bme s
  | .flashOperationEnd res => Sys2Proof.Machine.execFlashOperationEnd res s
  | .lacpduReceived port actor partner system key pnum => Sys2Proof.Machine.execLacpduReceived port actor partner system key pnum s
  | .cfmFrameReceived mep op v queue reply => Sys2Proof.Machine.execCfmFrameReceived mep op v queue reply s
  | .ccmTransmit mep queue frame => Sys2Proof.Machine.execCcmTransmit mep queue frame s
  | .ipfixExport c n frame => Sys2Proof.Machine.execIpfixExport c n frame s

end Sys2Proof.Machine
end

