-- ==== Sys2Proof/Machine/Step.lean ====
section
/-! DEFINITION. One step of the block: the command at the front of the queue, or a clock when no command waits. -/

namespace Sys2Proof.Machine

/-- The passing of one core clock with no command (R24): the last clock of a beat brings the boundary (R31). DESIGN CHOICE (log 2). -/
def State.idle (s : State) : State :=
  if s.bus.clk = 255 then ((s.clockEnd).beatBoundary [] []).clockStart else s.clockTick

/-- One step: the command at the front is taken from the queue and has its effect; with none waiting, one core clock passes. -/
def step (s : State) : Host.Outcome State Fault Refusal :=
  match s.pending with
  | [] => .next s.idle
  | c :: rest => exec c { s with pending := rest }

/-- The state with the command that a word spells put at the front of the queue; no word spells one. -/
def State.withFetchWord (s : State) (nbits w : Nat) : State :=
  match decodeTableWord nbits w with
  | some c => { s with pending := c :: s.pending }
  | none => s

end Sys2Proof.Machine
end

