-- ==== Sys2Proof/Safety.lean ====
section
/-! DEFINITION. What a safe step is, and the words in which claims are stated. -/

namespace Sys2Proof

open Machine

/-- A step is safe when it ends in a next state. -/
def StepSafe (s : State) : Prop := ∃ t, step s = .next t

/-- A command ends in a next state, and P holds of it. -/
def Does (c : Instr) (s : State) (P : State → Prop) : Prop := ∃ t, exec c s = .next t ∧ P t

/-- The registers in which interrupts are noted: PEND (R397) and the pending bits of the MSI-X capability. -/
abbrev irqReg (a : Nat) : Prop := a = 0x603508 ∨ a = 0x60350C ∨ a = 0x610800 ∨ a = 0x610804

/-- Every register but those at the offsets given, and those in which interrupts are noted, reads in t as in s. -/
def RegsSame (s t : State) (but : List Nat) : Prop := ∀ a, a ∉ but → ¬ irqReg a → t.reg a = s.reg a

/-- Everything but the registers, the completion returned and the host interface's messages is as it was. -/
def RestSame (s t : State) : Prop :=
  t.pmu = s.pmu ∧ t.err = s.err ∧ t.line = s.line ∧ t.eng = s.eng ∧ t.tim = s.tim ∧ t.tbl = s.tbl ∧ t.cls = s.cls ∧ t.lrn = s.lrn
  ∧ t.cross = s.cross ∧ t.sq = s.sq ∧ t.sch = s.sch ∧ t.fab = s.fab ∧ t.hbm = s.hbm ∧ t.mate = s.mate ∧ t.mss = s.mss ∧ t.boot = s.boot
  ∧ t.upd = s.upd ∧ t.elec = s.elec ∧ t.pending = s.pending ∧ t.bus.beat = s.bus.beat ∧ t.bus.clk = s.bus.clk ∧ t.bus.ticks = s.bus.ticks

/-- s with the registers of t: a frame names what else differs. -/
def withRegsOf (s t : State) : State := { s with bus := { s.bus with regs := t.bus.regs } }

/-- s with the registers of t and the completion that t returned. -/
def withBusOf (s t : State) : State := { s with bus := { s.bus with regs := t.bus.regs, cpl := t.bus.cpl } }

/-- s with the registers, the clock's events of RC counts and the error unit of t: what a report touches. -/
def withReportOf (s t : State) : State := { s with bus := { s.bus with regs := t.bus.regs, rcNow := t.bus.rcNow }, err := t.err }

/-- s with the registers and the resources used in the clock of t. -/
def withUseOf (s t : State) : State := { s with bus := { s.bus with regs := t.bus.regs, used := t.bus.used } }

/-- A register read was completed with a value. -/
def Answered (t : State) (r : Requester) (a v : Nat) : Prop :=
  t.bus.cpl = some { req := r, addr := a, data := BitVec.ofNat 32 v, status := .ok }

/-- The registers that tell of an error injection taken by a write. -/
def injectionRegs : List Nat := [0x400000, 0x400090]

/-- The registers that a report below class 3 touches (R518). -/
def reportRegs : List Nat :=
  [0x400000, 0x400008, 0x400010, 0x400014, 0x400018, 0x40001C, 0x400020, 0x400024, 0x400028, 0x40002C, 0x400030, 0x400034, 0x400038, 0x40003C]

/-- What every step keeps: the register file is canonical, the time counter is in range (R466), and the error record queue holds at most 1,024
records (R521). -/
abbrev StateInv (s : State) : Prop :=
  Tab.wf regReset s.bus.regs = true ∧ s.tim.sec < 2 ^ 48 ∧ s.tim.ns < 1000000000 ∧ s.tim.frac < 65536 ∧ s.err.queue.length ≤ 1024

/-! ## Threads -/

/-- The thread that a number names. -/
def thr (s : State) (t : Tid) : Thr := s.thread t.ave t.eng t.thr

/-- A thread from which its engine issues in this clock an operation under a guard (R119): READY and due, no thread that issued less recently
can issue, with no request outstanding, no register awaited, not in a STEP, the guard true, and a bundle after this one. -/
abbrev Issues (s : State) (t : Tid) (gd : BitVec 4) : Prop :=
  s.issues t.ave t.eng t.thr = true ∧ (thr s t).stepping = false ∧ (thr s t).reqs = [] ∧ (thr s t).gReady = [] ∧ (thr s t).wait = .none
  ∧ guardTrue gd (thr s t).p = true ∧ (thr s t).pc.toNat ≠ 32767

/-- The thread goes on to its next bundle in the next clock, READY, in its packet's slot and its code bank. -/
def GoesOn (s u : State) (t : Tid) : Prop :=
  (thr u t).pc = (thr s t).pc + 1 ∧ (thr u t).nextTick = s.bus.ticks + 1 ∧ (thr u t).st = .ready ∧ (thr u t).slot = (thr s t).slot
  ∧ (thr u t).cbank = (thr s t).cbank

/-- An issue leaves every register of the register bus but the trace units', the other threads, the packets, the tables and the other units. -/
def IssueFrame (s u : State) (t : Tid) : Prop :=
  (∀ a, a < 0x502000 ∨ 0x502800 ≤ a → u.reg a = s.reg a)
  ∧ (∀ p e n, thrKey p e n ≠ thrKey t.ave t.eng t.thr → u.thread p e n = s.thread p e n)
  ∧ u.line = s.line ∧ u.tbl = s.tbl ∧ u.cls = s.cls ∧ u.lrn = s.lrn ∧ u.sq = s.sq ∧ u.hbm = s.hbm ∧ u.err = s.err ∧ u.mss = s.mss
  ∧ u.bus.beat = s.bus.beat ∧ u.bus.ticks = s.bus.ticks ∧ u.pending = s.pending

/-- Engine memories, shared registers, channels and slots are as they were. -/
def EngineMemSame (s u : State) : Prop :=
  u.eng.lm = s.eng.lm ∧ u.eng.sreg = s.eng.sreg ∧ u.eng.chan = s.eng.chan ∧ u.eng.slots = s.eng.slots ∧ u.eng.code = s.eng.code

/-- An operation whose one result goes to a g register: the register holds it, the other g registers and the predicates are as they were,
and so is everything outside the thread. -/
def RegResult (s u : State) (t : Tid) (rd : BitVec 5) (v : Dword) : Prop :=
  (thr u t).reg rd = v ∧ (∀ r, r ≠ rd → (thr u t).reg r = (thr s t).reg r) ∧ (thr u t).p = (thr s t).p
  ∧ GoesOn s u t ∧ EngineMemSame s u ∧ IssueFrame s u t

/-- An operation whose one result goes to a predicate. -/
def PredResult (s u : State) (t : Tid) (pd : BitVec 3) (b : Bool) : Prop :=
  (∀ i, i < 8 → (thr u t).p.getLsbD i = if i = pd.toNat then b else (thr s t).p.getLsbD i) ∧ (thr u t).g = (thr s t).g
  ∧ GoesOn s u t ∧ EngineMemSame s u ∧ IssueFrame s u t

/-- An operation that writes no register of the thread. -/
def NoRegResult (s u : State) (t : Tid) : Prop :=
  (thr u t).g = (thr s t).g ∧ (thr u t).p = (thr s t).p ∧ GoesOn s u t ∧ IssueFrame s u t

/-- No turn of a thread's request waits for a place in a queue of a bank or table (R188, R191, R229). -/
def NoTurnWaits (s : State) : Bool := s.eng.thr.all fun e => e.2.reqs.all fun q => q.turns.all fun r => r.inAt.isSome || r.got.isSome

/-- Engine memories are as they were, and every slot but for the note that its pass has made its learn probe (R251). -/
def EngineMemSameButProbe (s u : State) : Prop :=
  u.eng.lm = s.eng.lm ∧ u.eng.sreg = s.eng.sreg ∧ u.eng.chan = s.eng.chan ∧ u.eng.code = s.eng.code
  ∧ ∀ p k, (u.slot p k).map (fun x => { x with probed := false }) = (s.slot p k).map (fun x => { x with probed := false })

/-- Request k of a thread is answered with words: it is outstanding no more, its destination registers hold the words, and a thread that waited
for them is READY, able to issue in the next clock (R163). -/
def Responded (s t : State) (d : Tid) (k : Nat) (words : List Dword) : Prop :=
  ∃ q, (thr s d).reqs[k]? = some q
    ∧ thr t d = (let y := ({ thr s d with reqs := dropAt (thr s d).reqs k } : Thr).wrList s.bus.ticks q.rd words
        if (thr s d).st = .ready then y else y.ready s.bus.ticks)

/-- A wait for registers of outstanding requests. -/
def waitsForRegs : Wait → Bool
  | .reg _ => true
  | _ => false

/-- A thread in its window that a response finds READY, or waiting for the registers of its only request or for all requests. -/
abbrev Awaits (s : State) (d : Tid) : Prop :=
  s.inWindow d.ave d.eng (thr s d) = true
  ∧ ((thr s d).st = .ready
    ∨ ((thr s d).st = .blockedExt ∧ (thr s d).reqs.length = 1 ∧ ((thr s d).wait = .all ∨ waitsForRegs (thr s d).wait = true)))

/-- A response leaves every register of the register bus but the trace units', the other threads and the units that serve no requests. -/
def ResponseFrame (s u : State) (t : Tid) : Prop :=
  (∀ a, a < 0x502000 ∨ 0x502800 ≤ a → u.reg a = s.reg a)
  ∧ (∀ p e n, thrKey p e n ≠ thrKey t.ave t.eng t.thr → u.thread p e n = s.thread p e n)
  ∧ EngineMemSameButSlots s u ∧ u.line = s.line ∧ u.lrn = s.lrn ∧ u.sq = s.sq ∧ u.sch = s.sch ∧ u.hbm = s.hbm ∧ u.err = s.err ∧ u.mss = s.mss
  ∧ u.hif = s.hif ∧ u.bus.beat = s.bus.beat ∧ u.bus.ticks = s.bus.ticks ∧ u.pending = s.pending
where
  EngineMemSameButSlots (s u : State) : Prop :=
    u.eng.lm = s.eng.lm ∧ u.eng.sreg = s.eng.sreg ∧ u.eng.chan = s.eng.chan ∧ u.eng.code = s.eng.code

/-- r, a turn of the request q, is the oldest that waits at a bank among the threads named, and the queue there has room for it (R188, R191,
R229). -/
def NextToEnter (s : State) (who : Nat → Bool) (bank : Nat) (r : TurnRef) (q : Req) : Prop :=
  (s.queued who bank).length < 4 ∧ (Tab.get {} s.eng.thr r.key).reqs[r.req]? = some q
  ∧ ∃ pre post, (s.turnsOf who bank).filter (·.turn.inAt.isNone) = pre ++ r :: post
    ∧ (∀ x ∈ pre, r.turn.since < x.turn.since) ∧ ∀ x ∈ post, r.turn.since ≤ x.turn.since

/-- The turn r of the request q has entered its queue in this clock, and nothing else is changed. -/
def TurnEnters (s t : State) (r : TurnRef) (q : Req) : Prop :=
  Tab.get {} t.eng.thr r.key = { Tab.get {} s.eng.thr r.key with
      reqs := setAt (Tab.get {} s.eng.thr r.key).reqs r.req { q with turns := setAt q.turns r.ix { r.turn with inAt := some s.bus.ticks } } }
  ∧ (∀ j, j ≠ r.key → Tab.get {} t.eng.thr j = Tab.get {} s.eng.thr j) ∧ t = { s with eng := { s.eng with thr := t.eng.thr } }

/-! ## Tables -/

/-- The requester owns a command window: the host window 0, the MSS window 1. -/
abbrev OwnsWindow (r : Requester) (w : Fin 2) : Prop := (r == .host) = (w == 0)

/-- The bank of an overlay entry, 64 for the lookup extension. -/
def ovlBank (o : Ovl) : Nat := if sramWords ≤ o.word then 64 else o.word / 32768

/-- A hash command as a window's write gives it (R203, R204). -/
def hashCmd (s : State) (w : Fin 2) (op : Nat) (table : Byte) (static : Bool) : HashCmd :=
  { win := w, op := op, table := table.toNat, key := s.winWords w 0 4, res := s.winWords w 8 2, static := static, tick := s.bus.ticks }

/-- A hash command joins those that wait, behind every one of an earlier clock, and nothing else is changed. -/
def HashWaits (s t : State) (c : HashCmd) : Prop :=
  t = { s with tbl := { s.tbl with hashQ := hashInsert s.beatN c s.tbl.hashQ } }
  ∧ ((∀ x ∈ s.tbl.hashQ, x.tick < c.tick) → t.tbl.hashQ = s.tbl.hashQ ++ [c])

/-- The registers that a TCAM command or row operation may change outside its window: the status and error registers of the TCAM, and
those of a report. -/
def tcamRegs : List Nat := 0x8000004 :: 0x8000008 :: 0x400090 :: reportRegs

/-- No register changes but those of the TCAM windows and of its errors, nor any unit but the TCAM and the error unit. -/
def TcamFrame (s t : State) : Prop :=
  (∀ a, a < 0x8020000 ∨ 0x8022000 ≤ a → a ∉ tcamRegs → t.reg a = s.reg a) ∧ t.tbl = s.tbl ∧ t.eng = s.eng ∧ t.line = s.line ∧ t.lrn = s.lrn
  ∧ t.sq = s.sq ∧ t.sch = s.sch ∧ t.fab = s.fab ∧ t.hbm = s.hbm ∧ t.mss = s.mss ∧ t.boot = s.boot ∧ t.pmu = s.pmu ∧ t.pending = s.pending

/-- A TCAM command is accepted (R231): the window is BUSY and the command, with the window's index, joins the list of every slice; no row
changes yet. -/
def TcamAccepts (s t : State) (w : Fin 2) (op : Nat) (n : Fin 8) (bad : Bool) : Prop :=
  let a := tcmWin w
  let act := BitVec.ofNat 40 (s.reg (a + 0xC) + s.reg (a + 0x10) * 2 ^ 32)
  let c : TcamCmd := { win := w, op, table := n, idx := s.fld (a + 4) 15 0, val := s.winKey (a + 0x40), msk := s.winKey (a + 0x90), act, bad }
  t.flag a 31 = true ∧ t.cls.cmds = s.cls.cmds ++ [c]
  ∧ t.cls = { s.cls with cmds := t.cls.cmds, prog := t.cls.prog } ∧ TcamFrame s t

/-- The editor's current script after one command (R178): where the command may stand and its range lies in the frame at or past the editor's
position, the bytes before the range and the command's own go out and the position moves past the range; else the script is bad and
ends. The frame, every queue and the rest of the state are as they were. -/
def Edited (s t : State) (j : EditJob) (frame pc : List Byte) (copy : Bool) (x : EditCmd) (rest : List Byte) : Prop :=
  t = { s with sq := { s.sq with edit := some (match editRange frame pc copy x with
    | none => { j with bad := true, fin := true }
    | some (a, b, new) =>
      if a < j.pos ∨ frame.length < b then { j with bad := true, fin := true }
      else { j with rest := rest, out := j.out ++ (frame.take a).drop j.pos ++ new, pos := b }) } }

/-- A handle whose REF has come to 0, or that was quarantined, as it returns (R286, R287). -/
def freedHandle (h : Handle) : Handle :=
  { h with ref := 0, st := .free, script := [], frame := [], deep := false, retry := 0, tag := none, drop := (0, 0) }

/-! ## Stacked DRAM -/

/-- A channel's training helper has started an operation, 1 write then compare, 2 compare, 3 write, on a pseudo-channel with a pattern; its
results are cleared (R374). -/
def HelperRuns (s t : State) (c : Fin 128) (pc : Fin 2) (pat : BitVec 4) (op : Nat) : Prop :=
  t.flag (hbmCh c 0x20) 31 = true ∧ t.flag (hbmCh c 0x20) 8 = (pc == 1) ∧ t.fld (hbmCh c 0x20) 7 4 = pat.toNat ∧ (t.dramChan c).helper = op
  ∧ t.reg (hbmCh c 0x30) = 0 ∧ t.reg (hbmCh c 0x34) = 0 ∧ t.reg (hbmCh c 0x38) = 0
  ∧ RegsSame s t [hbmCh c 0x20, hbmCh c 0x30, hbmCh c 0x34, hbmCh c 0x38] ∧ t = { withRegsOf s t with hbm := { s.hbm with chans := t.hbm.chans } }

/-! ## Mate and host -/

/-- The registers of the mated pair, and the fabric's status that tells of a full control queue. -/
def mateRegs : List Nat := [0x300000, 0x30000C, 0x300010, 0x300018, 0x30001C, 0x300020, 0xE000008]

/-- A step of the mate unit: its registers, its state, the fabric's control queues and the counters change, and nothing else. -/
def MateStep (s t : State) : Prop := RegsSame s t mateRegs ∧ t = { withRegsOf s t with mate := t.mate, fab := t.fab, pmu := t.pmu }

/-- A host-side reset (R380): every ring empty and its registers at reset, the source map, the vectors, the MSI-X table and the mailboxes at
reset, no interrupt, no command taken; firmware is told of event n. -/
def HostSideReset (s t : State) (n : Nat) : Prop :=
  (∀ (inj : Bool) (r : Fin 64), t.ring inj r = {} ∧ ∀ k : Fin 9, t.reg (ringReg inj r (4 * k)) = if k.val = 6 then 1 else 0)
  ∧ (∀ a, 0x603000 ≤ a ∧ a < 0x603600 ∨ 0x610000 ≤ a ∧ a < 0x610900 ∨ 0x700000 ≤ a ∧ a < 0x700400 → t.reg a = (regReset a).toNat)
  ∧ t.hif.intN = false ∧ t.mss.taken = [] ∧ t.mss.told = s.mss.told ++ [n]
  ∧ (∀ a, a < 0x600000 → a ≠ 0x500000 → t.reg a = s.reg a) ∧ (∀ a, 0x710000 ≤ a → t.reg a = s.reg a)
  ∧ t.line = s.line ∧ t.eng = s.eng ∧ t.tbl = s.tbl ∧ t.sq = s.sq ∧ t.hbm = s.hbm ∧ t.err = s.err ∧ t.boot = s.boot ∧ t.pending = s.pending

/-! ## Mailbox commands, updates and starts -/

/-- Command j is the next one of an opcode to be executed (R410); it holds a payload and has room for n answer bytes (R411). -/
abbrev NextIs (op : Nat) (s : State) (p : List Byte) (n j : Nat) (cmd : MssCmd) : Prop :=
  s.nextCmd op = some (j, cmd) ∧ cmd.payload = p ∧ n ≤ cmd.cap

/-- Command j is executed: its STATUS and answer bytes are kept until it is answered, and the other commands taken are as they were. -/
def Kept (s t : State) (j : Nat) (cmd : MssCmd) (st : Nat) (bs : List Byte) : Prop :=
  t.mss.taken = setAt s.mss.taken j { cmd with ans := some (st, bs) }

/-- But for the commands taken, t is u. -/
def ButForAnswer (u t : State) : Prop := t = { u with mss := { u.mss with taken := t.mss.taken } }

/-- A service's frame as requester 17 hands it to the crossing (R406). -/
def serviceRec (queue : Nat) (frame : List Byte) : XRec :=
  { kind := 2, queue := queue, dest := 0, colour := 0, req := 17, script := [], frame := frame, pkt := 0, tag := none, inj := none }

/-- A service sends a frame and leaves its own state as m; the counters change, and nothing else. -/
def ServiceSends (s t : State) (queue : Nat) (frame : List Byte) (m : MssState) : Prop :=
  t = { s with cross := { s.cross with offer := s.cross.offer ++ [serviceRec queue frame] }, mss := m, pmu := t.pmu }

/-- The registers and records that an event of the log changes (R420, R422). -/
def logRegs : List Nat := [0x900000, 0x900008]

/-- m with the event logs of t. -/
def withLogs (m : MssState) (t : State) : MssState := { m with ring := t.mss.ring, retained := t.mss.retained }

/-- An update command's answer: its RESULT and further words, with STATUS OK for RESULT 0 and DENIED for another (R455). -/
def UpdAnswer (st : Nat) (bs : List Byte) (res : Nat) (ws : List Nat) : Prop :=
  st = (if res = 0 then 0 else 8) ∧ bs = (res :: ws).flatMap fun w => leBytes w 8

/-- An update command's frame: registers of the update unit, the session and the interrupts noted; flash and boot state as well. -/
def UpdFrame (s t : State) : Prop :=
  RegsSame s t [0x801000, 0x801004, 0x801020, 0x801024]
  ∧ t = { withRegsOf s t with upd := t.upd, boot := t.boot, mss := { s.mss with taken := t.mss.taken }, hif := t.hif, fresh := t.fresh }

/-- The module in reset with the cause of the start to come: every unit is at reset; flash, EEPROM, clocks out of limits, rail rises, wires
logged, TAPs, the PERST_N pin and the commands that wait are kept. -/
def InReset (s t : State) (cause : Nat) : Prop :=
  t.boot.inReset = true ∧ t.boot.cause = cause ∧ t.boot.held = none ∧ t.boot.flashBusy = false
  ∧ t.boot.bcrA = s.boot.bcrA ∧ t.boot.bcrB = s.boot.bcrB
  ∧ t.mss = { State.reset.mss with retained := t.mss.retained, eeprom := s.mss.eeprom, sensor := t.mss.sensor }
  ∧ t.err = { State.reset.err with stepAt := s.err.stepAt, raised := s.err.raised, wires := s.err.wires }
  ∧ t.elec = { State.reset.elec with tapFe := s.elec.tapFe, tapTm := s.elec.tapTm, clkBad := s.elec.clkBad }
  ∧ t.hif = { State.reset.hif with perst := s.hif.perst } ∧ t.pending = s.pending
  ∧ t = { State.reset with bus := { State.reset.bus with regs := t.bus.regs }, boot := t.boot, mss := t.mss, err := t.err, elec := t.elec, hif := t.hif, fresh := t.fresh, pending := t.pending }

/-- Every register is at reset but BOOT_STAT, of which ATTEMPTS, TRIAL and CONFIRMED are kept, and BOOT_REASON. -/
def BootRegsKept (t : State) : Prop := ∀ a, a ≠ 0x800000 → a ≠ 0x800004 → t.reg a = State.reset.reg a

/-- The units of the data plane, time and management tables are as they were. -/
def DataPlaneSame (s t : State) : Prop :=
  t.line = s.line ∧ t.eng = s.eng ∧ t.tim = s.tim ∧ t.tbl = s.tbl ∧ t.cls = s.cls ∧ t.lrn = s.lrn ∧ t.cross = s.cross ∧ t.sq = s.sq
  ∧ t.sch = s.sch ∧ t.fab = s.fab ∧ t.hbm = s.hbm ∧ t.mate = s.mate ∧ t.pmu = s.pmu ∧ t.elec = s.elec ∧ t.pending = s.pending

end Sys2Proof
end

