-- ==== Sys2Proof/WellFormed.lean ====
section
/-! DEFINITION. Well-formed commands: the ranges that the spec gives an operand where its type does not already hold them. No agent of the
part can present a command that is not well formed. -/

namespace Sys2Proof

/-- A naturally aligned 32-bit offset (R4). -/
def aligned (a : BitVec 28) : Bool := decide (a.toNat % 4 = 0)

/-- Whether a command is one that the block can be given. -/
def Instr.wf : Instr → Bool
  | .registerWrite _ a _ => aligned a
  | .unsupportedRequestAccess _ a n _ => decide (1 ≤ n) && !(decide (n = 4) && aligned a)
  | .unmappedAccess _ a _ => aligned a
  | .latchingLowHalfRead _ a => aligned a
  | .highHalfWrite _ a _ => aligned a
  | .readClearRead _ a => aligned a
  | .beatBoundary overs bad => decide overs.Nodup && decide (bad.map (·.1)).Nodup
  | .crossingDelivery _ bad _ => decide bad.Nodup && bad.all (· < 10656)
  | .epochLoad => true
  | .realign => true
  | .realignLoad => true
  | .arm .. => true
  | .cancel .. => true
  | .start .. => true
  | .stop .. => true
  | .invalidCmd .. => true
  | .startSequenceComplete .. => true
  | .drainComplete .. => true
  | .startTimeout .. => true
  | .drainTimeout .. => true
  | .deadline .. => true
  | .signalDetectLoss .. => true
  | .signalDetectReturn .. => true
  | .markerSearchFind .. => true
  | .markerPeriod .. => true
  | .fecUncorrectable _ ctxs => decide ctxs.Nodup
  | .serWindowEnd _ corr => decide (corr ≤ 122880)
  | .localFaultReceived .. => true
  | .remoteFaultReceived .. => true
  | .faultSequencesAbsent .. => true
  | .rdegReceived .. => true
  | .frameHeaderToKerb _ head => decide (head ≠ []) && decide (head.length ≤ 256)
  | .frameDataArrival .. => true
  | .frameEnd .. => true
  | .gatherFrameComplete .. => true
  | .avenueAdmission .. => true
  | .egressFrameTransmit => true
  | .crReceived .. => true
  | .caReceived .. => true
  | .cBitFlipReceived .. => true
  | .caTimeout .. => true
  | .flexeOverheadFrame .. => true
  | .otnCalendarSwitch .. => true
  | .otnMultiframeReceived .. => true
  | .otnSecond .. => true
  | .headerVectorComplete .. => true
  | .recirculationQueueTransfer .. => true
  | .pgCheck .. => true
  | .pgCheckComplete => true
  | .dispatch .. => true
  | .bundleIssue .. => true
  | .nop .. => true
  | .add .. => true
  | .sub .. => true
  | .and .. => true
  | .or .. => true
  | .xor .. => true
  | .andn .. => true
  | .shl .. => true
  | .shr .. => true
  | .sar .. => true
  | .rol .. => true
  | .min .. => true
  | .max .. => true
  | .minu .. => true
  | .maxu .. => true
  | .mul .. => true
  | .mulhu .. => true
  | .clz .. => true
  | .popc .. => true
  | .bswap .. => true
  | .csadd .. => true
  | .crc32 .. => true
  | .addi .. => true
  | .andi .. => true
  | .ori .. => true
  | .xori .. => true
  | .shli .. => true
  | .shri .. => true
  | .sari .. => true
  | .ext .. => true
  | .ins .. => true
  | .movi .. => true
  | .limm .. => true
  | .limmh .. => true
  | .cmp .. => true
  | .cmpeqi .. => true
  | .cmpnei .. => true
  | .cmplti .. => true
  | .cmpgei .. => true
  | .cmpltui .. => true
  | .cmpgeui .. => true
  | .tsti .. => true
  | .plog .. => true
  | .movp .. => true
  | .pmov .. => true
  | .rds .. => true
  | .wrs .. => true
  | .fadds .. => true
  | .hld .. => true
  | .hst .. => true
  | .lld .. => true
  | .lst .. => true
  | .eput .. => true
  | .eset .. => true
  | .eclr .. => true
  | .lkp .. => true
  | .tcs .. => true
  | .pol .. => true
  | .stat .. => true
  | .waitr .. => true
  | .send .. => true
  | .recv .. => true
  | .recvt .. => true
  | .abort .. => true
  | .brk .. => true
  | .br .. => true
  | .call .. => true
  | .loop .. => true
  | .jmp .. => true
  | .fwd .. => true
  | .repl .. => true
  | .punt .. => true
  | .recirc .. => true
  | .drop .. => true
  | .lookupResponse .. => true
  | .tcamSearchResponse .. => true
  | .policerResponse .. => true
  | .channelCommit .. => true
  | .allThreadsBlocked .. => true
  | .iso .. => true
  | .halt .. => true
  | .resume .. => true
  | .step .. => true
  | .codeData3Write .. => true
  | .codeData0Read .. => true
  | .psCheck .. => true
  | .psCheckComplete .. => true
  | .engineRemap .. => true
  | .bistFail .. => true
  | .editEnd => true
  | .editDel .. => true
  | .editIns _ data => decide (1 ≤ data.length) && decide (data.length ≤ 60)
  | .editOvr _ data => decide (1 ≤ data.length) && decide (data.length ≤ 60)
  | .dec4 .. => true
  | .dec6 .. => true
  | .decm .. => true
  | .pcopy .. => true
  | .bankQueueEntry .. => true
  | .policerQueueEntry .. => true
  | .insert .. => true
  | .replace .. => true
  | .delete .. => true
  | .find .. => true
  | .windowRead .. => true
  | .windowWrite .. => true
  | .commit .. => true
  | .discard .. => true
  | .overlayDrain .. => true
  | .routeDelta => true
  | .shadowCompare .. => true
  | .tcamQueueEntry .. => true
  | .tcamRowOperation .. => true
  | .tcamWrite .. => true
  | .tcamInsert .. => true
  | .tcamDelete .. => true
  | .tcamRead .. => true
  | .tcamClear .. => true
  | .tcamCommandComplete .. => true
  | .policerRefresh .. => true
  | .policerWindowRead .. => true
  | .policerWindowWrite .. => true
  | .patternScan .. => true
  | .patWinWrite .. => true
  | .patCheck .. => true
  | .patCheckComplete => true
  | .patOldProtEnd => true
  | .patRec0Read .. => true
  | .patRec3Read .. => true
  | .learnExecute .. => true
  | .freezeExpiry .. => true
  | .unfreeze .. => true
  | .epochAdvance => true
  | .lrnRec0Read .. => true
  | .lrnRec7Read .. => true
  | .recordLanding => true
  | .queueRead .. => true
  | .queueWrite .. => true
  | .flush .. => true
  | .move => true
  | .replicationEngine => true
  | .free .. => true
  | .quarantineRelease .. => true
  | .egressEdit .. => true
  | .schedulerDecision .. => true
  | .sampleRead .. => true
  | .nodeRead .. => true
  | .nodeWrite .. => true
  | .fabricFrameReceived .. => true
  | .cellReceived _ _ payload => decide (payload.length = 256)
  | .request .. => true
  | .grant .. => true
  | .heartbeat .. => true
  | .status .. => true
  | .emptyMessage .. => true
  | .requestRepeat .. => true
  | .statusRefresh => true
  | .statusTimeout .. => true
  | .laneEnable .. => true
  | .laneFail .. => true
  | .laneDrainEnd .. => true
  | .laneReturn .. => true
  | .dramRequest _ _ _ len data => decide (1 ≤ len.toNat) && (data.all fun bs => decide (bs.length = len.toNat))
  | .dramQueueEntry .. => true
  | .burstService .. => true
  | .openRowTimeout .. => true
  | .bankRefresh .. => true
  | .selfRefreshEntry .. => true
  | .selfRefreshEntryCommand .. => true
  | .selfRefreshExitComplete .. => true
  | .stackTemperatureSample .. => true
  | .dramScrubRead .. => true
  | .remapDataWrite .. => true
  | .remapCopyComplete _ _ err => decide (err.length ≤ 16)
  | .writeThenCompare .. => true
  | .compareOnly .. => true
  | .writeOnly .. => true
  | .trainingHelperComplete .. => true
  | .perstNAssert => true
  | .perstNRelease => true
  | .hotReset .. => true
  | .functionLevelReset => true
  | .d3hotEntry => true
  | .d0Return => true
  | .busMasterEnableClear => true
  | .hostReadTimeout .. => true
  | .ringEnable .. => true
  | .ringDisable .. => true
  | .puntWrite => true
  | .descriptorFetch .. => true
  | .injectRead .. => true
  | .moderationTimer .. => true
  | .vectorEoi .. => true
  | .msixUnmask .. => true
  | .mailboxPost .. => true
  | .pop .. => true
  | .withdraw .. => true
  | .commandTake .. => true
  | .answerPost .. => true
  | .getInfo => true
  | .echo => true
  | .routeStat => true
  | .cmisRead .. => true
  | .cmisWrite .. => true
  | .opticsCfg => true
  | .bfdSet => true
  | .bfdDel => true
  | .bfdGet => true
  | .lacpSet => true
  | .lacpGet => true
  | .respSet => true
  | .respDel => true
  | .mepSet => true
  | .mepGet => true
  | .ipfixSet => true
  | .sensorRead => true
  | .sensorThr => true
  | .logRead => true
  | .idRead => true
  | .tagRead => true
  | .tagWrite => true
  | .keyEnrol => true
  | .keyRevoke => true
  | .keyList => true
  | .evpnRead => true
  | .supSend .. => true
  | .opticsPoll .. => true
  | .bfdReceiveCheck .. => true
  | .supervisorMessage .. => true
  | .bfdDetectionTimeout .. => true
  | .bfdTransmit .. => true
  | .lacpPeriodicTransmit .. => true
  | .responderRequest .. => true
  | .sensorSample vs => decide (vs.length = 134)
  | .powerLoss => true
  | .resetN => true
  | .moduleReset .. => true
  | .fwRestart .. => true
  | .bootStart .. => true
  | .confirm => true
  | .clrAttempts => true
  | .kick => true
  | .watchdogExpiry => true
  | .bootTimeout => true
  | .updBegin .. => true
  | .updData .. => true
  | .updVerify => true
  | .updActivate => true
  | .updAbort => true
  | .updConfirm => true
  | .updStatus => true
  | .trialWarning => true
  | .trialExpiry => true
  | .timeTick => true
  | .timeNsRead .. => true
  | .timeSet => true
  | .timeAdd => true
  | .referencePpsEdge .. => true
  | .referenceOffsetSubmit .. => true
  | .referenceEdgeMissing .. => true
  | .vote => true
  | .triggerEnable .. => true
  | .triggerFire .. => true
  | .tevtEdge .. => true
  | .queueFirstWordRead .. => true
  | .queueLastWordRead .. => true
  | .mateEnable .. => true
  | .sync => true
  | .release => true
  | .forceTake => true
  | .mateKick .. => true
  | .kickTimeout => true
  | .heartbeatSend => true
  | .directHeartbeat .. => true
  | .mateDeclaredFailed => true
  | .claim => true
  | .claimHoldEnd => true
  | .mateSeenLow => true
  | .claimBackoffEnd => true
  | .releasingTimeout => true
  | .wtrExpiry => true
  | .selfTestFrame .. => true
  | .selfTestTimeout => true
  | .liveValueRead .. => true
  | .snapshotValueRead .. => true
  | .smpRec0Read .. => true
  | .smpRec31Read .. => true
  | .traceEnable .. => true
  | .traceRead .. => true
  | .errorReport .. => true
  | .fatalHoldExpiry => true
  | .errRec0Read .. => true
  | .errRec5Read .. => true
  | .onDieScrub .. => true
  | .injectionArm .. => true
  | .marginLow .. => true
  | .marginCrit .. => true
  | .crossingWireFlag .. => true
  | .railOutOfTolerance => true
  | .referenceClockLoss .. => true
  | .thermalStop => true
  | .boundaryScanInstruction .. => true
  | .signalDetectGain .. => true
  | .mateSeenHigh => true
  | .crossingTrainingLoss => true
  | .pcieLinkUp .. => true
  | .flashOperationEnd .. => true
  | .lacpduReceived .. => true
  | .cfmFrameReceived .. => true
  | .ccmTransmit .. => true
  | .ipfixExport .. => true

end Sys2Proof
end

