-- ==== Sys2Proof/Certificates/Slice0/Obligations.lean ====
section
/-! DEFINITION. The statements about the model that are put to the provers. -/

open Sys2Proof Sys2Proof.Machine

/-- For every command c, every queue rest behind it and every state s, the step of s with c at the front of its queue is exec of c on s with the queue's
rest. (The queue is the model's own way of giving the block its commands in order.) -/
def Obligations.StepTakesFrontCommand : Prop :=
  ∀ (c : Instr) (rest : List Instr) (s : State),
    step { s with pending := c :: rest } = exec c { s with pending := rest }

/-- On an empty queue, inside a beat, a step answers a next state in which one core clock has passed: the count of clocks and the clock of the beat are
one higher, and the beat is the same. (That an idle step is one clock is the model's choice, log entry 2.) -/
def Obligations.IdleStepPassesOneClock : Prop :=
  ∀ s : State, s.pending = [] → s.bus.clk ≠ 255 →
    ∃ t, step s = .next t ∧ t.bus.ticks = s.bus.ticks + 1 ∧ t.bus.clk = s.bus.clk + 1 ∧ t.bus.beat = s.bus.beat ∧ t.pending = []

/-- After reset every register of the register map reads the reset value that its table gives it, the beat number and the clock of the beat are 0, no
activation is armed, no stop-change-restart command is pending, and no command waits. (A register of which the spec gives no reset value reads 0: log
entry 1.) -/
def Obligations.ResetHoldsResetValues : Prop :=
  (∀ (a : Nat) (row : RegRow) (ix : List Nat), regLookup a = some (row, ix) →
      State.reset.reg a = (row.reset + row.inc * ix.getLastD 0) % 2 ^ 32)
    ∧ State.reset.reg 0x0 = 0x56960001 ∧ State.reset.bus.beat = 0 ∧ State.reset.bus.clk = 0
    ∧ (∀ k, State.reset.slotArmed k = none ∧ State.reset.slotPending k = false)
    ∧ (∀ k, (State.reset.scrSt k).cmd = 0) ∧ State.reset.pending = []

/-- A naturally aligned REGISTER_WRITE of any register that is defined for the requester, outside the windows of the other, completes with status ok.
Where the requester sees the registers, a REGISTER_WRITE of BEAT_ALIGN_LIM writes its read-write field and keeps its reserved bits; of the read-only
BEAT_TAI_DIFF it changes no register; of BEAT_STAT it clears exactly the write-1-to-clear bits written with 1; of BEAT_DL_CFG, whose fields take
effect at a boundary, it changes no register and queues the change. The rest of the state stays as it was. -/
def Obligations.RegisterWriteByAccessType : Prop :=
  (∀ (r : Requester) (a : BitVec 28) (v : Word) (s : State) (row : RegRow) (ix : List Nat), a.toNat % 4 = 0 → a.toNat ≠ 0x800008 →
      regLookup (canonAddr a.toNat) = some (row, ix) → s.hidden r a.toNat = false → (row.fw && r == .host) = false →
      winForeign r (canonAddr a.toNat) = none →
    Does (.registerWrite r a v) s (fun t => t.bus.cpl = some { req := r, addr := a.toNat, data := 0, status := .ok }))
  ∧ ∀ (r : Requester) (v : Word) (s : State), s.hidden r 0x100020 = false →
    Does (.registerWrite r 0x100020 v) s (fun t => t.fld 0x100020 15 0 = v.toNat % 2 ^ 16 ∧ t.fld 0x100020 31 16 = s.fld 0x100020 31 16
      ∧ RegsSame s t [0x100020] ∧ RestSame s t ∧ t.bus.cpl = some { req := r, addr := 0x100020, data := 0, status := .ok })
    ∧ Does (.registerWrite r 0x100018 v) s (fun t => RegsSame s t [] ∧ RestSame s t)
    ∧ Does (.registerWrite r 0x100014 v) s (fun t =>
        (∀ i, i < 32 → t.flag 0x100014 i = (s.flag 0x100014 i && !(v.getLsbD i && bitOf 0x74 i))) ∧ RegsSame s t [0x100014] ∧ RestSame s t)
    ∧ Does (.registerWrite r 0x100030 v) s (fun t => t.bus.pendRegs = s.bus.pendRegs ++ [(0x100030, 0x3FFFFF, v.toNat)]
        ∧ RegsSame s t [] ∧ RestSame s t)

/-- An access that is not a naturally aligned 32-bit access completes with Unsupported Request and is counted (the count's events of a clock are added as
it ends, R8) and reported, and no register outside the error unit changes; a naturally aligned access at which no register is defined for the
requester completes normally with 0, counts one unmapped access, and changes nothing else. -/
def Obligations.RefusedAndUnmappedAccesses : Prop :=
  (∀ (r : Requester) (a : BitVec 28) (n : Nat) (wr : Bool) (s : State), ¬ (n = 4 ∧ a.toNat % 4 = 0) →
    Does (.unsupportedRequestAccess r a n wr) s (fun t =>
      t.bus.cpl = some { req := r, addr := a.toNat, data := 0, status := .unsupportedRequest }
      ∧ Tab.get 0 t.bus.rcNow 0x400044 = Tab.get 0 s.bus.rcNow 0x400044 + 1
      ∧ RegsSame s t [0x400000, 0x400008, 0x400020] ∧ t.line = s.line ∧ t.eng = s.eng ∧ t.tbl = s.tbl ∧ t.pending = s.pending))
  ∧ (∀ (r : Requester) (a : BitVec 28) (wr : Bool) (s : State), a.toNat % 4 = 0 → s.mapped r a.toNat = false →
    Does (.unmappedAccess r a wr) s (fun t =>
      t.bus.cpl = some { req := r, addr := a.toNat, data := 0, status := .ok }
      ∧ Tab.get 0 t.bus.rcNow 0x400040 = Tab.get 0 s.bus.rcNow 0x400040 + 1 ∧ RegsSame s t [] ∧ RestSame s t))

/-- A LATCHING_LOW_HALF_READ of the beat number returns its low half and latches its high half for that requester, whatever becomes of the beat number
before the requester reads it; a HIGH_HALF_WRITE of inject ring 0's base address, while the ring is off, makes the whole value take effect with its
low half as last written; a READ_CLEAR_READ of BEAT_LATE_CNT returns the count and clears it. -/
def Obligations.HalvesOf64BitValues : Prop :=
  (∀ (r : Requester) (s : State), s.hidden r 0x100000 = false →
    Does (.latchingLowHalfRead r 0x100000) s (fun t =>
      t.bus.cpl = some { req := r, addr := 0x100000, data := s.bus.beat.setWidth 32, status := .ok }
      ∧ (∀ u : State, u.bus.latch = t.bus.latch → u.readFor r 0x100004 = s.bus.beat.toNat / 2 ^ 32)
      ∧ RegsSame s t [] ∧ RestSame s t))
  ∧ (∀ (r : Requester) (v : Word) (s : State), s.flag (ringReg true 0 8) 31 = false →
    Does (.highHalfWrite r 0x602004 v) s (fun t =>
      t.reg 0x602004 = v.toNat ∧ t.fld 0x602000 31 6 = bits (Tab.get 0 s.bus.lowHalf 0x602000).toNat 31 6
      ∧ RegsSame s t [0x602000, 0x602004] ∧ RestSame s t))
  ∧ (∀ (r : Requester) (s : State), s.hidden r 0x100040 = false →
    Does (.readClearRead r 0x100040) s (fun t =>
      t.bus.cpl = some { req := r, addr := 0x100040, data := BitVec.ofNat 32 (s.regSeen 0x100040), status := .ok }
      ∧ t.reg 0x100040 = 0 ∧ RegsSame s t [0x100040] ∧ RestSame s t))

/-- For every slot: an ARM while no change is pending makes the slot hold a change for the TARGET as it stands, late exactly when TARGET is not ahead of
the beat number by R37's signed 32-bit difference, and sets PENDING; an ARM and CANCEL in one write, or a CANCEL alone, while a change is pending
leaves no change held and PENDING 0. No register but the slot's control register changes, and nothing else but the change held. -/
def Obligations.ArmedWhenNotPending : Prop :=
  ∀ (k : SlotId) (s : State),
    (s.slotPending k = false → Does (.arm k false) s (fun t =>
      t.slotArmed k = some { target := BitVec.ofNat 32 (s.reg (slotTgt k)),
                             late := decide (signed32 ((s.reg (slotTgt k) + 2 ^ 32 - s.bus.beat.toNat % 2 ^ 32) % 2 ^ 32) ≤ 0) }
      ∧ t.slotPending k = true ∧ RegsSame s t [slotTgt k + 4] ∧ RestSame s t))
    ∧ (s.slotPending k = true → Does (.cancel k) s (fun t =>
      t.slotArmed k = none ∧ t.slotPending k = false ∧ RegsSame s t [slotTgt k + 4] ∧ RestSame s t))
    ∧ (s.slotPending k = true → Does (.arm k true) s (fun t =>
      t.slotArmed k = none ∧ t.slotPending k = false ∧ t.flag (slotTgt k + 4) 7 = true ∧ RegsSame s t [slotTgt k + 4] ∧ RestSame s t))

/-- For every activation slot and state in which PENDING is 1, an ARM sets ARM_REJECTED, keeps the armed target and every other register, and leaves all
of the state but the registers as it was, the shadow contents among it. -/
def Obligations.ArmRejectedWhilePending : Prop :=
  ∀ (k : SlotId) (s : State), s.slotPending k = true → Does (.arm k false) s (fun t =>
    t.flag (slotTgt k + 4) 7 = true ∧ t.slotArmed k = s.slotArmed k ∧ t.slotPending k = true
    ∧ RegsSame s t [slotTgt k + 4] ∧ RestSame s t ∧ t.bus.armed = s.bus.armed ∧ t.bus.pendRegs = s.bus.pendRegs ∧ t.hif = s.hif)

/-- After the time subsystem has locked once and while EPOCH_SET is 0, EPOCH_LOAD loads the beat number that TAI gives by R25 and sets EPOCH_SET; REALIGN
notes a request and changes nothing else; REALIGN_LOAD with a request loads the TAI-derived beat number, and the request is gone. A change that a slot
holds is judged against the new beat number, and keeps its target. -/
def Obligations.BeatNumberFromTai : Prop :=
  (∀ s : State, s.flag 0x100014 1 = false → s.tim.everLocked = true → Does .epochLoad s (fun t =>
    t.bus.beat = BitVec.ofNat 64 (s.tim.sec * 5859375 + s.tim.ns * 3 / 512) ∧ t.flag 0x100014 1 = true
    ∧ RegsSame s t (0x100014 :: allSlots.map fun k => slotTgt k + 4)
    ∧ (∀ k, (t.slotArmed k).map (·.target) = (s.slotArmed k).map (·.target)) ∧ t.tim = s.tim ∧ t.line = s.line ∧ t.pending = s.pending))
  ∧ (∀ s : State, exec .realign s = .next (s.setFlag 0x100014 3 true))
  ∧ (∀ s : State, s.flag 0x100014 3 = true → Does .realignLoad s (fun t =>
    t.bus.beat = BitVec.ofNat 64 (s.tim.sec * 5859375 + s.tim.ns * 3 / 512) ∧ t.flag 0x100014 3 = false ∧ t.flag 0x100014 4 = true
    ∧ RegsSame s t (0x100014 :: allSlots.map fun k => slotTgt k + 4)
    ∧ (∀ k, (t.slotArmed k).map (·.target) = (s.slotArmed k).map (·.target)) ∧ t.tim = s.tim ∧ t.line = s.line ∧ t.pending = s.pending))

/-- For every stop-change-restart function: a START of a stopped function with no command waiting, outside minimal and recovery mode (R442), a good
configuration and its dependencies met is accepted, to be acted on at the next boundary, and STATE and every register stay as they are; the same for a
STOP of a starting, running or faulted function on which no other depends; CMD = 3 sets CMD_REJECTED with REJ_REASON 6, and STATE and the commands
accepted stay as they are. A START or a STOP that is not accepted sets CMD_REJECTED and the reason of R44's table (1 busy, 2 already in that state, 3
faulted, 4 configuration, 5 dependency; where a START fails both of the last two, dependency, as R76 and R320 list it first: log 35; and dependency in
minimal and recovery mode, log 99), and STATE, the commands accepted and every other register stay as they are. -/
def Obligations.ScrCommandsAcceptedOrRejected : Prop :=
  ∀ (k : ScrId) (s : State),
    (s.scrOf k = 0 → (s.scrSt k).cmd = 0 → s.scrBad k = false → s.startDepends k = false → s.poweredDown = false → Does (.start k) s (fun t =>
      (t.scrSt k).cmd = 1 ∧ t.scrOf k = 0 ∧ t.bus.regs = s.bus.regs ∧ RestSame s t ∧ t.hif = s.hif))
    ∧ (s.scrOf k = 1 ∨ s.scrOf k = 2 ∨ s.scrOf k = 4 → (s.scrSt k).cmd = 0 → s.stopDepends k = false → Does (.stop k) s (fun t =>
      (t.scrSt k).cmd = 2 ∧ t.scrOf k = s.scrOf k ∧ t.bus.regs = s.bus.regs ∧ RestSame s t ∧ t.hif = s.hif))
    ∧ Does (.invalidCmd k) s (fun t =>
      t.flag (scrAddr k) 8 = true ∧ t.fld (scrAddr k) 23 20 = 6 ∧ t.scrOf k = s.scrOf k ∧ t.bus.scrs = s.bus.scrs
      ∧ RegsSame s t [scrAddr k] ∧ RestSame s t)
    ∧ (∀ why, (why = 1 ∧ ((s.scrSt k).cmd ≠ 0 ∨ s.scrOf k = 3))
        ∨ (why = 2 ∧ (s.scrSt k).cmd = 0 ∧ (s.scrOf k = 1 ∨ s.scrOf k = 2))
        ∨ (why = 3 ∧ (s.scrSt k).cmd = 0 ∧ s.scrOf k = 4)
        ∨ (why = 4 ∧ (s.scrSt k).cmd = 0 ∧ s.scrOf k = 0 ∧ s.startDepends k = false ∧ s.poweredDown = false ∧ s.scrBad k = true)
        ∨ (why = 5 ∧ (s.scrSt k).cmd = 0 ∧ s.scrOf k = 0 ∧ (s.startDepends k = true ∨ s.poweredDown = true)) →
      Does (.start k) s (fun t => t.flag (scrAddr k) 8 = true ∧ t.fld (scrAddr k) 23 20 = why ∧ t.scrOf k = s.scrOf k
        ∧ t.bus.scrs = s.bus.scrs ∧ RegsSame s t [scrAddr k] ∧ RestSame s t))
    ∧ (∀ why, (why = 1 ∧ (s.scrSt k).cmd ≠ 0)
        ∨ (why = 2 ∧ (s.scrSt k).cmd = 0 ∧ (s.scrOf k = 0 ∨ s.scrOf k = 3))
        ∨ (why = 5 ∧ (s.scrSt k).cmd = 0 ∧ s.scrOf k ≠ 0 ∧ s.scrOf k ≠ 3 ∧ s.stopDepends k = true) →
      Does (.stop k) s (fun t => t.flag (scrAddr k) 8 = true ∧ t.fld (scrAddr k) 23 20 = why ∧ t.scrOf k = s.scrOf k
        ∧ t.bus.scrs = s.bus.scrs ∧ RegsSame s t [scrAddr k] ∧ RestSame s t))

/-- While a function is STARTING and nothing has ended its start, its sequence's completion is kept for the next boundary: for a port group while no clock
of the module is bad, for an avenue with at least 32 usable engines, a fit supervisor and no copy to be taken from another avenue, which shows
SYNC_DONE; of an avenue with fewer usable engines FAULT_CODE 0x01 is kept. So is its timeout with FAULT_CODE 0xFE once 75,000,000 core clocks have
passed; while it is DRAINING, its drain's completion once it is drained, and its timeout with FAULT_CODE 0xFF once 1,500,000 core clocks have passed.
STATE stays as it is, and but for the start of an avenue and of a channel scheduler so does every register. -/
def Obligations.ScrSequencesEnd : Prop :=
  ∀ (k : ScrId) (s : State), (s.scrSt k).ev = none →
    (s.scrOf k = 1 → (∀ p, k ≠ .ave p) → ((∃ g, k = .line g) → s.elec.clkBad = []) → Does (.startSequenceComplete k 0) s (fun t =>
      t.scrSt k = { (s.scrSt k) with ev := some .startDone } ∧ t.scrOf k = 1))
    ∧ (∀ p, k = .ave p → s.scrOf k = 1 → 32 ≤ s.usableEngines p → s.engRetired p supEngine = false → Tab.get 0 s.eng.rebuild p.val = 0 →
      Does (.startSequenceComplete k 0) s (fun t => t.scrSt k = { (s.scrSt k) with ev := some .startDone } ∧ t.scrOf k = 1 ∧ t.flag (aveStat p) 0 = true))
    ∧ (∀ p, k = .ave p → s.scrOf k = 1 → s.usableEngines p < 32 → Does (.startSequenceComplete k 0) s (fun t =>
      t.scrSt k = { (s.scrSt k) with ev := some (.fault 1) } ∧ t.bus.regs = s.bus.regs ∧ RestSame s t))
    ∧ (s.scrOf k = 1 → (∀ g, k ≠ .line g) → (∀ p, k ≠ .ave p) → (∀ c, k ≠ .sch c) → Does (.startSequenceComplete k 0) s (fun t =>
      t.scrSt k = { (s.scrSt k) with ev := some .startDone } ∧ t.bus.regs = s.bus.regs ∧ RestSame s t))
    ∧ (s.scrOf k = 1 → 75000000 ≤ s.bus.ticks + 1 - (s.scrSt k).since → Does (.startTimeout k) s (fun t =>
      t.scrSt k = { (s.scrSt k) with ev := some (.fault 0xFE) } ∧ t.bus.regs = s.bus.regs ∧ RestSame s t))
    ∧ (s.scrOf k = 3 → s.scrDrained k = true → Does (.drainComplete k) s (fun t =>
      t.scrSt k = { (s.scrSt k) with ev := some .drainDone } ∧ t.bus.regs = s.bus.regs ∧ RestSame s t))
    ∧ (s.scrOf k = 3 → 1500000 ≤ s.bus.ticks + 1 - (s.scrSt k).since → Does (.drainTimeout k) s (fun t =>
      t.scrSt k = { (s.scrSt k) with ev := some (.fault 0xFF) } ∧ t.bus.regs = s.bus.regs ∧ RestSame s t))

/-- A BEAT_BOUNDARY passes the clocks that the beat still has, so that 256 of them have passed since clock 0, and answers a next state that is at clock 0
of the beat whose number is one higher (modulo 2^64), whatever overran; the commands waiting are as before. -/
def Obligations.BeatBoundaryBeginsNextBeat : Prop :=
  ∀ (xs : List (Fin 10)) (bad : List (BitVec 27 × Fin 3)) (s : State), Does (.beatBoundary xs bad) s (fun t =>
    t.bus.beat = s.bus.beat + 1 ∧ t.bus.clk = 0 ∧ t.bus.ticks + s.bus.clk.toNat = s.bus.ticks + 256 ∧ t.pending = s.pending)

/-- When every flit of a direction arrives well (towards the TM: and none was sent marked, R517), CROSSING_DELIVERY keeps exactly the records that were
handed over, in their order, for the next boundary, changes no register and counts nothing; when data flits arrive with errors, exactly the records
that have no bytes in such a flit are kept, in their order. -/
def Obligations.CrossingDeliversWholeRecords : Prop :=
  (∀ s : State, s.cross.marked = [] → Does (.crossingDelivery true [] false) s (fun t =>
    t.cross.dueTm = s.cross.dueTm ++ s.cross.flyTm.map (·.2) ∧ t.cross.flyTm = [] ∧ t.bus = s.bus ∧ t.pmu = s.pmu ∧ t.line = s.line))
  ∧ (∀ s : State, Does (.crossingDelivery false [] false) s (fun t =>
    t.cross.dueFe = s.cross.dueFe ++ s.cross.flyFe.map (·.2) ∧ t.cross.flyFe = [] ∧ t.bus = s.bus ∧ t.pmu = s.pmu ∧ t.line = s.line))
  ∧ (∀ (bad : List Nat) (s : State), s.cross.marked = [] → Does (.crossingDelivery true bad false) s (fun t =>
    t.cross.dueTm = s.cross.dueTm ++ (s.cross.flyTm.filter fun e => !bad.any (inFlit e.1 e.2.size)).map (·.2)))

/-- Signal detect lost on a lane sets LOS of the lane's port, live and latched, and shows the lane without signal; signal detect gained on a lane shows
its signal, puts the lock instances that the lane feeds back to SEARCH and leaves the others; signal on every lane of a port for 10 ms clears LOS, and
before that nothing changes; received local-fault sequences set LF and remote-fault sequences RF, live and latched; the absence of either clears its
live bit and leaves the latch; RDEG follows the far end. -/
def Obligations.LineDefectsSetAndCleared : Prop :=
  (∀ (l : Fin 96) (s : State), Does (.signalDetectLoss l) s (fun t =>
      t.flag (defLive (s.lanePort l)) 0 = true ∧ t.flag (defLive (s.lanePort l) + 4) 0 = true ∧ t.fld (lnStat l) 1 0 = 0 ∧ t.flag (lnStat l) 3 = true))
  ∧ (∀ (l : Fin 96) (s : State), Does (.signalDetectGain l) s (fun t =>
      t.fld (lnStat l) 1 0 = 3 ∧ ∀ k, Tab.get {} t.line.locks k = if s.laneLock l k then {} else Tab.get {} s.line.locks k))
  ∧ (∀ (p : Fin 96) (s : State), s.signalBack p = true → Does (.signalDetectReturn p) s (fun t =>
      t.flag (defLive p) 0 = false ∧ t.flag (defLive p + 4) 0 = s.flag (defLive p + 4) 0))
  ∧ (∀ (p : Fin 96) (s : State), s.signalBack p = false → exec (.signalDetectReturn p) s = .next s)
  ∧ (∀ (p : Fin 96) (s : State), Does (.localFaultReceived p) s (fun t => t.flag (defLive p) 5 = true ∧ t.flag (defLive p + 4) 5 = true))
  ∧ (∀ (p : Fin 96) (s : State), Does (.remoteFaultReceived p) s (fun t => t.flag (defLive p) 6 = true ∧ t.flag (defLive p + 4) 6 = true))
  ∧ (∀ (p : Fin 96) (b : Bool) (s : State), Does (.faultSequencesAbsent p b) s (fun t =>
      t.flag (defLive p) (if b then 5 else 6) = false ∧ t.flag (defLive p + 4) (if b then 5 else 6) = s.flag (defLive p + 4) (if b then 5 else 6)))
  ∧ (∀ (p : Fin 96) (b : Bool) (s : State), Does (.rdegReceived p b) s (fun t =>
      t.flag (defLive p) 7 = b ∧ (b = true → t.flag (defLive p + 4) 7 = true) ∧ RegsSame s t [defLive p, defLive p + 4] ∧ RestSame s t))

/-- For every lock instance: a pattern found while it searches moves it to CONFIRM at that position with one find; a find in CONFIRM with three finds
before it locks, an earlier one is counted; a miss in CONFIRM returns it to SEARCH; in LOCKED a find forgets the misses, a fifth miss in a row returns
it to SEARCH, an earlier one is counted. -/
def Obligations.MarkerLock : Prop :=
  (∀ (k : LockId) (n : Nat) (s : State), (s.lock k).st = .search → Does (.markerSearchFind k n) s (fun t =>
      (t.lock k).st = .confirm ∧ (t.lock k).pos = n ∧ (t.lock k).finds = 1 ∧ (t.lock k).misses = 0 ∧ t.bus = s.bus))
  ∧ (∀ (k : LockId) (laneOk deskewOk : Bool) (s : State), (s.lock k).st = .confirm → Does (.markerPeriod k true laneOk deskewOk) s (fun t =>
      if 3 ≤ (s.lock k).finds then (t.lock k).st = .locked ∧ (t.lock k).pos = (s.lock k).pos
      else (t.lock k).st = .confirm ∧ (t.lock k).finds = (s.lock k).finds + 1))
  ∧ (∀ (k : LockId) (laneOk deskewOk : Bool) (s : State), (s.lock k).st = .confirm → Does (.markerPeriod k false laneOk deskewOk) s (fun t =>
      (t.lock k).st = .search))
  ∧ (∀ (k : LockId) (deskewOk : Bool) (s : State), (s.lock k).st = .locked → Does (.markerPeriod k true true deskewOk) s (fun t =>
      (t.lock k).st = .locked ∧ (t.lock k).misses = 0))
  ∧ (∀ (k : LockId) (deskewOk : Bool) (s : State), (s.lock k).st = .locked → Does (.markerPeriod k false true deskewOk) s (fun t =>
      if 4 ≤ (s.lock k).misses then (t.lock k).st = .search else (t.lock k).st = .locked ∧ (t.lock k).misses = (s.lock k).misses + 1))

/-- An uncorrectable codeword of a port adds 1 to the port's 64-bit count and marks the frame in reception of a context whose blocks it holds; one of an
OTUCn's FlexO sets FEC_UNC, live and latched, and counts in the second; at the end of a codeword window the corrected symbols are added to the port's
64-bit count, and, where more codewords were uncorrectable than the limit, HI_SER is set, live and latched, while corrected symbols above DSET set
DEG_SER. -/
def Obligations.FecAndSer : Prop :=
  (∀ (p : Fin 96) (m : Fin 192) (s : State), 3 ≤ s.rxOf m → Does (.fecUncorrectable (.port p) [m]) s (fun t =>
      t.reg64 (fecUnc p) = (s.reg64 (fecUnc p) + 1) % 2 ^ 64 ∧ (t.pkt (s.rxOf m - 2)).fec = true
      ∧ RegsSame s t [fecUnc p, fecUnc p + 4] ∧ t.pmu = s.pmu ∧ t.err = s.err))
  ∧ (∀ (g : Fin 12) (s : State), Does (.fecUncorrectable (.flexo g) []) s (fun t =>
      t.flag (otnBase g + 0x10) 9 = true ∧ t.flag (otnBase g + 0x14) 9 = true ∧ Tab.get 0 t.line.fecSec g = Tab.get 0 s.line.fecSec g + 1
      ∧ RegsSame s t [otnBase g + 0x10, otnBase g + 0x14] ∧ t.line.rx = s.line.rx ∧ t.line.pkts = s.line.pkts))
  ∧ (∀ (p : Fin 96) (c : Nat) (s : State), Does (.serWindowEnd p c) s (fun t =>
      (s.fld (0x102000C + p.val * 0x40) 9 0 < Tab.get 0 s.line.uncWin p → t.flag (defLive p) 3 = true ∧ t.flag (defLive p + 4) 3 = true)
      ∧ (s.fld (0x1020008 + p.val * 0x40) 31 16 < c → t.flag (defLive p) 4 = true ∧ t.flag (defLive p + 4) 4 = true)
      ∧ t.reg64 (fecCorr p) = (s.reg64 (fecCorr p) + c) % 2 ^ 64 ∧ Tab.get 0 t.line.uncWin p = 0))

/-- A header window of 1 to 256 bytes on a context whose port is not RUNNING is discarded with drop code 6 and the frame has no storage; an empty or
longer window is no frame's head and stops as ill-formed; a PAUSE or PFC frame is discarded with no drop reason and no storage (how it is known is the
model's: log 69); further bytes of a frame below 200 Gb/s that is gathered are appended to the gather buffer, and those of a frame that is stored,
with blocks enough, to its bytes at the kerb, up to MAX_FRAME; the end of a frame in reception with good FCS and no earlier reason ends it without a
drop reason and leaves the context between frames; a gathered frame of a context that is down is counted with drop code 5. -/
def Obligations.FramesReachTheKerb : Prop :=
  (∀ (m : Fin 192) (head : List Byte) (s : State), 1 ≤ head.length → head.length ≤ 256 → s.ctxScr m ≠ 2 →
    Does (.frameHeaderToKerb m head) s (fun t => t.rxOf m = 2 ∧ Tab.get 0 t.pmu.now (pmuId 0x10 6 m) = min (Tab.get 0 s.pmu.now (pmuId 0x10 6 m) + 1) (2 ^ 32 - 1)
      ∧ t.line.pkts = s.line.pkts ∧ t.line.used = s.line.used))
  ∧ (∀ (m : Fin 192) (head : List Byte) (s : State), 60 ≤ head.length → head.length ≤ 256 → s.ctxScr m = 2 → s.rxUp m = true → s.gathers m = false → s.flag 0x50 8 = false →
    isPauseFrame head = true → Does (.frameHeaderToKerb m head) s (fun t => t.rxOf m = 1 ∧ t.line.pkts = s.line.pkts ∧ t.line.used = s.line.used ∧ t.pmu = s.pmu))
  ∧ (∀ (m : Fin 192) (head : List Byte) (s : State), head.length = 0 ∨ 256 < head.length → exec (.frameHeaderToKerb m head) s = .fault .illFormed)
  ∧ (∀ (m : Fin 192) (d : List Byte) (s : State), s.rxOf m = 0 → s.gathers m = true → s.rxUp m = true → Does (.frameDataArrival m d) s (fun t =>
      Tab.get [] t.line.gather m = Tab.get [] s.line.gather m ++ d ∧ t.bus = s.bus ∧ t.pmu = s.pmu))
  ∧ (∀ (m : Fin 192) (d : List Byte) (n : Nat) (s : State), s.rxPkt m = some n → (s.pkt n).stored = true →
      ceilDiv (min ((s.pkt n).data.length + d.length) (s.pkt n).maxFrame) 256 ≤ (s.pkt n).blocks → Does (.frameDataArrival m d) s (fun t =>
      t.pkt n = { s.pkt n with len := (s.pkt n).len + d.length, data := ((s.pkt n).data ++ d).take (s.pkt n).maxFrame,
                               bad := if (s.pkt n).maxFrame < (s.pkt n).len + d.length + 4 ∧ (s.pkt n).bad = 0 then 3 else (s.pkt n).bad }
      ∧ t.bus = s.bus ∧ t.pmu = s.pmu ∧ t.line.used = s.line.used ∧ t.line.kerbQ = s.line.kerbQ))
  ∧ (∀ (m : Fin 192) (len : Nat) (s : State), 3 ≤ s.rxOf m → (s.pkt (s.rxOf m - 2)).bad = 0 → (s.pkt (s.rxOf m - 2)).fec = false →
    Does (.frameEnd m len true) s (fun t => t.rxOf m = 0 ∧ (t.pkt (s.rxOf m - 2)).ended = true ∧ (t.pkt (s.rxOf m - 2)).bad = 0))
  ∧ (∀ (m : Fin 192) (ok : Bool) (s : State), s.rxOf m = 0 → s.ctxScr m = 2 → s.rxUp m = false → Does (.gatherFrameComplete m ok) s (fun t =>
      Tab.get 0 t.pmu.now (pmuId 0x10 5 m) = min (Tab.get 0 s.pmu.now (pmuId 0x10 5 m) + 1) (2 ^ 32 - 1) ∧ Tab.get [] t.line.gather m = []
      ∧ t.line.pkts = s.line.pkts ∧ t.bus = s.bus))

/-- A header window on a context that is receive up, where the module is not in standby, the kerb has a block free, the steered logical avenue is served,
its kerb queue has room, the sampler is off, the port group has delivered fewer than two headers in this clock and the window with its FCS is no
longer than MAX_FRAME, gives a frame that is no PAUSE or PFC frame a packet of its own with the window's bytes, the CRC-32 steering hash of R81 and
the avenue that the hash (or the context's setting) gives, and puts it at the end of that avenue's kerb queue (behind the headers of earlier clocks).
A window of 60 to 256 bytes is taken at once at 200 Gb/s and above; below, a whole frame of the gather buffer of 60 to 256 bytes with good FCS is
taken so as it is complete, and its packet is complete with it. -/
def Obligations.GoodFrameIsQueued : Prop :=
  ∀ (m : Fin 192) (head : List Byte) (s : State), 60 ≤ head.length → head.length ≤ 256 →
    s.ctxScr m = 2 → s.rxUp m = true → s.flag 0x50 8 = false → s.standby = false → isPauseFrame head = false → s.kerbRoom (m / 16) = true → head.length + 4 ≤ s.maxFrame m →
    s.uses (.kerb (m / 16)) < 2 → (∀ x, x ∈ s.kerbQueue (s.steer m (s.steerHash head)) → (s.pkt x).kerbTick ≠ s.bus.ticks) →
    (∃ p, s.servingAve (s.steer m (s.steerHash head)) = some p) → (s.kerbQueue (s.steer m (s.steerHash head))).length < 512 → s.flag 0x500100 31 = false →
    let Queued := fun (t : State) => (t.pkt s.line.nextPkt).data = head ∧ (t.pkt s.line.nextPkt).hash = s.steerHash head
      ∧ (t.pkt s.line.nextPkt).lave = s.steer m (s.steerHash head)
      ∧ t.kerbQueue (s.steer m (s.steerHash head)) = s.kerbQueue (s.steer m (s.steerHash head)) ++ [s.line.nextPkt]
    (s.gathers m = false → Does (.frameHeaderToKerb m head) s (fun t => t.rxOf m = s.line.nextPkt + 2 ∧ Queued t))
    ∧ (1 ≤ s.line.nextPkt → s.rxOf m = 0 → Tab.get [] s.line.gather m = head → Tab.get false s.line.gatherFec m = false →
      Tab.get false s.line.gatherFcs m = false → Does (.gatherFrameComplete m true) s (fun t =>
        t.rxOf m = 0 ∧ Tab.get [] t.line.gather m = [] ∧ (t.pkt s.line.nextPkt).ended = true ∧ (t.pkt s.line.nextPkt).bad = 0 ∧ Queued t))

/-- The oldest egress record is taken. When its context is up, the module neither fatal nor in thermal stop nor in standby, and it is no event message,
its frame, padded with bytes of 0 to 60, is sent and TX_FRAMES counts it; when its MAC context is not receive up, it is dropped and counted as port
down; while the context's port or client is stopped or draining, as port stopped. -/
def Obligations.EgressFrames : Prop :=
  (∀ (r : EgressRec) (rest : List EgressRec) (s : State), s.line.egress = r :: rest → r.target < 192 → s.ctxScr r.target = 2 → s.txUp r.target = true → s.rxUp r.target = true →
    s.flag 0x400000 0 = false → s.flag 0x50 8 = false → s.standby = false → ptpAt r.frame = none →
    Does .egressFrameTransmit s (fun t => t.line.egress = rest
      ∧ (t.line.sent.head?.map fun f => (f.ctx, f.bytes)) = some (r.target, r.frame ++ List.replicate (60 - r.frame.length) 0)
      ∧ t.reg64 (macCnt r.target 3) = (s.reg64 (macCnt r.target 3) + 1) % 2 ^ 64 ∧ t.pmu = s.pmu))
  ∧ (∀ (r : EgressRec) (rest : List EgressRec) (s : State), s.line.egress = r :: rest → r.target < 192 → s.ctxScr r.target = 2 → s.rxUp r.target = false →
    Does .egressFrameTransmit s (fun t => t.line.egress = rest ∧ t.line.sent = s.line.sent ∧ t.bus = s.bus
      ∧ Tab.get 0 t.pmu.now (pmuId 0x10 5 r.target) = min (Tab.get 0 s.pmu.now (pmuId 0x10 5 r.target) + 1) (2 ^ 32 - 1)))
  ∧ (∀ (r : EgressRec) (rest : List EgressRec) (s : State), s.line.egress = r :: rest → r.target < 192 → s.ctxScr r.target ≠ 2 → s.ctxOwner r.target ≠ .none →
    Does .egressFrameTransmit s (fun t => t.line.egress = rest ∧ t.line.sent = s.line.sent ∧ t.bus = s.bus
      ∧ Tab.get 0 t.pmu.now (pmuId 0x10 6 r.target) = min (Tab.get 0 s.pmu.now (pmuId 0x10 6 r.target) + 1) (2 ^ 32 - 1)))

/-- Without OTUCn carriage: a calendar request that every enabled client's slots agree with is acknowledged for that calendar, and one that does not agree
sets CAL_MM, withholds CA and takes the clients that disagree down; the last awaited CA fixes the overhead multiframe boundary at which transmit
switches (how far off it is, is free: log 90); a received C-bit flip switches the receive calendar; a CA timeout, once TMO_MS has passed since the
request, withdraws the request, keeps the active calendar and sets CA_TMO; an overhead frame of the right group, map and alignment leaves that PHY
without defects, records its skew, and the group shows its largest skew and a deskew defect above 1,000 ns. On OTUCn groups: no CR is answered; with a
calendar switch awaited the transmitter switches its calendar, and the receiver's indicator switches the receive calendar; a multiframe that is not
aligned sets the alignment defect; an aligned one clears it, makes BDI follow what was received, and adds its errored blocks to the counters; at a
second the FEC defect follows whether a codeword was uncorrectable in it, and the second's sums begin anew. -/
def Obligations.FlexEAndOtn : Prop :=
  (∀ (f : Fin 12) (b : Bool) (s : State), s.flxCarrier f = false → (∀ c, c < 32 → s.cliAgrees f b c = true) → Does (.crReceived f b) s (fun t =>
      Tab.get 0 t.line.caSent f = (if b then 2 else 1) ∧ Tab.get 0 t.line.calFail f = 0))
  ∧ (∀ (f : Fin 12) (b : Bool) (c : Fin 32) (s : State), s.flxCarrier f = false → s.cliAgrees f b c = false → Does (.crReceived f b) s (fun t =>
      t.flag (flxBase f + 0x54) 4 = true ∧ Tab.get 0 t.line.caSent f = 0 ∧ Tab.get 0 t.line.calFail f = s.calFailing f b))
  ∧ (∀ (f : Fin 12) (b : Bool) (s : State), s.flxCarrier f = true → exec (.crReceived f b) s = .next s)
  ∧ (∀ (f : Fin 12) (k : Fin 8) (b : Bool) (s : State), Tab.get 0 s.line.crSent f = (if b then 2 else 1) → Tab.get 0 s.line.txAt f = 0 → s.flxPhys f = [k.val] →
      Does (.caReceived f k b) s (fun t => Tab.get 0 t.line.txAt f = s.bus.ticks + 1 + Config.multiframeWait s.fresh ∧ t.fresh = s.fresh + 1
        ∧ t.txCalB f = s.txCalB f ∧ t.bus = s.bus))
  ∧ (∀ (f : Fin 12) (s : State), s.flxCarrier f = false → Does (.cBitFlipReceived f) s (fun t =>
      t.flag (flxBase f + 0x40) 1 = !s.flag (flxBase f + 0x40) 1 ∧ t.txCalB f = s.txCalB f))
  ∧ (∀ (f : Fin 12) (s : State), s.flxCarrier f = false → Tab.get 0 s.line.crSent f ≠ 0 → Tab.get 0 s.line.txAt f = 0 →
      Tab.get 0 s.line.crAt f + max (s.fld (flxBase f + 0x44) 15 0) 1 * 1500000 ≤ s.bus.ticks → Does (.caTimeout f) s (fun t =>
      Tab.get 0 t.line.crSent f = 0 ∧ t.flag (flxBase f + 0x40) 3 = true ∧ t.txCalB f = s.txCalB f ∧ RegsSame s t [flxBase f + 0x40]))
  ∧ (∀ (f : Fin 12) (k : Fin 8) (n : Nat) (cal : List (BitVec 16)) (s : State),
      Does (.flexeOverheadFrame f k (BitVec.ofNat 20 (s.fld (flxBase f + 4) 31 12)) (BitVec.ofNat 256 (s.phyMap f)) true false n cal) s (fun t =>
        Tab.get 0 t.line.flxDef (f.val * 8 + k.val) = 0 ∧ Tab.get 0 t.line.skew (f.val * 8 + k.val) = n
        ∧ Tab.get [] t.line.rxCal (f.val * 8 + k.val) = cal
        ∧ t.reg (flxBase f + 0x58) = min (t.flxSkew f) 0xFFFF ∧ t.flag (flxBase f + 0x50) 5 = decide (1000 < t.flxSkew f)))
  ∧ (∀ (g : Fin 12) (s : State), s.flxCarrier g = true → Tab.get false s.line.otnSw g = true → Does (.otnCalendarSwitch g true) s (fun t =>
      t.txCalB g = !s.txCalB g ∧ Tab.get false t.line.otnSw g = false))
  ∧ (∀ (g : Fin 12) (s : State), s.flxCarrier g = true → Does (.otnCalendarSwitch g false) s (fun t =>
      t.flag (flxBase g + 0x40) 1 = !s.flag (flxBase g + 0x40) 1))
  ∧ (∀ (g : Fin 12) (v w : BitVec 512) (b c : Bool) (i j k l : Nat) (m : Bool) (s : State), Does (.otnMultiframeReceived g false v w b c i j k l m) s (fun t =>
      t.flag (otnBase g + 0x10) 1 = true ∧ t.line.smTti = s.line.smTti ∧ t.bus.rcNow = s.bus.rcNow))
  ∧ (∀ (g : Fin 12) (v w : BitVec 512) (b c : Bool) (i j k l : Nat) (m : Bool) (s : State), Does (.otnMultiframeReceived g true v w b c i j k l m) s (fun t =>
      t.flag (otnBase g + 0x10) 1 = false ∧ t.flag (otnBase g + 0x10) 3 = b ∧ t.flag (otnBase g + 0x10) 6 = c ∧ t.flag (otnBase g + 0x10) 8 = m
      ∧ Tab.get 0 t.bus.rcNow (otnBase g + 0x20) = Tab.get 0 s.bus.rcNow (otnBase g + 0x20) + i
      ∧ Tab.get 0 t.bus.rcNow (otnBase g + 0x28) = Tab.get 0 s.bus.rcNow (otnBase g + 0x28) + j))
  ∧ (∀ (g : Fin 12) (s : State), Does (.otnSecond g) s (fun t =>
      t.flag (otnBase g + 0x10) 9 = (Tab.get 0 s.line.fecSec g != 0) ∧ Tab.get 0 t.line.smSec g = 0 ∧ Tab.get 0 t.line.pmSec g = 0
      ∧ Tab.get 0 t.line.fecSec g = 0))

/-- When a packet that is being parsed was admitted 64 clocks ago or more, HEADER_VECTOR_COMPLETE (with no memory error) puts the header vector of its
parse into its slot; by the action that PG_ERR_ACT gives its stop code it becomes eligible, or is done with the drop of the parser's code or with the
punt to the ring of the configuration; its script, every other slot and the rest of the state are as they were. RECIRCULATION_QUEUE_TRANSFER moves the
oldest header of a recirculation queue to the end of the same avenue's kerb queue (behind the headers of earlier clocks) while that holds fewer than
512 and fewer than two have moved in this clock; other queues and the rest of the state are as they were. -/
def Obligations.PacketsAreParsed : Prop :=
  (∀ (p : Fin 17) (slot : Fin 1024) (s : State) (sl : Slot), s.slot p slot = some sl → sl.phase = .parsing → sl.admTick + 64 ≤ s.bus.ticks →
    Does (.headerVectorComplete p slot none) s (fun t => ∃ d : Slot, t.slot p slot = some d
      ∧ d.pkt = sl.pkt ∧ d.script = sl.script ∧ d.hv = memOfList (s.parse p sl none).2 ∧ d.eligTick = s.bus.ticks
      ∧ (s.pgErrAct (s.parse p sl none).1.status = 0 → d.phase = .eligible ∧ d.disp = sl.disp)
      ∧ (s.pgErrAct (s.parse p sl none).1.status = 1 → d.phase = .done ∧ d.disp = some (.drop 0x20 (s.parse p sl none).1.status false))
      ∧ (s.pgErrAct (s.parse p sl none).1.status = 2 → d.phase = .done
          ∧ d.disp = some (.punt (s.fld 0x2000000 21 16) (s.parse p sl none).1.status 2 false 0x20 (s.parse p sl none).1.status))
      ∧ (∀ q k : Nat, slotKey q k ≠ slotKey p slot → t.slot q k = s.slot q k)
      ∧ t = { s with eng := { s.eng with slots := t.eng.slots } }))
  ∧ (∀ (l : Fin 16) (n : Nat) (q : List Nat) (s : State), Tab.get [] s.line.recQ l = n :: q → (s.kerbQueue l).length < 512 → s.uses (.recirc l) < 2 →
      (∀ x, x ∈ s.kerbQueue l → (s.pkt x).kerbTick ≠ s.bus.ticks) →
    Does (.recirculationQueueTransfer l) s (fun t => t.kerbQueue l = s.kerbQueue l ++ [n] ∧ Tab.get [] t.line.recQ l = q
      ∧ (∀ m : Nat, m ≠ l.val → t.kerbQueue m = s.kerbQueue m ∧ Tab.get [] t.line.recQ m = Tab.get [] s.line.recQ m)
      ∧ t = { s with bus := { s.bus with used := t.bus.used }, line := { s.line with recQ := t.line.recQ, kerbQ := t.line.kerbQ, pkts := t.line.pkts } }))

/-- PG_CHECK and PS_CHECK, while no check runs, begin a check of the bank they name: CHECK_BUSY is set and the bank is kept. PG_CHECK_COMPLETE and
PS_CHECK_COMPLETE end it: the result register names the first fault found, 0 for none, and the bank's CLEAN flag is set when no fault was found and
the bank was not written meanwhile; with a fault the CLEAN flags are as they were. Nothing else changes. -/
def Obligations.BankChecks : Prop :=
  (∀ (b : Bool) (s : State), s.eng.pgChk = none → Does (.pgCheck b) s (fun t =>
    t.eng.pgChk = some { bankB := b, dirty := false } ∧ t.flag 0x2000008 3 = true ∧ t.flag 0x200000C 4 = b ∧ RegsSame s t [0x2000008, 0x200000C]
    ∧ t = { withRegsOf s t with eng := { s.eng with pgChk := t.eng.pgChk } }))
  ∧ (∀ (b : Bool) (s : State), s.eng.pgChk = some { bankB := b, dirty := false } → Does .pgCheckComplete s (fun t =>
    t.eng.pgChk = none ∧ t.flag 0x2000008 3 = false
    ∧ t.reg 0x2000010 = (s.graphFault b).1 * 2 ^ 28 + (s.graphFault b).2 % 4096
    ∧ t.flag 0x2000008 (if b then 2 else 1) = ((s.graphFault b).1 == 0 || s.flag 0x2000008 (if b then 2 else 1))
    ∧ t.flag 0x2000008 (if b then 1 else 2) = s.flag 0x2000008 (if b then 1 else 2)
    ∧ RegsSame s t [0x2000008, 0x2000010] ∧ t = { withRegsOf s t with eng := { s.eng with pgChk := none } }))
  ∧ (∀ (b : Bool) (s : State), s.eng.chk = none → Does (.psCheck b) s (fun t =>
    t.eng.chk = some { bankB := b, dirty := false } ∧ t.flag psStat 3 = true ∧ t.flag 0x30F000C 4 = b ∧ RegsSame s t [psStat, 0x30F000C]
    ∧ t = { withRegsOf s t with eng := { s.eng with chk := t.eng.chk } }))
  ∧ (∀ (b : Bool) (s : State), s.eng.chk = some { bankB := b, dirty := false } → s.badBundle b = none → Does (.psCheckComplete none) s (fun t =>
    t.eng.chk = none ∧ t.flag psStat 3 = false ∧ t.reg 0x30F0010 = 0 ∧ t.flag psStat (if b then 2 else 1) = true
    ∧ t.flag psStat (if b then 1 else 2) = s.flag psStat (if b then 1 else 2)
    ∧ RegsSame s t [psStat, 0x30F0010] ∧ t = { withRegsOf s t with eng := { s.eng with chk := none } }))
  ∧ (∀ (b : Bool) (p : Fin 17) (a : BitVec 15) (s : State), s.eng.chk = some { bankB := b, dirty := false } →
    Does (.psCheckComplete (some (p, a))) s (fun t =>
    t.eng.chk = none ∧ t.flag psStat 3 = false ∧ t.reg 0x30F0010 = 2 ^ 28 + p * 2 ^ 15 + a.toNat
    ∧ t.flag psStat 1 = s.flag psStat 1 ∧ t.flag psStat 2 = s.flag psStat 2
    ∧ RegsSame s t [psStat, 0x30F0010] ∧ t = { withRegsOf s t with eng := { s.eng with chk := none } }))

/-- A write of CODE_DATA3 to a bank that may be written puts the bundle of the four data words at ADDR of that bank in every physical avenue that does not
run its self-test; no other bundle changes; ADDR rises by 1, wrapping at 32,768; the bank is no longer CLEAN; the access completes. A read of
CODE_DATA0 through an avenue's window puts the bundle at ADDR of that avenue into the four data words and returns the first; no bundle and no other
register changes. -/
def Obligations.CodeBundlesWrittenAndRead : Prop :=
  (∀ (r : Requester) (v : Word) (s : State), s.codeWritable (s.flag codeAddr 16) = true → Does (.codeData3Write r v) s (fun t =>
    (∀ p : Fin 17, s.bistRuns p = false → t.bundle p (s.flag codeAddr 16) (BitVec.ofNat 15 (s.fld codeAddr 14 0))
      = BitVec.ofNat 128 (s.reg 0x30F0034 + s.reg 0x30F0038 * 2 ^ 32 + s.reg 0x30F003C * 2 ^ 64 + v.toNat * 2 ^ 96))
    ∧ (∀ (p : Nat) (b : Bool) (a : BitVec 15), (b ≠ s.flag codeAddr 16 ∨ a.toNat ≠ s.fld codeAddr 14 0) → t.bundle p b a = s.bundle p b a)
    ∧ t.fld codeAddr 14 0 = (s.fld codeAddr 14 0 + 1) % 32768 ∧ t.flag codeAddr 16 = s.flag codeAddr 16
    ∧ t.flag psStat (if s.flag codeAddr 16 then 2 else 1) = false ∧ Answered t r 0x30F0040 0
    ∧ RegsSame s t (psStat :: codeAddr :: 0x30F0040 :: injectionRegs)
    ∧ t = { withBusOf s t with eng := { s.eng with code := t.eng.code, chk := t.eng.chk } }))
  ∧ (∀ (r : Requester) (p : Fin 17) (s : State), Does (.codeData0Read r p) s (fun t =>
    (∀ k : Fin 4, t.reg (0x30F0034 + k * 4) = (s.bundle p (s.flag codeAddr 16) (BitVec.ofNat 15 (s.fld codeAddr 14 0))).toNat / 2 ^ (32 * k.val) % 2 ^ 32)
    ∧ Answered t r (aveWin p + 0xF0034) (t.reg 0x30F0034)
    ∧ RegsSame s t [0x30F0034, 0x30F0038, 0x30F003C, 0x30F0040] ∧ t = withBusOf s t))

/-- AVENUE_ADMISSION takes the oldest header of the avenue's kerb queue, one of an earlier clock, into the slot of this clock, when that is free, with the
beat and clock of its admission and the banks then active. DISPATCH, when no header vector is due and fewer than two packets were dispatched in this
clock, gives the oldest eligible packet that an engine can take to that engine's lowest free thread, which is READY at the entry address with the slot
number in g0. DEADLINE gives a packet without a disposition, whose 1,024 clocks have ended before its dispatch, the deadline disposition and counts
it. BUNDLE_ISSUE lets the READY thread that issued least recently issue the bundle at its program counter, here one that does nothing. Every other
slot and thread, and the rest of the state but the counters and samples, are as they were. -/
def Obligations.PacketsPassThroughTheAvenue : Prop :=
  (∀ (l : Fin 16) (p n : Nat) (q : List Nat) (s : State), s.flag 0x50 8 = false → s.admittingAve l = some p → s.kerbQueue l = n :: q → (s.pkt n).kerbTick < s.bus.ticks →
      s.slot p (s.beatN % 4 * 256 + s.bus.clk.toNat) = none →
    Does (.avenueAdmission l) s (fun t => t.kerbQueue l = q
      ∧ (∃ d : Slot, t.slot p (s.beatN % 4 * 256 + s.bus.clk.toNat) = some d ∧ d.pkt = n ∧ d.phase = .parsing ∧ d.disp = none
          ∧ d.admBeat = s.beatN ∧ d.admClk = s.bus.clk.toNat ∧ d.admTick = s.bus.ticks ∧ d.cbank = s.flag psStat 0 ∧ d.gbank = s.flag pgStat 0)
      ∧ (∀ a k : Nat, slotKey a k ≠ slotKey p (s.beatN % 4 * 256 + s.bus.clk.toNat) → t.slot a k = s.slot a k)
      ∧ (∀ m : Nat, m ≠ l.val → t.kerbQueue m = s.kerbQueue m)
      ∧ t = { s with bus := { s.bus with used := t.bus.used }, line := { s.line with kerbQ := t.line.kerbQ, pkts := t.line.pkts }, eng := { s.eng with slots := t.eng.slots }, pmu := t.pmu }))
  ∧ (∀ (p : Fin 17) (s : State) (slot k : Nat) (sl : Slot), (s.eng.slots.all fun e => (e.2.map fun x => x.parseDue s.bus.ticks) != some true) = true →
      s.uses (.dispatch p) < 2 → s.eligible p = [(slot, sl)] → s.slot p slot = some sl → s.engineFor p sl = some k →
    Does (.dispatch p) s (fun t =>
      t.slot p slot = some { sl with phase := .running (s.engMap p k) ((s.freeThreads p (s.engMap p k)).headD 0), dispTick := s.bus.ticks }
      ∧ t.thread p (s.engMap p k) ((s.freeThreads p (s.engMap p k)).headD 0) = s.dispatchThread slot sl
      ∧ (s.dispatchThread slot sl).st = .ready ∧ (s.dispatchThread slot sl).reg 0 = BitVec.ofNat 64 slot
      ∧ (∀ a e u : Nat, thrKey a e u ≠ thrKey p (s.engMap p k) ((s.freeThreads p (s.engMap p k)).headD 0) → t.thread a e u = s.thread a e u)
      ∧ (∀ a j : Nat, slotKey a j ≠ slotKey p slot → t.slot a j = s.slot a j)
      ∧ t = { s with bus := { s.bus with used := t.bus.used }, eng := { s.eng with slots := t.eng.slots, thr := t.eng.thr }, pmu := t.pmu }))
  ∧ (∀ (p : Fin 17) (slot : Fin 1024) (s : State) (sl : Slot), s.slot p slot = some sl → sl.phase = .parsing ∨ sl.phase = .eligible →
      sl.admTick + 1024 ≤ s.bus.ticks → bitOf (s.regAs sl.admB (fltCfg (s.aveLogical p))) 3 = false →
    Does (.deadline p slot) s (fun t =>
      t.slot p slot = some { sl with phase := .done, disp := some (s.deadlineDisp (s.aveLogical p) sl.admB), script := [] }
      ∧ Tab.get 0 t.pmu.now (pmuId 0x30 0x42 (s.aveLogical p)) = min (Tab.get 0 s.pmu.now (pmuId 0x30 0x42 (s.aveLogical p)) + 1) (2 ^ 32 - 1)
      ∧ (∀ a k : Nat, slotKey a k ≠ slotKey p slot → t.slot a k = s.slot a k)
      ∧ t = { s with eng := { s.eng with slots := t.eng.slots }, pmu := { s.pmu with now := t.pmu.now } }))
  ∧ (∀ (p : Fin 17) (e : Fin 35) (u : Fin 8) (s : State), s.issuer p e [] = some u.val → Issues s ⟨p, e, u⟩ 0 → (thr s ⟨p, e, u⟩).gReady = [] →
      s.bundle p (thr s ⟨p, e, u⟩).cbank (thr s ⟨p, e, u⟩).pc = 0 → s.flag 0x400090 30 = false →
    Does (.bundleIssue p e .clean) s (fun t => NoRegResult s t ⟨p, e, u⟩ ∧ (thr t ⟨p, e, u⟩).lastTick = s.bus.ticks ∧ EngineMemSame s t))

/-- CHANNEL_COMMIT delivers the staged message of the thread that waits for the channel, once it has room, and makes the thread READY.
ALL_THREADS_BLOCKED, on a packet engine all of whose threads are BLOCKED_INT with nothing outstanding, sets its status bit, marks the episode and puts
a notice on the supervisor's channel 1. ISO sets and clears isolation, in force from the next clock, or is refused with ISO_REJ for the supervisor and
a fifth engine. HALT stops each READY thread that the mask names on an isolated engine; RESUME puts each halted thread back and frees each HALTED_DL
thread; STEP lets a halted thread from which its engine can issue in this clock issue one bundle, here one that does nothing, and halts it again. An
accepted ENGINE_REMAP maps the logical engine to the spare and ends the isolation of the engine that it replaces, both from the next clock. A
BIST_FAIL in a running self-test retires the engine and sets the status bit. -/
def Obligations.EngineEventsAndDebug : Prop :=
  (∀ (p : Fin 17) (e : Fin 35) (ch : Fin 16) (u : Fin 8) (s : State), (s.thread p e u).wait = .commit ch → (s.thread p e u).st = .blockedInt →
      (∀ v : Fin 8, v ≠ u → (s.thread p e v).wait ≠ .commit ch) → s.inWindow p e (s.thread p e u) = true →
      s.waiter p (s.chanTarget p e ch (s.thread p e u).stage).1 (s.chanTarget p e ch (s.thread p e u).stage).2 = none →
      s.chanRoom p (s.chanTarget p e ch (s.thread p e u).stage).1 (s.chanTarget p e ch (s.thread p e u).stage).2 = true →
    Does (.channelCommit p e ch) s (fun t =>
      t.chan p (s.chanTarget p e ch (s.thread p e u).stage).1 (s.chanTarget p e ch (s.thread p e u).stage).2
        = s.chan p (s.chanTarget p e ch (s.thread p e u).stage).1 (s.chanTarget p e ch (s.thread p e u).stage).2
          ++ [s.chanWords p e ch (s.thread p e u).stage]
      ∧ t.thread p e u = { (s.thread p e u).ready s.bus.ticks with stage := [] }
      ∧ (∀ a d v : Nat, thrKey a d v ≠ thrKey p e u → t.thread a d v = s.thread a d v)
      ∧ t = { s with eng := { s.eng with thr := t.eng.thr, chan := t.eng.chan, fired := t.eng.fired } }))
  ∧ (∀ (p : Fin 17) (e : Fin 35) (s : State), e.val ≠ supEngine → (∀ v : Fin 8, (s.thread p e v).st = .blockedInt ∧ (s.thread p e v).reqs = []) →
      Tab.get false s.eng.fired (engKey p e) = false → s.waiter p supEngine 1 = none → (s.chan p supEngine 1).length < 32 →
    Does (.allThreadsBlocked p e) s (fun t => Tab.get false t.eng.fired (engKey p e) = true ∧ t.flag (aveStat p) 3 = true
      ∧ (∃ m, m.length = 4 ∧ t.chan p supEngine 1 = s.chan p supEngine 1 ++ [m]) ∧ RegsSame s t [aveStat p]
      ∧ t = { withRegsOf s t with eng := { s.eng with fired := t.eng.fired, chan := t.eng.chan } }))
  ∧ (∀ (p : Fin 17) (e : Fin 35) (s : State), e.val ≠ supEngine → ((List.range 34).filter fun x => s.flag (dbgCtl p x) 24).length < 4 → Does (.iso p e true) s (fun t =>
      t.flag (dbgCtl p e) 24 = true ∧ t.engIso p e = s.engIso p e ∧ RegsSame s t [dbgCtl p e]
      ∧ t = { s with bus := { s.bus with regs := t.bus.regs, late := t.bus.late } }))
  ∧ (∀ (p : Fin 17) (e : Fin 35) (s : State), s.flag (dbgCtl p e) 24 = false →
      e.val = supEngine ∨ 4 ≤ ((List.range 34).filter fun x => s.flag (dbgCtl p x) 24).length → Does (.iso p e true) s (fun t =>
      t.flag (aveStat p) 4 = true ∧ RegsSame s t [aveStat p] ∧ t = withRegsOf s t))
  ∧ (∀ (p : Fin 17) (e : Fin 35) (s : State), Does (.iso p e false) s (fun t =>
      t.flag (dbgCtl p e) 24 = false ∧ t.engIso p e = s.engIso p e ∧ RegsSame s t [dbgCtl p e]
      ∧ t = { s with bus := { s.bus with regs := t.bus.regs, late := t.bus.late } }))
  ∧ (∀ (p : Fin 17) (e : Fin 35) (mask : BitVec 8) (s : State), s.engIso p e = true →
      (∀ u : Fin 8, mask.getLsbD u = true → (s.thread p e u).st = .ready) →
    Does (.halt p e mask) s (fun t =>
      (∀ u : Fin 8, t.thread p e u = if mask.getLsbD u then { s.thread p e u with st := .halted, prior := .ready, stepping := false } else s.thread p e u)
      ∧ (∀ a d v : Nat, engKey a d ≠ engKey p e → v < 8 → t.thread a d v = s.thread a d v)
      ∧ t = { s with eng := { s.eng with thr := t.eng.thr } }))
  ∧ (∀ (p : Fin 17) (e : Fin 35) (mask : BitVec 8) (s : State),
      (∀ u : Fin 8, mask.getLsbD u = true → (s.thread p e u).st = .haltedDl
        ∨ ((s.thread p e u).st = .halted ∧ (s.thread p e u).prior = .ready ∧ (s.thread p e u).held = [] ∧ (s.thread p e u).wait = .none)) →
    Does (.resume p e mask) s (fun t =>
      (∀ u : Fin 8, t.thread p e u = if mask.getLsbD u then
          (if (s.thread p e u).st = .haltedDl then {} else { s.thread p e u with st := .ready }) else s.thread p e u)
      ∧ (∀ a d v : Nat, engKey a d ≠ engKey p e → v < 8 → t.thread a d v = s.thread a d v)
      ∧ t = { s with eng := { s.eng with thr := t.eng.thr } }))
  ∧ (∀ (p : Fin 17) (e : Fin 35) (u : Fin 8) (s : State), (thr s ⟨p, e, u⟩).st = .halted → (thr s ⟨p, e, u⟩).prior = .ready →
      (thr s ⟨p, e, u⟩).held = [] → (thr s ⟨p, e, u⟩).wait = .none → (thr s ⟨p, e, u⟩).reqs = [] → (thr s ⟨p, e, u⟩).gReady = [] →
      (thr s ⟨p, e, u⟩).pc.toNat ≠ 32767 → (s.setThread p e u { thr s ⟨p, e, u⟩ with st := .ready, stepping := true }).issues p e u = true →
      s.bundle p (thr s ⟨p, e, u⟩).cbank (thr s ⟨p, e, u⟩).pc = 0 →
    Does (.step p e (BitVec.ofNat 8 (2 ^ u.val))) s (fun t =>
      (thr t ⟨p, e, u⟩).st = .halted ∧ (thr t ⟨p, e, u⟩).prior = .ready ∧ (thr t ⟨p, e, u⟩).pc = (thr s ⟨p, e, u⟩).pc + 1
      ∧ (thr t ⟨p, e, u⟩).g = (thr s ⟨p, e, u⟩).g ∧ (thr t ⟨p, e, u⟩).p = (thr s ⟨p, e, u⟩).p ∧ EngineMemSame s t ∧ IssueFrame s t ⟨p, e, u⟩))
  ∧ (∀ (p : Fin 17) (k : Fin 32) (phys : BitVec 6) (s : State), s.scrState (aveWin p) = 2 → s.engSpare p phys.toNat = true →
      s.engIso p (s.engMap p k) = true → s.engMap p k < 35 → (s.freeThreads p (s.engMap p k)).length = 8 →
    Does (.engineRemap p k phys) s (fun t => t.engMap p k = s.engMap p k
      ∧ (let u : State := { t with bus := { t.bus with late := [] } }; u.engMap p k = phys.toNat ∧ u.engIso p (s.engMap p k) = false)
      ∧ (∀ j : Fin 32, j ≠ k → t.engMap p j = s.engMap p j) ∧ t.eng.thr = s.eng.thr ∧ t.eng.code = s.eng.code ∧ t.line = s.line ∧ t.pending = s.pending))
  ∧ (∀ (p : Fin 17) (e : Fin 35) (s : State), s.bistRuns p = true → Does (.bistFail p e) s (fun t =>
      t.engRetired p e = true ∧ t.flag (aveStat p) 7 = true ∧ RegsSame s t (aveStat p :: reportRegs)
      ∧ t = { withReportOf s t with eng := { s.eng with retired := t.eng.retired } }))

/-- Each ALU function gives R170's result: sums, differences and products modulo 2^64, the high product, the bitwise functions, shifts and rotation by rb
bits 5:0, signed and unsigned minimum and maximum, leading zeros, set bits, reversed bytes, the ones'-complement sum of 16-bit words (congruent to the
sum modulo 65,535 and 0 only for a sum of 0), and CRC-32, of which the check value of the bytes of "123456789" is 0xCBF43926 when begun with all ones
and inverted at the end. -/
def Obligations.AluFunctions : Prop :=
  ∀ a b : Dword,
    aluResult .add a b = a + b ∧ aluResult .sub a b = a - b ∧ aluResult .mul a b = a * b
    ∧ (aluResult .mulhu a b).toNat = a.toNat * b.toNat / 2 ^ 64
    ∧ (∀ i, (aluResult .and a b).getLsbD i = (a.getLsbD i && b.getLsbD i) ∧ (aluResult .or a b).getLsbD i = (a.getLsbD i || b.getLsbD i)
        ∧ (aluResult .xor a b).getLsbD i = (a.getLsbD i ^^ b.getLsbD i) ∧ (aluResult .andn a b).getLsbD i = (a.getLsbD i && !b.getLsbD i))
    ∧ (aluResult .shl a b).toNat = a.toNat * 2 ^ (b.toNat % 64) % 2 ^ 64 ∧ (aluResult .shr a b).toNat = a.toNat / 2 ^ (b.toNat % 64)
    ∧ (aluResult .sar a b).toInt = a.toInt / 2 ^ (b.toNat % 64)
    ∧ (aluResult .rol a b).toNat = (a.toNat * 2 ^ (b.toNat % 64) % 2 ^ 64) + a.toNat / 2 ^ (64 - b.toNat % 64)
    ∧ (aluResult .min a b).toInt = min a.toInt b.toInt ∧ (aluResult .max a b).toInt = max a.toInt b.toInt
    ∧ (aluResult .minu a b).toNat = min a.toNat b.toNat ∧ (aluResult .maxu a b).toNat = max a.toNat b.toNat
    ∧ (aluResult .clz a b).toNat = (if a = 0 then 64 else 63 - a.toNat.log2)
    ∧ (aluResult .popc a b).toNat = ((List.range 64).filter fun i => a.getLsbD i).length
    ∧ (∀ i, i < 64 → (aluResult .bswap a b).getLsbD i = a.getLsbD (56 - i / 8 * 8 + i % 8))
    ∧ (aluResult .csadd a b).toNat < 65536
    ∧ (aluResult .csadd a b).toNat % 65535 = (words16 a.toNat + words16 b.toNat) % 65535
    ∧ ((aluResult .csadd a b) = 0 ↔ words16 a.toNat + words16 b.toNat = 0)
    ∧ ~~~ (crc32 0xFFFFFFFF [0x31, 0x32, 0x33, 0x34, 0x35, 0x36, 0x37, 0x38, 0x39]) = 0xCBF43926

/-- A thread that can issue executes each ALU operation: rd takes the function of ra and rb (or of ra), every other register and predicate of the thread
stays, the thread goes on to its next bundle, and nothing else changes but counts and the trace units. An operation whose guard is false does nothing
to the thread's registers, whatever it is. -/
def Obligations.AluOperationsComplete : Prop :=
  (∀ (t : Tid) (gd : BitVec 4) (rd ra rb : BitVec 5) (s : State), Issues s t gd →
    Does (.add t gd rd ra rb) s (fun u => RegResult s u t rd (aluResult .add ((thr s t).reg ra) ((thr s t).reg rb)))
    ∧ Does (.sub t gd rd ra rb) s (fun u => RegResult s u t rd (aluResult .sub ((thr s t).reg ra) ((thr s t).reg rb)))
    ∧ Does (.and t gd rd ra rb) s (fun u => RegResult s u t rd (aluResult .and ((thr s t).reg ra) ((thr s t).reg rb)))
    ∧ Does (.or t gd rd ra rb) s (fun u => RegResult s u t rd (aluResult .or ((thr s t).reg ra) ((thr s t).reg rb)))
    ∧ Does (.xor t gd rd ra rb) s (fun u => RegResult s u t rd (aluResult .xor ((thr s t).reg ra) ((thr s t).reg rb)))
    ∧ Does (.andn t gd rd ra rb) s (fun u => RegResult s u t rd (aluResult .andn ((thr s t).reg ra) ((thr s t).reg rb)))
    ∧ Does (.shl t gd rd ra rb) s (fun u => RegResult s u t rd (aluResult .shl ((thr s t).reg ra) ((thr s t).reg rb)))
    ∧ Does (.shr t gd rd ra rb) s (fun u => RegResult s u t rd (aluResult .shr ((thr s t).reg ra) ((thr s t).reg rb)))
    ∧ Does (.sar t gd rd ra rb) s (fun u => RegResult s u t rd (aluResult .sar ((thr s t).reg ra) ((thr s t).reg rb)))
    ∧ Does (.rol t gd rd ra rb) s (fun u => RegResult s u t rd (aluResult .rol ((thr s t).reg ra) ((thr s t).reg rb)))
    ∧ Does (.min t gd rd ra rb) s (fun u => RegResult s u t rd (aluResult .min ((thr s t).reg ra) ((thr s t).reg rb)))
    ∧ Does (.max t gd rd ra rb) s (fun u => RegResult s u t rd (aluResult .max ((thr s t).reg ra) ((thr s t).reg rb)))
    ∧ Does (.minu t gd rd ra rb) s (fun u => RegResult s u t rd (aluResult .minu ((thr s t).reg ra) ((thr s t).reg rb)))
    ∧ Does (.maxu t gd rd ra rb) s (fun u => RegResult s u t rd (aluResult .maxu ((thr s t).reg ra) ((thr s t).reg rb)))
    ∧ Does (.mul t gd rd ra rb) s (fun u => RegResult s u t rd (aluResult .mul ((thr s t).reg ra) ((thr s t).reg rb)))
    ∧ Does (.mulhu t gd rd ra rb) s (fun u => RegResult s u t rd (aluResult .mulhu ((thr s t).reg ra) ((thr s t).reg rb)))
    ∧ Does (.clz t gd rd ra) s (fun u => RegResult s u t rd (aluResult .clz ((thr s t).reg ra) ((thr s t).reg 0)))
    ∧ Does (.popc t gd rd ra) s (fun u => RegResult s u t rd (aluResult .popc ((thr s t).reg ra) ((thr s t).reg 0)))
    ∧ Does (.bswap t gd rd ra) s (fun u => RegResult s u t rd (aluResult .bswap ((thr s t).reg ra) ((thr s t).reg 0)))
    ∧ Does (.csadd t gd rd ra rb) s (fun u => RegResult s u t rd (aluResult .csadd ((thr s t).reg ra) ((thr s t).reg rb)))
    ∧ Does (.crc32 t gd rd ra rb) s (fun u => RegResult s u t rd (aluResult .crc32 ((thr s t).reg ra) ((thr s t).reg rb))))
  ∧ (∀ (t : Tid) (gd : BitVec 4) (rd ra rb : BitVec 5) (s : State), Issues s t 0 → guardTrue gd (thr s t).p = false →
    Does (.add t gd rd ra rb) s (fun u => NoRegResult s u t ∧ EngineMemSame s u)
    ∧ Does (.wrs t gd 1 rb) s (fun u => NoRegResult s u t ∧ EngineMemSame s u)
    ∧ Does (.drop t gd ra) s (fun u => NoRegResult s u t ∧ EngineMemSame s u))

/-- A thread that can issue executes each operation with an immediate, each shift by an immediate, EXT and INS of a field within 64 bits, MOVI, LIMM and
LIMMH, MOVP, and RDS of a shared register 0 to 15: rd takes R169's value, every other register and predicate of the thread stays, and the thread goes
on to its next bundle. -/
def Obligations.ImmediateOperationsComplete : Prop :=
  ∀ (t : Tid) (gd : BitVec 4) (rd ra : BitVec 5) (v : BitVec 12) (sh pos len1 : BitVec 6) (m : BitVec 17) (lit : Word) (n : BitVec 5) (s : State), Issues s t gd →
    Does (.addi t gd rd ra v) s (fun u => RegResult s u t rd ((thr s t).reg ra + v.signExtend 64))
    ∧ Does (.andi t gd rd ra v) s (fun u => RegResult s u t rd ((thr s t).reg ra &&& v.signExtend 64))
    ∧ Does (.ori t gd rd ra v) s (fun u => RegResult s u t rd ((thr s t).reg ra ||| v.signExtend 64))
    ∧ Does (.xori t gd rd ra v) s (fun u => RegResult s u t rd ((thr s t).reg ra ^^^ v.signExtend 64))
    ∧ Does (.shli t gd rd ra sh) s (fun u => RegResult s u t rd ((thr s t).reg ra <<< sh.toNat))
    ∧ Does (.shri t gd rd ra sh) s (fun u => RegResult s u t rd ((thr s t).reg ra >>> sh.toNat))
    ∧ Does (.sari t gd rd ra sh) s (fun u => RegResult s u t rd (((thr s t).reg ra).sshiftRight sh.toNat))
    ∧ (pos.toNat + len1.toNat + 1 ≤ 64 →
        Does (.ext t gd rd ra pos len1) s (fun u => RegResult s u t rd (BitVec.ofNat 64 (bits ((thr s t).reg ra).toNat (pos.toNat + len1.toNat) pos.toNat)))
        ∧ Does (.ins t gd rd ra pos len1) s (fun u => (∃ w, RegResult s u t rd w ∧ ∀ i, i < 64 → w.getLsbD i =
            if pos.toNat ≤ i ∧ i ≤ pos.toNat + len1.toNat then ((thr s t).reg ra).getLsbD (i - pos.toNat) else ((thr s t).reg rd).getLsbD i)))
    ∧ Does (.movi t gd rd m) s (fun u => RegResult s u t rd (m.signExtend 64))
    ∧ Does (.limm t gd rd lit) s (fun u => RegResult s u t rd (lit.signExtend 64))
    ∧ Does (.limmh t gd rd lit) s (fun u => RegResult s u t rd (lit ++ ((thr s t).reg rd).setWidth 32))
    ∧ Does (.movp t gd rd) s (fun u => RegResult s u t rd ((thr s t).p.setWidth 64))
    ∧ (n.toNat ≤ 15 → Does (.rds t gd rd n) s (fun u => RegResult s u t rd (s.sreg t.ave t.eng n.toNat)))

/-- A thread that can issue executes NOP without a change of any register; CMP, the comparisons with a sign-extended immediate, TSTI and PLOG with a
condition or function of R171's table, each writing one predicate; PMOV, writing all eight; WRS and FADDS of a shared register 0 to 15, FADDS with the
register's old value in rd. -/
def Obligations.PredicateAndSharedRegisterOperations : Prop :=
  (∀ (t : Tid) (s : State), Issues s t 0 → Does (.nop t 0) s (fun u => NoRegResult s u t ∧ EngineMemSame s u))
  ∧ (∀ (t : Tid) (gd : BitVec 4) (c : BitVec 7) (pd : BitVec 3) (ra rb : BitVec 5) (s : State), Issues s t gd → c.toNat ≤ 6 →
    Does (.cmp t gd c pd ra rb) s (fun u => PredResult s u t pd (condResult c.toNat ((thr s t).reg ra) ((thr s t).reg rb))))
  ∧ (∀ (t : Tid) (gd : BitVec 4) (pd : BitVec 3) (ra : BitVec 5) (v : BitVec 12) (s : State), Issues s t gd →
    Does (.cmpeqi t gd pd ra v) s (fun u => PredResult s u t pd (decide ((thr s t).reg ra = v.signExtend 64)))
    ∧ Does (.cmpnei t gd pd ra v) s (fun u => PredResult s u t pd (decide ((thr s t).reg ra ≠ v.signExtend 64)))
    ∧ Does (.cmplti t gd pd ra v) s (fun u => PredResult s u t pd (decide (((thr s t).reg ra).toInt < (v.signExtend 64).toInt)))
    ∧ Does (.cmpgei t gd pd ra v) s (fun u => PredResult s u t pd (decide ((v.signExtend 64).toInt ≤ ((thr s t).reg ra).toInt)))
    ∧ Does (.cmpltui t gd pd ra v) s (fun u => PredResult s u t pd (decide (((thr s t).reg ra).toNat < (v.signExtend 64).toNat)))
    ∧ Does (.cmpgeui t gd pd ra v) s (fun u => PredResult s u t pd (decide ((v.signExtend 64).toNat ≤ ((thr s t).reg ra).toNat)))
    ∧ Does (.tsti t gd pd ra v) s (fun u => PredResult s u t pd (decide ((thr s t).reg ra &&& v.signExtend 64 ≠ 0))))
  ∧ (∀ (t : Tid) (gd : BitVec 4) (fn : BitVec 7) (pd pa pb : BitVec 3) (s : State), Issues s t gd → fn.toNat ≤ 6 →
    Does (.plog t gd fn pd pa pb) s (fun u => PredResult s u t pd
      (plogResult fn.toNat ((thr s t).p.getLsbD pa.toNat) ((thr s t).p.getLsbD pb.toNat))))
  ∧ (∀ (t : Tid) (gd : BitVec 4) (ra : BitVec 5) (s : State), Issues s t gd →
    Does (.pmov t gd ra) s (fun u => (thr u t).p = ((thr s t).reg ra).setWidth 8 ∧ (thr u t).g = (thr s t).g ∧ GoesOn s u t ∧ EngineMemSame s u ∧ IssueFrame s u t))
  ∧ (∀ (t : Tid) (gd : BitVec 4) (rd n rb : BitVec 5) (s : State), Issues s t gd → n.toNat ≤ 15 →
    Does (.wrs t gd n rb) s (fun u => u.sreg t.ave t.eng n.toNat = (thr s t).reg rb
      ∧ (∀ k, k ≠ sregKey t.ave t.eng n.toNat → Tab.get 0 u.eng.sreg k = Tab.get 0 s.eng.sreg k) ∧ NoRegResult s u t ∧ u.eng.lm = s.eng.lm)
    ∧ Does (.fadds t gd rd n rb) s (fun u => u.sreg t.ave t.eng n.toNat = s.sreg t.ave t.eng n.toNat + (thr s t).reg rb
      ∧ (thr u t).reg rd = s.sreg t.ave t.eng n.toNat ∧ (∀ r, r ≠ rd → (thr u t).reg r = (thr s t).reg r) ∧ (thr u t).p = (thr s t).p
      ∧ GoesOn s u t ∧ IssueFrame s u t))

/-- On a packet engine, HLD within bytes 0 to 511 loads the bytes in the order that it names, zero-extended, and HST within a writable area stores exactly
its bytes into the header vector of the thread's own packet; LLD and LST at an aligned address within the engine's local memory load and store exactly
their bytes, little-endian; EPUT appends ra's bytes to the edit script while it is shorter than 64 bytes, ESET replaces a word that it holds, and ECLR
empties it; a supervisor thread has a script of its own. Every other byte reads as before. -/
def Obligations.MemoryOperationsComplete : Prop :=
  ∀ (t : Tid) (gd : BitVec 4) (rd ra : BitVec 5) (v : BitVec 12) (k : BitVec 3) (sl : Slot) (s : State), Issues s t gd →
      s.slot t.ave (thr s t).slot = some sl →
    (t.eng.val ≠ 34 → ((thr s t).reg ra).toNat + v.toNat % 512 + memSize v ≤ 512 →
      Does (.hld t gd rd ra v) s (fun u => RegResult s u t rd
        (BitVec.ofNat 64 (orderedNat (v.getLsbD 9) (Tab.getList 0 sl.hv (((thr s t).reg ra).toNat + v.toNat % 512) (memSize v))))))
    ∧ (t.eng.val ≠ 34 → hvWritable (((thr s t).reg ra).toNat + v.toNat % 512) (memSize v) = true →
      Does (.hst t gd rd ra v) s (fun u => (∃ sl', u.slot t.ave (thr s t).slot = some sl'
        ∧ Tab.getList 0 sl'.hv (((thr s t).reg ra).toNat + v.toNat % 512) (memSize v) = orderedBytes (v.getLsbD 9) ((thr s t).reg rd).toNat (memSize v)
        ∧ (∀ a, a < ((thr s t).reg ra).toNat + v.toNat % 512 ∨ ((thr s t).reg ra).toNat + v.toNat % 512 + memSize v ≤ a → Tab.get 0 sl'.hv a = Tab.get 0 sl.hv a)
        ∧ sl'.script = sl.script) ∧ NoRegResult s u t ∧ u.eng.lm = s.eng.lm ∧ u.eng.sreg = s.eng.sreg))
    ∧ (lmAddr ((thr s t).reg ra) v % memSize v = 0 → lmAddr ((thr s t).reg ra) v < lmSize t.eng →
      Does (.lld t gd rd ra v) s (fun u => RegResult s u t rd
        (BitVec.ofNat 64 (leNat (Tab.getList 0 s.eng.lm (lmKey t.ave t.eng (lmAddr ((thr s t).reg ra) v)) (memSize v)))))
      ∧ Does (.lst t gd rd ra v) s (fun u =>
          Tab.getList 0 u.eng.lm (lmKey t.ave t.eng (lmAddr ((thr s t).reg ra) v)) (memSize v) = leBytes ((thr s t).reg rd).toNat (memSize v)
          ∧ (∀ a, a < lmKey t.ave t.eng (lmAddr ((thr s t).reg ra) v) ∨ lmKey t.ave t.eng (lmAddr ((thr s t).reg ra) v) + memSize v ≤ a →
              Tab.get 0 u.eng.lm a = Tab.get 0 s.eng.lm a)
          ∧ NoRegResult s u t ∧ u.eng.sreg = s.eng.sreg ∧ u.eng.slots = s.eng.slots))
    ∧ (t.eng.val ≠ 34 → sl.script.length < 64 → Does (.eput t gd ra) s (fun u =>
        (u.slot t.ave (thr s t).slot).map (·.script) = some (sl.script ++ beBytes ((thr s t).reg ra).toNat 8)
        ∧ (u.slot t.ave (thr s t).slot).map (·.hv) = some sl.hv ∧ NoRegResult s u t))
    ∧ (t.eng.val ≠ 34 → 8 * k.toNat < sl.script.length → Does (.eset t gd ra k) s (fun u =>
        (u.slot t.ave (thr s t).slot).map (·.script)
          = some (sl.script.take (8 * k.toNat) ++ beBytes ((thr s t).reg ra).toNat 8 ++ sl.script.drop (8 * k.toNat + 8)) ∧ NoRegResult s u t))
    ∧ (t.eng.val ≠ 34 → Does (.eclr t gd) s (fun u => (u.slot t.ave (thr s t).slot).map (·.script) = some [] ∧ NoRegResult s u t))
    ∧ (t.eng.val = 34 → (thr s t).script.length < 64 → Does (.eput t gd ra) s (fun u =>
        (thr u t).script = (thr s t).script ++ beBytes ((thr s t).reg ra).toNat 8 ∧ NoRegResult s u t ∧ EngineMemSame s u))
    ∧ (t.eng.val = 34 → 8 * k.toNat < (thr s t).script.length → Does (.eset t gd ra k) s (fun u =>
        (thr u t).script = (thr s t).script.take (8 * k.toNat) ++ beBytes ((thr s t).reg ra).toNat 8 ++ (thr s t).script.drop (8 * k.toNat + 8)
        ∧ NoRegResult s u t ∧ EngineMemSame s u))
    ∧ (t.eng.val = 34 → Does (.eclr t gd) s (fun u => (thr u t).script = [] ∧ NoRegResult s u t ∧ EngineMemSame s u))

/-- LKP of a valid table whose key and response lie within the registers, TCS on a packet engine of a valid profile whose key lies within the header
vector, and POL each become the thread's outstanding request, with their destination, identity and key words or bytes as the registers and the header
vector held them, and the thread goes on (no request of another thread waiting for a place in a queue); STAT of a counter pair below 33,554,432 enters
the avenue's counter queue while that is shorter than 64, none waits for it and fewer than two entered in this clock; WAITR with no request
outstanding goes on. -/
def Obligations.RequestsAreIssued : Prop :=
  ∀ (t : Tid) (gd : BitVec 4) (rd ra rb : BitVec 5) (tb : BitVec 10) (h : BitVec 6) (pr : BitVec 8) (s : State), Issues s t gd → NoTurnWaits s = true →
    (s.tdValid tb.toNat = true → ra.toNat + s.tdKw tb.toNat ≤ 32 → rd.toNat + s.tdRw tb.toNat ≤ 32 → Does (.lkp t gd rd ra tb) s (fun u =>
      (thr u t).reqs.map (fun q => (q.kind, q.rd, q.rw, q.id, q.key))
        = [(.lkp, rd.toNat, s.tdRw tb.toNat, tb.toNat, (List.range (s.tdKw tb.toNat)).map fun i => Tab.get 0 (thr s t).g (ra.toNat + i))]
      ∧ NoRegResult s u t ∧ EngineMemSameButProbe s u))
    ∧ (t.eng.val ≠ 34 → s.profValid (s.admOf t.ave t.eng (thr s t)) pr.toNat = true →
      h.toNat * 8 + s.profBytes (s.admOf t.ave t.eng (thr s t)) pr.toNat ≤ 512 → Does (.tcs t gd rd h pr) s (fun u =>
      (thr u t).reqs.map (fun q => (q.kind, q.rd, q.id, q.bytes))
        = [(.tcs, rd.toNat, pr.toNat, Tab.getList 0 (s.thrSlot t.ave (thr s t)).hv (h.toNat * 8) (s.profBytes (s.admOf t.ave t.eng (thr s t)) pr.toNat))]
      ∧ NoRegResult s u t ∧ EngineMemSame s u))
    ∧ Does (.pol t gd rd ra) s (fun u =>
      (thr u t).reqs.map (fun q => (q.kind, q.rd, q.id, q.key)) = [(.pol, rd.toNat, ((thr s t).reg ra).toNat % 2 ^ 20, [(thr s t).reg ra])]
      ∧ NoRegResult s u t ∧ EngineMemSame s u)
    ∧ (((thr s t).reg ra).toNat < 2 ^ 25 → (Tab.get [] s.tbl.statQ (s.aveLogical t.ave)).length < 64 →
      (Tab.get [] s.tbl.statQ (s.aveLogical t.ave)).any (·.thr.isSome) = false → s.uses (.stat (s.aveLogical t.ave)) < 2 → Does (.stat t gd ra rb) s (fun u =>
      Tab.get [] u.tbl.statQ (s.aveLogical t.ave) = Tab.get [] s.tbl.statQ (s.aveLogical t.ave)
        ++ [{ pair := ((thr s t).reg ra).toNat, bytes := ((thr s t).reg rb).toNat % 2 ^ 14, thr := none, tick := s.bus.ticks }]
      ∧ (thr u t).g = (thr s t).g ∧ GoesOn s u t ∧ EngineMemSame s u))
    ∧ Does (.waitr t gd) s (fun u => NoRegResult s u t ∧ EngineMemSame s u)

/-- On a packet engine: SEND without LAST stages ra for its channel; SEND with LAST, nothing staged and room in a channel 0 to 14 on which no thread waits
to receive, while no thread waits to commit, adds the message to the channel's queue; RECV of a message that is there takes the oldest into rd to rd +
3; RECVT of an empty channel clears its predicate, and takes the oldest message and sets it otherwise. ABORT by a supervisor frees the packet thread
that it names; of a free thread it changes no thread but its own. BRK on an engine that is not isolated is counted, and halts a thread of an isolated
one. -/
def Obligations.ChannelOperationsComplete : Prop :=
  ∀ (t : Tid) (gd : BitVec 4) (rd ra : BitVec 5) (pd : BitVec 3) (ch : BitVec 4) (s : State), Issues s t gd →
    (t.eng.val ≠ 34 → (thr s t).stage = [] →
      Does (.send t gd ra false ch) s (fun u => (thr u t).stage = [(thr s t).reg ra] ∧ (thr u t).stageCh = ch.toNat ∧ NoRegResult s u t ∧ EngineMemSame s u)
      ∧ (ch.toNat ≤ 14 → s.waiter t.ave t.eng ch.toNat = none → (s.chan t.ave t.eng ch.toNat).length < 4 → s.committers = [] →
        Does (.send t gd ra true ch) s (fun u => u.chan t.ave t.eng ch.toNat = s.chan t.ave t.eng ch.toNat ++ [[(thr s t).reg ra]]
          ∧ (thr u t).stage = [] ∧ NoRegResult s u t)))
    ∧ (t.eng.val ≠ 34 → rd.toNat ≤ 28 → ∀ m q, s.chan t.ave t.eng ch.toNat = m :: q →
      Does (.recv t gd rd ch) s (fun u => u.chan t.ave t.eng ch.toNat = q ∧ (∀ i, i < 4 → Tab.get 0 (thr u t).g (rd.toNat + i) = m.getD i 0)
        ∧ (∀ i, i < rd.toNat ∨ rd.toNat + 4 ≤ i → Tab.get 0 (thr u t).g i = Tab.get 0 (thr s t).g i) ∧ GoesOn s u t ∧ IssueFrame s u t)
      ∧ Does (.recvt t gd rd pd ch) s (fun u => u.chan t.ave t.eng ch.toNat = q ∧ (∀ i, i < 4 → Tab.get 0 (thr u t).g (rd.toNat + i) = m.getD i 0)
        ∧ (thr u t).p.getLsbD pd.toNat = true ∧ GoesOn s u t))
    ∧ (t.eng.val ≠ 34 → rd.toNat ≤ 28 → s.chan t.ave t.eng ch.toNat = [] →
      Does (.recvt t gd rd pd ch) s (fun u => PredResult s u t pd false))
    ∧ (t.eng.val = 34 → (s.thread t.ave (s.engMap t.ave (((thr s t).reg ra).toNat % 32)) (bits ((thr s t).reg ra).toNat 10 8)).st = .free →
      Does (.abort t gd ra) s (fun u => NoRegResult s u t ∧ EngineMemSame s u))
    ∧ (t.eng.val = 34 → s.engMap t.ave (((thr s t).reg ra).toNat % 32) < 34 →
        (s.thread t.ave (s.engMap t.ave (((thr s t).reg ra).toNat % 32)) (bits ((thr s t).reg ra).toNat 10 8)).st ≠ .free →
      Does (.abort t gd ra) s (fun u =>
        u.thread t.ave (s.engMap t.ave (((thr s t).reg ra).toNat % 32)) (bits ((thr s t).reg ra).toNat 10 8)
          = (s.thread t.ave (s.engMap t.ave (((thr s t).reg ra).toNat % 32)) (bits ((thr s t).reg ra).toNat 10 8)).freed s.bus.ticks
        ∧ (thr u t).g = (thr s t).g ∧ (thr u t).p = (thr s t).p ∧ GoesOn s u t))
    ∧ (s.engIso t.ave t.eng = false → Does (.brk t gd) s (fun u => NoRegResult s u t ∧ EngineMemSame s u))
    ∧ (s.engIso t.ave t.eng = true → Does (.brk t gd) s (fun u => (thr u t).st = .halted ∧ (thr u t).pc = (thr s t).pc + 1 ∧ (thr u t).g = (thr s t).g))

/-- BR goes to its target; CALL also leaves the next bundle's address in rl; LOOP counts rl down and goes to its target while it is not 0, and on
otherwise; JMP goes to rl bits 14:0. The bundle at a target issues two clocks later. On a packet engine, each disposition whose word is within its
ranges ends the program: the packet's slot keeps it, the edit script stays for FWD, REPL and PUNT and is empty for RECIRC and DROP, and the thread is
FREE from the next clock. -/
def Obligations.ControlAndDispositions : Prop :=
  (∀ (t : Tid) (gd : BitVec 4) (rl : BitVec 5) (a : BitVec 15) (s : State), Issues s t gd →
    Does (.br t gd a) s (fun u => (thr u t).pc = a ∧ (thr u t).nextTick = s.bus.ticks + 2 ∧ (thr u t).g = (thr s t).g ∧ IssueFrame s u t)
    ∧ Does (.call t gd rl a) s (fun u => (thr u t).pc = a ∧ (thr u t).reg rl = BitVec.ofNat 64 ((thr s t).pc.toNat + 1)
        ∧ (∀ r, r ≠ rl → (thr u t).reg r = (thr s t).reg r) ∧ IssueFrame s u t)
    ∧ Does (.loop t gd rl a) s (fun u => (thr u t).reg rl = (thr s t).reg rl - 1
        ∧ (thr u t).pc = (if (thr s t).reg rl = 1 then (thr s t).pc + 1 else a) ∧ IssueFrame s u t)
    ∧ Does (.jmp t gd rl) s (fun u => (thr u t).pc = ((thr s t).reg rl).setWidth 15 ∧ (thr u t).g = (thr s t).g ∧ IssueFrame s u t))
  ∧ (∀ (t : Tid) (gd : BitVec 4) (ra : BitVec 5) (sl : Slot) (s : State), Issues s t gd → t.eng.val ≠ 34 → s.slot t.ave (thr s t).slot = some sl →
    (bits ((thr s t).reg ra).toNat 20 0 < 1048576 → bits ((thr s t).reg ra).toNat 41 40 < 3 → Does (.fwd t gd ra) s (fun u =>
      u.slot t.ave (thr s t).slot = some { sl with phase := .done, disp := some (.fwd (bits ((thr s t).reg ra).toNat 20 0) (bits ((thr s t).reg ra).toNat 39 24)
        (bits ((thr s t).reg ra).toNat 41 40) (bits ((thr s t).reg ra).toNat 47 44)) } ∧ thr u t = (thr s t).freed s.bus.ticks))
    ∧ (bits ((thr s t).reg ra).toNat 19 0 < s.replLists → bits ((thr s t).reg ra).toNat 41 40 < 3 → Does (.repl t gd ra) s (fun u =>
      u.slot t.ave (thr s t).slot = some { sl with phase := .done, disp := some (.repl (bits ((thr s t).reg ra).toNat 19 0)
        (bits ((thr s t).reg ra).toNat 41 40)) } ∧ thr u t = (thr s t).freed s.bus.ticks))
    ∧ (bits ((thr s t).reg ra).toNat 7 0 < 64 → Does (.punt t gd ra) s (fun u =>
      (∃ d, u.slot t.ave (thr s t).slot = some { sl with phase := .done, disp := some d }
        ∧ d = .punt (bits ((thr s t).reg ra).toNat 7 0) (bits ((thr s t).reg ra).toNat 23 8) 0 true 0x06 0x01) ∧ thr u t = (thr s t).freed s.bus.ticks))
    ∧ Does (.recirc t gd ra) s (fun u => u.slot t.ave (thr s t).slot = some { sl with phase := .done, disp := some .recirc, script := [] } ∧ thr u t = (thr s t).freed s.bus.ticks)
    ∧ Does (.drop t gd ra) s (fun u => u.slot t.ave (thr s t).slot
        = some { sl with phase := .done, disp := some (.drop 0x30 (bits ((thr s t).reg ra).toNat 7 0) true), script := [] } ∧ thr u t = (thr s t).freed s.bus.ticks))

/-- For every guard and every operation whose operands lie within the ranges that its encoding allows, the operation decoded from its word is that
operation under that guard, with every operand; and every word that decodes to an operation is that operation's own word, so that no bit of a word is
dropped and no two words mean the same. -/
def Obligations.OperationWordsRoundTrip : Prop :=
  (∀ (gd : BitVec 4) (o : Op), opFits gd o = true → opOf (opWord gd o) = some (gd, o))
  ∧ (∀ (w : Word) (gd : BitVec 4) (o : Op), opOf w = some (gd, o) → opWord gd o = w ∧ opFits gd o = true)

/-- For every guard and operation within the ranges of its encoding, the bundle that holds the operation in the first slot in which it may stand, its
literal after it, and NOP elsewhere, decodes to that operation and NOPs, with no faulting slot. -/
def Obligations.OperationAloneInBundle : Prop :=
  ∀ (rw : Nat → Nat) (gd : BitVec 4) (o : Op) (lit : Word), opFits gd o = true →
    (decodeBundle rw (soloBundle gd o lit)).2 = []
    ∧ (decodeBundle rw (soloBundle gd o lit)).1.filter (fun x => x.op != .nop)
        = if o = .nop then [] else [{ slot := o.homeSlot, gd := gd, op := o, lit := if o.literal then lit else 0 }]

/-- A LOOKUP_RESPONSE whose reads are served, of a valid table while lookups run and with no error, answers the request with the words of the lookup, of
the tables only a FIB leaf's hit bit changing; a TCAM_SEARCH_RESPONSE of a valid profile whose search is served, where the matching entry of lowest
index verifies, with that entry's word, or the miss's; a POLICER_RESPONSE of a valid policer, in the slot of its bank that serves it, with the colour,
the policer updated. The thread's registers hold the words, every other thread and register, and the other units, are as they were. BANK_QUEUE_ENTRY,
POLICER_QUEUE_ENTRY and TCAM_QUEUE_ENTRY enter the oldest turn that waits at the bank or table into the queue that has room, and change nothing else. -/
def Obligations.ResponsesReachTheThread : Prop :=
  (∀ (d : Tid) (k : Fin 8) (q : Req) (adm : Nat) (s : State), (thr s d).reqs[k.val]? = some q → q.kind = .lkp → adm = s.admOf d.ave d.eng (thr s d) →
      Awaits s d → s.scrRunning .lkp = true → s.tdValid q.id = true → q.turns ≠ [] → s.lookedUp q adm = true →
    Does (.lookupResponse d k none) s (fun t => Responded s t d k (s.lookup q adm).words ∧ ResponseFrame s t d ∧ t.cls = s.cls
      ∧ t.tbl = (match (s.lookup q adm).leaf with
        | some x => s.hitLeaf (s.tdV6 q.id) x
        | none => s).tbl))
  ∧ (∀ (d : Tid) (k : Fin 8) (q : Req) (adm : Nat) (s : State), (thr s d).reqs[k.val]? = some q → q.kind = .tcs → q.probe = false →
      adm = s.admOf d.ave d.eng (thr s d) → Awaits s d → s.profValid adm q.id = true → q.turns ≠ [] → q.turns.all (·.got.isSome) = true →
      (∀ x ∈ q.found.head?, x.2.2 = false ∧ s.entryBad d.ave (s.profTable adm q.id) x.1 = false) →
    Does (.tcamSearchResponse d k [] false) s (fun t =>
      Responded s t d k [BitVec.ofNat 64 (s.tcsWord adm q.id (q.found.head?.map fun x => (x.1, x.2.1)) false)]
      ∧ ResponseFrame s t d ∧ t.tbl = s.tbl ∧ t.cls = s.cls ∧ t.eng.slots = s.eng.slots))
  ∧ (∀ (d : Tid) (k : Fin 8) (q : Req) (s : State) (x prof : Nat), (thr s d).reqs[k.val]? = some q → q.kind = .pol → q.probe = false → Awaits s d →
      x = (q.key.headD 0).toNat % 2 ^ 20 → s.polTurn (x % 16) = some (thrKey d.ave d.eng d.thr, k.val) →
      prof = 0x8040000 + polGet (s.policer x) 83 72 * 0x10 → bitOf (s.policer x).toNat 84 = true → s.flag 0x400090 30 = false →
    Does (.policerResponse d k false) s (fun t => ∃ r c, (r, c) = polUpdate (s.policer x) (s.reg prof) (s.reg (prof + 4)) (s.reg (prof + 8))
        (s.reg (prof + 0xC)) (s.beatN % 2 ^ 32) (bits (q.key.headD 0).toNat 37 24) (bits (q.key.headD 0).toNat 21 20)
      ∧ t.policer x = r ∧ Responded s t d k [BitVec.ofNat 64 c] ∧ (∀ y, y ≠ x → t.policer y = s.policer y)
      ∧ ResponseFrame s t d ∧ t.tbl = s.tbl ∧ t.eng.slots = s.eng.slots))
  ∧ (∀ (l : Fin 16) (bank : Fin 64) (s : State) (r : TurnRef) (q : Req), NextToEnter s (s.ofAvenue l) bank r q →
    Does (.bankQueueEntry l bank) s (fun t => TurnEnters s t r q))
  ∧ (∀ (l : Fin 16) (bank : Fin 16) (s : State) (r : TurnRef) (q : Req), NextToEnter s (s.ofAvenue l) (64 + bank) r q →
    Does (.policerQueueEntry l bank) s (fun t => TurnEnters s t r q))
  ∧ (∀ (p : Fin 17) (e : Fin 35) (tb : Fin 8) (s : State) (r : TurnRef) (q : Req), NextToEnter s (ofEngine p e) (128 + tb) r q →
    Does (.tcamQueueEntry p e tb) s (fun t => TurnEnters s t r q))

/-- For a window's owner, on a valid hash table while lookups run, INSERT, REPLACE, DELETE and FIND join the commands that wait, behind every one of an
earlier clock, and nothing else changes; while lookups do not run they end at once with RES 5, on another table with RES 4. In a later clock the
oldest that waits runs and leaves the list; with room in the overlay it ends: an INSERT of an absent key with a free slot in one of its buckets stages
its entry there; a REPLACE of a present key stages its new entry in its slot; a DELETE of a present key stages its slot with VALID clear; a FIND of a
present key puts its result into the data registers: each with RES 0. An INSERT of a present key answers RES 1, and the other three on an absent key
RES 2, and the overlay is as it was. No other register changes, nor anything else but the tables' own state. -/
def Obligations.HashCommandsComplete : Prop :=
  (∀ (r : Requester) (w : Fin 2) (n : Byte) (static : Bool) (s : State), OwnsWindow r w → s.scrRunning .lkp = true → s.tdValid n.toNat = true → s.tdKind n.toNat = 2 →
    Does (.insert r w n static) s (fun t => HashWaits s t (hashCmd s w 1 n static))
    ∧ Does (.replace r w n static) s (fun t => HashWaits s t (hashCmd s w 2 n static))
    ∧ Does (.delete r w n) s (fun t => HashWaits s t (hashCmd s w 3 n false))
    ∧ Does (.find r w n) s (fun t => HashWaits s t (hashCmd s w 4 n false)))
  ∧ (∀ (r : Requester) (w : Fin 2) (n : Byte) (static : Bool) (res : Nat) (s : State), OwnsWindow r w →
      (res = 5 ∧ s.scrRunning .lkp = false) ∨ (res = 4 ∧ s.scrRunning .lkp = true ∧ (s.tdValid n.toNat = false ∨ s.tdKind n.toNat ≠ 2)) →
    ∀ c, c = .insert r w n static ∨ c = .replace r w n static ∨ c = .delete r w n → Does c s (fun t =>
      t.fld (winBase w + 0x10) 27 24 = res ∧ RegsSame s t [winBase w + 0x10] ∧ t = withRegsOf s t))
  ∧ (∀ (c : HashCmd) (s t : State), s.tbl.hashQ = [c] → c.tick < s.bus.ticks → s.hashTry c = some t →
      s.hashClock = { t with tbl := { t.tbl with hashQ := [] } })
  ∧ (∀ (c : HashCmd) (s : State), c.win < 2 → s.scrRunning .lkp = true → s.tbl.ovl.length < 4096 →
    let own := s.hashBuckets c.table c.key
    let entry := entryWords (s.tdEsize c.table) (s.tdKey c.table c.key) (s.withStatic c.table c.static c.res)
    let Ends := fun (t : State) (res : Nat) (u : State) => s.hashTry c = some t ∧ t.fld (winBase c.win + 0x10) 27 24 = res
      ∧ t = { withRegsOf s t with tbl := { u.tbl with hashBusy := c.win :: s.tbl.hashBusy } }
    (∀ p : Nat × Nat, c.op = 1 → s.findSlot c.table s.hashWord c.key own = none → own.findSome? (fun x => (s.freeSlot c.table x).map (x, ·)) = some p →
      ∃ t, Ends t 0 (s.putSlot c.table p entry) ∧ RegsSame s t [winBase c.win + 0x10])
    ∧ (∀ p : Nat × Nat, s.findSlot c.table s.hashWord c.key own = some p →
      (c.op = 2 → ∃ t, Ends t 0 (s.putSlot c.table p entry) ∧ RegsSame s t [winBase c.win + 0x10])
      ∧ (c.op = 3 → ∃ t, Ends t 0 (s.clearSlot c.table p) ∧ RegsSame s t [winBase c.win + 0x10])
      ∧ (c.op = 4 → ∃ t, Ends t 0 s
        ∧ t.reg64 (winBase c.win + 0x60) = (slotResult (s.tdEsize c.table) (s.hashWord p.1) p.2).headD 0
        ∧ t.reg64 (winBase c.win + 0x68) = (slotResult (s.tdEsize c.table) (s.hashWord p.1) p.2).getD 1 0
        ∧ RegsSame s t [winBase c.win + 0x10, winBase c.win + 0x60, winBase c.win + 0x64, winBase c.win + 0x68, winBase c.win + 0x6C])
      ∧ (c.op = 1 → ∃ t, Ends t 1 s ∧ RegsSame s t [winBase c.win + 0x10]))
    ∧ (s.findSlot c.table s.hashWord c.key own = none → c.op = 2 ∨ c.op = 3 ∨ c.op = 4 → ∃ t, Ends t 2 s ∧ RegsSame s t [winBase c.win + 0x10]))

/-- For a window's owner and an index up to the target's last: WINDOW_READ puts the word that the target holds into the sixteen data registers;
WINDOW_WRITE, under MASK, stages a word of lookup SRAM outside the tables that only hash commands and route deltas may write, where the writer has
room or a staged entry of that word, sets a statistics pair, a word of replication memory, or, for firmware, a word of the lookup extension that no
table and no pattern image holds. COMMIT sets the writer's pending bit and DISCARD removes exactly the writer's staged entries. OVERLAY_DRAIN, where
the bank's maintenance port is not yet used in the clock, writes the oldest committed entry of a bank into the bank; it is freed in the next clock,
and every word reads as before, with the entry and without it. -/
def Obligations.TableWindowsAndOverlay : Prop :=
  (∀ (r : Requester) (w : Fin 2) (g : Fin 4) (s : State), OwnsWindow r w → s.fld (winBase w + 4) 26 0 ≤ winLast g →
    Does (.windowRead r w g) s (fun t => t.fld (winBase w) 5 4 = g
      ∧ (∀ k : Fin 16, t.reg (winBase w + 0x40 + k * 4) = lineField (s.winRead g (s.fld (winBase w + 4) 26 0)) (4 * k) 4)
      ∧ RegsSame s t (winBase w :: (List.range 16).map fun k => winBase w + 0x40 + k * 4) ∧ t = withRegsOf s t))
  ∧ (∀ (r : Requester) (w : Fin 2) (s : State) (i : Nat) (d : Line) (m : BitVec 64), OwnsWindow r w → i = s.fld (winBase w + 4) 26 0 →
      d = BitVec.ofNat 512 (lineOf (s.winWords w 0 8)) → m = BitVec.ofNat 64 (s.reg64 (winBase w + 8)) →
    (i ≤ 2097151 → (∀ n, s.wordTable i = some n → s.tdKind n ≠ 2 ∧ s.tdKind n ≠ 3 ∧ s.tdKind n ≠ 4) →
        (s.tbl.ovl.length < 4096 ∧ s.stagedOf 0 + s.stagedOf 1 < 3072) ∨ (∃ o ∈ s.tbl.ovl, o.committed = false ∧ o.writer = w.val ∧ o.go = false ∧ o.word = i) →
      Does (.windowWrite r w 0) s (fun t => t.tbl = (s.stage w false i d m).tbl ∧ RegsSame s t [winBase w] ∧ t = { withRegsOf s t with tbl := t.tbl }))
    ∧ (i ≤ 33554431 → Does (.windowWrite r w 1) s (fun t =>
        t.statPair i = (lineWord (mergeLine (pairLine (s.statPair i)) d m) 0, lineWord (mergeLine (pairLine (s.statPair i)) d m) 1)
        ∧ (∀ j, j ≠ i → t.statPair j = s.statPair j) ∧ RegsSame s t [winBase w] ∧ t.tbl.ovl = s.tbl.ovl ∧ t = { withRegsOf s t with tbl := t.tbl }))
    ∧ (i ≤ 65535 → Does (.windowWrite r w 2) s (fun t => Tab.get 0 t.tbl.repl i = mergeLine (Tab.get 0 s.tbl.repl i) d m
        ∧ (∀ j, j ≠ i → Tab.get 0 t.tbl.repl j = Tab.get 0 s.tbl.repl j) ∧ RegsSame s t (winBase w :: injectionRegs)
        ∧ (∀ a, a ∈ t.sq.replBad ↔ a ∈ s.sq.replBad ∧ ¬ (a / 8 = i ∧ m.extractLsb' (a % 8 * 8) 8 = 0xFF#8))
        ∧ t = { withRegsOf s t with tbl := { s.tbl with repl := t.tbl.repl }, sq := { s.sq with replBad := t.sq.replBad } }))
    ∧ (i ≤ 134217727 → w = 1 → s.wordTable (sramWords + i) = none → s.inPatImg i = false → Does (.windowWrite r w 3) s (fun t =>
        Tab.get 0 t.tbl.dram i = mergeLine (Tab.get 0 s.tbl.dram i) d m ∧ (∀ j, j ≠ i → Tab.get 0 t.tbl.dram j = Tab.get 0 s.tbl.dram j)
        ∧ RegsSame s t [winBase w] ∧ t = { withRegsOf s t with tbl := { s.tbl with dram := t.tbl.dram } })))
  ∧ (∀ (w : Fin 2) (s : State), Does (.commit w) s (fun t => t.flag (updCtl w) 2 = true ∧ RegsSame s t [updCtl w] ∧ t = withRegsOf s t)
    ∧ Does (.discard w) s (fun t => (∀ o, o ∈ t.tbl.ovl ↔ o ∈ s.tbl.ovl ∧ (o.committed = true ∨ o.go = true ∨ o.writer ≠ w.val))
        ∧ t = { s with tbl := { s.tbl with ovl := t.tbl.ovl } }))
  ∧ (∀ (bank : Fin 65) (s : State) (pre post : List Ovl) (o : Ovl), s.uses (.bankMaint bank) = 0 → s.tbl.ovl = pre ++ o :: post →
      o.committed = true → o.drained = false → ovlBank o = bank → (∀ x ∈ pre, x.committed = false ∨ x.drained = true ∨ ovlBank x ≠ bank) →
    Does (.overlayDrain bank) s (fun t => t.tbl.ovl = pre ++ { o with drained := true } :: post
      ∧ t.rawWord o.word = mergeLine (s.rawWord o.word) o.data o.mask
      ∧ (∀ v, v ≠ o.word → t.rawWord v = s.rawWord v) ∧ (∀ v, t.bankWord v = s.bankWord v) ∧ RegsSame s t injectionRegs
      ∧ t.ovlFree.tbl.ovl = t.tbl.ovl.filter (!·.drained)
      ∧ ((∀ x ∈ s.tbl.ovl, x.drained = false) → ∀ v, t.ovlFree.bankWord v = s.bankWord v)
      ∧ t = { withUseOf s t with tbl := { s.tbl with ovl := t.tbl.ovl, sram := t.tbl.sram, dram := t.tbl.dram } }))

/-- For a window's owner, while the TCAM runs and the window is not BUSY, each of the five commands on a valid table (and, but for CLEAR, an index within
it) is accepted: BUSY is set and the command, with the window's index, value, mask and action, joins the list of every slice; no row changes yet, nor
any register outside the windows but those that tell of an error of the check store. While the TCAM does not run a command ends with RES 3, and while
the window is BUSY it is ignored and status bit 4 is set. A TCAM_ROW_OPERATION, in a slot that the slice may take, does the slice's next row
operation: one that no command asked for first, else its command's; nothing where the slice may take no slot, or where a row would be rewritten that
was invalidated less than 32 clocks ago; a block move of a valid entry whose check copy has wrong parity is not done, and the error is noted.
TCAM_COMMAND_COMPLETE clears BUSY once every slice that executes commands has finished the window's last command. -/
def Obligations.TcamCommands : Prop :=
  (∀ (r : Requester) (w : Fin 2) (n : Fin 8) (bad : Bool) (s : State), OwnsWindow r w → s.flag (tcmWin w) 31 = false → s.scrRunning .tcm = true → s.tcmValid n = true →
    (s.fld (tcmWin w + 4) 15 0 < s.tcmSize n →
      Does (.tcamWrite r w n) s (fun t => TcamAccepts s t w 1 n false)
      ∧ Does (.tcamInsert r w n) s (fun t => TcamAccepts s t w 2 n false)
      ∧ Does (.tcamDelete r w n) s (fun t => TcamAccepts s t w 3 n false)
      ∧ Does (.tcamRead r w ⟨n, bad⟩) s (fun t => TcamAccepts s t w 4 n bad))
    ∧ Does (.tcamClear r w n) s (fun t => TcamAccepts s t w 5 n false))
  ∧ (∀ (r : Requester) (w : Fin 2) (n : Fin 8) (bad : Bool) (s : State), OwnsWindow r w →
    ∀ c, c = .tcamWrite r w n ∨ c = .tcamInsert r w n ∨ c = .tcamDelete r w n ∨ c = .tcamRead r w ⟨n, bad⟩ ∨ c = .tcamClear r w n →
      (s.flag (tcmWin w) 31 = true → Does c s (fun t => t.flag 0x8000004 4 = true ∧ RegsSame s t [0x8000004] ∧ RestSame s t))
      ∧ (s.flag (tcmWin w) 31 = false → s.scrRunning .tcm = false →
        Does c s (fun t => t.fld (tcmWin w) 30 28 = 3 ∧ RegsSame s t [tcmWin w] ∧ RestSame s t)))
  ∧ (∀ (p : Fin 17) (c : TcamCmd) (j : Nat) (o : RowOp) (bad : Bool) (s : State), (s.slice p).fixes = [] → s.sliceCmd p = some c → (s.slice p).gap = some j →
      s.rowOp c j (s.slice p).step = some o →
    ((∀ i, o.target = some i → s.tooEarly p c.table i = false) → s.rowSlot p c.table = true →
        (∀ a b, o = .copy a b → s.entryValid p c.table a = true → bad = false ∧ s.entryBad p c.table a = false) →
      Does (.tcamRowOperation ⟨p, bad⟩) s (fun t => t.cls.rows = (s.doRowOp p c o).cls.rows ∧ t.cls.cmds = s.cls.cmds ∧ TcamFrame s t))
    ∧ (∀ a b, (∀ i, o.target = some i → s.tooEarly p c.table i = false) → s.rowSlot p c.table = true → o = .copy a b → s.entryValid p c.table a = true →
        bad = true ∨ s.entryBad p c.table a = true →
      Does (.tcamRowOperation ⟨p, bad⟩) s (fun t => t.cls.rows = s.cls.rows ∧ t.cls.cmds = s.cls.cmds ∧ t.flag 0x8000004 6 = true
        ∧ .invalidate c.table a ∈ (t.slice p).fixes ∧ TcamFrame s t))
    ∧ (s.rowSlot p c.table = false ∨ (∃ i, o.target = some i ∧ s.tooEarly p c.table i = true) → exec (.tcamRowOperation ⟨p, bad⟩) s = .next s))
  ∧ (∀ (p : Fin 17) (f : RowFix) (fs : List RowFix) (bad : Bool) (s u : State), (s.slice p).fixes = f :: fs → s.rowSlot p f.table = true → s.doFix p f = some u →
    Does (.tcamRowOperation ⟨p, bad⟩) s (fun t => t.cls.rows = u.cls.rows ∧ t.cls.cmds = s.cls.cmds ∧ TcamFrame s t))
  ∧ (∀ (w : Fin 2) (x : TcamCmd) (cs : List TcamCmd) (s : State), s.cls.cmds = cs ++ [x] → x.win = w.val → s.slicesPast (s.cls.base + cs.length + 1) = true →
    Does (.tcamCommandComplete w) s (fun t => t.flag (tcmWin w) 31 = false ∧ t.cls.rows = s.cls.rows ∧ RegsSame s t [tcmWin w]
      ∧ t = { withRegsOf s t with cls := { s.cls with cmds := t.cls.cmds, base := t.cls.base } }))

/-- POLICER_REFRESH, where the slot of its bank is not taken in the clock, updates a valid policer by R242 as a request of no bytes that takes no tokens.
Where the window is not BUSY, POLICER_WINDOW_READ, for the owner, puts the record's four words into the data registers; POLICER_WINDOW_WRITE, where no
avenue has a request in its queue of the policer's bank and the bank's slot is not taken in the clock, writes TC, TP, PROFILE and VALID from them with
LAST the beat number, and else sets BUSY and waits for its slot, no record being changed. PATTERN_SCAN takes the unit's oldest copy from its buffer
and adds at most 16 records, of 16 bytes each, to the match queue. PAT_WIN_WRITE stores 8 bytes in a slot that may be written and advances ADDR; the
slot is not CLEAN. PAT_CHECK and PAT_CHECK_COMPLETE begin and end a check with its FAIL_CODE; PAT_OLD_PROT_END ends the protection once no scan of the
old slot is left. PAT_REC0_READ latches and returns the oldest record, PAT_REC3_READ returns its last word and removes it. -/
def Obligations.PolicersAndPatterns : Prop :=
  (∀ (x : BitVec 20) (prof : Nat) (s : State), prof = 0x8040000 + polGet (s.policer x.toNat) 83 72 * 0x10 → bitOf (s.policer x.toNat).toNat 84 = true →
      s.uses (.policer (x.toNat % 16)) = 0 →
    Does (.policerRefresh x) s (fun t =>
      t.policer x.toNat = (polUpdate (s.policer x.toNat) (s.reg prof) (s.reg (prof + 4)) (s.reg (prof + 8)) (s.reg (prof + 0xC)) (s.beatN % 2 ^ 32) 0 3).1
      ∧ (∀ y, y ≠ x.toNat → t.policer y = s.policer y) ∧ RegsSame s t injectionRegs ∧ t = { withUseOf s t with cls := { s.cls with pol := t.cls.pol } }))
  ∧ (∀ (r : Requester) (w : Fin 2) (s : State), OwnsWindow r w → s.flag (polWin w) 31 = false →
    Does (.policerWindowRead r w false) s (fun t => t.flag (polWin w) 30 = false
      ∧ (∀ k : Fin 4, t.reg (polWin w + 0x10 + k * 4) = (s.policer (s.fld (polWin w + 4) 19 0)).toNat / 2 ^ (32 * k.val) % 2 ^ 32)
      ∧ RegsSame s t [polWin w, polWin w + 0x10, polWin w + 0x14, polWin w + 0x18, polWin w + 0x1C] ∧ t = withRegsOf s t)
    ∧ ∀ v : BitVec 128, v = BitVec.ofNat 128 (s.reg64 (polWin w + 0x10) + s.reg64 (polWin w + 0x18) * 2 ^ 64) →
      (s.polIdle (s.fld (polWin w + 4) 19 0 % 16) = true → Does (.policerWindowWrite r w) s (fun t =>
      t.policer (s.fld (polWin w + 4) 19 0) = polRecord (polGet v 35 0) (polGet v 71 36) (polGet v 83 72) s.beatN (bitOf v.toNat 84)
      ∧ (∀ y, y ≠ s.fld (polWin w + 4) 19 0 → t.policer y = s.policer y) ∧ RegsSame s t injectionRegs
      ∧ t = { withUseOf s t with cls := { s.cls with pol := t.cls.pol } }))
      ∧ (s.polIdle (s.fld (polWin w + 4) 19 0 % 16) = false → Does (.policerWindowWrite r w) s (fun t =>
      t.flag (polWin w) 31 = true ∧ t.cls.polPend = s.cls.polPend ++ [{ win := w.val, idx := s.fld (polWin w + 4) 19 0, val := v, since := s.bus.ticks }]
      ∧ RegsSame s t [polWin w] ∧ t = { withRegsOf s t with cls := { s.cls with polPend := t.cls.polPend } })))
  ∧ (∀ (u : Fin 4) (c : ScanCopy) (q : List ScanCopy) (s : State), Tab.get [] s.cls.scans u = c :: q → s.cls.recs.length + 16 ≤ 4096 →
    Does (.patternScan u none) s (fun t => Tab.get [] t.cls.scans u = q ∧ (∀ v : Nat, v ≠ u.val → Tab.get [] t.cls.scans v = Tab.get [] s.cls.scans v)
      ∧ (∃ rs, t.cls.recs = s.cls.recs ++ rs ∧ rs.length ≤ 16 ∧ ∀ x ∈ rs, x.length = 16) ∧ RegsSame s t injectionRegs
      ∧ t.tbl = s.tbl ∧ t.eng = s.eng ∧ t.line = s.line ∧ t.pending = s.pending))
  ∧ (∀ (r : Requester) (v : Word) (b : Bool) (a w : Nat) (s : State), b = s.flag 0x9000200 31 → a = s.fld 0x9000200 28 0 → w = s.fld (patBase b) 20 0 * 64 + a / 8 →
      s.patProtected b = false → a < s.fld (patBase b + 4) 20 0 * 512 →
    Does (.patWinWrite r v) s (fun t =>
      Tab.get 0 t.tbl.dram w = mergeLine (Tab.get 0 s.tbl.dram w)
        (BitVec.ofNat 512 (((Tab.get 0 s.bus.lowHalf 0x9000204).toNat + v.toNat * 2 ^ 32) * 2 ^ (64 * (a % 8)))) (byteMask (a % 8 * 8) 8)
      ∧ (∀ y, y ≠ w → Tab.get 0 t.tbl.dram y = Tab.get 0 s.tbl.dram y) ∧ t.fld 0x9000200 28 0 = (a + 1) % 2 ^ 29 ∧ t.flag 0x9000200 31 = b
      ∧ t.flag patStat (if b then 2 else 1) = false ∧ Answered t r 0x9000208 0 ∧ RegsSame s t [patStat, 0x9000200]
      ∧ t = { withBusOf s t with tbl := { s.tbl with dram := t.tbl.dram }, cls := { s.cls with chk := t.cls.chk } }))
  ∧ (∀ (b : Bool) (s : State), s.cls.chk = none → Does (.patCheck b) s (fun t => t.cls.chk = some { bankB := b, dirty := false } ∧ t.flag patStat 3 = true
      ∧ t.flag 0x9000020 4 = b ∧ RegsSame s t [patStat, 0x9000020] ∧ t = { withRegsOf s t with cls := { s.cls with chk := t.cls.chk } }))
  ∧ (∀ (b : Bool) (s : State), s.cls.chk = some { bankB := b, dirty := false } → Does .patCheckComplete s (fun t => t.cls.chk = none ∧ t.flag patStat 3 = false
      ∧ t.reg 0x9000024 = s.patFail b ∧ t.flag patStat (if b then 2 else 1) = (s.patFail b == 0 || s.flag patStat (if b then 2 else 1))
      ∧ RegsSame s t [patStat, 0x9000024] ∧ t = { withRegsOf s t with cls := { s.cls with chk := none } }))
  ∧ (∀ s : State, (∀ u : Fin 4, ∀ c ∈ Tab.get [] s.cls.scans u, c.slotB = s.flag patStat 0) → Does .patOldProtEnd s (fun t => t.flag patStat 6 = false
      ∧ RegsSame s t [patStat] ∧ t = withRegsOf s t))
  ∧ (∀ (r : Requester) (s : State), Does (.patRec0Read r) s (fun t => t.cls.latched = s.cls.recs.head? ∧ Answered t r 0x9000300 (recWord s.cls.recs.head? 0)
      ∧ t.bus.regs = s.bus.regs ∧ t = { withBusOf s t with cls := { s.cls with latched := t.cls.latched } }))
  ∧ (∀ (r : Requester) (x : List Byte) (s : State), s.cls.latched = some x → Does (.patRec3Read r) s (fun t => t.cls.recs = s.cls.recs.drop 1 ∧ t.cls.latched = none
      ∧ Answered t r 0x900030C (recWord (some x) 3) ∧ t.bus.regs = s.bus.regs
      ∧ t = { withBusOf s t with cls := { s.cls with latched := none, recs := t.cls.recs } }))

/-- While fewer than 8 items have executed in the beat, no hash command waits and the overlay has room, LEARN_EXECUTE learns the oldest candidate: an
absent key with a free slot in one of its buckets gets an entry with its DEST and the current epoch, and a NEW record when the queue has room; a key
whose entry has the same DEST and the current epoch is left as it is. The ager's oldest deletion, when its entry is dynamic and has reached the age
limit, clears the entry. FREEZE_EXPIRY unfreezes a key FREEZE_S seconds after its freeze, UNFREEZE the key it names; EPOCH_ADVANCE raises the epoch
EPOCH_S seconds after the last. LRN_REC0_READ and LRN_REC7_READ latch, return and remove the oldest record, for the requester that may read them. -/
def Obligations.LearningUnit : Prop :=
  (∀ (c : Cand) (q : List Cand) (s : State), s.lrn.ran < 8 → s.tbl.hashQ = [] → s.lrn.queue = c :: q → s.lrnRecent c = false → s.lrnReady = true →
      s.tbl.ovl.length < 4096 →
    (∀ p : Nat × Nat, s.macFind c.key = none → ((s.hashBuckets s.lrnTable [c.key]).findSome? fun x => (s.freeSlot s.lrnTable x).map (x, ·)) = some p →
      Does (.learnExecute false) s (fun t => t.tbl = (s.macPut p c.key (macWord c.dest s.epoch false)).tbl ∧ t.lrn.queue = q ∧ t.lrn.ran = s.lrn.ran + 1
        ∧ (s.lrn.recs.length < 8192 → ∃ r, t.lrn.recs = s.lrn.recs ++ [r] ∧ leNat (sliceAt r 0 8) = c.key % 2 ^ 62 ∧ byteAt r 8 % 16 = 1)
        ∧ RegsSame s t (lrnStat :: injectionRegs) ∧ t = { withRegsOf s t with tbl := t.tbl, lrn := t.lrn, pmu := t.pmu }))
    ∧ (∀ (p : Nat × Nat) (w : Nat), s.macFind c.key = some (p, w) → macDest w = c.dest → macAge w = s.epoch →
      Does (.learnExecute false) s (fun t => t.tbl = s.tbl ∧ t.lrn.queue = q ∧ t.lrn.ran = s.lrn.ran + 1 ∧ t.lrn.recs = s.lrn.recs
        ∧ t.bus = s.bus ∧ t = { s with lrn := t.lrn, pmu := t.pmu })))
  ∧ (∀ (k : Nat) (ks : List Nat) (p : Nat × Nat) (w : Nat) (s : State), s.lrn.ran < 8 → s.tbl.hashQ = [] → s.lrn.aged = k :: ks → s.lrnReady = true →
      s.tbl.ovl.length < 4096 → s.macFind k = some (p, w) → macStatic w = false → s.ageLimit ≤ s.ageOf w →
    Does (.learnExecute true) s (fun t => t.tbl = (s.clearSlot s.lrnTable p).tbl ∧ t.lrn.aged = ks ∧ t.flag 0xA00000C 8 = (ks != [])
      ∧ RegsSame s t (0xA00000C :: lrnStat :: injectionRegs) ∧ t = { withRegsOf s t with tbl := t.tbl, lrn := t.lrn, pmu := t.pmu }))
  ∧ (∀ (key : BitVec 62) (since : Nat) (s : State), (s.track key.toNat).bind (·.frozen) = some since → s.fld 0xA000010 23 8 ≠ 0 →
      since + s.fld 0xA000010 23 8 * 1500000000 ≤ s.bus.ticks →
    Does (.freezeExpiry key) s (fun t => t.lrnFrozen key.toNat = false ∧ (∀ j, j ≠ key.toNat → t.track j = s.track j) ∧ t.tbl = s.tbl
      ∧ RegsSame s t (lrnStat :: injectionRegs) ∧ t = { withRegsOf s t with lrn := t.lrn, pmu := t.pmu }))
  ∧ (∀ (r : Requester) (v : Word) (key : Nat) (s : State), bitOf v.toNat 31 = false →
      key = (Tab.get 0 s.bus.lowHalf 0xA000018).toNat + v.toNat % 65536 * 2 ^ 32 + bits v.toNat 29 16 * 2 ^ 48 → s.lrnFrozen key = true →
    Does (.unfreeze r v) s (fun t => t.lrnFrozen key = false ∧ (∀ j, j ≠ key → t.track j = s.track j) ∧ Answered t r 0xA00001C 0 ∧ t.tbl = s.tbl
      ∧ RegsSame s t (lrnStat :: injectionRegs) ∧ t = { withBusOf s t with lrn := t.lrn, pmu := t.pmu }))
  ∧ (∀ s : State, s.fld 0xA000008 7 0 ≠ 0 → s.lrn.epochAt + s.fld 0xA000008 7 0 * 1500000000 ≤ s.bus.ticks →
    Does .epochAdvance s (fun t => t.epoch = (s.epoch + 1) % 256 ∧ t.lrn.epochAt = s.bus.ticks ∧ t.lrn.agePend = none
      ∧ (∀ v, s.lrn.agePend = some v → t.reg 0xA000008 = v % 2 ^ 32) ∧ (s.lrn.agePend = none → t.reg 0xA000008 = s.reg 0xA000008)
      ∧ t.tbl = s.tbl ∧ RegsSame s t [0xA000008, 0xA00000C, lrnStat] ∧ t = { withRegsOf s t with lrn := t.lrn }))
  ∧ (∀ (r : Requester) (s : State), s.lrnOwner r = true →
    Does (.lrnRec0Read r) s (fun t => t.lrn.latched = s.lrn.recs.head? ∧ Answered t r 0xA000030 (recWord s.lrn.recs.head? 0) ∧ t.bus.regs = s.bus.regs
      ∧ t = { withBusOf s t with lrn := { s.lrn with latched := t.lrn.latched } })
    ∧ (∀ x, s.lrn.latched = some x → Does (.lrnRec7Read r) s (fun t => t.lrn.recs = s.lrn.recs.drop 1 ∧ t.lrn.latched = none
      ∧ Answered t r 0xA00004C (recWord (some x) 7) ∧ (r = .host → t = { withBusOf s t with lrn := t.lrn } ∧ t.bus.regs = s.bus.regs))))

/-- For the oldest PD that the editor may take up, each edit command that its script holds next acts: EDIT_END ends the script; EDIT_DEL, EDIT_INS,
EDIT_OVR, DEC4, DEC6, DECM and PCOPY, where the command may stand and its range lies in the frame at or past the editor's position, put the frame's
bytes before the range and the command's own bytes out and move the position past the range; a command that may not stand, or whose range lies before
the position or past the frame's end, makes the script bad and ends it. The frame, every queue and the rest of the state are as they were. -/
def Obligations.EditCommandsAct : Prop :=
  ∀ (tk : Taken) (p : Pd) (h : Handle) (j : EditJob) (s : State), s.editTaken = some tk → p = s.pdOf tk.pd → h = s.handle p.handle → j = s.editJob h → j.fin = false →
    (∀ rest, readEdit j.rest = (.fin, rest) → Does .editEnd s (fun t => t.sq = { s.sq with edit := some { j with rest := [], fin := true } } ∧ t = { s with sq := t.sq }))
    ∧ (∀ off len rest, readEdit j.rest = (.del off.toNat len.toNat, rest) →
      Does (.editDel off len) s (fun t => Edited s t j h.frame p.pcdata p.copy (.del off.toNat len.toNat) rest))
    ∧ (∀ off data rest, readEdit j.rest = (.ins off.toNat data, rest) →
      Does (.editIns off data) s (fun t => Edited s t j h.frame p.pcdata p.copy (.ins off.toNat data) rest))
    ∧ (∀ off data rest, readEdit j.rest = (.ovr off.toNat data, rest) →
      Does (.editOvr off data) s (fun t => Edited s t j h.frame p.pcdata p.copy (.ovr off.toNat data) rest))
    ∧ (∀ off rest, readEdit j.rest = (.dec4 off.toNat, rest) →
      Does (.dec4 off) s (fun t => Edited s t j h.frame p.pcdata p.copy (.dec4 off.toNat) rest))
    ∧ (∀ off rest, readEdit j.rest = (.dec6 off.toNat, rest) →
      Does (.dec6 off) s (fun t => Edited s t j h.frame p.pcdata p.copy (.dec6 off.toNat) rest))
    ∧ (∀ off rest, readEdit j.rest = (.decm off.toNat, rest) →
      Does (.decm off) s (fun t => Edited s t j h.frame p.pcdata p.copy (.decm off.toNat) rest))
    ∧ (∀ off n rest, readEdit j.rest = (.pcopy off.toNat n.toNat, rest) →
      Does (.pcopy off n) s (fun t => Edited s t j h.frame p.pcdata p.copy (.pcopy off.toNat n.toNat) rest))

/-- RECORD_LANDING of a packet, the first of its clock, for a queue whose check passes, with a buffer, a handle and a PD free, stores it in the handle,
charges its units to its requester and appends the PD, requester 36's, to that queue only. REPLICATION_ENGINE makes the last copy of a list whose copy
entry can be read: a PD with COPY on the same handle is appended to the copy's queue and the list ends. MOVE puts the only handle that is due into a
DRAM buffer of a class that holds it, the landing buffer staying in use only while PDs of the editor or of fabric transmit read it. A FREE by the PD's
owner with matching generations lowers REF, and at REF 1 frees the handle and takes its units off the charge; a FREE by another requester is rejected,
logged and reported, and no handle, PD or queue changes. QUARANTINE_RELEASE frees a quarantined handle and its quarantined PDs. -/
def Obligations.SquareCommands : Prop :=
  (∀ (r : XRec) (rest : List XRec) (h d : Nat) (s : State), s.sq.arrivals = r :: rest → s.sq.repl = [] → s.landedNow = [] → s.scrRunning .bpm = true → r.kind ≠ 1 → r.kind ≠ 3 →
      r.tag = none → s.queueCheck r.queue (unitsOf r.frame.length (r.script.length / 8)) false = none → s.pickClass false r.frame.length ≠ none →
      s.newHandle = some h → s.newPd = some d →
    Does .recordLanding s (fun t => t.sq.arrivals = rest ∧ t.queue r.queue = s.queue r.queue ++ [d] ∧ (∀ q, q ≠ r.queue → t.queue q = s.queue q)
      ∧ (t.pdOf d).handle = h ∧ (t.pdOf d).owner = 36 ∧ (t.pdOf d).dest = r.dest ∧ (t.pdOf d).gen = (t.handle h).gen
      ∧ (t.handle h).st = .held ∧ (t.handle h).ref = 1 ∧ (t.handle h).frame = r.frame ∧ (t.handle h).script = r.script ∧ (t.handle h).charge = r.req
      ∧ t.reg (chargeReg r.req) = (s.reg (chargeReg r.req) + unitsOf r.frame.length (r.script.length / 8)) % 2 ^ 32
      ∧ (∀ x, x ≠ h → t.handle x = s.handle x) ∧ (∀ x, x ≠ d → t.pdOf x = s.pdOf x)
      ∧ RegsSame s t (chargeReg r.req :: 0xE000008 :: injectionRegs) ∧ t = { withRegsOf s t with sq := t.sq, fab := t.fab }))
  ∧ (∀ (j : ReplJob) (h d : Nat) (s : State), s.sq.repl = [j] → s.copyBad (j.base + j.made) = none → j.made + 1 = j.count → s.sq.replRan < 16384 → h = (s.pdOf j.hold).handle →
      (s.pdOf j.hold).owner = 34 → (s.pdOf j.hold).gen = (s.handle h).gen → (s.handle h).st = .held → 0 < (s.handle h).ref →
      s.queueCheck (s.copyEntry' (j.base + j.made)).1 (s.handle h).units false = none → s.newPd = some d →
    Does .replicationEngine s (fun t => t.sq.repl = [] ∧ t.sq.replRan = s.sq.replRan + 1
      ∧ t.queue (s.copyEntry' (j.base + j.made)).1 = s.queue (s.copyEntry' (j.base + j.made)).1 ++ [d]
      ∧ (t.pdOf d).handle = h ∧ (t.pdOf d).copy = true ∧ (t.pdOf d).owner = 36 ∧ (t.pdOf d).dest = (s.copyEntry' (j.base + j.made)).2.1
      ∧ (t.pdOf d).pcdata = (s.copyEntry' (j.base + j.made)).2.2 ∧ t.pdOf j.hold = { s.pdOf j.hold with owner := 63 } ∧ (t.handle h).ref = (s.handle h).ref
      ∧ (∀ q, q ≠ (s.copyEntry' (j.base + j.made)).1 → t.queue q = s.queue q) ∧ RegsSame s t [0xE000008] ∧ t = { withRegsOf s t with sq := t.sq, fab := t.fab }))
  ∧ (∀ (h c : Nat) (x : Handle) (s : State), (s.sq.handles.filter fun e => s.moveDue e.2) = [(h, x)] → s.sq.moved < 524288 → s.pickClass true x.len = some c →
    Does .move s (fun t => t.handle h = { x with dram := true, cls := c, buf := s.freeBuf true c } ∧ t.sq.moved = s.sq.moved + s.classSize c + 64
      ∧ (∀ y, y ≠ h → t.handle y = s.handle y)
      ∧ ((∀ e ∈ s.sq.pds, e.2.handle = h → e.2.owner ≠ 37 ∧ e.2.owner ≠ 38) → t.sq.linger = s.sq.linger)
      ∧ t = { s with sq := { s.sq with handles := t.sq.handles, moved := t.sq.moved, linger := t.sq.linger }, pmu := t.pmu }))
  ∧ (∀ (req : Fin 64) (pd : BitVec 27) (h : Nat) (s : State), h = (s.pdOf pd.toNat).handle → (s.pdOf pd.toNat).owner = req.val → req.val ≠ 63 →
      (s.pdOf pd.toNat).gen = (s.handle h).gen → (s.handle h).st = .held → (s.handle h).tag = none →
    (1 < (s.handle h).ref → Does (.free req pd) s (fun t => t.pdOf pd.toNat = { s.pdOf pd.toNat with owner := 63 } ∧ t.handle h = { s.handle h with ref := (s.handle h).ref - 1 }
      ∧ (∀ y, y ≠ h → t.handle y = s.handle y) ∧ (∀ y, y ≠ pd.toNat → t.pdOf y = s.pdOf y)
      ∧ t = { s with sq := { s.sq with handles := t.sq.handles, pds := t.sq.pds, linger := t.sq.linger } }))
    ∧ ((s.handle h).ref = 1 → Does (.free req pd) s (fun t => t.pdOf pd.toNat = { s.pdOf pd.toNat with owner := 63 } ∧ t.handle h = freedHandle (s.handle h)
      ∧ t.reg (chargeReg (s.handle h).charge) = s.reg (chargeReg (s.handle h).charge) - (s.handle h).units
      ∧ (∀ y, y ≠ h → t.handle y = s.handle y) ∧ (∀ y, y ≠ pd.toNat → t.pdOf y = s.pdOf y) ∧ RegsSame s t [chargeReg (s.handle h).charge]
      ∧ t = { withRegsOf s t with sq := { s.sq with handles := t.sq.handles, pds := t.sq.pds, linger := t.sq.linger } })))
  ∧ (∀ (req : Fin 64) (pd : BitVec 27) (s : State), (s.pdOf pd.toNat).owner ≠ req.val → Does (.free req pd) s (fun t => t.sq = s.sq ∧ t.flag bpmStat 1 = true
      ∧ RegsSame s t [bpmStat, 0xC000008, 0xC00000C, 0x400000] ∧ t = { withRegsOf s t with err := t.err }))
  ∧ (∀ (h : BitVec 27) (s : State), (s.handle h.toNat).st = .quarantined → (s.handle h.toNat).tag = none → (s.handle h.toNat).charge < 64 →
    Does (.quarantineRelease h) s (fun t => t.handle h.toNat = freedHandle (s.handle h.toNat) ∧ t.reg 0xC000010 = s.reg 0xC000010 - 1
      ∧ (∀ e ∈ t.sq.pds, e.2.quar = false ∨ e.2.handle ≠ h.toNat) ∧ (∀ y, y ≠ h.toNat → t.handle y = s.handle y)
      ∧ RegsSame s t [0xC000010, chargeReg (s.handle h.toNat).charge] ∧ t = { withRegsOf s t with sq := { s.sq with handles := t.sq.handles, pds := t.sq.pds } }))

/-- When an output has budget, its side has a decision left in this clock, its turn among the side's eligible outputs has come and its walk down the tree
chooses a queue without an AQM profile, SCHEDULER_DECISION takes the queue's head PD, hands it to fabric transmit or to the egress editor as its
owner, and takes three times the byte count of the decision from the output's budget; every other queue is as it was. EGRESS_EDIT of a PD without a
mark, whose script ends well and whose edited frame has at most 10,236 bytes, adds one egress record with the edited bytes and the rest of the frame. -/
def Obligations.SchedulerDecisions : Prop :=
  (∀ (o : Fin 194) (path : List (Nat × Bool)) (u : State) (c q d : Nat) (s : State), (0 : Int) < Tab.get (0 : Int) s.sch.budget o → s.sideReady o = true → s.outTurn o = true →
      s.pickOut o = some (path, u) → c = (path.headD (0, false)).1 → q = (path.getLastD (0, false)).1 % 2 ^ 20 → s.headPd q = some d →
      (s.nodeRec (nodeKey 4 q)).aqm = 0 →
    Does (.schedulerDecision o none) s (fun t => t.queue q = (s.queue q).drop 1 ∧ (∀ k, k ≠ q → t.queue k = s.queue k)
      ∧ Tab.get (0 : Int) t.sch.budget o = Tab.get (0 : Int) s.sch.budget o - Int.ofNat (3 * s.byteCount c d (o.val == 193))
      ∧ (o.val = 193 → (t.pdOf d).owner = 37 ∧ (∃ k : Taken, t.fab.taken = s.fab.taken ++ [k] ∧ k.pd = d ∧ k.queue = q ∧ k.mark = false) ∧ t.sq.editQ = s.sq.editQ)
      ∧ (o.val ≠ 193 → (t.pdOf d).owner = 38 ∧ (∃ k : Taken, t.sq.editQ = s.sq.editQ ++ [k] ∧ k.pd = d ∧ k.queue = q ∧ k.mark = false) ∧ t.fab.taken = s.fab.taken)
      ∧ t.sq.handles = s.sq.handles ∧ (∀ x, x ≠ d → t.pdOf x = s.pdOf x) ∧ RegsSame s t [0xE000008]
      ∧ t = { withRegsOf s t with sq := t.sq, sch := t.sch, fab := t.fab, pmu := t.pmu }))
  ∧ (∀ (k : Taken) (p : Pd) (h : Handle) (j : EditJob) (s : State), s.editTaken = some k → k.mark = false → p = s.pdOf k.pd → h = s.handle p.handle →
      j = EditJob.run h.frame p.pcdata p.copy (h.script.length + 1) (s.editJob h) → j.bad = false → (j.out ++ h.frame.drop j.pos).length ≤ 10236 →
    Does (.egressEdit none) s (fun t => ∃ r : ERec, t.sq = { s.sq with editQ := s.sq.editQ.drop 1, edit := none, out := s.sq.out ++ [r] }
      ∧ r.frame = j.out ++ h.frame.drop j.pos ∧ r.queue = k.queue ∧ r.pd = k.pd ∧ r.host = (s.qType k.queue == 2) ∧ r.target = s.qTarget k.queue
      ∧ t = { s with sq := t.sq }))

/-- For a window's owner: QUEUE_READ puts configuration, length and depth of the window's queue into the window; QUEUE_WRITE notes the new configuration,
and FLUSH the flush, for the next boundary; NODE_READ of a node that exists puts its record, tokens and deficit into the window with RES 0; NODE_WRITE
of a node that exists, with its attachment fields unchanged, notes the record for the next boundary with RES 0; SAMPLE_READ puts the queue's sample
record into the window and, with CLR, clears its extremes and count. Nothing else changes. -/
def Obligations.QueueAndNodeWindows : Prop :=
  ∀ (r : Requester) (w : Fin 2) (s : State), OwnsWindow r w →
    Does (.queueRead r w) s (fun t => t.reg (qWin w + 8) = s.qcfg0 (s.qWinQueue w) % 2 ^ 32 ∧ t.reg (qWin w + 0xC) = s.qcfg1 (s.qWinQueue w) % 2 ^ 32
      ∧ t.reg (qWin w + 0x10) = (s.queue (s.qWinQueue w)).length % 2 ^ 32 ∧ t.reg (qWin w + 0x14) = s.depth (s.qWinQueue w) % 2 ^ 32
      ∧ RegsSame s t [qWin w + 8, qWin w + 0xC, qWin w + 0x10, qWin w + 0x14] ∧ t = withRegsOf s t)
    ∧ Does (.queueWrite r w) s (fun t => t.sq = { s.sq with cfgPend := s.sq.cfgPend ++ [(s.qWinQueue w, s.reg (qWin w + 8), s.reg (qWin w + 0xC))] }
      ∧ RegsSame s t injectionRegs ∧ t = { withRegsOf s t with sq := t.sq })
    ∧ Does (.flush r w) s (fun t => t = { s with sq := { s.sq with flushAt := s.sq.flushAt ++ [s.qWinQueue w] } })
    ∧ (∀ lv : Fin 8, lv.val ≤ 4 → s.fld (nodeWin w + 4) 19 0 < levelSize lv →
      Does (.nodeRead r w lv) s (fun t => t.fld (nodeWin w) 6 4 = lv ∧ t.fld (nodeWin w) 30 28 = 0
        ∧ t.reg (nodeWin w + 8) = (s.written (nodeKey lv (s.fld (nodeWin w + 4) 19 0))).d0 % 2 ^ 32
        ∧ t.reg (nodeWin w + 0xC) = (s.written (nodeKey lv (s.fld (nodeWin w + 4) 19 0))).d1 % 2 ^ 32
        ∧ t.reg (nodeWin w + 0x18) = int32 (s.deficit (nodeKey lv (s.fld (nodeWin w + 4) 19 0)))
        ∧ RegsSame s t [nodeWin w, nodeWin w + 8, nodeWin w + 0xC, nodeWin w + 0x10, nodeWin w + 0x14, nodeWin w + 0x18] ∧ t = withRegsOf s t)
      ∧ ((s.written (nodeKey lv (s.fld (nodeWin w + 4) 19 0))).d0 &&& attachMask = s.reg (nodeWin w + 8) &&& attachMask →
        Does (.nodeWrite r w lv) s (fun t => t.fld (nodeWin w) 30 28 = 0
          ∧ t.sch = { s.sch with pend := s.sch.pend ++ [(nodeKey lv (s.fld (nodeWin w + 4) 19 0), { d0 := s.reg (nodeWin w + 8), d1 := s.reg (nodeWin w + 0xC) })] }
          ∧ RegsSame s t [nodeWin w] ∧ t = { withRegsOf s t with sch := t.sch })))
    ∧ (∀ (clr : Bool) (a : Nat) (x : QSample), a = 0xD030000 + w.val * 0x100 → x = Tab.get {} s.sch.samples (s.fld (a + 4) 19 0) →
      Does (.sampleRead r w clr) s (fun t => t.flag a 8 = clr ∧ t.reg (a + 8) = x.dmin % 2 ^ 32 ∧ t.reg (a + 0xC) = x.dmax % 2 ^ 32 ∧ t.reg (a + 0x10) = x.dew % 2 ^ 32
        ∧ t.reg (a + 0x14) = x.lmin % 2 ^ 32 ∧ t.reg (a + 0x18) = x.lmax % 2 ^ 32 ∧ t.reg (a + 0x1C) = x.lew % 2 ^ 32 ∧ t.reg (a + 0x20) = x.n % 2 ^ 32
        ∧ Tab.get {} t.sch.samples (s.fld (a + 4) 19 0) = (if clr then { x with dmin := 0, dmax := 0, lmin := 0, lmax := 0, n := 0 } else x)
        ∧ (∀ q, q ≠ s.fld (a + 4) 19 0 → Tab.get {} t.sch.samples q = Tab.get {} s.sch.samples q)
        ∧ RegsSame s t [a, a + 8, a + 0xC, a + 0x10, a + 0x14, a + 0x18, a + 0x1C, a + 0x20]
        ∧ t = { withRegsOf s t with sch := { s.sch with samples := t.sch.samples } }))

/-- LANE_ENABLE powers each lane of its register up into TRAINING or down into OFF; LANE_FAIL takes a lane that is READY, IN or DRAINING, and of which the
cause holds, to FAILED with that cause, and does nothing where the cause does not hold; LANE_DRAIN_END ends 16 beats of draining; LANE_RETURN takes a
lane of the active set back IN at the boundary of a beat whose number is a multiple of 16. A good frame in SYNC that is the 64th makes the lane READY,
a good frame without RF leaves a lane that is IN as it is, its marker fields shown, and so does one with an uncorrectable codeword while no more than
ERR_LIM of the last 1,024 have one. A data cell that passes the checks and begins a stream is kept with it. While the fabric runs, REQUEST, GRANT and
STATUS messages set the source's request, raise the credit up to its cap and set the reach; an empty message only counts as heard, and one of a type
without a meaning is a cell error. REQUEST_REPEAT and STATUS_REFRESH queue their messages, and STATUS_TIMEOUT clears the reach and the credits of a
silent module. -/
def Obligations.FabricLanesMove : Prop :=
  (∀ (n : Fin 4) (v : Word) (s : State), Does (.laneEnable n v) s (fun t => t.reg (0xE000040 + n * 4) = v.toNat
    ∧ (∀ j : Fin 32, t.fabLaneSt (32 * n + j) = if v.getLsbD j then (if s.fabLaneSt (32 * n + j) = 0 then 1 else s.fabLaneSt (32 * n + j))
        else if s.fabLaneSt (32 * n + j) = 1 ∨ s.fabLaneSt (32 * n + j) = 2 ∨ s.fabLaneSt (32 * n + j) = 3 then 0 else s.fabLaneSt (32 * n + j))
    ∧ RegsSame s t ((0xE000040 + n * 4) :: (List.range 32).map fun j => fabLaneReg (32 * n + j))
    ∧ t = { withRegsOf s t with fab := { s.fab with lanes := t.fab.lanes }, line := { s.line with locks := t.line.locks } }))
  ∧ (∀ (l : Fin 128) (cause : Fin 5) (s : State), s.failSeen l cause = true → 3 ≤ s.fabLaneSt l → s.fabLaneSt l ≤ 5 → Does (.laneFail l cause) s (fun t =>
    t.fabLaneSt l = 6 ∧ t.fld (fabLaneReg l) 26 24 = cause ∧ t.flag (fabLaneReg l) 6 = true ∧ t.flag fabStat 7 = true ∧ l.val ∈ t.fab.failed
    ∧ (∀ c ∈ t.fab.tx, c.lane ≠ l.val) ∧ RegsSame s t [fabLaneReg l, fabStat, 0x400000] ∧ t = { withRegsOf s t with fab := t.fab, err := t.err }))
  ∧ (∀ (l : Fin 128) (cause : Fin 5) (s : State), s.failSeen l cause = false → exec (.laneFail l cause) s = .next s)
  ∧ (∀ (l : Fin 128) (s : State), s.fabLaneSt l = 5 → (s.fabLane l).drain + 16 ≤ s.bus.beats → Does (.laneDrainEnd l) s (fun t =>
    t.fabLaneSt l = (if s.fabEn l then 3 else 0) ∧ RegsSame s t [fabLaneReg l] ∧ t = { withRegsOf s t with fab := { s.fab with lanes := t.fab.lanes } }))
  ∧ (∀ (l : Fin 128) (s : State), s.fabLaneSt l = 3 → s.fabSet l = true → (s.fabLane l).ready + max (s.fld 0xE00000C 15 0) 1 ≤ s.bus.beats → s.beatN % 16 = 0 → s.bus.clk = 0 →
    Does (.laneReturn l) s (fun t => t.fabLaneSt l = 4 ∧ RegsSame s t [fabLaneReg l, fabStat] ∧ t = { withRegsOf s t with fab := t.fab }))
  ∧ (∀ (l : Fin 128) (pat : BitVec 64) (fl : Byte) (body : BitVec 40) (crc : BitVec 16) (s : State), let m := markerOf pat fl body crc; markerOk m = true → fl.getLsbD 7 = false →
    (s.fabLaneSt l = 2 → fl.getLsbD 5 = true → (s.fabLane l).bad = [] → (s.fabLane l).good = 63 → Does (.fabricFrameReceived l pat fl body crc false) s (fun t =>
      t.fabLaneSt l = 3 ∧ (t.fabLane l).ready = s.bus.beats ∧ RegsSame s t [fabLaneReg l] ∧ t = { withRegsOf s t with fab := { s.fab with lanes := t.fab.lanes } }))
    ∧ (s.fabLaneSt l = 4 → (s.fabLane l).bad = [] → Does (.fabricFrameReceived l pat fl body crc false) s (fun t =>
      t.fabLaneSt l = 4 ∧ t.fld (fabLaneReg l) 23 16 = (body.extractLsb' 24 8).toNat ∧ t.fld (fabLaneReg l) 15 8 = (body.extractLsb' 32 8).toNat
      ∧ (t.fabLane l).rf = 0 ∧ (t.fabLane l).lastBad = false
      ∧ RegsSame s t [fabLaneReg l] ∧ t = { withRegsOf s t with fab := { s.fab with lanes := t.fab.lanes } }))
    ∧ (s.fabLaneSt l = 4 → (s.fabLane l).bad.length < s.fld 0xE00000C 23 16 → Does (.fabricFrameReceived l pat fl body crc true) s (fun t =>
      t.fabLaneSt l = 4 ∧ (t.fabLane l).lastBad = true ∧ t.flag fabStat 0 = true
      ∧ RegsSame s t [fabLaneReg l, fabStat] ∧ t = { withRegsOf s t with fab := { s.fab with lanes := t.fab.lanes }, pmu := t.pmu })))
  ∧ (∀ (l : Fin 128) (hdr : BitVec 128) (payload : List Byte) (s : State), s.fabLaneSt l = 4 → s.scrRunning .fab = true → (s.fabLane l).lastBad = false →
      bits hdr.toNat 127 126 = 1 → bits hdr.toNat 119 114 = s.fabMod →
      hdr.toNat % 2 ^ 32 = crcIeee (beBytes (hdr.toNat - hdr.toNat % 2 ^ 32) 16 ++ payload) →
      2 - Int.ofNat s.fabWin ≤ diff16 (bits hdr.toNat 113 98) s.beatN → diff16 (bits hdr.toNat 113 98) s.beatN ≤ 1 → s.fab.rx = [] →
    Does (.cellReceived l hdr payload) s (fun t =>
      t.fab.rx = [{ smod := bits hdr.toNat 125 120, stamp := bits hdr.toNat 113 98,
                    cells := [{ seq := bits hdr.toNat 97 87, last := bitOf hdr.toNat 86, bytes := payload.take (bits hdr.toNat 85 78 + 1) }] }]
      ∧ t = { s with fab := { s.fab with rx := t.fab.rx }, pmu := t.pmu }))
  ∧ (∀ (src : Fin 64) (s : State), s.scrRunning .fab = true →
    (∀ (e : BitVec 10) (on : Bool), Does (.request src e on) s (fun t => Tab.get false t.fab.srcOn (e.toNat * 64 + src) = on
      ∧ (∀ k, k ≠ e.toNat * 64 + src.val → Tab.get false t.fab.srcOn k = Tab.get false s.fab.srcOn k) ∧ Tab.get 0 t.fab.heard src = s.bus.beats + 1
      ∧ t = { s with fab := { s.fab with srcOn := t.fab.srcOn, heard := t.fab.heard } }))
    ∧ (∀ (e : BitVec 10) (units : BitVec 20), Does (.grant src e units) s (fun t =>
        Tab.get (0 : Int) t.fab.cb (src + e.toNat * 64)
          = min (Tab.get (0 : Int) s.fab.cb (src + e.toNat * 64) + Int.ofNat (64 * units.toNat)) (Int.ofNat (64 * max (s.fld 0xE000058 15 0) 1))
        ∧ (∀ k, k ≠ src.val + e.toNat * 64 → Tab.get (0 : Int) t.fab.cb k = Tab.get (0 : Int) s.fab.cb k) ∧ RegsSame s t [fabStat]
        ∧ t = { withRegsOf s t with fab := t.fab }))
    ∧ (∀ planes : Byte, s.flag fabCfg 7 = false → Does (.status src planes) s (fun t => t.fabReach src = planes.toNat &&& s.fabPlanes
        ∧ t.flag (fabReachReg src) 31 = true ∧ RegsSame s t [fabReachReg src] ∧ t = { withRegsOf s t with fab := { s.fab with heard := t.fab.heard } }))
    ∧ Does (.emptyMessage src 0) s (fun t => Tab.get 0 t.fab.heard src = s.bus.beats + 1 ∧ t = { s with fab := { s.fab with heard := t.fab.heard } })
    ∧ (∀ k : BitVec 4, 5 ≤ k.toNat → Does (.emptyMessage src k) s (fun t => t.flag fabStat 0 = true ∧ RegsSame s t [fabStat]
        ∧ t = { withRegsOf s t with fab := { s.fab with heard := t.fab.heard }, pmu := t.pmu })))
  ∧ (∀ (d : BitVec 16) (s : State), s.scrRunning .fab = true → Tab.get false s.fab.reqOn d.toNat = true → Tab.get 0 s.fab.reqAt d.toNat + 64 ≤ s.bus.beats →
      (Tab.get [] s.fab.ctl (d.toNat % 64)).length < 256 →
    Does (.requestRepeat d) s (fun t => Tab.get [] t.fab.ctl (d.toNat % 64)
        = Tab.get [] s.fab.ctl (d.toNat % 64) ++ [(s.bus.ticks, BitVec.ofNat 64 (2 ^ 60 + 2 ^ 59 + d.toNat / 64 % 1024 * 2 ^ 48))]
      ∧ Tab.get 0 t.fab.reqAt d.toNat = s.bus.beats ∧ t = { s with fab := { s.fab with ctl := t.fab.ctl, reqAt := t.fab.reqAt } }))
  ∧ (∀ s : State, s.scrRunning .fab = true → (∀ m : Fin 64, (Tab.get [] s.fab.ctl m).length < 256) → Does .statusRefresh s (fun t =>
    (∀ m : Fin 64, m.val ≠ s.fabMod → Tab.get [] t.fab.ctl m = Tab.get [] s.fab.ctl m ++ [(s.bus.ticks, BitVec.ofNat 64 (4 * 2 ^ 60 + s.fabPlanes))])
    ∧ Tab.get [] t.fab.ctl s.fabMod = Tab.get [] s.fab.ctl s.fabMod ∧ t = { s with fab := { s.fab with ctl := t.fab.ctl, statusAt := t.fab.statusAt } }))
  ∧ (∀ (m : Fin 64) (s : State), Tab.get 0 s.fab.heard m ≠ 0 → Tab.get 0 s.fab.heard m + s.fld 0xE00005C 15 0 ≤ s.bus.beats + 1 → Does (.statusTimeout m) s (fun t =>
    t.fabReach m = 0 ∧ t.flag fabStat 8 = true ∧ Tab.get 0 t.fab.heard m = 0 ∧ (∀ e ∈ t.fab.cb, e.1 % 64 ≠ m.val)
    ∧ RegsSame s t [fabReachReg m, fabStat] ∧ t = { withRegsOf s t with fab := t.fab }))

/-- A change of EN enters SYNCING or OFF; SYNC enters STANDBY; RELEASE of an ACTIVE module enters RELEASING and releases the claim; RELEASING_TIMEOUT
enters STANDBY after 50 ms or when the mate shows ACTIVE; a KICK restarts the timer and takes FAULTED to SYNCING; KICK_TIMEOUT enters FAULTED. A CLAIM
that R494 allows drives the claim and enters CLAIMING; CLAIM_HOLD_END enters ACTIVE after 10 us; MATE_SEEN_LOW makes a claiming SECONDARY withdraw for
1 ms; MATE_SEEN_HIGH restarts the hold; CLAIM_BACKOFF_END ends the wait. A heartbeat with a right CRC, or from the mate's module over the fabric,
shows the mate's state and health; HEARTBEAT_SEND sends one frame a millisecond; MATE_DECLARED_FAILED sets FAILED when both ages are beyond the limit.
FORCE_TAKE and WTR_EXPIRY set TAKE. A self-test frame is sent and noted, and one that does not return in 10 ms clears LOOP. -/
def Obligations.MatedPairStates : Prop :=
  (∀ (v : Word) (s : State),
    (s.mateOn = false → bitOf v.toNat 0 = true → Does (.mateEnable v) s (fun t => t.mateSt = 1 ∧ t.mateOn = true ∧ t.mate.kickAt = s.bus.ticks ∧ MateStep s t))
    ∧ (s.mateOn = true → bitOf v.toNat 0 = false → Does (.mateEnable v) s (fun t => t.mateSt = 0 ∧ t.mateOn = false ∧ t.flag mateStat 6 = false ∧ MateStep s t)))
  ∧ (∀ s : State, s.mateSt = 1 → Does .sync s (fun t => t.mateSt = 2 ∧ t.flag mateStat 6 = false ∧ MateStep s t))
  ∧ (∀ s : State, s.mateSt = 4 → Does .release s (fun t => t.mateSt = 5 ∧ t.flag mateStat 6 = false ∧ t.mate.relAt = s.bus.ticks ∧ MateStep s t))
  ∧ (∀ s : State, s.mateSt = 5 → s.mate.relAt + 75000000 ≤ s.bus.ticks ∨ s.mateShows % 8 = 4 → Does .releasingTimeout s (fun t => t.mateSt = 2 ∧ MateStep s t))
  ∧ (∀ s : State, Does (.mateKick .mss) s (fun t => t.mate.kickAt = s.bus.ticks ∧ t.mateSt = (if s.mateSt = 6 then 1 else s.mateSt) ∧ MateStep s t))
  ∧ (∀ s : State, s.mate.expired = false → s.mateSt ≠ 0 → s.mate.kickAt + s.kickClocks ≤ s.bus.ticks → Does .kickTimeout s (fun t =>
    t.mateSt = 6 ∧ t.mate.expired = true ∧ t.flag mateStat 6 = false ∧ MateStep s t))
  ∧ (∀ s : State, s.mayClaim = true → s.seenLow = false → Does .claim s (fun t => t.mateSt = 3 ∧ t.flag mateStat 6 = true ∧ t.mate.holdAt = some s.bus.ticks ∧ MateStep s t))
  ∧ (∀ (at' : Nat) (s : State), s.mate.holdAt = some at' → s.mateSt = 3 → s.seenLow = false → at' + 15000 ≤ s.bus.ticks → Does .claimHoldEnd s (fun t =>
    t.mateSt = 4 ∧ t.mate.holdAt = none ∧ t.mate.take = false ∧ MateStep s t))
  ∧ (∀ s : State, s.mateSt = 3 → s.secondary = true → Does .mateSeenLow s (fun t => t.seenLow = true ∧ t.mateSt = 2 ∧ t.flag mateStat 6 = false
    ∧ t.mate.backoff = s.bus.ticks + 1500000 ∧ MateStep s t))
  ∧ (∀ s : State, s.mateSt = 3 → s.mate.holdAt = none → Does .mateSeenHigh s (fun t => t.seenLow = false ∧ t.mate.holdAt = some s.bus.ticks ∧ t.mateSt = 3 ∧ MateStep s t))
  ∧ (∀ s : State, s.mate.backoff ≤ s.bus.ticks → Does .claimBackoffEnd s (fun t => t.mate.backoff = 0 ∧ t = { s with mate := { s.mate with backoff := 0 } }))
  ∧ (∀ (m : BitVec 64) (s : State), m.extractLsb' 60 4 = 3#4 → s.mateSt ≠ 4 → s.mateSt ≠ 5 → Does (.directHeartbeat (0xA5C3#16 ++ m ++ crc16 m)) s (fun t =>
    t.mateShows = (m.extractLsb' 8 8).toNat ∧ t.fld mateHealth 31 24 = (m.extractLsb' 0 8).toNat ∧ t.flag mateStat 4 = false
    ∧ t.mate.dirAt = some s.bus.ticks ∧ t.mateSt = s.mateSt ∧ MateStep s t))
  ∧ (∀ (src : Fin 64) (seq : BitVec 16) (ms hl : Byte) (s : State), s.scrRunning .fab = true → src.val = s.fld 0xE000050 5 0 → s.mateSt ≠ 4 → s.mateSt ≠ 5 →
    Does (.heartbeat src seq ms hl) s (fun t => t.mateShows = ms.toNat ∧ t.fld mateHealth 31 24 = hl.toNat ∧ t.fld 0xE000054 31 16 = seq.toNat
    ∧ t.fab.hbAt = some s.bus.ticks ∧ t.mateSt = s.mateSt ∧ RegsSame s t (0xE000054 :: mateRegs)))
  ∧ (∀ s : State, s.mate.lastMs ≠ some (s.tim.sec * 1000 + s.tim.ns / 1000000) → s.mateOn = true → s.mate.expired = false → s.mateBarred = false →
    Does .heartbeatSend s (fun t => t.mate.lastMs = some (s.tim.sec * 1000 + s.tim.ns / 1000000) ∧ t.fab.hbSeq = (s.fab.hbSeq + 1) % 65536
    ∧ (∃ m : BitVec 64, t.mate.sent = 0xA5C3#16 ++ m ++ crc16 m ∧ (m.extractLsb' 32 16).toNat = s.fab.hbSeq % 65536 ∧ (m.extractLsb' 0 8).toNat = s.fld mateHealth 7 0
        ∧ (m.extractLsb' 8 8).toNat = s.mstate) ∧ MateStep s t))
  ∧ (∀ s : State, s.mateOn = true → max (s.fld mateCfg 19 16) 1 < s.ageMs s.mate.dirAt → max (s.fld mateCfg 19 16) 1 < s.ageMs s.fab.hbAt → s.flag mateStat 4 = false →
    Does .mateDeclaredFailed s (fun t => t.flag mateStat 4 = true ∧ t.flag mateEvent 1 = true ∧ t.mateSt = s.mateSt ∧ MateStep s t))
  ∧ (∀ s : State, s.wtrRuns = true → Does .forceTake s (fun t => t.mate.take = true ∧ t.fld 0x300020 31 16 = 0 ∧ t.mateSt = s.mateSt ∧ MateStep s t))
  ∧ (∀ (e : Nat) (s : State), s.wtrRuns = true → s.mate.wtrAt = some e → e ≤ s.bus.ticks → Does .wtrExpiry s (fun t =>
    t.mate.take = true ∧ t.fld 0x300020 31 16 = 0 ∧ t.mateSt = s.mateSt ∧ MateStep s t))
  ∧ (∀ (frame : List Byte) (s : State), s.mateSt = 2 → s.mssMode = 1 → s.mate.testAt = none → Does (.selfTestFrame frame) s (fun t => t.mate.test = some frame
    ∧ t.mate.testAt = some s.bus.ticks ∧ (∃ r : XRec, t.cross.offer = s.cross.offer ++ [r] ∧ r.frame = frame ∧ r.queue = s.fld 0x300024 19 0 ∧ r.req = 17)
    ∧ t = { s with mate := t.mate, cross := t.cross }))
  ∧ (∀ (frame : List Byte) (at' : Nat) (s : State), s.mate.test = some frame → s.mate.testAt = some at' → at' + 15000000 ≤ s.bus.ticks → Does .selfTestTimeout s (fun t =>
    t.mate.test = none ∧ t.flag mateHealth 0 = false ∧ MateStep s t))

/-- DRAM_REQUEST of one aligned 64-byte burst inside the accessible regions, with its half and channel enabled, room in the queue and no burst waiting
before it, joins its pseudo-channel's queue, no open row changing; a read past the end of the regions answers with an error and no queue changes.
DRAM_QUEUE_ENTRY moves the burst that has waited longest into a queue with room. BURST_SERVICE of a read that no waiting write touches and no error
meets answers what the burst's half address shows, which stays as it was; of a full write it stores the data at the burst's place, and in the
descriptors, handles, slots, counter pairs or table words that lie there (R11, R292), and nowhere else; the burst leaves the queue. OPEN_ROW_TIMEOUT
closes a row kept open for OPEN_MAX clocks. DRAM_SCRUB_READ of a burst with a symbol in error counts it (as the clock ends, R8) and rewrites the burst
without it. -/
def Obligations.DramBurstsServed : Prop :=
  (∀ (tm : Bool) (agent : Fin 8) (addr : BitVec 37) (data : Option (List Byte)) (b : Burst) (s : State), addr.toNat % 64 = 0 →
      b = s.burstAt tm agent addr.toNat (data.map fun d => (d, 64)) →
    (addr.toNat < halfEnd tm → s.flag (hbmHalf tm 0) 31 = true → s.flag (hbmCh (b.pc / 2) 0) 0 = true → s.dramRoom b = true →
        (∀ e ∈ s.hbm.waiting, e.pc ≠ b.pc ∨ e.write ≠ b.write) →
      Does (.dramRequest tm agent addr 64 data) s (fun t =>
        Tab.get [] t.hbm.queue b.pc = Tab.get [] s.hbm.queue b.pc ++ [{ b with since := s.bus.ticks, id := s.hbm.next }] ∧ t.hbm.next = s.hbm.next + 1
        ∧ (∀ k, k ≠ b.pc → Tab.get [] t.hbm.queue k = Tab.get [] s.hbm.queue k)
        ∧ (∀ k i, (t.bankOf k i).row = (s.bankOf k i).row)
        ∧ t = { s with hbm := { s.hbm with queue := t.hbm.queue, next := t.hbm.next, chans := t.hbm.chans, banks := t.hbm.banks } }))
    ∧ (halfEnd tm ≤ addr.toNat → data = none → Does (.dramRequest tm agent addr 64 data) s (fun t =>
        t.hbm = { s.hbm with reply := some { agent := agent, addr := addr.toNat, data := 0, err := true } } ∧ t.flag (hbmHalf tm 8) 4 = true
        ∧ RegsSame s t (hbmHalf tm 8 :: reportRegs) ∧ t = { withReportOf s t with hbm := t.hbm })))
  ∧ (∀ (c : Fin 128) (p : Fin 2) (w : Bool) (b : Burst) (pre post : List Burst) (s : State), s.hbm.waiting = pre ++ b :: post → b.pc = c * 2 + p → b.write = w →
      (∀ e ∈ pre, e.pc ≠ b.pc ∨ e.write ≠ w) → s.flag (hbmHalf b.tm 0) 31 = true → s.flag (hbmCh c 0) 0 = true → s.dramRoom b = true →
    Does (.dramQueueEntry c p w) s (fun t => t.hbm.waiting = pre ++ post
      ∧ Tab.get [] t.hbm.queue b.pc = Tab.get [] s.hbm.queue b.pc ++ [{ b with since := s.bus.ticks, id := s.hbm.next }]
      ∧ (∀ k, k ≠ b.pc → Tab.get [] t.hbm.queue k = Tab.get [] s.hbm.queue k)
      ∧ (∀ k i, (t.bankOf k i).row = (s.bankOf k i).row)
      ∧ t = { s with hbm := { s.hbm with queue := t.hbm.queue, next := t.hbm.next, chans := t.hbm.chans, waiting := t.hbm.waiting, banks := t.hbm.banks } }))
  ∧ (∀ (c : Fin 128) (p : Fin 2) (b : Burst) (aged drain : Bool) (key : Nat) (s : State), s.dramPick (c * 2 + p) = (some (b, aged), drain) → b.pc = c * 2 + p →
      key = burstKey b.pc b.bank ((s.dramChan c).rowOf p b.bank b.row) b.col →
    (b.write = false → (∀ w ∈ Tab.get [] s.hbm.queue b.pc, w.write = true → w.addr ≠ b.addr) → Tab.get 0 s.hbm.flaw key = 0 →
      Does (.burstService c p 0) s (fun t => t.hbm.reply = some { agent := b.agent, addr := b.addr, data := s.dramLine b.tm b.addr (Tab.get 0 s.hbm.mem key), err := false }
        ∧ t.dramLine b.tm b.addr (Tab.get 0 t.hbm.mem key) = s.dramLine b.tm b.addr (Tab.get 0 s.hbm.mem key)
        ∧ (∀ k, k ≠ key → Tab.get 0 t.hbm.mem k = Tab.get 0 s.hbm.mem k) ∧ (∀ e ∈ Tab.get [] t.hbm.queue b.pc, e.id ≠ b.id)
        ∧ (∀ k, k ≠ b.pc → Tab.get [] t.hbm.queue k = Tab.get [] s.hbm.queue k) ∧ RegsSame s t [hbmHalf b.tm 8]
        ∧ t = { withRegsOf s t with hbm := t.hbm, pmu := t.pmu }))
    ∧ (b.write = true → b.mask = BitVec.allOnes 64 → s.flag 0x400090 30 = false →
      Does (.burstService c p 0) s (fun t => Tab.get 0 t.hbm.mem key = b.data ∧ (∀ k, k ≠ key → Tab.get 0 t.hbm.mem k = Tab.get 0 s.hbm.mem k)
        ∧ (∀ e ∈ Tab.get [] t.hbm.queue b.pc, e.id ≠ b.id) ∧ t.hbm.reply = s.hbm.reply ∧ RegsSame s t [hbmHalf b.tm 8]
        ∧ t.sq = (s.setDramLine b.tm b.addr b.data).sq ∧ t.tbl = (s.setDramLine b.tm b.addr b.data).tbl
        ∧ t = { withRegsOf s t with hbm := t.hbm, pmu := t.pmu, sq := t.sq, tbl := t.tbl })))
  ∧ (∀ (c : Fin 128) (p : Fin 2) (bank : Fin 16) (s : State), (s.bankOf (c * 2 + p) bank).kept = true →
      (s.bankOf (c * 2 + p) bank).keptAt + max (s.fld 0xF000040 15 4) 1 ≤ s.bus.ticks →
    Does (.openRowTimeout c p bank) s (fun t => t.bankOf (c * 2 + p) bank = { s.bankOf (c * 2 + p) bank with row := none, kept := false }
      ∧ t = { s with hbm := { s.hbm with banks := t.hbm.banks } }))
  ∧ (∀ (c : Fin 128) (p : Fin 2) (bank : Fin 16) (row : Fin 24576) (col : Fin 16) (key : Nat) (s : State), s.flag (hbmHalf (chanTm c) 0xC) 0 = true →
      key = burstKey (c * 2 + p) bank row col → Tab.get 0 s.hbm.flaw key = 1 →
    Does (.dramScrubRead c p bank row col 0) s (fun t => Tab.get 0 t.hbm.flaw key = 0 ∧ Tab.get 0 t.hbm.mem key = Tab.get 0 s.hbm.mem key
      ∧ Tab.get 0 t.bus.rcNow (hbmCh c 4) = Tab.get 0 s.bus.rcNow (hbmCh c 4) + 1 ∧ t.flag (hbmHalf (chanTm c) 8) 2 = true
      ∧ RegsSame s t (hbmHalf (chanTm c) 8 :: reportRegs)
      ∧ t = { withReportOf s t with hbm := { s.hbm with mem := t.hbm.mem, flaw := t.hbm.flaw } }))

/-- BANK_REFRESH of a bank that no burst waits for and that is not a full advance ahead refreshes it: its row is closed, it is busy for 240 clocks, and
one more refresh is counted. An idle TM channel of a parked stack begins its entry, enters self-refresh 23 clocks later, and leaves it once 23 clocks
of residence and 600 of exit have passed since a request woke it, with its exit and its wake time counted as the clock ends. A temperature below the
limits is shown and parks nothing; at or above HI it parks the stack. A REMAP_DATA_WRITE of a valid row and a free spare makes the entry, one without
VALID removes it; REMAP_COPY_COMPLETE has copied the row's 16 bursts. A helper starts while none runs and ends with its results; a write leaves its
pattern. -/
def Obligations.DramRefreshAndRepair : Prop :=
  (∀ (c : Fin 128) (p : Fin 2) (bank : Fin 16) (s : State), (s.dramChan c).asleep = false → (∀ b ∈ Tab.get [] s.hbm.queue (c * 2 + p), b.bank ≠ bank.val) →
      -(Int.ofNat s.postpone) < s.refDebt c (c * 2 + p) bank →
    Does (.bankRefresh c p bank) s (fun t =>
      t.bankOf (c * 2 + p) bank
        = { s.bankOf (c * 2 + p) bank with row := none, kept := false, busy := s.bus.ticks + 240, refs := (s.bankOf (c * 2 + p) bank).refs + 1 }
      ∧ (∀ k b : Nat, k * 16 + b ≠ (c.val * 2 + p.val) * 16 + bank.val → t.bankOf k b = s.bankOf k b) ∧ t = { s with hbm := { s.hbm with banks := t.hbm.banks } }))
  ∧ (∀ (c : Fin 128) (s : State),
    (chanTm c = true → s.stackParked (c / 32) = true → (s.dramChan c).park = .awake → s.chanIdle c = true → (s.dramChan c).last + s.idleClocks (c / 32) ≤ s.bus.ticks →
      Does (.selfRefreshEntry c) s (fun t => (t.dramChan c).park = .entering s.bus.ticks ∧ (∀ p : Fin 2, ∀ b : Fin 16, (t.bankOf (c * 2 + p) b).row = none)
        ∧ t = { s with hbm := { s.hbm with banks := t.hbm.banks, chans := t.hbm.chans } }))
    ∧ (∀ k, (s.dramChan c).park = .entering k → k + 23 ≤ s.bus.ticks → Does (.selfRefreshEntryCommand c) s (fun t =>
        (t.dramChan c).park = .asleep s.bus.ticks none ∧ t = { s with hbm := { s.hbm with chans := t.hbm.chans }, pmu := t.pmu }))
    ∧ (∀ k w, (s.dramChan c).park = .asleep k (some w) → max (k + 23) w + 600 ≤ s.bus.ticks → Does (.selfRefreshExitComplete c) s (fun t =>
        (t.dramChan c).park = .awake ∧ Tab.get 0 t.bus.rcNow (hbmStk (c / 32) 0xC) = Tab.get 0 s.bus.rcNow (hbmStk (c / 32) 0xC) + 1
        ∧ Tab.get 0 t.bus.rcNow (hbmStk (c / 32) 8) = Tab.get 0 s.bus.rcNow (hbmStk (c / 32) 8) + (max (k + 23) w + 600 - w)
        ∧ t = { s with bus := { s.bus with rcNow := t.bus.rcNow }, hbm := { s.hbm with banks := t.hbm.banks, chans := t.hbm.chans }, pmu := t.pmu })))
  ∧ (∀ (k : Fin 4) (temp : Byte) (s : State), s.flag (hbmStk k 4) 3 = false →
    (temp.toNat < s.fld (hbmStk k 0) 15 8 → Does (.stackTemperatureSample k temp) s (fun t => t.fld (hbmStk k 4) 31 24 = temp.toNat ∧ t.flag (hbmStk k 4) 3 = false
      ∧ RegsSame s t [hbmStk k 4] ∧ t = { withRegsOf s t with hbm := { s.hbm with refAcc := t.hbm.refAcc, refAt := t.hbm.refAt } }))
    ∧ (s.fld (hbmStk k 0) 15 8 ≤ temp.toNat → Does (.stackTemperatureSample k temp) s (fun t => t.fld (hbmStk k 4) 31 24 = temp.toNat ∧ t.flag (hbmStk k 4) 3 = true
      ∧ t.flag (hbmStk k 4) 4 = true ∧ RegsSame s t [hbmStk k 4, 0x400000] ∧ t.hbm.mem = s.hbm.mem ∧ t.hbm.queue = s.hbm.queue
      ∧ t = { withRegsOf s t with hbm := t.hbm, err := t.err })))
  ∧ (∀ (c : Fin 128) (v : Word) (i : Nat) (s : State), i = s.fld (hbmCh c 0x10) 5 0 →
    (bitOf v.toNat 31 = true → bits v.toNat 25 11 < 24448 →
        (∀ e r, e ∈ (s.dramChan c).remap → e.1 ≠ i → e.2 = some r → r.pc = bits v.toNat 30 30 → r.bank = bits v.toNat 29 26 → r.spare ≠ bits v.toNat 6 0) →
      Does (.remapDataWrite c v) s (fun t => (∃ r : Remap, Tab.get none (t.dramChan c).remap i = some r ∧ r.pc = bits v.toNat 30 30 ∧ r.bank = bits v.toNat 29 26
          ∧ r.row = bits v.toNat 25 11 ∧ r.spare = bits v.toNat 6 0 ∧ r.from? = some ((s.dramChan c).rowOf r.pc r.bank r.row))
        ∧ (∀ j, j ≠ i → Tab.get none (t.dramChan c).remap j = Tab.get none (s.dramChan c).remap j) ∧ t.hbm.mem = s.hbm.mem ∧ t.line = s.line ∧ t.pending = s.pending))
    ∧ (bitOf v.toNat 31 = false → Does (.remapDataWrite c v) s (fun t => Tab.get none (t.dramChan c).remap i = none
        ∧ (∀ j, j ≠ i → Tab.get none (t.dramChan c).remap j = Tab.get none (s.dramChan c).remap j)
        ∧ t = { s with hbm := { s.hbm with chans := t.hbm.chans }, boot := { s.boot with repairs := t.boot.repairs } })))
  ∧ (∀ (c : Fin 128) (e : Fin 64) (r : Remap) (src : Nat) (s : State), Tab.get none (s.dramChan c).remap e = some r → r.from? = some src →
    Does (.remapCopyComplete c e []) s (fun t => Tab.get none (t.dramChan c).remap e = some { r with from? := none }
      ∧ (∀ j : Fin 16, Tab.get 0 t.hbm.mem (burstKey (c * 2 + r.pc) r.bank (24448 + r.spare) j) = Tab.get 0 s.hbm.mem (burstKey (c * 2 + r.pc) r.bank src j))
      ∧ t.hbm.queue = s.hbm.queue ∧ t.line = s.line ∧ t.pending = s.pending))
  ∧ (∀ (c : Fin 128) (pc : Fin 2) (pat : BitVec 4) (s : State), s.flag (hbmCh c 0x20) 31 = false →
    Does (.writeThenCompare c pc pat) s (fun t => HelperRuns s t c pc pat 1) ∧ Does (.compareOnly c pc pat) s (fun t => HelperRuns s t c pc pat 2)
    ∧ Does (.writeOnly c pc pat) s (fun t => HelperRuns s t c pc pat 3))
  ∧ (∀ (c : Fin 128) (lm : Word) (sp : BitVec 6) (ec : Word) (s : State), s.flag (hbmCh c 0x20) 31 = true → Does (.trainingHelperComplete c lm sp ec) s (fun t =>
      t.flag (hbmCh c 0x20) 31 = false ∧ (t.dramChan c).helper = 0
      ∧ ((s.dramChan c).helper ≠ 3 → t.reg (hbmCh c 0x30) = lm.toNat ∧ t.reg (hbmCh c 0x34) = sp.toNat ∧ t.reg (hbmCh c 0x38) = ec.toNat)
      ∧ ((s.dramChan c).helper ≠ 2 → (Tab.get none t.hbm.train (c * 2 + b2n (s.flag (hbmCh c 0x20) 8))).isSome = true)
      ∧ ((s.dramChan c).helper = 2 → t.hbm.train = s.hbm.train)
      ∧ RegsSame s t [hbmCh c 0x20, hbmCh c 0x30, hbmCh c 0x34, hbmCh c 0x38]
      ∧ t = { withRegsOf s t with hbm := { s.hbm with chans := t.hbm.chans, train := t.hbm.train } }))

/-- PERST_N_ASSERT, HOT_RESET and FUNCTION_LEVEL_RESET put every ring, the source map, the vectors and the mailboxes at reset, forget the commands taken
and tell firmware; PERST_N also takes the link down, and a Function Level Reset leaves it. D3HOT_ENTRY, D0_RETURN and BUS_MASTER_ENABLE_CLEAR change
their bit of the link's status. PERST_N_RELEASE lets PCIE_LINK_UP, out of reset and with its reference clock good, set link, speed, width and Bus
Master Enable. A HOST_READ_TIMEOUT completes the read with an abort, is counted as the clock ends (R8) and reported. No unit of the data plane
changes. -/
def Obligations.HostResetsAndPower : Prop :=
  (∀ s : State, Does .perstNAssert s (fun t => t.hif.perst = true ∧ t.flag pcieStat 11 = false ∧ t.flag pcieStat 8 = false ∧ HostSideReset s t 1))
  ∧ (∀ s : State, Does .perstNRelease s (fun t => t = { s with hif := { s.hif with perst := false } }))
  ∧ (∀ (down : Bool) (s : State), Does (.hotReset down) s (fun t => t.flag pcieStat 8 = false ∧ t.flag pcieStat 11 = (s.flag pcieStat 11 && !down) ∧ HostSideReset s t 2))
  ∧ (∀ s : State, Does .functionLevelReset s (fun t => t.flag pcieStat 8 = false ∧ t.flag pcieStat 10 = false ∧ t.flag pcieStat 11 = s.flag pcieStat 11 ∧ t.flag hifStat 2 = true
    ∧ HostSideReset s t 3))
  ∧ (∀ s : State, Does .d3hotEntry s (fun t => t.flag pcieStat 10 = true ∧ t.mss.told = s.mss.told ++ [4] ∧ RegsSame s t [pcieStat]
    ∧ t = { withRegsOf s t with mss := { s.mss with told := t.mss.told } }))
  ∧ (∀ s : State, Does .d0Return s (fun t => t.flag pcieStat 10 = false ∧ RegsSame s t [pcieStat] ∧ t = { withRegsOf s t with hif := { s.hif with msix := t.hif.msix } }))
  ∧ (∀ s : State, Does .busMasterEnableClear s (fun t => t.flag pcieStat 8 = false ∧ t.busMaster = false ∧ RegsSame s t [pcieStat] ∧ t = withRegsOf s t))
  ∧ (∀ (speed width : Fin 16) (bme : Bool) (s : State), s.hif.perst = false → s.boot.inReset = false → RefClock.pcieRef ∉ s.elec.clkBad →
    Does (.pcieLinkUp speed width bme) s (fun t => t.flag pcieStat 11 = true ∧ t.flag pcieStat 8 = bme ∧ t.fld pcieStat 3 0 = speed ∧ t.fld pcieStat 7 4 = width
      ∧ RegsSame s t [pcieStat] ∧ t = { withRegsOf s t with hif := { s.hif with msix := t.hif.msix } }))
  ∧ (∀ (a : BitVec 28) (s : State), Does (.hostReadTimeout a) s (fun t =>
    t.bus.cpl = some { req := .host, addr := a.toNat, data := 0, status := .completerAbort } ∧ Tab.get 0 t.bus.rcNow 0x400048 = Tab.get 0 s.bus.rcNow 0x400048 + 1
    ∧ RegsSame s t reportRegs ∧ t = { s with bus := { s.bus with regs := t.bus.regs, rcNow := t.bus.rcNow, cpl := t.bus.cpl }, err := t.err }))

/-- RING_ENABLE of a disabled ring empties it, with its indexes 0; RING_DISABLE clears EN and keeps the size; DESCRIPTOR_FETCH keeps the next posted
descriptor. PUNT_WRITE of a punt to a good host buffer, the writer being free, writes its data, then W1 and W2, then W3 of the descriptor, and moves
HEAD; The writer is then busy for 3/50 of a clock a byte. INJECT_READ of a good descriptor within the budget offers a record of requester 16 with the
script and the frame read. MODERATION_TIMER, TIME_US after a ring's write-backs came, finds the ring's condition met; VECTOR_EOI, with no cause
active, clears PEND; MSIX_UNMASK sends the message that waited. MAILBOX_POST by the sender fills an empty mailbox; POP by the receiver, no WITHDRAW or
post of the same clock being before it, empties it and sets POPPED; WITHDRAW by the sender, no POP of the same clock being before it, empties it. -/
def Obligations.RingsInterruptsAndMailboxes : Prop :=
  (∀ (inj : Bool) (r : Fin 64) (v : Word) (s : State),
    (s.flag (ringReg inj r 8) 31 = false → bitOf v.toNat 31 = true → s.flag pcieStat 9 = false → Does (.ringEnable inj r v) s (fun t => t.ring inj r = {}
      ∧ t.reg (ringReg inj r 8) = v.toNat &&& 0xC01F0000 ∧ t.reg (ringReg inj r 0xC) = 0 ∧ t.reg (ringReg inj r 0x10) = 0 ∧ t.reg (ringReg inj r 0x14) = 0
      ∧ t.flag (ringReg inj r 0x1C) 4 = false
      ∧ RegsSame s t [ringReg inj r 8, ringReg inj r 0xC, ringReg inj r 0x10, ringReg inj r 0x14, ringReg inj r 0x1C, 0x500000]
      ∧ t = { withRegsOf s t with hif := t.hif, pmu := t.pmu }))
    ∧ (s.flag (ringReg inj r 8) 31 = true → bitOf v.toNat 31 = false → Does (.ringDisable inj r v) s (fun t => t.flag (ringReg inj r 8) 31 = false
      ∧ t.flag (ringReg inj r 8) 30 = bitOf v.toNat 30 ∧ t.fld (ringReg inj r 8) 20 16 = s.fld (ringReg inj r 8) 20 16
      ∧ RegsSame s t [ringReg inj r 8, ringReg inj r 0x1C] ∧ t = { withRegsOf s t with hif := t.hif })))
  ∧ (∀ (inj : Bool) (r : Fin 64) (w0 w1 w2 w3 : Dword) (s : State), s.flag (ringReg inj r 8) 31 = true → s.ringHalted inj r = false → s.ringDma inj r = true →
      (inj = true → (s.ring inj r).fetched.length < 32) → (s.ring inj r).fetched.length + (if inj then (s.ring inj r).prog.length else 0) < s.ringPosted inj r →
    Does (.descriptorFetch inj r true w0 w1 w2 w3) s (fun t =>
      t.ring inj r = { s.ring inj r with fetched := (s.ring inj r).fetched ++ [{ w0 := w0, w1 := w1, w2 := w2, w3 := w3 }] }
      ∧ t = { s with hif := t.hif, pmu := t.pmu }))
  ∧ (∀ (r : Nat) (u : State) (p : Punt) (ps : List Punt) (d : RingDesc) (ds : List RingDesc) (s : State),
      s.ringTurn false (fun r => s.ringDma false r && !s.ringHalted false r && (s.ring false r).punts != [] && (s.ring false r).fetched != []) = some (r, u) →
      (s.ring false r).punts = p :: ps → (s.ring false r).fetched = d :: ds → s.fwRing r = false → d.puntOk = true → s.hif.puntBusy ≤ s.bus.ticks * 50 →
    Does .puntWrite s (fun t => (t.ring false r).punts = ps ∧ (t.ring false r).fetched = ds
      ∧ t.hif.dma = s.hif.dma ++ [{ mss := false, addr := d.w0.toNat, bytes := (p.script ++ p.frame).take (d.w1.toNat % 65536) },
          { mss := false, addr := s.headAddr false r + 8,
            bytes := leBytes (puntWords d p true (decide (d.w1.toNat % 65536 < (p.script ++ p.frame).length))).1 8
              ++ leBytes (puntWords d p true (decide (d.w1.toNat % 65536 < (p.script ++ p.frame).length))).2.1 8 },
          { mss := false, addr := s.headAddr false r + 24,
            bytes := leBytes (puntWords d p true (decide (d.w1.toNat % 65536 < (p.script ++ p.frame).length))).2.2 8 }]
      ∧ t.hif.puntBusy = s.bus.ticks * 50 + 3 * min (p.script.length + p.frame.length) (d.w1.toNat % 65536)
      ∧ t.reg (ringReg false r 0x10) = (s.ringIdx false r 0x10 + 1) % s.ringSize false r
      ∧ RegsSame s t [ringReg false r 0x10, ringReg false r 0x1C, 0x500000] ∧ t = { withRegsOf s t with hif := t.hif, pmu := t.pmu }))
  ∧ (∀ (r n : Nat) (u : State) (d : RingDesc) (ds : List RingDesc) (bytes : List Byte) (s : State),
      s.ringTurn true (fun r => s.busMaster && !s.ringHalted true r && (s.ring true r).fetched != []) = some (r, u) → (s.ring true r).fetched = d :: ds →
      d.injectBad = none → n = 8 * bits d.w1.toNat 17 14 + bits d.w1.toNat 13 0 → 3 * n ≤ s.hif.budget →
    Does (.injectRead true bytes) s (fun t => (t.ring true r).fetched = ds ∧ t.hif.budget = s.hif.budget - 3 * n
      ∧ (∃ x : XRec, t.cross.offer = s.cross.offer ++ [x] ∧ x.req = 16 ∧ x.queue = bits d.w1.toNat 37 18 ∧ x.dest = bits d.w1.toNat 53 38
          ∧ x.colour = bits d.w1.toNat 55 54 ∧ x.script = sliceAt bytes 0 (8 * bits d.w1.toNat 17 14)
          ∧ x.frame = sliceAt (bytes.drop (8 * bits d.w1.toNat 17 14)) 0 (bits d.w1.toNat 13 0))
      ∧ t = { s with hif := t.hif, cross := { s.cross with offer := t.cross.offer } }))
  ∧ (∀ (inj : Bool) (r : Fin 64) (c : Nat) (s : State), (s.ring inj r).rose = some c → s.fld (ringReg inj r 0x18) 31 16 ≠ 0 → 1 ≤ s.ringUnread inj r →
      c + s.fld (ringReg inj r 0x18) 31 16 * 1500 ≤ s.bus.ticks →
    Does (.moderationTimer inj r) s (fun t => t.timePassed inj r = true ∧ t.moderated inj r = true ∧ RegsSame s t [] ∧ t = { withRegsOf s t with hif := t.hif }))
  ∧ (∀ (v : Fin 64) (s : State), (∀ n, s.srcActive n = false) →
    Does (.vectorEoi v) s (fun t => t.flag (pendReg v) (v.val % 32) = false ∧ RegsSame s t [] ∧ t = { withRegsOf s t with hif := { s.hif with intN := false } })
    ∧ (s.flag (pbaReg v) (v.val % 32) = true → s.busMaster = true → Does (.msixUnmask v) s (fun t => t.flag (vecCtrl v) 0 = false
      ∧ t.flag (pbaReg v) (v.val % 32) = false ∧ Tab.get 0 t.hif.msix v = Tab.get 0 s.hif.msix v + 1 ∧ RegsSame s t [vecCtrl v]
      ∧ t = { withRegsOf s t with hif := { s.hif with msix := t.hif.msix, intN := false } })))
  ∧ (∀ (r : Requester) (m : Fin 32) (tag : Word) (s : State),
    (mbxSender r m = true → s.flag (mbx m 0xC) 0 = false → Does (.mailboxPost r m tag) s (fun t => t.flag (mbx m 0xC) 0 = true ∧ t.reg (mbx m 0x10) = s.reg (mbx m 0)
      ∧ t.reg (mbx m 0x14) = s.reg (mbx m 4) ∧ t.reg (mbx m 0x18) = tag.toNat ∧ RegsSame s t [mbx m 0xC, mbx m 0x10, mbx m 0x14, mbx m 0x18]
      ∧ t = { withRegsOf s t with hif := t.hif }))
    ∧ (mbxSender r m = false → s.flag (mbx m 0xC) 0 = true → (s.mbxNow m).withdrawn = false → (s.mbxNow m).again = none → Does (.pop r m) s (fun t => t.flag (mbx m 0xC) 0 = false ∧ t.flag (mbx m 0xC) 4 = true
      ∧ t.reg (mbx m 0x10) = 0 ∧ t.reg (mbx m 0x14) = 0 ∧ t.reg (mbx m 0x18) = 0 ∧ RegsSame s t [mbx m 0xC, mbx m 0x10, mbx m 0x14, mbx m 0x18]
      ∧ t = { withRegsOf s t with hif := t.hif }))
    ∧ (mbxSender r m = true → s.flag (mbx m 0xC) 0 = true → (s.mbxNow m).popped = false → Does (.withdraw r m) s (fun t => t.flag (mbx m 0xC) 0 = false
      ∧ t.reg (mbx m 0x10) = 0 ∧ t.reg (mbx m 0x14) = 0 ∧ t.reg (mbx m 0x18) = 0 ∧ RegsSame s t [mbx m 0xC, mbx m 0x10, mbx m 0x14, mbx m 0x18]
      ∧ t = { withRegsOf s t with hif := { s.hif with mbxNow := t.hif.mbxNow } })))

/-- COMMAND_TAKE takes the next full command mailbox in rotation: the mailbox empties with POPPED, and the command is kept with what its header says.
ANSWER_POST writes the answer bytes at the command's pointer + 32 and STATUS and length at + 8, and fills the answer mailbox with the pointer and the
tag. GET_INFO, ECHO, ROUTE_STAT, SENSOR_READ, LOG_READ, ID_READ, TAG_READ, KEY_LIST and EVPN_READ answer what R412 lists; a ROUTE_DELTA of one new
IPv4 prefix queues its publication; SENSOR_THR, TAG_WRITE, KEY_ENROL of the first key, KEY_REVOKE and SUP_SEND act as R412 to R427 say. SHADOW_COMPARE
puts a word that differs from its shadow in line to be rewritten from it. SENSOR_SAMPLE keeps each value, its maximum and its alarm. -/
def Obligations.MailboxCommandsTakenAndExecuted : Prop :=
  (∀ (c0 c3 : Dword) (payload : List Byte) (m : Nat) (s : State), s.mssMode ≠ 0 →
      (rotOrder (s.mss.turn + 1) 16).find? (fun m => s.flag (mbx m 0xC) 0) = some m → (s.reg (mbx m 0x10) + s.reg (mbx m 0x14) * 2 ^ 32) % 64 = 0 →
      (s.mbxNow m).withdrawn = false → (s.mbxNow m).again = none →
    Does (.commandTake true c0 c3 payload) s (fun t =>
      t.mss = { s.mss with turn := m, taken := s.mss.taken ++ [{ mb := m, ptr := s.reg (mbx m 0x10) + s.reg (mbx m 0x14) * 2 ^ 32, tag := s.reg (mbx m 0x18), op := bits c0.toNat 15 0, len := bits c0.toNat 63 32, cap := bits c3.toNat 31 0, payload := sliceAt payload 0 (min (bits c0.toNat 63 32) payload.length), dead := false, ans := (s.headStatus c0.toNat).map fun st => (st, []) }] }
      ∧ t.flag (mbx m 0xC) 0 = false ∧ t.flag (mbx m 0xC) 4 = true
      ∧ RegsSame s t ([mbx m 0xC, mbx m 0x10, mbx m 0x14, mbx m 0x18] ++ injectionRegs)
      ∧ t = { withRegsOf s t with mss := t.mss, hif := t.hif, pmu := t.pmu }))
  ∧ (∀ (m : Fin 16) (i st : Nat) (c : MssCmd) (bs : List Byte) (s : State), findIdx? (fun (c : MssCmd) => c.mb == m.val) s.mss.taken = some i →
      s.mss.taken[i]? = some c → c.ans = some (st, bs) → c.dead = false → s.mssMode ≠ 0 → s.flag (mbx (16 + m) 0xC) 0 = false → s.busMaster = true →
    Does (.answerPost m true) s (fun t => t.mss = { s.mss with taken := dropAt s.mss.taken i }
      ∧ t.hif.dma = s.hif.dma ++ (if bs = [] then [] else [{ mss := false, addr := c.ptr + 32, bytes := bs }])
          ++ [{ mss := false, addr := c.ptr + 8, bytes := leBytes (st + bs.length * 2 ^ 32) 8 }]
      ∧ t.flag (mbx (16 + m) 0xC) 0 = true ∧ t.reg (mbx (16 + m) 0x10) = c.ptr % 2 ^ 32 ∧ t.reg (mbx (16 + m) 0x14) = c.ptr / 2 ^ 32 % 2 ^ 32
      ∧ t.reg (mbx (16 + m) 0x18) = c.tag % 2 ^ 32
      ∧ RegsSame s t [mbx (16 + m) 0xC, mbx (16 + m) 0x10, mbx (16 + m) 0x14, mbx (16 + m) 0x18]
      ∧ t = { withRegsOf s t with mss := t.mss, hif := t.hif, pmu := t.pmu }))
  ∧ (∀ s : State, s.mssMode ≠ 3 → (∀ j cmd, NextIs 0x01 s [] (leBytes (s.reg64 0x801010) 8 ++ leBytes (s.fld 0x701000 31 16 + (s.mssMode - 1) * 2 ^ 16) 8 ++ leBytes (s.reg 0x800004) 8).length j cmd → Does .getInfo s (fun t => Kept s t j cmd 0 (leBytes (s.reg64 0x801010) 8 ++ leBytes (s.fld 0x701000 31 16 + (s.mssMode - 1) * 2 ^ 16) 8 ++ leBytes (s.reg 0x800004) 8) ∧ ButForAnswer s t)))
  ∧ (∀ (p : List Byte) (s : State), (∀ j cmd, NextIs 0x02 s p p.length j cmd → Does .echo s (fun t => Kept s t j cmd 0 p ∧ ButForAnswer s t)))
  ∧ (∀ (p : List Byte) (base : List Prefix) (s : State), p.length = 96 → word64 p 0 = 0x5244 + 2 ^ 16 + 2 ^ 32 → s.tbl.lastSeq < word64 p 1 →
      bits (word64 p 4) 2 0 = 0 → bitOf (word64 p 4) 23 = false → bits (word64 p 4) 10 3 ≤ 32 → word64 p 5 < 2 ^ 32 →
      word64 p 5 % 2 ^ (32 - bits (word64 p 4) 10 3) = 0 → word64 p 6 = 0 → base = ((s.tbl.pubs.filterMap (·.v4)).getLast?).getD s.tbl.fib4.cur →
      (∀ x ∈ base, ¬ (x.vrf = bits (word64 p 4) 22 11 ∧ x.plen = bits (word64 p 4) 10 3 ∧ x.addr = word64 p 5)) → base.length < s.fibRoom false →
    (∀ j cmd, NextIs 0x10 s p (leBytes 0 8 ++ leBytes 0 8 ++ leBytes (s.pubBeat none true false) 8 ++ leBytes 0 8).length j cmd → Does .routeDelta s (fun t => Kept s t j cmd 0 (leBytes 0 8 ++ leBytes 0 8 ++ leBytes (s.pubBeat none true false) 8 ++ leBytes 0 8) ∧ ButForAnswer { s with tbl := { s.tbl with lastSeq := word64 p 1, lastPub := s.pubBeat none true false, pubs := s.tbl.pubs ++ [{ beat := s.pubBeat none true false, v4 := some ({ vrf := bits (word64 p 4) 22 11, plen := bits (word64 p 4) 10 3, addr := word64 p 5, result := bits (word64 p 4) 42 24, ecmp := false } :: base), v6 := none }] } } t)))
  ∧ (∀ s : State, (∀ j cmd, NextIs 0x11 s [] (leBytes s.tbl.lastSeq 8 ++ leBytes s.tbl.lastPub 8 ++ leBytes (fibCounts false s.tbl.fib4.cur) 8 ++ leBytes (fibCounts true s.tbl.fib6.cur) 8).length j cmd → Does .routeStat s (fun t => Kept s t j cmd 0 (leBytes s.tbl.lastSeq 8 ++ leBytes s.tbl.lastPub 8 ++ leBytes (fibCounts false s.tbl.fib4.cur) 8 ++ leBytes (fibCounts true s.tbl.fib6.cur) 8) ∧ ButForAnswer s t)))
  ∧ (∀ (word : BitVec 28) (found : BitVec 512) (n : Nat) (s : State), s.wordTable word.toNat = some n → s.tdBridged n = false → s.mssMode = 1 →
      found ≠ s.shadowWord word.toNat →
    Does (.shadowCompare word found) s (fun t => t.flag 0x5000004 4 = true
      ∧ t.tbl.rewrite = (if word.toNat ∈ s.tbl.rewrite then s.tbl.rewrite else s.tbl.rewrite ++ [word.toNat])
      ∧ RegsSame s t (0x5000004 :: reportRegs ++ logRegs)
      ∧ t = { withReportOf s t with tbl := { s.tbl with rewrite := t.tbl.rewrite }, mss := withLogs s.mss t, boot := { s.boot with flashLog := t.boot.flashLog } }))
  ∧ (∀ (vs : List Word) (s : State), vs.length = 134 → Does (.sensorSample vs) s (fun t =>
      (∀ n, n < 134 → (t.sensor n).value = (vs.getD n 0).toInt
        ∧ (t.sensor n).max = some (match (s.sensor n).max with | some m => max m (vs.getD n 0).toInt | none => (vs.getD n 0).toInt)
        ∧ (t.sensor n).warn = (s.sensor n).warn ∧ (t.sensor n).crit = (s.sensor n).crit
        ∧ (0 ≤ (s.sensorThr n).1 → (s.sensorThr n).1 ≤ (s.sensorThr n).2 → (s.sensor n).alarm ≤ 2 →
            ((s.sensorThr n).2 ≤ s.sensorLevel n (vs.getD n 0).toInt * 100 → (t.sensor n).alarm = 2)
            ∧ ((s.sensorThr n).1 ≤ s.sensorLevel n (vs.getD n 0).toInt * 100 → s.sensorLevel n (vs.getD n 0).toInt * 100 < (s.sensorThr n).2 →
                (s.sensor n).alarm ≤ 1 → (t.sensor n).alarm = 1)
            ∧ (s.sensorLevel n (vs.getD n 0).toInt * 100 < (s.sensorThr n).1 → (s.sensor n).alarm = 0 → (t.sensor n).alarm = 0)))
      ∧ (∀ n, 134 ≤ n → t.sensor n = s.sensor n)
      ∧ RegsSame s t (reportRegs ++ logRegs ++ [0x900004, 0x701004, 0x4000A4])
      ∧ t = { withReportOf s t with mss := { withLogs s.mss t with sensor := t.mss.sensor }, boot := { s.boot with flashLog := t.boot.flashLog }, hif := t.hif }))
  ∧ (∀ (p : List Byte) (s : State), p.length = 8 → 1 ≤ bits (word64 p 0) 15 8 → bits (word64 p 0) 7 0 + bits (word64 p 0) 15 8 ≤ 134 →
    (∀ j cmd, NextIs 0x80 s p ((List.range (bits (word64 p 0) 15 8)).flatMap fun i =>
      leBytes ((BitVec.ofInt 32 (s.sensor (bits (word64 p 0) 7 0 + i)).value).toNat + (Config.sensorKind (bits (word64 p 0) 7 0 + i)).toNat * 2 ^ 32
        + (s.sensor (bits (word64 p 0) 7 0 + i)).alarm * 2 ^ 36 + (BitVec.ofInt 24 ((s.sensor (bits (word64 p 0) 7 0 + i)).max.getD 0)).toNat * 2 ^ 40) 8).length j cmd → Does .sensorRead s (fun t => Kept s t j cmd 0 ((List.range (bits (word64 p 0) 15 8)).flatMap fun i =>
      leBytes ((BitVec.ofInt 32 (s.sensor (bits (word64 p 0) 7 0 + i)).value).toNat + (Config.sensorKind (bits (word64 p 0) 7 0 + i)).toNat * 2 ^ 32
        + (s.sensor (bits (word64 p 0) 7 0 + i)).alarm * 2 ^ 36 + (BitVec.ofInt 24 ((s.sensor (bits (word64 p 0) 7 0 + i)).max.getD 0)).toNat * 2 ^ 40) 8) ∧ ButForAnswer s t)))
  ∧ (∀ (p : List Byte) (n : Nat) (warn crit : Int) (s : State), p.length = 8 → n = bits (word64 p 0) 7 0 → n < 134 →
      warn = (if n < 64 then min (signed16 (bits (word64 p 0) 31 16)) 1600 else signed16 (bits (word64 p 0) 31 16)) →
      crit = (if n < 64 then min (signed16 (bits (word64 p 0) 47 32)) 1680 else signed16 (bits (word64 p 0) 47 32)) → warn < crit →
    (∀ j cmd, NextIs 0x81 s p 0 j cmd → Does .sensorThr s (fun t => Kept s t j cmd 0 [] ∧ ButForAnswer { s with mss := { s.mss with sensor := Tab.set {} s.mss.sensor n { Tab.get {} s.mss.sensor n with warn := some warn, crit := some crit } } } t)))
  ∧ (∀ (p : List Byte) (s : State), p.length = 8 → 1 ≤ bits (word64 p 0) 47 32 → bits (word64 p 0) 47 32 ≤ 2048 → bits (word64 p 0) 49 48 = 0 →
    (∀ j cmd, NextIs 0x90 s p (leBytes (((s.mss.ring.filter fun r => decide (0 ≤ aheadBy (leNat (r.take 4)) (bits (word64 p 0) 31 0))).take (bits (word64 p 0) 47 32)).length
          + b2n ((s.mss.ring.head?.map fun r => decide (0 < aheadBy (leNat (r.take 4)) (bits (word64 p 0) 31 0))).getD false) * 2 ^ 16) 8
        ++ ((s.mss.ring.filter fun r => decide (0 ≤ aheadBy (leNat (r.take 4)) (bits (word64 p 0) 31 0))).take (bits (word64 p 0) 47 32)).flatMap id).length j cmd → Does .logRead s (fun t => Kept s t j cmd 0 (leBytes (((s.mss.ring.filter fun r => decide (0 ≤ aheadBy (leNat (r.take 4)) (bits (word64 p 0) 31 0))).take (bits (word64 p 0) 47 32)).length
          + b2n ((s.mss.ring.head?.map fun r => decide (0 < aheadBy (leNat (r.take 4)) (bits (word64 p 0) 31 0))).getD false) * 2 ^ 16) 8
        ++ ((s.mss.ring.filter fun r => decide (0 ≤ aheadBy (leNat (r.take 4)) (bits (word64 p 0) 31 0))).take (bits (word64 p 0) 47 32)).flatMap id) ∧ ButForAnswer s t)))
  ∧ (∀ s : State, (∀ j cmd, NextIs 0xA0 s [] 4096 j cmd → Does .idRead s (fun t => Kept s t j cmd 0 ((List.range 4096).map factoryByte) ∧ ButForAnswer s t)))
  ∧ (∀ (p : List Byte) (s : State), p.length = 8 → 1 ≤ bits (word64 p 0) 22 12 → bits (word64 p 0) 22 12 ≤ 2048 →
      bits (word64 p 0) 10 0 + bits (word64 p 0) 22 12 ≤ 2048 →
    (∀ j cmd, NextIs 0xA1 s p ((List.range (bits (word64 p 0) 22 12)).map fun i => Tab.get 0xFF s.mss.eeprom (0x1000 + bits (word64 p 0) 10 0 + i)).length j cmd → Does .tagRead s (fun t => Kept s t j cmd 0 ((List.range (bits (word64 p 0) 22 12)).map fun i => Tab.get 0xFF s.mss.eeprom (0x1000 + bits (word64 p 0) 10 0 + i)) ∧ ButForAnswer s t)))
  ∧ (∀ (p : List Byte) (s : State), 1 ≤ bits (word64 p 0) 22 12 → bits (word64 p 0) 22 12 ≤ 2048 → bits (word64 p 0) 10 0 + bits (word64 p 0) 22 12 ≤ 2048 →
      p.length = 8 + bits (word64 p 0) 22 12 →
    (∀ j cmd, NextIs 0xA2 s p 0 j cmd → Does .tagWrite s (fun t => Kept s t j cmd 0 [] ∧ ButForAnswer { s with mss := { s.mss with eeprom := Tab.setList 0xFF s.mss.eeprom (0x1000 + bits (word64 p 0) 10 0) (p.drop 8) } } t)))
  ∧ (∀ (p : List Byte) (k : Nat) (s : State), p.length = 208 → k = byteAt p 0 → k < 4 → byteAt p 2 = 255 → s.eep (keySlot k) = 0xFF →
      (∀ i, i < 4 → s.eep (keySlot i) ≠ 0x5A) →
    (∀ j cmd, NextIs 0xA3 s p 0 j cmd → Does .keyEnrol s (fun t => ∃ st bs, Kept s t j cmd st bs ∧ st = 0 ∧ bs = [] ∧ t.eep (keySlot k) = 0x5A ∧ t.eep (keySlot k + 1) = BitVec.ofNat 8 (byteAt p 1)
      ∧ t.eeps (keySlot k + 8) 104 = sliceAt p 8 104 ∧ t.eeps (keySlot k + 112) 4 = leBytes (crcIeee (t.eeps (keySlot k) 112)) 4
      ∧ (∀ a, a < keySlot k ∨ (keySlot k + 1 < a ∧ a < keySlot k + 8) ∨ keySlot k + 116 ≤ a → t.eep a = s.eep a)
      ∧ t = { s with mss := { s.mss with taken := t.mss.taken, eeprom := t.mss.eeprom } })))
  ∧ (∀ (p : List Byte) (k : Nat) (s : State), p.length = 104 → k = bits (word64 p 0) 1 0 →
      (s.eep (keySlot k) = 0xFF → (∀ j cmd, NextIs 0xA4 s p 0 j cmd → Does .keyRevoke s (fun t => Kept s t j cmd 6 [] ∧ ButForAnswer s t)))
      ∧ (s.eep (keySlot k) = 0x5A → (∀ j cmd, NextIs 0xA4 s p 0 j cmd → Does .keyRevoke s (fun t => ∃ st bs, Kept s t j cmd st bs ∧ bs = []
          ∧ (if (List.range 4).any (fun i => s.keyEnrolled i && ecdsaOk (s.keyOf i) (sha384 (p.take 8)) (sliceAt p 8 96))
              then st = 0 ∧ t.eep (keySlot k) = 0 ∧ t.eeps (keySlot k + 112) 4 = leBytes (crcIeee (t.eeps (keySlot k) 112)) 4
              else st = 8 ∧ t.mss.eeprom = s.mss.eeprom)
          ∧ (∀ a, a < keySlot k ∨ (keySlot k < a ∧ a < keySlot k + 112) ∨ keySlot k + 116 ≤ a → t.eep a = s.eep a)
          ∧ t = { s with mss := { s.mss with taken := t.mss.taken, eeprom := t.mss.eeprom } }))))
  ∧ (∀ s : State, (∀ j cmd, NextIs 0xA5 s [] 1024 j cmd → Does .keyList s (fun t => Kept s t j cmd 0 ((List.range 1024).map fun i => Tab.get 0xFF s.mss.eeprom (0x1800 + i)) ∧ ButForAnswer s t)))
  ∧ (∀ (p : List Byte) (s : State), p.length = 8 → 1 ≤ bits (word64 p 0) 37 24 → bits (word64 p 0) 37 24 ≤ 8192 →
    (∀ j cmd, NextIs 0xB0 s p (((s.mss.evpn.drop (bits (word64 p 0) 21 0)).take (bits (word64 p 0) 37 24)).flatMap fun e => leBytes e.1 8 ++ leBytes (e.2.getD 0) 8).length j cmd → Does .evpnRead s (fun t => Kept s t j cmd 0 (((s.mss.evpn.drop (bits (word64 p 0) 21 0)).take (bits (word64 p 0) 37 24)).flatMap fun e => leBytes e.1 8 ++ leBytes (e.2.getD 0) 8) ∧ ButForAnswer s t)))
  ∧ (∀ (late : Bool) (p : List Byte) (n q : Nat) (s : State), n = bits (word64 p 0) 9 8 + 1 → p.length = 8 + 8 * n →
      s.servingAve (bits (word64 p 0) 3 0) = some q → s.waiter q supEngine 3 = none → (s.chan q supEngine 3).length < chanDepth supEngine 3 →
    (∀ j cmd, NextIs 0xC0 s p 0 j cmd → Does (.supSend late) s (fun t => Kept s t j cmd 0 [] ∧ ButForAnswer (s.setChan q supEngine 3 (s.chan q supEngine 3 ++ [(words64 p 1 n).map (BitVec.ofNat 64)])) t)))

/-- CMIS_READ and CMIS_WRITE of a module that answers, OPTICS_CFG and OPTICS_POLL; BFD_SET of a new session, BFD_DEL, BFD_GET, a received control packet
told to firmware, firmware's reception of it, a detection timeout and a transmission; LACP_SET, LACP_GET, a received LACPDU and a periodic one;
RESP_SET, RESP_DEL and a responder request; MEP_SET, MEP_GET, a received CFM frame and a CCM; IPFIX_SET and an export: each has the effect of R412 to
R417 and changes nothing else. (Where a session, a module or a message has fields that the spec does not give, they are the model's: log 45.) -/
def Obligations.ManagementServicesAct : Prop :=
  (∀ (data p : List Byte) (s : State), bits (word64 p 0) 6 0 < 96 → bits (word64 p 0) 15 8 < 4 → 1 ≤ bits (word64 p 0) 39 32 → bits (word64 p 0) 39 32 ≤ 128 →
      bits (word64 p 0) 31 24 + bits (word64 p 0) 39 32 ≤ 256 →
    (p.length = 8 → (∀ j cmd, NextIs 0x20 s p (sliceAt data 0 (bits (word64 p 0) 39 32)).length j cmd → Does (.cmisRead true data) s (fun t => Kept s t j cmd 0 (sliceAt data 0 (bits (word64 p 0) 39 32)) ∧ ButForAnswer s t)))
    ∧ (p.length = 8 + bits (word64 p 0) 39 32 → (∀ j cmd, NextIs 0x21 s p 0 j cmd → Does (.cmisWrite true) s (fun t => Kept s t j cmd 0 [] ∧ ButForAnswer s t))))
  ∧ (∀ (p : List Byte) (g : Fin 12) (s : State), p.length = 8 → bits (word64 p 0) 3 0 = g.val → 100 ≤ bits (word64 p 0) 15 4 → bits (word64 p 0) 15 4 ≤ 1000 →
      bits (word64 p 0) 18 17 ≤ 2 →
    (∀ j cmd, NextIs 0x22 s p 0 j cmd → Does .opticsCfg s (fun t => ∃ st bs, Kept s t j cmd st bs ∧ st = 0 ∧ bs = [] ∧ Tab.get 0 t.mss.optics g = word64 p 0
      ∧ (∀ n, n / 8 ≠ g → Tab.get 0 t.mss.module n = Tab.get 0 s.mss.module n)
      ∧ (∀ n, n / 8 = g → Tab.get 0 s.mss.module n = 0 → Tab.get 0 t.mss.module n = 0)
      ∧ (∀ n, n / 8 = g → Tab.get 0 s.mss.module n ≠ 0 → bitOf (word64 p 0) 16 = false →
          (s.scrRunning (.line g) = true → Tab.get 0 t.mss.module n = 7) ∧ (s.scrStopped (.line g) = true → Tab.get 0 t.mss.module n = 3))
      ∧ t = { s with mss := { s.mss with taken := t.mss.taken, optics := t.mss.optics, module := t.mss.module } })))
  ∧ (∀ (g : Fin 12) (k : Fin 8) (val : Byte) (s : State), s.mssMode = 1 →
    Does (.opticsPoll g [(k, 0, val)]) s (fun t => Tab.get 0 t.mss.module (g.val * 8 + k.val) ≠ 0 ∧ t.reg 0x900008 = (s.reg 0x900008 + 1) % 2 ^ 32
      ∧ (∀ n, n / 8 ≠ g → Tab.get 0 t.mss.module n = Tab.get 0 s.mss.module n) ∧ RegsSame s t logRegs
      ∧ t = { withRegsOf s t with mss := { withLogs s.mss t with module := t.mss.module }, boot := { s.boot with flashLog := t.boot.flashLog }, hif := t.hif })
    ∧ Does (.opticsPoll g [(k, 1, val)]) s (fun t => Tab.get 0 t.mss.module (g.val * 8 + k.val) = 0))
  ∧ (∀ (p : List Byte) (n : Nat) (s : State), n = bits (word64 p 1) 14 0 → p.length = 64 + bits (word64 p 3) 7 0 → s.bfd n = none → bits (word64 p 0) 31 0 ≠ 0 →
      (∀ e ∈ s.mss.bfd, ∀ x, e.2 = some x → x.localDisc ≠ bits (word64 p 0) 31 0) → 1 ≤ bits (word64 p 1) 31 24 →
      3300 ≤ bits (word64 p 1) 63 32 → bits (word64 p 1) 63 32 ≤ 10000000 → 3300 ≤ bits (word64 p 2) 31 0 → bits (word64 p 2) 31 0 ≤ 10000000 →
      42 ≤ bits (word64 p 3) 7 0 → bits (word64 p 3) 7 0 ≤ 96 →
    (∀ j cmd, NextIs 0x30 s p 0 j cmd → Does .bfdSet s (fun t => ∃ st bs, Kept s t j cmd st bs ∧ st = 0 ∧ bs = []
      ∧ (∃ x, t.bfd n = some x ∧ x.b0 = word64 p 0 ∧ x.b1 = word64 p 1 ∧ x.b2 = word64 p 2 ∧ x.b3 = word64 p 3 ∧ x.tmpl = p.drop 64
          ∧ x.state = (if bitOf (word64 p 1) 15 then 0 else 1) ∧ x.diag = (if bitOf (word64 p 1) 15 then 7 else 0) ∧ x.remDisc = bits (word64 p 0) 63 32)
      ∧ (∀ m, m ≠ n → t.bfd m = s.bfd m) ∧ t = { s with mss := { s.mss with taken := t.mss.taken, bfd := t.mss.bfd } })))
  ∧ (∀ (p : List Byte) (n : Nat) (x : Bfd) (s : State), p.length = 8 → s.bfd n = some x →
    (n = bits (word64 p 0) 14 0 → (∀ j cmd, NextIs 0x31 s p 0 j cmd → Does .bfdDel s (fun t => ∃ st bs, Kept s t j cmd st bs ∧ st = 0 ∧ bs = [] ∧ t.bfd n = none ∧ (∀ m, m ≠ n → t.bfd m = s.bfd m)
        ∧ t = { s with mss := { s.mss with taken := t.mss.taken, bfd := t.mss.bfd } })))
    ∧ (n = bits (word64 p 0) 14 0 → bits (word64 p 0) 31 16 = 1 → (∀ j cmd, NextIs 0x32 s p (leBytes (x.state + x.diag * 2 ^ 2 + x.remDisc * 2 ^ 32) 8).length j cmd → Does .bfdGet s (fun t => Kept s t j cmd 0 (leBytes (x.state + x.diag * 2 ^ 2 + x.remDisc * 2 ^ 32) 8) ∧ ButForAnswer s t))))
  ∧ (∀ (l : Fin 16) (byAddr : Option (BitVec 15)) (st : BitVec 2) (poll fin : Bool) (mult : Byte) (my your tx rx echo : Word) (q : Nat) (x : Bfd) (s : State),
      s.servingAve l = some q → s.bfdFind your.toNat (byAddr.map BitVec.toNat) = some x → my ≠ 0 → mult ≠ 0 → (your ≠ 0 ∨ st.toNat < 2) →
      x.state = st.toNat → x.remTx = tx.toNat → x.remRx = rx.toNat → x.remMult = mult.toNat → x.remDisc = my.toNat → s.waiter q supEngine 4 = none →
      (s.chan q supEngine 4).length < chanDepth supEngine 4 →
    Does (.bfdReceiveCheck l byAddr st poll fin mult my your tx rx echo) s (fun t =>
      t.chan q supEngine 4 = s.chan q supEngine 4 ++ [[BitVec.ofNat 64 (x.session + st.toNat * 2 ^ 16 + b2n poll * 2 ^ 18 + b2n fin * 2 ^ 19 + 1 * 2 ^ 48 + l.val * 2 ^ 52 + 2 ^ 56)]]
      ∧ t = { s with eng := { s.eng with chan := t.eng.chan }, mss := { s.mss with bfd := t.mss.bfd } }))
  ∧ (∀ (l : Fin 16) (q n : Nat) (m : List Dword) (rest : List (List Dword)) (x : Bfd) (s : State), s.mssMode = 1 → s.servingAve l = some q →
      s.chan q supEngine 4 = m :: rest → bits (m.headD 0).toNat 63 56 = 1 → bits (m.headD 0).toNat 51 48 = 1 → n = bits (m.headD 0).toNat 14 0 →
      s.bfd n = some x → x.session = n →
    Does (.supervisorMessage l) s (fun t => t.chan q supEngine 4 = rest
      ∧ (∃ y, t.bfd n = some y ∧ y.heard = s.bus.ticks ∧ y.poll = (x.poll && !bitOf (m.headD 0).toNat 19) ∧ y.fin = (x.fin || bitOf (m.headD 0).toNat 18)
          ∧ y.b0 = x.b0 ∧ y.b1 = x.b1 ∧ y.b2 = x.b2 ∧ y.b3 = x.b3 ∧ y.tmpl = x.tmpl
          ∧ (x.state = 0 → y.state = 0)
          ∧ (x.state = 1 → bits (m.headD 0).toNat 17 16 = 1 → y.state = 2) ∧ (x.state = 1 → bits (m.headD 0).toNat 17 16 = 2 → y.state = 3)
          ∧ (x.state = 2 → 2 ≤ bits (m.headD 0).toNat 17 16 → y.state = 3)
          ∧ (x.state = 3 → bits (m.headD 0).toNat 17 16 ≤ 1 → y.state = 1 ∧ y.diag = 3) ∧ (x.state = 3 → 2 ≤ bits (m.headD 0).toNat 17 16 → y.state = 3))
      ∧ (∀ k, k ≠ n → t.bfd k = s.bfd k) ∧ RegsSame s t logRegs
      ∧ t = { withRegsOf s t with eng := { s.eng with chan := t.eng.chan }, mss := { withLogs s.mss t with bfd := t.mss.bfd }, boot := { s.boot with flashLog := t.boot.flashLog }, hif := t.hif, pmu := t.pmu }))
  ∧ (∀ (n : BitVec 15) (x : Bfd) (s : State), s.bfd n.toNat = some x → x.session = n.toNat → s.mssMode = 1 →
    (2 ≤ x.state → x.mult * (max x.reqRx x.remTx * 1500) ≤ s.bus.ticks - x.heard → Does (.bfdDetectionTimeout n) s (fun t =>
      t.bfd n.toNat = some { x with state := 1, diag := 1, remDisc := bits x.b0 63 32, poll := false } ∧ (∀ k, k ≠ n.toNat → t.bfd k = s.bfd k)
      ∧ t.reg 0x900008 = (s.reg 0x900008 + 1) % 2 ^ 32 ∧ RegsSame s t logRegs
      ∧ t = { withRegsOf s t with mss := { withLogs s.mss t with bfd := t.mss.bfd }, boot := { s.boot with flashLog := t.boot.flashLog }, hif := t.hif }))
    ∧ (∀ j : Fin 26, x.remRx ≠ 0 → x.interval * 1500 ≤ s.bus.ticks - x.sentAt → (x.mult ≠ 1 ∨ 10 ≤ j.val) → Does (.bfdTransmit n j) s (fun t =>
      t.bfd n.toNat = some { x with sentAt := s.bus.ticks, fin := false } ∧ (∀ k, k ≠ n.toNat → t.bfd k = s.bfd k)
      ∧ ServiceSends s t x.queue x.packet { s.mss with bfd := t.mss.bfd })))
  ∧ (∀ (p : List Byte) (a : Nat) (s : State), p.length = 32 → a = bits (word64 p 0) 5 0 → a < 48 →
    (lacpMask (words64 p 0 4) < 2 ^ 96 → (lacpPorts (words64 p 0 4)).length ≤ 16 →
      (∀ j cmd, NextIs 0x40 s p 0 j cmd → Does .lacpSet s (fun t => Kept s t j cmd 0 [] ∧ ButForAnswer { s with mss := { s.mss with lacp := Tab.set none s.mss.lacp a (some (words64 p 0 4)) } } t)))
    ∧ (∀ w, s.lacp a = some w → (∀ j cmd, NextIs 0x41 s p ((lacpPorts w).flatMap fun k => leBytes (Config.lacpView (Tab.get {} s.mss.lport k).actor
        (Tab.get {} s.mss.lport k).partner (Tab.get {} s.mss.lport k).system (Tab.get {} s.mss.lport k).key (Tab.get {} s.mss.lport k).port).toNat 16).length j cmd → Does .lacpGet s (fun t => Kept s t j cmd 0 ((lacpPorts w).flatMap fun k => leBytes (Config.lacpView (Tab.get {} s.mss.lport k).actor
        (Tab.get {} s.mss.lport k).partner (Tab.get {} s.mss.lport k).system (Tab.get {} s.mss.lport k).key (Tab.get {} s.mss.lport k).port).toNat 16) ∧ ButForAnswer s t))))
  ∧ (∀ (port : Fin 96) (w : List Nat) (s : State), s.lacpOf port = some w → s.mssMode = 1 →
    (∀ (actor partner : Byte) (system : BitVec 64) (key pnum : BitVec 16), Does (.lacpduReceived port actor partner system key pnum) s (fun t =>
      Tab.get {} t.mss.lport port = { Tab.get {} s.mss.lport port with actor := actor.toNat, partner := partner.toNat, system := system.toNat, key := key.toNat, port := pnum.toNat, heard := s.bus.ticks }
      ∧ (∀ k, k ≠ port.val → Tab.get {} t.mss.lport k = Tab.get {} s.mss.lport k)
      ∧ t.reg 0x900008 = (if (Tab.get {} s.mss.lport port).actor = actor.toNat ∧ (Tab.get {} s.mss.lport port).partner = partner.toNat then s.reg 0x900008 else (s.reg 0x900008 + 1) % 2 ^ 32)
      ∧ RegsSame s t logRegs
      ∧ t = { withRegsOf s t with mss := { withLogs s.mss t with lport := t.mss.lport }, boot := { s.boot with flashLog := t.boot.flashLog }, hif := t.hif }))
    ∧ (∀ (queue : BitVec 20) (frame : List Byte), (if bitOf (w.getD 3 0) 0 then 1500000000 else 45000000000) ≤ s.bus.ticks - (Tab.get {} s.mss.lport port).sentAt →
      Does (.lacpPeriodicTransmit port queue frame) s (fun t =>
        Tab.get {} t.mss.lport port = { Tab.get {} s.mss.lport port with sentAt := s.bus.ticks } ∧ ServiceSends s t queue.toNat frame { s.mss with lport := t.mss.lport })))
  ∧ (∀ (p : List Byte) (i : Nat) (s : State), p.length = 32 → i = bits (word64 p 0) 11 0 →
    (s.resp i = none → (∀ j cmd, NextIs 0x50 s p 0 j cmd → Does .respSet s (fun t => Kept s t j cmd 0 [] ∧ ButForAnswer { s with mss := { s.mss with resp := Tab.set none s.mss.resp i (some (words64 p 0 4)) } } t)))
    ∧ (∀ v, s.resp i = some v → (∀ j cmd, NextIs 0x50 s p 0 j cmd → Does .respSet s (fun t => Kept s t j cmd (if v = words64 p 0 4 then 0 else 7) [] ∧ ButForAnswer s t))
        ∧ (∀ j cmd, NextIs 0x51 s p 0 j cmd → Does .respDel s (fun t => Kept s t j cmd 0 [] ∧ ButForAnswer { s with mss := { s.mss with resp := Tab.set none s.mss.resp i none } } t))))
  ∧ (∀ (af : Bool) (vrf : BitVec 12) (addr : BitVec 128) (ctx : Byte) (queue : BitVec 20) (reply frame : List Byte) (ring : Fin 64) (s : State), s.mssMode = 1 →
    ((∃ e ∈ s.mss.resp, ∃ w, e.2 = some w ∧ respIs w af vrf.toNat addr.toNat = true) → (s.mss.answersAt = s.tim.sec → s.mss.answers < 200000) →
      Does (.responderRequest af vrf addr ctx queue reply ring frame) s (fun t =>
        ServiceSends s t queue.toNat reply { s.mss with answers := (if s.mss.answersAt = s.tim.sec then s.mss.answers else 0) + 1, answersAt := s.tim.sec }))
    ∧ ((∀ e ∈ s.mss.resp, ∀ w, e.2 = some w → respIs w af vrf.toNat addr.toNat = false) → Does (.responderRequest af vrf addr ctx queue reply ring frame) s (fun t =>
        (∃ x : Punt, t.hif.firmware = s.hif.firmware ++ [(ring.val, x)] ∧ x.kind = 7 ∧ x.ctx = ctx.toNat ∧ x.frame = frame)
        ∧ t = { s with hif := { s.hif with firmware := t.hif.firmware } })))
  ∧ (∀ (p : List Byte) (n : Nat) (s : State), p.length = 56 → n = bits (word64 p 0) 12 0 →
    (s.mep n = none → bits (word64 p 0) 47 40 < 192 → bits (word64 p 0) 50 48 ≠ 1 → (∀ j cmd, NextIs 0x60 s p 0 j cmd → Does .mepSet s (fun t => ∃ st bs, Kept s t j cmd st bs ∧ st = 0 ∧ bs = []
      ∧ t.mep n = some { w0 := word64 p 0, maid := p.drop 8, remote := 0, heard := 0, delay := 0, loss := 0, sentAt := 0, seq := 0 }
      ∧ (∀ m, m ≠ n → t.mep m = s.mep m) ∧ t = { s with mss := { s.mss with taken := t.mss.taken, mep := t.mss.mep } })))
    ∧ (∀ x, s.mep n = some x → (∀ j cmd, NextIs 0x61 s p (Config.mepView x.remote x.delay x.loss).length j cmd → Does .mepGet s (fun t => Kept s t j cmd 0 (Config.mepView x.remote x.delay x.loss) ∧ ButForAnswer s t))))
  ∧ (∀ (n : BitVec 13) (v : Dword) (queue : BitVec 20) (frame : List Byte) (x : Mep) (s : State), s.mep n.toNat = some x → s.mssMode = 1 →
    Does (.cfmFrameReceived n 0 v queue frame) s (fun t => t.mep n.toNat = some { x with remote := v.toNat, heard := s.bus.ticks } ∧ t = { s with mss := { s.mss with mep := t.mss.mep } })
    ∧ Does (.cfmFrameReceived n 1 v queue frame) s (fun t => ServiceSends s t queue.toNat frame s.mss)
    ∧ Does (.cfmFrameReceived n 2 v queue frame) s (fun t => t.mep n.toNat = some { x with delay := v.toNat } ∧ t = { s with mss := { s.mss with mep := t.mss.mep } })
    ∧ Does (.cfmFrameReceived n 3 v queue frame) s (fun t => t.mep n.toNat = some { x with loss := v.toNat } ∧ t = { s with mss := { s.mss with mep := t.mss.mep } })
    ∧ (bits x.w0 50 48 ≠ 0 → ccmClocks (bits x.w0 50 48) ≤ s.bus.ticks - x.sentAt → Does (.ccmTransmit n queue frame) s (fun t =>
        t.mep n.toNat = some { x with sentAt := s.bus.ticks, seq := x.seq + 1 } ∧ ServiceSends s t queue.toNat frame { s.mss with mep := t.mss.mep })))
  ∧ (∀ (p : List Byte) (s : State), p.length = 112 → 1 ≤ bits (word64 p 0) 27 16 → bits (word64 p 0) 27 16 ≤ 3600 → 1 ≤ bits (word64 p 0) 47 32 →
      bits (word64 p 0) 47 32 ≤ 600 →
    (∀ j cmd, NextIs 0x70 s p 0 j cmd → Does .ipfixSet s (fun t => Kept s t j cmd 0 [] ∧ ButForAnswer { s with mss := { s.mss with ipfix := Tab.set [] s.mss.ipfix (bits (word64 p 0) 1 0) p } } t)))
  ∧ (∀ (c : Fin 4) (n : BitVec 20) (frame : List Byte) (f : Flow) (s : State), s.mss.flows[n.toNat]? = some f → s.mssMode = 1 → bitOf (s.collector c 0) 2 = true →
      (1500000000 * bits (s.collector c 0) 27 16 ≤ s.bus.ticks - f.first ∨ 1500000000 * bits (s.collector c 0) 47 32 ≤ s.bus.ticks - f.last) →
    Does (.ipfixExport c n frame) s (fun t => t.mss.flows = dropAt s.mss.flows n.toNat
      ∧ (if bitOf (s.collector c 0) 3 then ServiceSends s t (bits (s.collector c 1) 19 0) frame { s.mss with flows := t.mss.flows }
         else t = { s with mss := { s.mss with flows := t.mss.flows, mgmtOut := s.mss.mgmtOut ++ [frame] }, pmu := t.pmu })))

/-- POWER_LOSS, RESET_N, MODULE_RESET, a rail out of tolerance and the loss of SYS_REF put the module in reset with their cause, every unit at reset and
flash and EEPROM kept; always-on SRAM is kept but over a power loss. MODULE_RESET during a flash operation is held. FW_RESTART drops the commands
taken and the update session, leaves the data plane, and starts firmware or, with a bad image, recovery mode. BOOT_START without flash, or with a bad
loader, ends in recovery mode; with three attempts counted it ends in minimal mode with firmware running where the main image is good, and in recovery
mode with the image's failure code where it is not. CONFIRM, CLR_ATTEMPTS, KICK, the watchdog and the boot timeout act as R439 and R441 say. A thermal
stop powers the SerDes down, parks the stacks and releases the claim; a TAP instruction is in force, BYPASS in place of another one while RESET_N is
high; a loss of the crossing's training is FATAL. (SYS_REF's loss taken as RESET_N: log 46.) -/
def Obligations.ResetsStartsAndSupplies : Prop :=
  (∀ s : State, s.upd.writing = none →
    Does .powerLoss s (fun t => InReset s t 1 ∧ t.bus.regs = [] ∧ t.mss.retained = [] ∧ t.boot.image = s.boot.image)
    ∧ Does .railOutOfTolerance s (fun t => InReset s t 1 ∧ t.bus.regs = [] ∧ t.mss.retained = [] ∧ t.boot.image = s.boot.image)
    ∧ Does .resetN s (fun t => InReset s t 2 ∧ BootRegsKept t ∧ t.fld bootStat 9 6 = s.fld bootStat 9 6 ∧ t.reg bootReason = s.reg bootReason
        ∧ t.mss.retained = s.mss.retained ∧ t.boot.image = s.boot.image ∧ t.boot.flashLog = s.boot.flashLog))
  ∧ (∀ (r : Requester) (s : State), s.boot.held = none →
    (s.boot.flashBusy = false → Does (.moduleReset r) s (fun t => InReset s t (if r = .host then 3 else 4) ∧ BootRegsKept t ∧ t.fld bootStat 9 6 = s.fld bootStat 9 6
        ∧ t.reg bootReason = s.reg bootReason ∧ t.mss.retained = s.mss.retained ∧ t.boot.image = s.boot.image ∧ t.boot.rec0 = s.boot.rec0 ∧ t.boot.rec1 = s.boot.rec1))
    ∧ (s.boot.flashBusy = true → Does (.moduleReset r) s (fun t => t = { s with boot := { s.boot with held := some (1, if r = .host then 3 else 4) } }))
    ∧ (s.boot.flashBusy = false → Does (.fwRestart r) s (fun t => t.mss.taken = [] ∧ t.upd = {} ∧ t.fld 0x801000 2 0 = 0 ∧ DataPlaneSame s t
        ∧ t.fld bootReason 7 0 = s.fld bootReason 7 0
        ∧ (s.imageCheck s.boot.image = 0 → t.flag 0x701000 0 = true ∧ t.fld 0x701000 31 16 = (s.fld 0x701000 31 16 + 1) % 65536 ∧ t.reg 0x800040 = 0x800007D0
            ∧ t.boot = { s.boot with kick := s.bus.ticks } ∧ RegsSame s t [bootReason, 0x801000, 0x801004, 0x701000, 0x800040])
        ∧ (s.imageCheck s.boot.image ≠ 0 → t.fld 0x900000 1 0 = 3 ∧ t.flag 0x701000 0 = false ∧ t.bootStep = 11 ∧ t.boot.recCode = s.imageCheck s.boot.image))))
  ∧ (∀ (hw : BootHw) (s : State), s.boot.inReset = true → (∀ n, n < 40 → (s.sensor n).value < 1520) → RefClock.sysRef ∉ s.elec.clkBad → RefClock.aonClk ∉ s.elec.clkBad →
    (hw.flashMib.toNat < 64 → Does (.bootStart hw) s (fun t => t.boot.inReset = false ∧ t.boot.zero = s.bus.ticks ∧ t.bootStep = 11 ∧ t.fld 0x900000 1 0 = 3
        ∧ t.boot.recCode = 0x21 ∧ t.fld bootReason 15 8 = 0x21 ∧ t.fld bootReason 7 0 = s.boot.cause % 256 ∧ t.flag bootStat 6 = false ∧ DataPlaneSame s t))
    ∧ (64 ≤ hw.flashMib.toNat → hw.flashHdr = true → hw.loaderOk = false → Does (.bootStart hw) s (fun t => t.boot.inReset = false ∧ t.bootStep = 11
        ∧ t.fld 0x900000 1 0 = 3 ∧ t.boot.recCode = 0x20 ∧ t.fld bootReason 15 8 = 0x20 ∧ DataPlaneSame s t))
    ∧ (64 ≤ hw.flashMib.toNat → hw.flashHdr = true → hw.loaderOk = true → hw.eepromOk = true → hw.hang = 0 → s.boot.cause ≠ 1 → s.fld bootStat 9 8 = 3 → s.boot.pend = false →
        Does (.bootStart hw) s (fun t => t.boot.inReset = false ∧ t.boot.noSerial = false ∧ t.fld bootStat 9 8 = 3 ∧ t.flag bootStat 0 = true ∧ DataPlaneSame s t
        ∧ (({ s with boot := { s.boot with noSerial := false } } : State).imageCheck s.boot.image = 0 → t.bootStep = 10 ∧ t.fld 0x900000 1 0 = 2 ∧ t.flag 0x701000 0 = true
            ∧ t.fld 0x701000 31 16 = (s.fld 0x701000 31 16 + 1) % 65536 ∧ t.boot.launch = s.bus.ticks ∧ t.boot.kick = s.bus.ticks ∧ t.reg 0x800040 = 0x800007D0)
        ∧ (∀ code, code = ({ s with boot := { s.boot with noSerial := false } } : State).imageCheck s.boot.image → code ≠ 0 → t.bootStep = 11
            ∧ t.fld 0x900000 1 0 = 3 ∧ t.boot.recCode = code ∧ t.fld bootReason 15 8 = code ∧ t.fld bootReason 19 16 = 2))))
  ∧ (∀ s : State,
    Does .confirm s (fun t => t.fld bootStat 9 8 = 0 ∧ t.flag bootStat 6 = true ∧ t.boot.pend = false
      ∧ (∃ r, t.bootRec = some r ∧ r.attempts = 0 ∧ r.pending = false ∧ r.lastFail = s.fld bootReason 15 8 ∧ r.failStep = s.fld bootReason 19 16 ∧ r.trial = s.flag bootStat 7)
      ∧ RegsSame s t (bootStat :: injectionRegs) ∧ t = { withRegsOf s t with boot := { s.boot with pend := false, rec0 := t.boot.rec0, rec1 := t.boot.rec1 } })
    ∧ Does .clrAttempts s (fun t => t.fld bootStat 9 8 = 0 ∧ t.flag bootStat 6 = s.flag bootStat 6 ∧ t.boot.pend = false
      ∧ (∃ r, t.bootRec = some r ∧ r.attempts = 0 ∧ r.pending = false)
      ∧ RegsSame s t (bootStat :: injectionRegs) ∧ t = { withRegsOf s t with boot := { s.boot with pend := false, rec0 := t.boot.rec0, rec1 := t.boot.rec1 } })
    ∧ Does .kick s (fun t => t = { s with boot := { s.boot with kick := s.bus.ticks } }))
  ∧ (∀ s : State, s.flag 0x800040 31 = true → s.boot.kick + max (s.fld 0x800040 15 0) 100 * 1500000 ≤ s.bus.ticks → s.boot.held = none → s.boot.flashBusy = false →
    (s.flag bootStat 6 = true → Does .watchdogExpiry s (fun t => t.mss.taken = [] ∧ t.upd = {} ∧ t.fld bootReason 7 0 = 5 ∧ DataPlaneSame s t))
    ∧ (s.flag bootStat 6 = false → Does .watchdogExpiry s (fun t => InReset s t 5 ∧ BootRegsKept t ∧ t.fld bootReason 15 8 = 0x17 ∧ t.fld bootReason 19 16 = s.bootStep)))
  ∧ (∀ s : State, s.boot.inReset = false → 2 ≤ s.bootStep → s.bootStep < 9 → s.boot.launch + s.bootTimeout ≤ s.bus.ticks → s.boot.held = none → s.boot.flashBusy = false →
      s.flag bootStat 6 = false →
    Does .bootTimeout s (fun t => InReset s t 6 ∧ BootRegsKept t ∧ t.fld bootReason 15 8 = 0x16 ∧ t.fld bootReason 19 16 = s.bootStep ∧ t.boot.image = s.boot.image))
  ∧ (∀ (c : RefClock) (s : State), Does (.referenceClockLoss c true) s (fun t => t = { s with elec := { s.elec with clkBad := s.elec.clkBad.filter (· != c) } })
    ∧ (c ∉ s.elec.clkBad → c = .aonClk → Does (.referenceClockLoss c false) s (fun t => t = { s with elec := { s.elec with clkBad := c :: s.elec.clkBad } }))
    ∧ (c ∉ s.elec.clkBad → c = .sysRef → Does (.referenceClockLoss c false) s (fun t => t.boot.inReset = true ∧ t.boot.cause = 2 ∧ t.elec.clkBad = c :: s.elec.clkBad
        ∧ BootRegsKept t ∧ t.mss.retained = s.mss.retained)))
  ∧ (∀ s : State, s.flag 0x50 8 = false → Does .thermalStop s (fun t => t.flag 0x50 8 = true ∧ t.elec.serdesOn = false
      ∧ (s.fld 0x30000C 2 0 ≠ 0 → t.fld 0x30000C 2 0 = 6 ∧ t.flag 0x30000C 6 = false)
      ∧ (∀ k, k < 4 → t.flag (hbmStk k 4) 3 = true) ∧ t.reg 0x900008 = (s.reg 0x900008 + 1) % 2 ^ 32
      ∧ RegsSame s t ([0x50, 0x30000C, 0x300010, hbmStk 0 4, hbmStk 1 4, hbmStk 2 4, hbmStk 3 4, 0x400000] ++ logRegs)
      ∧ t.line = s.line ∧ t.eng = s.eng ∧ t.tbl = s.tbl ∧ t.sq = s.sq ∧ t.fab = s.fab ∧ t.tim = s.tim ∧ t.pending = s.pending))
  ∧ (∀ (i : TapInstr) (resetHigh : Bool) (s : State),
    Does (.boundaryScanInstruction false i resetHigh) s (fun t => t = { s with elec := { s.elec with tapFe := match i with | .other c => if resetHigh then .bypass else .other c | x => x } })
    ∧ Does (.boundaryScanInstruction true i resetHigh) s (fun t => t = { s with elec := { s.elec with tapTm := match i with | .other c => if resetHigh then .bypass else .other c | x => x } }))
  ∧ (∀ s : State, s.flag 0x40 0 = true → Does .crossingTrainingLoss s (fun t => t.flag 0x40 0 = false ∧ t.flag 0x400000 0 = true ∧ t.flag 0x400008 3 = true
      ∧ Tab.get 0 t.bus.rcNow 0x40001C = Tab.get 0 s.bus.rcNow 0x40001C + 1 ∧ (s.flag 0x400004 16 = true → t.err.hold ≠ none)
      ∧ RegsSame s t (reportRegs ++ [0x40, 0x30000C, 0x300010]) ∧ t = { withReportOf s t with mate := t.mate, hif := t.hif }))

/-- In normal mode and outside a session UPD_BEGIN answers the result of the header's checks and opens a session where they pass; UPD_DATA at the
session's offset appends its chunk; UPD_VERIFY of a whole body answers OK and moves to VERIFIED where digest and sections are good, and ends the
session with DIGEST where the digest is not; UPD_ABORT ends a session. UPD_ACTIVATE of a verified main image answers OK, erases the image and begins
the flash write; of a verified program it loads and arms the units and is answered, once they have switched, with the target beat; of a boot
configuration record it begins the write of the other copy where the record is good, and answers CONTENT where it is not. FLASH_OPERATION_END of a
main image puts the module in reset on trial with CAUSE 7; of a record it stores the copy and answers. UPD_CONFIRM confirms a trial, UPD_STATUS
answers its three words, a trial warns 60 s before its end, and its expiry is a reset with failure 0x18. (Words of an answer with nothing to tell are
free: log 47.) -/
def Obligations.UpdateCommandsAct : Prop :=
  (∀ (p : List Byte) (s : State), s.updState = 0 → s.mssMode = 1 → p.length = 256 →
    (∀ j cmd, NextIs 0x100 s p 8 j cmd → Does (.updBegin true) s (fun t => ∃ st bs, Kept s t j cmd st bs ∧ UpdAnswer st bs (s.headerCheck [1, 2, 3] p) [] ∧ t.fld updStat 15 8 = s.headerCheck [1, 2, 3] p
      ∧ (s.headerCheck [1, 2, 3] p = 0 → t.updState = 1 ∧ t.fld updStat 7 4 = imgKind p ∧ t.reg 0x801004 = 0 ∧ t.upd = { header := p })
      ∧ (s.headerCheck [1, 2, 3] p ≠ 0 → t.updState = 0 ∧ t.upd = s.upd)
      ∧ (numAt p 0 2 ≠ 0x4D49 → t.fld updStat 15 8 = 1)
      ∧ UpdFrame s t ∧ t.boot = s.boot)))
  ∧ (∀ (p : List Byte) (s : State), 8 ≤ p.length → s.updState = 1 → word64 p 0 = s.upd.body.length → s.upd.body.length + (p.length - 8) ≤ imgLen s.upd.header → s.mssMode = 1 →
    (∀ j cmd, NextIs 0x101 s p 16 j cmd → Does (.updData true) s (fun t => ∃ st bs, Kept s t j cmd st bs ∧ UpdAnswer st bs 0 [s.upd.body.length + (p.length - 8)]
      ∧ t.upd = { s.upd with body := s.upd.body ++ p.drop 8 } ∧ t.reg 0x801004 = (s.upd.body.length + (p.length - 8)) % 2 ^ 32 ∧ t.updState = 1
      ∧ UpdFrame s t ∧ t.boot = s.boot)))
  ∧ (∀ s : State, s.updState = 1 → s.upd.body.length = imgLen s.upd.header →
    (∀ j cmd, NextIs 0x102 s [] 16 j cmd → Does .updVerify s (fun t => ∃ st bs, Kept s t j cmd st bs ∧
      (digestOk s.upd.header s.upd.body = true → firstBadSection (imgKind s.upd.header) (imgSections s.upd.header) s.upd.body = none →
        sectionNeeded (imgKind s.upd.header) (imgSections s.upd.header) s.upd.body = true →
        (∃ w, UpdAnswer st bs 0 [w]) ∧ t.updState = 2 ∧ t.flag updStat 16 = true ∧ t.upd = s.upd)
      ∧ (digestOk s.upd.header s.upd.body = false → (∃ w, UpdAnswer st bs 0x0A [w]) ∧ t.updState = 0 ∧ t.upd = {})
      ∧ UpdFrame s t ∧ t.boot = s.boot)))
  ∧ (∀ s : State, s.updState = 1 ∨ s.updState = 2 →
    (∀ j cmd, NextIs 0x104 s [] 8 j cmd → Does .updAbort s (fun t => ∃ st bs, Kept s t j cmd st bs ∧ UpdAnswer st bs 0 [] ∧ t.updState = 0 ∧ t.upd = {} ∧ t.reg 0x801004 = 0 ∧ t.fld updStat 7 4 = 0
      ∧ UpdFrame s t ∧ t.boot = s.boot)))
  ∧ (∀ s : State, s.onTrial = true →
    (∀ j cmd, NextIs 0x105 s [] 8 j cmd → Does .updConfirm s (fun t => ∃ st bs, Kept s t j cmd st bs ∧ UpdAnswer st bs 0 [] ∧ t.boot.trialEnd = none ∧ t.flag bootStat 7 = false ∧ t.flag bootStat 6 = true
      ∧ t.fld bootStat 9 8 = 0 ∧ t.boot.pend = false ∧ (∃ r, t.bootRec = some r ∧ r.attempts = 0 ∧ r.pending = false ∧ r.trial = false)
      ∧ t.upd = s.upd ∧ DataPlaneSame s t)))
  ∧ (∀ s : State, (∀ j cmd, NextIs 0x106 s [] 32 j cmd → Does .updStatus s (fun t => ∃ st bs, Kept s t j cmd st bs ∧
      UpdAnswer st bs 0 [s.updState + s.fld updStat 7 4 * 2 ^ 4 + s.upd.body.length * 2 ^ 32, s.reg64 0x801010, s.trialLeft] ∧ t.upd = s.upd
      ∧ UpdFrame s t ∧ t.boot = s.boot)))
  ∧ (∀ (p : List Byte) (s : State), s.upd.armed = 0 → s.upd.bcr = none → s.updState = 2 → p.length = 8 →
    (imgKind s.upd.header = 1 → (∀ j cmd, NextIs 0x103 s p 16 j cmd → Does .updActivate s (fun t => ∃ st bs, Kept s t j cmd st bs ∧ (∃ w, UpdAnswer st bs 0 [w]) ∧ t.updState = 3 ∧ t.boot.flashBusy = true
      ∧ t.boot.image = none ∧ t.upd.writing = some (s.upd.header, s.upd.body) ∧ UpdFrame s t)))
    ∧ (∀ (i : Nat) (k : MssCmd), s.nextCmd 0x103 = some (i, k) → k.payload = p → 16 ≤ k.cap →
      (imgKind s.upd.header = 2 → s.updReady s.updUnits = true → s.openWord.2.updLoad.2 = true → Does .updActivate s (fun t => t.updState = 3 ∧ t.upd.armed = s.updUnits))
      ∧ (imgKind s.upd.header = 3 → Does .updActivate s (fun t => UpdFrame s t
        ∧ (bcrOk (s.fld 0 31 16) ((s.updSection 8).getD []) = true → t.updState = 3 ∧ t.boot.flashBusy = true
            ∧ t.upd.bcr = some (s.bcrTarget.1, bcrRenumber ((s.updSection 8).getD []) s.bcrTarget.2)
            ∧ t.boot.bcrB = (if s.bcrTarget.1 then none else s.boot.bcrB) ∧ t.boot.bcrA = (if s.bcrTarget.1 then s.boot.bcrA else none)
            ∧ t.mss.taken = s.mss.taken)
        ∧ (bcrOk (s.fld 0 31 16) ((s.updSection 8).getD []) = false → t.updState = 0 ∧ t.upd = {} ∧ t.boot = s.boot
            ∧ ∃ w, t.mss.taken = setAt s.mss.taken i { k with ans := some (8, [0x0C, w].flatMap fun w => leBytes w 8) })))))
  ∧ (∀ (p : List Byte) (s : State), p.length = 8 → s.upd.armed ≠ 0 → s.upd.back = none →
      (∀ u, u ∈ slotsIn s.upd.armed → s.slotPending (unitSlot u) = false ∧ ∀ x, slotStat u = some x → s.flag x 5 = false) →
    (∀ j cmd, NextIs 0x103 s p 16 j cmd → Does .updActivate s (fun t => ∃ st bs, Kept s t j cmd st bs ∧
      UpdAnswer st bs 0 [s.upd.target + b2n ((slotsIn s.upd.armed).any fun u => s.flag (slotTgt (unitSlot u) + 4) 6) * 2 ^ 63]
      ∧ t.updState = 0 ∧ t.upd = {} ∧ t.reg64 0x801020 = s.upd.target % 2 ^ 64 ∧ t.flag updStat 16 = true ∧ UpdFrame s t ∧ t.boot = s.boot)))
  ∧ (∀ (img : List Byte × List Byte) (s : State), s.boot.flashBusy = true → s.upd.writing = some img →
    Does (.flashOperationEnd 0) s (fun t => InReset s t 7 ∧ BootRegsKept t ∧ t.boot.image = some img ∧ t.flag bootStat 7 = true ∧ t.fld bootStat 9 8 = 0))
  ∧ (∀ (b : Bool) (bs : List Byte) (i : Nat) (k : MssCmd) (s : State), s.boot.flashBusy = true → s.boot.held = none → s.upd.writing = none → s.upd.bcr = some (b, bs) →
      s.nextCmd 0x103 = some (i, k) → 16 ≤ k.cap →
    Does (.flashOperationEnd 0) s (fun t => t.boot = { s.boot with flashBusy := false, bcrA := if b then s.boot.bcrA else some bs, bcrB := if b then some bs else s.boot.bcrB }
      ∧ (∃ w, t.mss.taken = setAt s.mss.taken i { k with ans := some (0, [0, w].flatMap fun w => leBytes w 8) }) ∧ t.updState = 0 ∧ t.upd = {} ∧ t.flag updStat 16 = true
      ∧ UpdFrame s t))
  ∧ (∀ (e : Nat) (s : State), s.boot.trialEnd = some e → s.onTrial = true →
    (e ≤ s.bus.ticks + 60000 * 1500000 → Does .trialWarning s (fun t => t.flag updStat 16 = true ∧ RegsSame s t [updStat] ∧ t = { withRegsOf s t with hif := t.hif }))
    ∧ (e ≤ s.bus.ticks → s.boot.held = none → s.boot.flashBusy = false → Does .trialExpiry s (fun t => InReset s t 4 ∧ BootRegsKept t
        ∧ t.fld bootReason 15 8 = 0x18 ∧ t.fld bootReason 19 16 = 9 ∧ t.boot.image = s.boot.image)))

/-- A TIME_TICK ends a tick, in which channels that expire, a vote that is due and triggers that are reached have their effect (nothing where there is
none), adds 1.25 ns x (1 + F) to the counter, and with a TIM_SET write of MODE 1 waiting it sets the counter to TIM_SET and clears BUSY. TIME_NS_READ
returns NS and latches FRAC and the seconds. TIME_SET and TIME_ADD wait for the next tick. A PPS edge of an enabled KIND 1 channel measures S + DLY -
L; the write of an offset's high half on a KIND 2 channel submits it; a missing edge clears VALID and sets LOST. A VOTE that is due, of two channels
that agree takes their mean and leaves FREE for ACQUIRING, one of three channels within DISAGREE of the median takes the median, and one without a
majority leaves LOCKED for HOLDOVER with the mean F. TRIGGER_ENABLE sets CTL and the anchor; a one-shot trigger that is reached fires and clears EN.
An enabled edge is captured, behind the records before it but for those of its tick with a higher SRC, and a captured record or a transmit record is
read by its first and its last word. -/
def Obligations.TimeAndReferences : Prop :=
  (∀ s : State, (∀ n, n < 3 → s.refExpired n = false) → s.voteDue = false →
      (∀ k, k < 8 → s.flag (trgReg k 0) 31 = false ∨ s.trgReached k = false) → s.tickEnd = s)
  ∧ (∀ s u : State, s.tickEnd = u → u.tim.setMode = 0 → Does .timeTick s (fun t =>
      Int.ofNat t.now65536 = (Int.ofNat u.now65536 + (81920 * (65536000000 + signed32 (u.reg 0x200030)) + Int.ofNat u.tim.res) / 65536000000) % (2 ^ 48 * 1000000000 * 65536)
      ∧ Int.ofNat t.tim.res = (81920 * (65536000000 + signed32 (u.reg 0x200030)) + Int.ofNat u.tim.res) % 65536000000
      ∧ t.tim.ns < 1000000000 ∧ t.tim.frac < 65536 ∧ t.tim.ticks = u.tim.ticks + 1 ∧ t.tim.voted = (u.tim.voted && decide (500000000 ≤ t.tim.ns))
      ∧ t = { u with tim := { u.tim with sec := t.tim.sec, ns := t.tim.ns, frac := t.tim.frac, res := t.tim.res, ticks := t.tim.ticks, pulse := t.tim.pulse, voted := t.tim.voted } }))
  ∧ (∀ s u : State, s.tickEnd = u → u.tim.setMode = 1 → Does .timeTick s (fun t => t.tim.sec = u.reg 0x200024 + u.fld 0x200028 15 0 * 2 ^ 32
      ∧ t.tim.ns = min (u.fld 0x200020 29 0) 999999999 ∧ t.tim.frac = 0 ∧ t.tim.setMode = 0 ∧ t.flag 0x20002C 31 = false ∧ t.line = u.line ∧ t.eng = u.eng ∧ t.pending = u.pending))
  ∧ (∀ (r : Requester) (s : State), Does (.timeNsRead r) s (fun t => Answered t r 0x200010 s.tim.ns ∧ Tab.get (0, 0) t.tim.latch (requesterNo r) = (s.tim.frac, s.tim.sec)
      ∧ t = { withBusOf s t with tim := { s.tim with latch := t.tim.latch } }))
  ∧ (∀ s : State, s.tim.setMode = 0 →
      Does .timeSet s (fun t => t.flag 0x20002C 31 = true ∧ RegsSame s t [0x20002C] ∧ t = { withRegsOf s t with tim := { s.tim with setMode := 1 } })
      ∧ Does .timeAdd s (fun t => t.flag 0x20002C 31 = true ∧ RegsSame s t [0x20002C] ∧ t = { withRegsOf s t with tim := { s.tim with setMode := 2 } }))
  ∧ (∀ (n : Fin 3) (s : State), s.flag (refReg n 0) 31 = true → s.fld (refReg n 0) 1 0 = 1 →
    Does (.referencePpsEdge n) s (fun t => Tab.get none t.tim.meas n
        = some ((if s.tim.ns < 500000000 then 0 else 65536000000000) + signed16 (s.fld (refReg n 0) 23 8) * 65536 - Int.ofNat (s.tim.ns * 65536 + s.tim.frac), s.tim.ticks)
      ∧ t.flag (refReg n 0x10) 0 = true ∧ (∀ m, m ≠ n.val → Tab.get none t.tim.meas m = Tab.get none s.tim.meas m)
      ∧ RegsSame s t ([refReg n 0xC, refReg n 0x10, timEvent] ++ injectionRegs) ∧ t = { withRegsOf s t with tim := { s.tim with meas := t.tim.meas, edge := t.tim.edge, caps := t.tim.caps }, pmu := t.pmu }))
  ∧ (∀ (n : Fin 3) (v : Word) (s : State), s.fld (refReg n 0) 1 0 = 2 →
    Does (.referenceOffsetSubmit n v) s (fun t => Tab.get none t.tim.meas n = some ((v ++ Tab.get 0 s.bus.lowHalf (refReg n 4)).toInt, s.tim.ticks)
      ∧ t.reg (refReg n 8) = v.toNat ∧ t.reg (refReg n 4) = (Tab.get 0 s.bus.lowHalf (refReg n 4)).toNat ∧ t.flag (refReg n 0x10) 0 = s.flag (refReg n 0) 31
      ∧ RegsSame s t [refReg n 4, refReg n 8, refReg n 0xC, refReg n 0x10] ∧ t = { withRegsOf s t with tim := { s.tim with meas := t.tim.meas } }))
  ∧ (∀ (n : Fin 3) (s : State), s.refKind n = 1 → s.refValid n = none →
    Does (.referenceEdgeMissing n) s (fun t => t.flag (refReg n 0x10) 0 = false ∧ t.flag (refReg n 0x10) 1 = true ∧ RegsSame s t [refReg n 0x10] ∧ t = withRegsOf s t))
  ∧ (∀ (a b c dis : Int) (s : State), dis = Int.ofNat (max (s.fld 0x200038 15 0) 1 * 65536) → s.flag 0x200000 0 = false → s.timSt = 0 → s.refValid 0 = some a → s.refValid 1 = some b → s.voteDue = true →
    (s.refValid 2 = none → -dis ≤ a - b → a - b ≤ dis → Does .vote s (fun t => t.timSt = 1 ∧ t.flag timStat 3 = true ∧ t.reg 0x20003C = sat32 (toNs ((a + b) / 2))
      ∧ t.flag timEvent 0 = true ∧ t.flag (refReg 0 0x10) 0 = true ∧ t.flag (refReg 1 0x10) 0 = true ∧ t.flag (refReg 2 0x10) 0 = false ∧ t.flag (refReg 0 0x10) 2 = false
      ∧ RegsSame s t [timStat, timEvent, 0x20003C, refReg 0 0x10, refReg 1 0x10, refReg 2 0x10] ∧ t.tim.sec = s.tim.sec ∧ t.tim.ns = s.tim.ns ∧ t.line = s.line))
    ∧ (s.refValid 2 = some c → (∀ x ∈ [a, b, c], -dis ≤ x - max (min a b) (min (max a b) c) ∧ x - max (min a b) (min (max a b) c) ≤ dis) →
        Does .vote s (fun t => t.timSt = 1 ∧ t.flag timStat 3 = true ∧ t.reg 0x20003C = sat32 (toNs (max (min a b) (min (max a b) c))) ∧ t.flag timEvent 0 = true)))
  ∧ (∀ s : State, s.timSt = 2 → s.voteDue = true → (∀ n, n < 3 → s.refValid n = none) → Does .vote s (fun t => t.timSt = 3 ∧ t.flag timStat 3 = false ∧ t.flag timEvent 0 = true
      ∧ t.tim.holdF = s.meanF ∧ (s.flag 0x200000 0 = true → t.freq = signed32 (BitVec.ofInt 32 s.meanF).toNat) ∧ (s.flag 0x200000 0 = false → t.freq = s.freq)
      ∧ RegsSame s t [timStat, timEvent, 0x200030, refReg 0 0x10, refReg 1 0x10, refReg 2 0x10] ∧ t.tim.sec = s.tim.sec ∧ t.tim.ns = s.tim.ns ∧ t.line = s.line))
  ∧ (∀ (k : Fin 8) (v : Word) (s : State), s.flag (trgReg k 0) 31 = false → bitOf v.toNat 31 = true →
    Does (.triggerEnable k v) s (fun t => t.reg (trgReg k 0) = v.toNat &&& 0xE0000107 ∧ t.fld (trgReg k 0x18) 31 16 = 0
      ∧ Tab.get 0 t.tim.anchor k = s.reg (trgReg k 4) * 1000000000 + s.reg (trgReg k 8) ∧ RegsSame s t [trgReg k 0, trgReg k 0x18]
      ∧ t = { withRegsOf s t with tim := { s.tim with anchor := t.tim.anchor } }))
  ∧ (∀ (k : Fin 8) (s : State), s.flag (trgReg k 0) 31 = true → s.flag (trgReg k 0) 29 = false → s.trgReached k = true →
    Does (.triggerFire k) s (fun t => t.flag (trgReg k 0) 31 = false ∧ t.flag (trgReg k 0x18) 0 = true
      ∧ (s.fld (trgReg k 0) 2 0 = 1 → Tab.get 0 t.tim.pulse (s.fld (trgReg k 0) 8 8) = ceilDiv (4 * (if s.fld (trgReg k 0x14) 15 0 = 0 then 100 else s.fld (trgReg k 0x14) 15 0)) 5)
      ∧ (s.fld (trgReg k 0) 2 0 = 3 → t.tim.telemetry = s.tim.telemetry + 1 ∧ RegsSame s t [trgReg k 0, trgReg k 0x18, timEvent])
      ∧ (s.fld (trgReg k 0) 2 0 = 4 → t.flag beatStat 3 = true)
      ∧ t.tim.sec = s.tim.sec ∧ t.tim.ns = s.tim.ns ∧ t.line = s.line ∧ t.eng = s.eng ∧ t.pending = s.pending))
  ∧ (∀ (i : Fin 4) (rising : Bool) (s : State), s.flag 0x200300 (2 * i.val + b2n (!rising)) = true → Tab.get none s.tim.edge i = none → s.tim.caps.length < 64 →
    Does (.tevtEdge i rising) s (fun t => t.tim.caps = insertCap [s.tim.sec % 2 ^ 32, s.tim.ns + b2n rising * 2 ^ 30, s.tim.frac + i.val * 2 ^ 16] s.tim.caps
      ∧ Tab.get none t.tim.edge i = some s.tim.ticks ∧ t.flag timEvent 3 = true ∧ RegsSame s t (timEvent :: injectionRegs)
      ∧ t = { withRegsOf s t with tim := { s.tim with caps := t.tim.caps, edge := t.tim.edge }, pmu := t.pmu }))
  ∧ (∀ (r : Requester) (w : List Nat) (rest : List (List Nat)) (s : State),
    (s.tim.txts = w :: rest → Does (.queueFirstWordRead r true) s (fun t => Answered t r 0x200400 (w.headD 0) ∧ t = { withBusOf s t with tim := { s.tim with txLatch := w } }))
    ∧ (s.tim.caps = w :: rest → Does (.queueFirstWordRead r false) s (fun t => Answered t r 0x200310 (w.headD 0) ∧ t = { withBusOf s t with tim := { s.tim with capLatch := w } }))
    ∧ (s.tim.txts = w :: rest → s.tim.txLatch = w → w ≠ [] → Does (.queueLastWordRead r true) s (fun t => Answered t r 0x20040C (w.getD 3 0)
        ∧ t = { withBusOf s t with tim := { s.tim with txLatch := [], txts := rest } }))
    ∧ (s.tim.caps = w :: rest → s.tim.capLatch = w → w ≠ [] → Does (.queueLastWordRead r false) s (fun t => Answered t r 0x200318 (w.getD 2 0)
        ∧ t = { withBusOf s t with tim := { s.tim with capLatch := [], caps := rest } })))

/-- LIVE_VALUE_READ and SNAPSHOT_VALUE_READ return a counter of the module to its own window's requester. The first and the last word of a sample record
or of an error record are read by its owner, and the last word's read removes the record; firmware's read of an error record logs it. TRACE_ENABLE
starts an empty trace or ends a running one with CAUSE 4; TRACE_READ of a stopped trace returns an entry's words. An ERROR_REPORT of a class above 0
is counted (as the clock ends, R8), sets its class and its unit and enters the queue, and of class 3 sets FATAL and begins the hold; a report of a
statistics line clears the line's deltas, one of a match record drops it, and one of MSS SRAM restarts firmware. FATAL_HOLD_EXPIRY resets the module.
ON_DIE_SCRUB counts a sweep and reports a graph word found in error. INJECTION_ARM arms. MARGIN_LOW raises its die's rail by STEP_MV and is reported;
MARGIN_CRIT is reported and may begin a re-homing; CROSSING_WIRE_FLAG is recorded and reported. (Readings of R519 and R533: log 48.) -/
def Obligations.CountersErrorsAndAgeing : Prop :=
  (∀ (r : Requester) (w : Fin 2) (id : Nat) (s : State), requesterNo r = w.val → id = s.fld (0x501000 + w.val * 0x100) 27 0 → pmuKnown id = true → (pmuTm id = true → s.mssMode < 2) →
    Does (.liveValueRead r w) s (fun t => t.fld (0x501004 + w.val * 0x100) 31 28 = 0 ∧ t.reg64 (0x501008 + w.val * 0x100) = Tab.get 0 s.pmu.cnt id % 2 ^ 48
      ∧ t.reg64 (0x501010 + w.val * 0x100) = Tab.get 0 s.pmu.cnt id / 2 ^ 48 % 2 ^ 48
      ∧ RegsSame s t ((List.range 5).map fun i => 0x501004 + w.val * 0x100 + 4 * i) ∧ t = withRegsOf s t)
    ∧ Does (.snapshotValueRead r w) s (fun t => t.fld (0x501004 + w.val * 0x100) 31 28 = 0 ∧ t.reg64 (0x501008 + w.val * 0x100) = Tab.get 0 s.pmu.snap id % 2 ^ 48
      ∧ t.reg64 (0x501010 + w.val * 0x100) = Tab.get 0 s.pmu.snap id / 2 ^ 48 % 2 ^ 48
      ∧ RegsSame s t ((List.range 5).map fun i => 0x501004 + w.val * 0x100 + 4 * i) ∧ t = withRegsOf s t))
  ∧ (∀ (r : Requester) (s : State), s.flag 0x500100 30 = (r == .host) →
    Does (.smpRec0Read r) s (fun t => Answered t r 0x500200 (recWord s.pmu.queue.head? 0) ∧ t = { withBusOf s t with pmu := { s.pmu with latched := s.pmu.queue.head? } })
    ∧ (∀ x rest, s.pmu.queue = x :: rest → s.pmu.latched = some x → Does (.smpRec31Read r) s (fun t => Answered t r 0x50027C (recWord (some x) 31) ∧ t.pmu.queue = rest ∧ t.pmu.latched = none
        ∧ (r = .host → t.mss = s.mss) ∧ t = { withBusOf s t with pmu := { s.pmu with latched := none, queue := rest }, mss := { s.mss with flows := t.mss.flows } })))
  ∧ (∀ (l : Fin 16) (k : Fin 2) (v : Word) (s : State),
    (bitOf v.toNat 31 = true → Does (.traceEnable l k v) s (fun t => t.reg (trcBase l k) = v.toNat &&& 0xC0FF0100 ∧ t.trace l k = [] ∧ t.flag (trcBase l k + 8) 14 = !s.flag (trcBase l k + 4) 15
        ∧ t.fld (trcBase l k + 8) 12 0 = 0 ∧ RegsSame s t [trcBase l k, trcBase l k + 8] ∧ t = { withRegsOf s t with pmu := { s.pmu with traces := t.pmu.traces } }))
    ∧ (bitOf v.toNat 31 = false → s.flag (trcBase l k + 8) 14 = true → Does (.traceEnable l k v) s (fun t => t.flag (trcBase l k + 8) 14 = false ∧ t.flag (trcBase l k + 8) 15 = true
        ∧ t.fld (trcBase l k + 8) 18 16 = 4 ∧ t.trace l k = s.trace l k ∧ RegsSame s t [trcBase l k, trcBase l k + 8] ∧ t = withRegsOf s t)))
  ∧ (∀ (l : Fin 16) (k : Fin 2) (n : BitVec 12) (w0 w1 w2 : BitVec 64) (s : State), s.flag (trcBase l k + 8) 14 = false → (s.trace l k)[n.toNat]? = some (w0, w1, w2) →
    Does (.traceRead l k n) s (fun t => t.reg64 (trcBase l k + 0x10) = w0.toNat ∧ t.reg64 (trcBase l k + 0x18) = w1.toNat ∧ t.reg64 (trcBase l k + 0x20) = w2.toNat
      ∧ RegsSame s t ((List.range 7).map fun i => trcBase l k + 0xC + 4 * i) ∧ t = withRegsOf s t))
  ∧ (∀ (u code : Byte) (inst : BitVec 12) (det : Dword) (cls : Nat) (s : State), errClass u.toNat code.toNat = some cls → cls ≠ 0 → fromTm u.toNat code.toNat inst.toNat = false →
      u ≠ 0x09 → u ≠ 0x30 → code ≠ 0xF2 → ¬ (u = 0x10 ∧ code = 2) → ¬ (u = 0x50 ∧ code = 5) → s.err.queue.length < 1024 →
    Does (.errorReport [(u, code, inst, det)]) s (fun t =>
      t.err.queue = s.err.queue ++ [errBytes { unit := u.toNat, code := code.toNat, cls := cls, inst := inst.toNat, detail := det.toNat } s.err.lost s.err.seq s.beatN]
      ∧ t.err.lost = 0 ∧ t.err.seq = (s.err.seq + 1) % 65536
      ∧ Tab.get 0 t.bus.rcNow (0x400010 + cls * 4) = Tab.get 0 s.bus.rcNow (0x400010 + cls * 4) + 1 ∧ t.flag 0x400008 cls = true ∧ t.flag (0x400020 + u.toNat / 32 * 4) (u.toNat % 32) = true
      ∧ (cls = 3 → t.flag 0x400000 0 = true ∧ (s.flag 0x400004 16 = true → t.err.hold ≠ none)) ∧ (cls ≠ 3 → t.flag 0x400000 0 = s.flag 0x400000 0 ∧ t.mate = s.mate)
      ∧ RegsSame s t (reportRegs ++ [0x30000C, 0x300010]) ∧ t = { withReportOf s t with mate := t.mate, hif := t.hif }))
  ∧ (∀ (inst : BitVec 12) (det : Dword) (s : State),
    Does (.errorReport [(0x50, 5, inst, det)]) s (fun t => Tab.get (0, 0) t.tbl.statCache det.toNat = (0, 0)
      ∧ (∀ k, k ≠ det.toNat → Tab.get (0, 0) t.tbl.statCache k = Tab.get (0, 0) s.tbl.statCache k)
      ∧ RegsSame s t reportRegs ∧ t = { withReportOf s t with tbl := { s.tbl with statCache := t.tbl.statCache }, hif := t.hif })
    ∧ Does (.errorReport [(0x90, 0xF2, inst, det)]) s (fun t => t.cls.recs = dropAt s.cls.recs det.toNat ∧ t.flag patStat 8 = true
      ∧ RegsSame s t (patStat :: reportRegs) ∧ t = { withReportOf s t with cls := { s.cls with recs := t.cls.recs }, hif := t.hif })
    ∧ (s.boot.held = none → s.boot.flashBusy = false → Does (.errorReport [(0x09, 1, inst, det)]) s (fun t => t.mss.taken = [] ∧ t.upd = {} ∧ t.fld 0x801000 2 0 = 0
      ∧ t.fld bootReason 7 0 = s.fld bootReason 7 0 ∧ DataPlaneSame s t)))
  ∧ (∀ (c : Nat) (s : State), s.err.hold = some c → c + max (s.fld 0x400004 15 0) 1 * 1500000 ≤ s.bus.ticks → s.boot.held = none → s.boot.flashBusy = false →
    Does .fatalHoldExpiry s (fun t => InReset s t 4 ∧ BootRegsKept t ∧ (s.flag bootStat 6 = false → t.fld bootReason 15 8 = 0x1A ∧ t.fld bootReason 19 16 = s.bootStep)
      ∧ (s.flag bootStat 6 = true → t.reg bootReason = s.reg bootReason)))
  ∧ (∀ (r : Requester) (s : State), s.errOwner = r →
    Does (.errRec0Read r) s (fun t => Answered t r 0x400060 (recWord s.err.queue.head? 0) ∧ t = { withBusOf s t with err := { s.err with latched := s.err.queue.head? } })
    ∧ (∀ b rest, s.err.queue = b :: rest → s.err.latched = some b → Does (.errRec5Read r) s (fun t => Answered t r 0x400074 (recWord (some b) 5)
        ∧ t.err = { s.err with latched := none, queue := rest } ∧ t.reg 0x900008 = (if r = .mss then (s.reg 0x900008 + 1) % 2 ^ 32 else s.reg 0x900008)
        ∧ RegsSame s t logRegs ∧ t = { withBusOf s t with err := t.err, mss := withLogs s.mss t, boot := { s.boot with flashLog := t.boot.flashLog }, hif := t.hif })))
  ∧ (∀ (p : Fin 17) (w : BitVec 16) (late ok : Bool) (s : State), s.flag 0x4000B0 31 = true →
    Does (.onDieScrub (.sweepEnd late)) s (fun t => t.fld 0x4000B4 31 16 = (s.fld 0x4000B4 31 16 + 1) % 65536 ∧ (late = true → t.flag 0x4000B4 0 = true)
      ∧ RegsSame s t [0x4000B4] ∧ t = { withRegsOf s t with hif := t.hif })
    ∧ Does (.onDieScrub (.graph p w ok)) s (fun t => Tab.get 0 t.bus.rcNow (if ok then 0x400010 else 0x400014) = Tab.get 0 s.bus.rcNow (if ok then 0x400010 else 0x400014) + 1
      ∧ t.flag 0x400008 (if ok then 0 else 1) = true ∧ t.flag 0x400024 0 = true ∧ RegsSame s t reportRegs ∧ t = { withReportOf s t with hif := t.hif }))
  ∧ (∀ (r : Requester) (v : Word) (s : State), 1 ≤ bits v.toNat 7 0 → bits v.toNat 7 0 ≤ 17 → 1 ≤ bits v.toNat 25 24 → bits v.toNat 25 24 ≤ 2 →
    Does (.injectionArm r v) s (fun t => t.flag 0x400090 30 = true ∧ t.fld 0x400090 7 0 = bits v.toNat 7 0 ∧ t.fld 0x400090 23 12 = bits v.toNat 23 12
      ∧ t.fld 0x400090 25 24 = bits v.toNat 25 24 ∧ Answered t r 0x400090 0 ∧ RegsSame s t [0x400090] ∧ t = { withBusOf s t with hif := t.hif }))
  ∧ (∀ (m : Fin 34) (margin : Byte) (s : State), s.mssMode = 1 → margin.toNat < s.marginLow → s.raisedMv (monDie m) < s.maxMv →
      (Tab.get 0 s.err.stepAt (monDie m) = 0 ∨ Tab.get 0 s.err.stepAt (monDie m) + 86400 ≤ s.tim.sec + 1) →
    Does (.marginLow m margin true) s (fun t => Tab.get 0 t.err.raised (monDie m) = min (s.raisedMv (monDie m) + s.stepMv) s.maxMv
      ∧ Tab.get 0 t.err.stepAt (monDie m) = s.tim.sec + 1 ∧ t.fld (0x58 + 4 * monDie m) 15 0 = (nominalMv (monDie m) + min (s.raisedMv (monDie m) + s.stepMv) s.maxMv) % 65536
      ∧ Tab.get 0 t.bus.rcNow 0x400010 = Tab.get 0 s.bus.rcNow 0x400010 + 1 ∧ t.flag 0x400008 0 = true ∧ t.reg 0x900008 = (s.reg 0x900008 + 1) % 2 ^ 32
      ∧ RegsSame s t (reportRegs ++ logRegs ++ [0x58, 0x5C, 0x4000A4])
      ∧ t = { withReportOf s t with mss := withLogs s.mss t, boot := { s.boot with flashLog := t.boot.flashLog }, hif := t.hif, fresh := t.fresh }))
  ∧ (∀ (m : Fin 34) (margin : Byte) (s : State), s.mssMode = 1 → margin.toNat < s.marginCrit → s.maxMv ≤ s.raisedMv (monDie m) →
    Does (.marginCrit m margin) s (fun t => Tab.get 0 t.bus.rcNow 0x400018 = Tab.get 0 s.bus.rcNow 0x400018 + 1 ∧ t.flag 0x400008 2 = true
      ∧ (∀ q, m.val < 16 → s.flag 0x4000A0 31 = true → s.flag (aveWin m + 4) 4 = true → s.err.rehome = none → s.spareAve = some q → t.err.rehome = some (m.val, q, 0))
      ∧ (16 ≤ m.val → t.err.rehome = s.err.rehome) ∧ RegsSame s t reportRegs ∧ t = { withReportOf s t with hif := t.hif, fresh := t.fresh }))
  ∧ (∀ (dir : Fin 2) (link : Fin 64) (wire : BitVec 6) (s : State), s.mssMode = 1 → (dir.val * 64 + link.val, wire.toNat) ∉ s.err.wires →
    Does (.crossingWireFlag dir link wire) s (fun t => t.flag (0x400080 + dir.val * 4) 31 = true ∧ t.fld (0x400080 + dir.val * 4) 13 8 = link.val
      ∧ t.fld (0x400080 + dir.val * 4) 5 0 = wire.toNat ∧ t.err.wires = (dir.val * 64 + link.val, wire.toNat) :: s.err.wires
      ∧ Tab.get 0 t.bus.rcNow 0x400010 = Tab.get 0 s.bus.rcNow 0x400010 + 1 ∧ RegsSame s t (reportRegs ++ logRegs ++ [0x400080 + dir.val * 4])
      ∧ t = { withReportOf s t with mss := withLogs s.mss t, boot := { s.boot with flashLog := t.boot.flashLog }, hif := t.hif, fresh := t.fresh }))

/-- After reset the register file is in its canonical form, the time counter is within its ranges, and the error record queue holds no more than 1,024
records. (The canonical form of the register file is the model's own: log 1.) -/
def Obligations.InvariantAtReset : Prop :=
  StateInv State.reset

/-- From every state whose register file is in its canonical form (an offset listed once, none with its reset value), whose time counter holds seconds
below 2^48, nanoseconds below 1,000,000,000 and a fraction below 65,536, and whose error record queue holds at most 1,024 records, every step that
answers a next state, whatever command it takes, answers one of which the same holds. (The canonical form of the register file is the model's own: log
1.) -/
def Obligations.InvariantKeptByEveryStep : Prop :=
  ∀ s t : State, StateInv s → step s = .next t → StateInv t

/-- Every command whose operands are in the ranges that the spec gives them is carried out from every state: none ends in a fault or a refusal. (A command
that arrives where its rule does not let it act leaves the state as it is: log 3.) -/
def Obligations.WellFormedCommandsComplete : Prop :=
  ∀ (c : Instr) (s : State), c.wf = true → ∃ t, exec c s = .next t
end

