-- ==== Sys2Proof/Laws/Tab.lean ====
section
/-! SUPPORT. Laws of sparse tables: a read after a write, and the canonical form that every operation keeps. -/

namespace Sys2Proof.Machine

variable {α : Type}

theorem Tab.at_without_self (d : Nat → α) (t : Tab α) (n : Nat) : Tab.at d (Tab.without t n) n = d n := by
  induction t with
  | nil => rfl
  | cons e t ih =>
    obtain ⟨k, v⟩ := e
    by_cases h : k = n
    · simp [Tab.without, h, ih]
    · simp [Tab.without, Tab.at, h, ih, Ne.symm h]

theorem Tab.at_without_ne (d : Nat → α) (t : Tab α) {n m : Nat} (hm : m ≠ n) : Tab.at d (Tab.without t n) m = Tab.at d t m := by
  induction t with
  | nil => rfl
  | cons e t ih =>
    obtain ⟨k, v⟩ := e
    by_cases h : k = n
    · subst h; simp [Tab.without, Tab.at, ih, hm]
    · simp [Tab.without, Tab.at, h, ih]

theorem Tab.at_enter_ne (d : Nat → α) (t : Tab α) {n m : Nat} (x : α) (hm : m ≠ n) : Tab.at d (Tab.enter t n x) m = Tab.at d t m := by
  induction t with
  | nil => simp [Tab.enter, Tab.at, hm]
  | cons e t ih =>
    obtain ⟨k, v⟩ := e
    by_cases h : n < k
    · simp [Tab.enter, Tab.at, h, hm]
    · simp [Tab.enter, Tab.at, h, ih]

theorem Tab.at_enter_without_self (d : Nat → α) (t : Tab α) (n : Nat) (x : α) : Tab.at d (Tab.enter (Tab.without t n) n x) n = x := by
  induction t with
  | nil => simp [Tab.without, Tab.enter, Tab.at]
  | cons e t ih =>
    obtain ⟨k, v⟩ := e
    by_cases h : k = n
    · simp [Tab.without, h, ih]
    · by_cases h' : n < k
      · simp [Tab.without, Tab.enter, Tab.at, h, h']
      · simp [Tab.without, Tab.enter, Tab.at, h, h', ih, Ne.symm h]

/-- A read of the key just written gives the value written. -/
theorem Tab.at_put_self [DecidableEq α] (d : Nat → α) (t : Tab α) (n : Nat) (x : α) : Tab.at d (Tab.put d t n x) n = x := by
  unfold Tab.put
  split
  · rename_i h; rw [Tab.at_without_self, h]
  · exact Tab.at_enter_without_self d t n x

/-- A write leaves every other key as it was. -/
theorem Tab.at_put_ne [DecidableEq α] (d : Nat → α) (t : Tab α) {n m : Nat} (x : α) (hm : m ≠ n) :
    Tab.at d (Tab.put d t n x) m = Tab.at d t m := by
  unfold Tab.put
  split
  · exact Tab.at_without_ne d t hm
  · rw [Tab.at_enter_ne d _ x hm, Tab.at_without_ne d t hm]

theorem Tab.at_put [DecidableEq α] (d : Nat → α) (t : Tab α) (n m : Nat) (x : α) :
    Tab.at d (Tab.put d t n x) m = if m = n then x else Tab.at d t m := by
  split
  · rename_i h; subst h; exact Tab.at_put_self d t m x
  · rename_i h; exact Tab.at_put_ne d t x h

@[simp] theorem Tab.get_set_self [DecidableEq α] (x : α) (t : Tab α) (n : Nat) (v : α) : Tab.get x (Tab.set x t n v) n = v :=
  Tab.at_put_self _ t n v

theorem Tab.get_set_ne [DecidableEq α] (x : α) (t : Tab α) {n m : Nat} (v : α) (h : m ≠ n) :
    Tab.get x (Tab.set x t n v) m = Tab.get x t m := Tab.at_put_ne _ t v h

theorem Tab.get_set [DecidableEq α] (x : α) (t : Tab α) (n m : Nat) (v : α) :
    Tab.get x (Tab.set x t n v) m = if m = n then v else Tab.get x t m := Tab.at_put _ t n m v

@[simp] theorem Tab.get_nil (x : α) (n : Nat) : Tab.get x [] n = x := rfl

/-! ## The canonical form -/

theorem Tab.wfFrom_mono [DecidableEq α] (d : Nat → α) : ∀ (t : Tab α) {lo lo' : Nat}, lo' ≤ lo → Tab.wfFrom d lo t = true → Tab.wfFrom d lo' t = true
  | [], _, _, _, _ => rfl
  | (k, v) :: t, lo, lo', h, hw => by
    simp only [Tab.wfFrom, Bool.and_eq_true, decide_eq_true_eq] at hw ⊢
    exact ⟨⟨by omega, hw.1.2⟩, hw.2⟩

theorem Tab.without_wf [DecidableEq α] (d : Nat → α) : ∀ (t : Tab α) (lo n : Nat), Tab.wfFrom d lo t = true → Tab.wfFrom d lo (Tab.without t n) = true
  | [], _, _, _ => rfl
  | (k, v) :: t, lo, n, hw => by
    simp only [Tab.wfFrom, Bool.and_eq_true, decide_eq_true_eq] at hw
    by_cases h : k = n
    · simp only [Tab.without, h, if_true]
      exact Tab.without_wf d t lo n (Tab.wfFrom_mono d t (by omega) hw.2)
    · simp only [Tab.without, h, if_false, Tab.wfFrom, Bool.and_eq_true, decide_eq_true_eq]
      exact ⟨hw.1, Tab.without_wf d t (k + 1) n hw.2⟩

theorem Tab.enter_wf [DecidableEq α] (d : Nat → α) (n : Nat) (x : α) (hx : x ≠ d n) :
    ∀ (t : Tab α) (lo : Nat), lo ≤ n → Tab.wfFrom d lo (Tab.without t n) = true → Tab.wfFrom d lo (Tab.enter (Tab.without t n) n x) = true
  | [], lo, hlo, _ => by simp [Tab.without, Tab.enter, Tab.wfFrom, hlo, hx]
  | (k, v) :: t, lo, hlo, hw => by
    by_cases h : k = n
    · simp only [Tab.without, h, if_true] at hw ⊢
      exact Tab.enter_wf d n x hx t lo hlo hw
    · simp only [Tab.without, h, if_false, Tab.wfFrom, Bool.and_eq_true, decide_eq_true_eq] at hw ⊢
      by_cases h' : n < k
      · simp only [Tab.enter, h', if_true, Tab.wfFrom, Bool.and_eq_true, decide_eq_true_eq]
        exact ⟨⟨hlo, hx⟩, ⟨by omega, hw.1.2⟩, hw.2⟩
      · simp only [Tab.enter, h', if_false, Tab.wfFrom, Bool.and_eq_true, decide_eq_true_eq]
        exact ⟨hw.1, Tab.enter_wf d n x hx t (k + 1) (by omega) hw.2⟩

/-- A write keeps the canonical form. -/
theorem Tab.put_wf [DecidableEq α] (d : Nat → α) (t : Tab α) (n : Nat) (x : α) (h : Tab.wf d t = true) :
    Tab.wf d (Tab.put d t n x) = true := by
  unfold Tab.wf Tab.put at *
  split
  · exact Tab.without_wf d t 0 n h
  · rename_i hx; exact Tab.enter_wf d n x hx t 0 (Nat.zero_le n) (Tab.without_wf d t 0 n h)

theorem Tab.set_wf [DecidableEq α] (x : α) (t : Tab α) (n : Nat) (v : α) (h : Tab.wf (fun _ => x) t = true) :
    Tab.wf (fun _ => x) (Tab.set x t n v) = true := Tab.put_wf _ t n v h

/-- Writes of consecutive keys keep the canonical form. -/
theorem Tab.setList_wf [DecidableEq α] (x : α) : ∀ (vs : List α) (t : Tab α) (n : Nat), Tab.wf (fun _ => x) t = true →
    Tab.wf (fun _ => x) (Tab.setList x t n vs) = true
  | [], _, _, h => h
  | v :: vs, t, n, h => Tab.setList_wf x vs _ (n + 1) (Tab.set_wf x t n v h)

theorem Tab.filter_wf [DecidableEq α] (d : Nat → α) (p : Nat × α → Bool) :
    ∀ (t : Tab α) (lo : Nat), Tab.wfFrom d lo t = true → Tab.wfFrom d lo (t.filter p) = true
  | [], _, _ => rfl
  | (k, v) :: t, lo, hw => by
    simp only [Tab.wfFrom, Bool.and_eq_true, decide_eq_true_eq] at hw
    by_cases h : p (k, v)
    · simp only [List.filter_cons, h, if_true, Tab.wfFrom, Bool.and_eq_true, decide_eq_true_eq]
      exact ⟨hw.1, Tab.filter_wf d p t (k + 1) hw.2⟩
    · simp only [List.filter_cons, h]
      exact Tab.filter_wf d p t lo (Tab.wfFrom_mono d t (by omega) hw.2)

/-- A cleared range keeps the canonical form. -/
theorem Tab.clear_wf [DecidableEq α] (d : Nat → α) (t : Tab α) (lo hi : Nat) (h : Tab.wf d t = true) : Tab.wf d (Tab.clear t lo hi) = true :=
  Tab.filter_wf d _ t 0 h

/-- Bytes written are the bytes read back. -/
theorem Tab.getList_setList_below [DecidableEq α] (x : α) : ∀ (vs : List α) (t : Tab α) (n m : Nat), m < n →
    Tab.get x (Tab.setList x t n vs) m = Tab.get x t m
  | [], _, _, _, _ => rfl
  | v :: vs, t, n, m, h => by
    rw [Tab.setList, Tab.getList_setList_below x vs _ (n + 1) m (by omega), Tab.get_set_ne x t v (by omega)]

theorem Tab.getList_setList [DecidableEq α] (x : α) : ∀ (vs : List α) (t : Tab α) (n : Nat),
    Tab.getList x (Tab.setList x t n vs) n vs.length = vs
  | [], _, _ => rfl
  | v :: vs, t, n => by
    simp only [Tab.setList, Tab.getList, List.length_cons]
    rw [Tab.getList_setList_below x vs _ (n + 1) n (by omega), Tab.get_set_self, Tab.getList_setList x vs _ (n + 1)]

end Sys2Proof.Machine
end

