-- ==== Sys2Proof/Laws/State.lean ====
section
/-! SUPPORT. What each named update of the state leaves as it was, field by field, and what a register reads after a write. -/

namespace Sys2Proof

/-! ## Bit fields -/

theorem bits_testBit (n hi lo i : Nat) : (bits n hi lo).testBit i = (decide (i < hi + 1 - lo) && n.testBit (lo + i)) := by
  unfold bits
  rw [Nat.testBit_mod_two_pow, Nat.testBit_div_two_pow, Nat.add_comm i lo]

theorem bits_lt (n hi lo : Nat) : bits n hi lo < 2 ^ (hi + 1 - lo) := Nat.mod_lt _ (Nat.two_pow_pos _)

theorem bitOf_eq (n i : Nat) : bitOf n i = n.testBit i := by
  rw [Nat.testBit_eq_decide_div_mod_eq]; unfold bitOf; rfl

namespace Machine
theorem putBits_split (n hi lo v : Nat) :
    putBits n hi lo v = 2 ^ lo * (2 ^ (hi + 1 - lo) * (n / 2 ^ lo / 2 ^ (hi + 1 - lo)) + v % 2 ^ (hi + 1 - lo)) + n % 2 ^ lo := by
  unfold putBits bits
  generalize hw : 2 ^ (hi + 1 - lo) = W
  generalize hl : 2 ^ lo = L
  have h1 := Nat.div_add_mod n L
  have h2 := Nat.div_add_mod (n / L) W
  generalize n / L = q at *
  have h3 : L * q = L * (W * (q / W)) + L * (q % W) := by rw [← Nat.mul_add, h2]
  rw [Nat.mul_add, Nat.mul_comm (q % W) L, Nat.mul_comm (v % W) L]
  omega

theorem putBits_testBit (n hi lo v i : Nat) :
    (putBits n hi lo v).testBit i = if lo ≤ i ∧ i < lo + (hi + 1 - lo) then v.testBit (i - lo) else n.testBit i := by
  rw [putBits_split, Nat.testBit_two_pow_mul_add _ (Nat.mod_lt _ (Nat.two_pow_pos _))]
  by_cases h : i < lo
  · simp only [h, if_true, Nat.testBit_mod_two_pow]
    rw [if_neg (by omega)]; simp
  · simp only [h, if_false]
    rw [Nat.testBit_two_pow_mul_add _ (Nat.mod_lt _ (Nat.two_pow_pos _))]
    by_cases h' : i - lo < hi + 1 - lo
    · simp only [h', if_true, Nat.testBit_mod_two_pow]
      rw [if_pos (by omega)]; simp
    · simp only [h', if_false]
      rw [if_neg (by omega), Nat.testBit_div_two_pow, Nat.testBit_div_two_pow]
      congr 1; omega

theorem bits_putBits_self (n hi lo v : Nat) : bits (putBits n hi lo v) hi lo = v % 2 ^ (hi + 1 - lo) := by
  apply Nat.eq_of_testBit_eq; intro i
  rw [bits_testBit, putBits_testBit, Nat.testBit_mod_two_pow]
  by_cases h : i < hi + 1 - lo
  · rw [if_pos (by omega)]; simp [h]
  · simp [h]

theorem bits_putBits_ne (n hi lo v : Nat) {h l : Nat} (d : h < lo ∨ hi < l) : bits (putBits n hi lo v) h l = bits n h l := by
  apply Nat.eq_of_testBit_eq; intro i
  rw [bits_testBit, bits_testBit, putBits_testBit]
  by_cases hh : i < h + 1 - l
  · rw [if_neg (by omega)]
  · simp [hh]

theorem bitOf_putBits_ne (n hi lo v : Nat) {i : Nat} (d : i < lo ∨ hi < i) : bitOf (putBits n hi lo v) i = bitOf n i := by
  rw [bitOf_eq, bitOf_eq, putBits_testBit, if_neg (by omega)]

theorem bits_mod32 (n : Nat) {h l : Nat} (hh : h ≤ 31) : bits (n % 2 ^ 32) h l = bits n h l := by
  apply Nat.eq_of_testBit_eq; intro i
  rw [bits_testBit, bits_testBit, Nat.testBit_mod_two_pow]
  by_cases hi : i < h + 1 - l
  · have : l + i < 32 := by omega
    simp [this]
  · simp [hi]

theorem bitOf_mod32 (n : Nat) {i : Nat} (hi : i ≤ 31) : bitOf (n % 2 ^ 32) i = bitOf n i := by
  rw [bitOf_eq, bitOf_eq, Nat.testBit_mod_two_pow]; simp; omega

/-! ## Fields that an update leaves -/

@[simp] theorem State.setReg_pmu (s : State) (a v : Nat) : (s.setReg a v).pmu = s.pmu := rfl
@[simp] theorem State.setReg_err (s : State) (a v : Nat) : (s.setReg a v).err = s.err := rfl
@[simp] theorem State.setReg_line (s : State) (a v : Nat) : (s.setReg a v).line = s.line := rfl
@[simp] theorem State.setReg_eng (s : State) (a v : Nat) : (s.setReg a v).eng = s.eng := rfl
@[simp] theorem State.setReg_tim (s : State) (a v : Nat) : (s.setReg a v).tim = s.tim := rfl
@[simp] theorem State.setReg_tbl (s : State) (a v : Nat) : (s.setReg a v).tbl = s.tbl := rfl
@[simp] theorem State.setReg_cls (s : State) (a v : Nat) : (s.setReg a v).cls = s.cls := rfl
@[simp] theorem State.setReg_lrn (s : State) (a v : Nat) : (s.setReg a v).lrn = s.lrn := rfl
@[simp] theorem State.setReg_cross (s : State) (a v : Nat) : (s.setReg a v).cross = s.cross := rfl
@[simp] theorem State.setReg_sq (s : State) (a v : Nat) : (s.setReg a v).sq = s.sq := rfl
@[simp] theorem State.setReg_sch (s : State) (a v : Nat) : (s.setReg a v).sch = s.sch := rfl
@[simp] theorem State.setReg_fab (s : State) (a v : Nat) : (s.setReg a v).fab = s.fab := rfl
@[simp] theorem State.setReg_hbm (s : State) (a v : Nat) : (s.setReg a v).hbm = s.hbm := rfl
@[simp] theorem State.setReg_hif (s : State) (a v : Nat) : (s.setReg a v).hif = s.hif := rfl
@[simp] theorem State.setReg_mate (s : State) (a v : Nat) : (s.setReg a v).mate = s.mate := rfl
@[simp] theorem State.setReg_mss (s : State) (a v : Nat) : (s.setReg a v).mss = s.mss := rfl
@[simp] theorem State.setReg_boot (s : State) (a v : Nat) : (s.setReg a v).boot = s.boot := rfl
@[simp] theorem State.setReg_upd (s : State) (a v : Nat) : (s.setReg a v).upd = s.upd := rfl
@[simp] theorem State.setReg_elec (s : State) (a v : Nat) : (s.setReg a v).elec = s.elec := rfl
@[simp] theorem State.setReg_fresh (s : State) (a v : Nat) : (s.setReg a v).fresh = s.fresh := rfl
@[simp] theorem State.setReg_pending (s : State) (a v : Nat) : (s.setReg a v).pending = s.pending := rfl
@[simp] theorem State.setFld_pmu (s : State) (a hi lo v : Nat) : (s.setFld a hi lo v).pmu = s.pmu := rfl
@[simp] theorem State.setFld_err (s : State) (a hi lo v : Nat) : (s.setFld a hi lo v).err = s.err := rfl
@[simp] theorem State.setFld_line (s : State) (a hi lo v : Nat) : (s.setFld a hi lo v).line = s.line := rfl
@[simp] theorem State.setFld_eng (s : State) (a hi lo v : Nat) : (s.setFld a hi lo v).eng = s.eng := rfl
@[simp] theorem State.setFld_tim (s : State) (a hi lo v : Nat) : (s.setFld a hi lo v).tim = s.tim := rfl
@[simp] theorem State.setFld_tbl (s : State) (a hi lo v : Nat) : (s.setFld a hi lo v).tbl = s.tbl := rfl
@[simp] theorem State.setFld_cls (s : State) (a hi lo v : Nat) : (s.setFld a hi lo v).cls = s.cls := rfl
@[simp] theorem State.setFld_lrn (s : State) (a hi lo v : Nat) : (s.setFld a hi lo v).lrn = s.lrn := rfl
@[simp] theorem State.setFld_cross (s : State) (a hi lo v : Nat) : (s.setFld a hi lo v).cross = s.cross := rfl
@[simp] theorem State.setFld_sq (s : State) (a hi lo v : Nat) : (s.setFld a hi lo v).sq = s.sq := rfl
@[simp] theorem State.setFld_sch (s : State) (a hi lo v : Nat) : (s.setFld a hi lo v).sch = s.sch := rfl
@[simp] theorem State.setFld_fab (s : State) (a hi lo v : Nat) : (s.setFld a hi lo v).fab = s.fab := rfl
@[simp] theorem State.setFld_hbm (s : State) (a hi lo v : Nat) : (s.setFld a hi lo v).hbm = s.hbm := rfl
@[simp] theorem State.setFld_hif (s : State) (a hi lo v : Nat) : (s.setFld a hi lo v).hif = s.hif := rfl
@[simp] theorem State.setFld_mate (s : State) (a hi lo v : Nat) : (s.setFld a hi lo v).mate = s.mate := rfl
@[simp] theorem State.setFld_mss (s : State) (a hi lo v : Nat) : (s.setFld a hi lo v).mss = s.mss := rfl
@[simp] theorem State.setFld_boot (s : State) (a hi lo v : Nat) : (s.setFld a hi lo v).boot = s.boot := rfl
@[simp] theorem State.setFld_upd (s : State) (a hi lo v : Nat) : (s.setFld a hi lo v).upd = s.upd := rfl
@[simp] theorem State.setFld_elec (s : State) (a hi lo v : Nat) : (s.setFld a hi lo v).elec = s.elec := rfl
@[simp] theorem State.setFld_fresh (s : State) (a hi lo v : Nat) : (s.setFld a hi lo v).fresh = s.fresh := rfl
@[simp] theorem State.setFld_pending (s : State) (a hi lo v : Nat) : (s.setFld a hi lo v).pending = s.pending := rfl
@[simp] theorem State.setFlag_pmu (s : State) (a i : Nat) (b : Bool) : (s.setFlag a i b).pmu = s.pmu := rfl
@[simp] theorem State.setFlag_err (s : State) (a i : Nat) (b : Bool) : (s.setFlag a i b).err = s.err := rfl
@[simp] theorem State.setFlag_line (s : State) (a i : Nat) (b : Bool) : (s.setFlag a i b).line = s.line := rfl
@[simp] theorem State.setFlag_eng (s : State) (a i : Nat) (b : Bool) : (s.setFlag a i b).eng = s.eng := rfl
@[simp] theorem State.setFlag_tim (s : State) (a i : Nat) (b : Bool) : (s.setFlag a i b).tim = s.tim := rfl
@[simp] theorem State.setFlag_tbl (s : State) (a i : Nat) (b : Bool) : (s.setFlag a i b).tbl = s.tbl := rfl
@[simp] theorem State.setFlag_cls (s : State) (a i : Nat) (b : Bool) : (s.setFlag a i b).cls = s.cls := rfl
@[simp] theorem State.setFlag_lrn (s : State) (a i : Nat) (b : Bool) : (s.setFlag a i b).lrn = s.lrn := rfl
@[simp] theorem State.setFlag_cross (s : State) (a i : Nat) (b : Bool) : (s.setFlag a i b).cross = s.cross := rfl
@[simp] theorem State.setFlag_sq (s : State) (a i : Nat) (b : Bool) : (s.setFlag a i b).sq = s.sq := rfl
@[simp] theorem State.setFlag_sch (s : State) (a i : Nat) (b : Bool) : (s.setFlag a i b).sch = s.sch := rfl
@[simp] theorem State.setFlag_fab (s : State) (a i : Nat) (b : Bool) : (s.setFlag a i b).fab = s.fab := rfl
@[simp] theorem State.setFlag_hbm (s : State) (a i : Nat) (b : Bool) : (s.setFlag a i b).hbm = s.hbm := rfl
@[simp] theorem State.setFlag_hif (s : State) (a i : Nat) (b : Bool) : (s.setFlag a i b).hif = s.hif := rfl
@[simp] theorem State.setFlag_mate (s : State) (a i : Nat) (b : Bool) : (s.setFlag a i b).mate = s.mate := rfl
@[simp] theorem State.setFlag_mss (s : State) (a i : Nat) (b : Bool) : (s.setFlag a i b).mss = s.mss := rfl
@[simp] theorem State.setFlag_boot (s : State) (a i : Nat) (b : Bool) : (s.setFlag a i b).boot = s.boot := rfl
@[simp] theorem State.setFlag_upd (s : State) (a i : Nat) (b : Bool) : (s.setFlag a i b).upd = s.upd := rfl
@[simp] theorem State.setFlag_elec (s : State) (a i : Nat) (b : Bool) : (s.setFlag a i b).elec = s.elec := rfl
@[simp] theorem State.setFlag_fresh (s : State) (a i : Nat) (b : Bool) : (s.setFlag a i b).fresh = s.fresh := rfl
@[simp] theorem State.setFlag_pending (s : State) (a i : Nat) (b : Bool) : (s.setFlag a i b).pending = s.pending := rfl
@[simp] theorem State.raise_pmu (s : State) (a i : Nat) : (s.raise a i).pmu = s.pmu := rfl
@[simp] theorem State.raise_err (s : State) (a i : Nat) : (s.raise a i).err = s.err := rfl
@[simp] theorem State.raise_line (s : State) (a i : Nat) : (s.raise a i).line = s.line := rfl
@[simp] theorem State.raise_eng (s : State) (a i : Nat) : (s.raise a i).eng = s.eng := rfl
@[simp] theorem State.raise_tim (s : State) (a i : Nat) : (s.raise a i).tim = s.tim := rfl
@[simp] theorem State.raise_tbl (s : State) (a i : Nat) : (s.raise a i).tbl = s.tbl := rfl
@[simp] theorem State.raise_cls (s : State) (a i : Nat) : (s.raise a i).cls = s.cls := rfl
@[simp] theorem State.raise_lrn (s : State) (a i : Nat) : (s.raise a i).lrn = s.lrn := rfl
@[simp] theorem State.raise_cross (s : State) (a i : Nat) : (s.raise a i).cross = s.cross := rfl
@[simp] theorem State.raise_sq (s : State) (a i : Nat) : (s.raise a i).sq = s.sq := rfl
@[simp] theorem State.raise_sch (s : State) (a i : Nat) : (s.raise a i).sch = s.sch := rfl
@[simp] theorem State.raise_fab (s : State) (a i : Nat) : (s.raise a i).fab = s.fab := rfl
@[simp] theorem State.raise_hbm (s : State) (a i : Nat) : (s.raise a i).hbm = s.hbm := rfl
@[simp] theorem State.raise_hif (s : State) (a i : Nat) : (s.raise a i).hif = s.hif := rfl
@[simp] theorem State.raise_mate (s : State) (a i : Nat) : (s.raise a i).mate = s.mate := rfl
@[simp] theorem State.raise_mss (s : State) (a i : Nat) : (s.raise a i).mss = s.mss := rfl
@[simp] theorem State.raise_boot (s : State) (a i : Nat) : (s.raise a i).boot = s.boot := rfl
@[simp] theorem State.raise_upd (s : State) (a i : Nat) : (s.raise a i).upd = s.upd := rfl
@[simp] theorem State.raise_elec (s : State) (a i : Nat) : (s.raise a i).elec = s.elec := rfl
@[simp] theorem State.raise_fresh (s : State) (a i : Nat) : (s.raise a i).fresh = s.fresh := rfl
@[simp] theorem State.raise_pending (s : State) (a i : Nat) : (s.raise a i).pending = s.pending := rfl
@[simp] theorem State.bumpReg_pmu (s : State) (a n : Nat) : (s.bumpReg a n).pmu = s.pmu := rfl
@[simp] theorem State.bumpReg_err (s : State) (a n : Nat) : (s.bumpReg a n).err = s.err := rfl
@[simp] theorem State.bumpReg_line (s : State) (a n : Nat) : (s.bumpReg a n).line = s.line := rfl
@[simp] theorem State.bumpReg_eng (s : State) (a n : Nat) : (s.bumpReg a n).eng = s.eng := rfl
@[simp] theorem State.bumpReg_tim (s : State) (a n : Nat) : (s.bumpReg a n).tim = s.tim := rfl
@[simp] theorem State.bumpReg_tbl (s : State) (a n : Nat) : (s.bumpReg a n).tbl = s.tbl := rfl
@[simp] theorem State.bumpReg_cls (s : State) (a n : Nat) : (s.bumpReg a n).cls = s.cls := rfl
@[simp] theorem State.bumpReg_lrn (s : State) (a n : Nat) : (s.bumpReg a n).lrn = s.lrn := rfl
@[simp] theorem State.bumpReg_cross (s : State) (a n : Nat) : (s.bumpReg a n).cross = s.cross := rfl
@[simp] theorem State.bumpReg_sq (s : State) (a n : Nat) : (s.bumpReg a n).sq = s.sq := rfl
@[simp] theorem State.bumpReg_sch (s : State) (a n : Nat) : (s.bumpReg a n).sch = s.sch := rfl
@[simp] theorem State.bumpReg_fab (s : State) (a n : Nat) : (s.bumpReg a n).fab = s.fab := rfl
@[simp] theorem State.bumpReg_hbm (s : State) (a n : Nat) : (s.bumpReg a n).hbm = s.hbm := rfl
@[simp] theorem State.bumpReg_hif (s : State) (a n : Nat) : (s.bumpReg a n).hif = s.hif := rfl
@[simp] theorem State.bumpReg_mate (s : State) (a n : Nat) : (s.bumpReg a n).mate = s.mate := rfl
@[simp] theorem State.bumpReg_mss (s : State) (a n : Nat) : (s.bumpReg a n).mss = s.mss := rfl
@[simp] theorem State.bumpReg_boot (s : State) (a n : Nat) : (s.bumpReg a n).boot = s.boot := rfl
@[simp] theorem State.bumpReg_upd (s : State) (a n : Nat) : (s.bumpReg a n).upd = s.upd := rfl
@[simp] theorem State.bumpReg_elec (s : State) (a n : Nat) : (s.bumpReg a n).elec = s.elec := rfl
@[simp] theorem State.bumpReg_fresh (s : State) (a n : Nat) : (s.bumpReg a n).fresh = s.fresh := rfl
@[simp] theorem State.bumpReg_pending (s : State) (a n : Nat) : (s.bumpReg a n).pending = s.pending := rfl
@[simp] theorem State.setReg64_pmu (s : State) (a v : Nat) : (s.setReg64 a v).pmu = s.pmu := rfl
@[simp] theorem State.setReg64_err (s : State) (a v : Nat) : (s.setReg64 a v).err = s.err := rfl
@[simp] theorem State.setReg64_line (s : State) (a v : Nat) : (s.setReg64 a v).line = s.line := rfl
@[simp] theorem State.setReg64_eng (s : State) (a v : Nat) : (s.setReg64 a v).eng = s.eng := rfl
@[simp] theorem State.setReg64_tim (s : State) (a v : Nat) : (s.setReg64 a v).tim = s.tim := rfl
@[simp] theorem State.setReg64_tbl (s : State) (a v : Nat) : (s.setReg64 a v).tbl = s.tbl := rfl
@[simp] theorem State.setReg64_cls (s : State) (a v : Nat) : (s.setReg64 a v).cls = s.cls := rfl
@[simp] theorem State.setReg64_lrn (s : State) (a v : Nat) : (s.setReg64 a v).lrn = s.lrn := rfl
@[simp] theorem State.setReg64_cross (s : State) (a v : Nat) : (s.setReg64 a v).cross = s.cross := rfl
@[simp] theorem State.setReg64_sq (s : State) (a v : Nat) : (s.setReg64 a v).sq = s.sq := rfl
@[simp] theorem State.setReg64_sch (s : State) (a v : Nat) : (s.setReg64 a v).sch = s.sch := rfl
@[simp] theorem State.setReg64_fab (s : State) (a v : Nat) : (s.setReg64 a v).fab = s.fab := rfl
@[simp] theorem State.setReg64_hbm (s : State) (a v : Nat) : (s.setReg64 a v).hbm = s.hbm := rfl
@[simp] theorem State.setReg64_hif (s : State) (a v : Nat) : (s.setReg64 a v).hif = s.hif := rfl
@[simp] theorem State.setReg64_mate (s : State) (a v : Nat) : (s.setReg64 a v).mate = s.mate := rfl
@[simp] theorem State.setReg64_mss (s : State) (a v : Nat) : (s.setReg64 a v).mss = s.mss := rfl
@[simp] theorem State.setReg64_boot (s : State) (a v : Nat) : (s.setReg64 a v).boot = s.boot := rfl
@[simp] theorem State.setReg64_upd (s : State) (a v : Nat) : (s.setReg64 a v).upd = s.upd := rfl
@[simp] theorem State.setReg64_elec (s : State) (a v : Nat) : (s.setReg64 a v).elec = s.elec := rfl
@[simp] theorem State.setReg64_fresh (s : State) (a v : Nat) : (s.setReg64 a v).fresh = s.fresh := rfl
@[simp] theorem State.setReg64_pending (s : State) (a v : Nat) : (s.setReg64 a v).pending = s.pending := rfl
@[simp] theorem State.answer_pmu (s : State) (r : Requester) (a v : Nat) : (s.answer r a v).pmu = s.pmu := rfl
@[simp] theorem State.answer_err (s : State) (r : Requester) (a v : Nat) : (s.answer r a v).err = s.err := rfl
@[simp] theorem State.answer_line (s : State) (r : Requester) (a v : Nat) : (s.answer r a v).line = s.line := rfl
@[simp] theorem State.answer_eng (s : State) (r : Requester) (a v : Nat) : (s.answer r a v).eng = s.eng := rfl
@[simp] theorem State.answer_tim (s : State) (r : Requester) (a v : Nat) : (s.answer r a v).tim = s.tim := rfl
@[simp] theorem State.answer_tbl (s : State) (r : Requester) (a v : Nat) : (s.answer r a v).tbl = s.tbl := rfl
@[simp] theorem State.answer_cls (s : State) (r : Requester) (a v : Nat) : (s.answer r a v).cls = s.cls := rfl
@[simp] theorem State.answer_lrn (s : State) (r : Requester) (a v : Nat) : (s.answer r a v).lrn = s.lrn := rfl
@[simp] theorem State.answer_cross (s : State) (r : Requester) (a v : Nat) : (s.answer r a v).cross = s.cross := rfl
@[simp] theorem State.answer_sq (s : State) (r : Requester) (a v : Nat) : (s.answer r a v).sq = s.sq := rfl
@[simp] theorem State.answer_sch (s : State) (r : Requester) (a v : Nat) : (s.answer r a v).sch = s.sch := rfl
@[simp] theorem State.answer_fab (s : State) (r : Requester) (a v : Nat) : (s.answer r a v).fab = s.fab := rfl
@[simp] theorem State.answer_hbm (s : State) (r : Requester) (a v : Nat) : (s.answer r a v).hbm = s.hbm := rfl
@[simp] theorem State.answer_hif (s : State) (r : Requester) (a v : Nat) : (s.answer r a v).hif = s.hif := rfl
@[simp] theorem State.answer_mate (s : State) (r : Requester) (a v : Nat) : (s.answer r a v).mate = s.mate := rfl
@[simp] theorem State.answer_mss (s : State) (r : Requester) (a v : Nat) : (s.answer r a v).mss = s.mss := rfl
@[simp] theorem State.answer_boot (s : State) (r : Requester) (a v : Nat) : (s.answer r a v).boot = s.boot := rfl
@[simp] theorem State.answer_upd (s : State) (r : Requester) (a v : Nat) : (s.answer r a v).upd = s.upd := rfl
@[simp] theorem State.answer_elec (s : State) (r : Requester) (a v : Nat) : (s.answer r a v).elec = s.elec := rfl
@[simp] theorem State.answer_fresh (s : State) (r : Requester) (a v : Nat) : (s.answer r a v).fresh = s.fresh := rfl
@[simp] theorem State.answer_pending (s : State) (r : Requester) (a v : Nat) : (s.answer r a v).pending = s.pending := rfl
@[simp] theorem State.done_pmu (s : State) (r : Requester) (a : Nat) : (s.done r a).pmu = s.pmu := rfl
@[simp] theorem State.done_err (s : State) (r : Requester) (a : Nat) : (s.done r a).err = s.err := rfl
@[simp] theorem State.done_line (s : State) (r : Requester) (a : Nat) : (s.done r a).line = s.line := rfl
@[simp] theorem State.done_eng (s : State) (r : Requester) (a : Nat) : (s.done r a).eng = s.eng := rfl
@[simp] theorem State.done_tim (s : State) (r : Requester) (a : Nat) : (s.done r a).tim = s.tim := rfl
@[simp] theorem State.done_tbl (s : State) (r : Requester) (a : Nat) : (s.done r a).tbl = s.tbl := rfl
@[simp] theorem State.done_cls (s : State) (r : Requester) (a : Nat) : (s.done r a).cls = s.cls := rfl
@[simp] theorem State.done_lrn (s : State) (r : Requester) (a : Nat) : (s.done r a).lrn = s.lrn := rfl
@[simp] theorem State.done_cross (s : State) (r : Requester) (a : Nat) : (s.done r a).cross = s.cross := rfl
@[simp] theorem State.done_sq (s : State) (r : Requester) (a : Nat) : (s.done r a).sq = s.sq := rfl
@[simp] theorem State.done_sch (s : State) (r : Requester) (a : Nat) : (s.done r a).sch = s.sch := rfl
@[simp] theorem State.done_fab (s : State) (r : Requester) (a : Nat) : (s.done r a).fab = s.fab := rfl
@[simp] theorem State.done_hbm (s : State) (r : Requester) (a : Nat) : (s.done r a).hbm = s.hbm := rfl
@[simp] theorem State.done_hif (s : State) (r : Requester) (a : Nat) : (s.done r a).hif = s.hif := rfl
@[simp] theorem State.done_mate (s : State) (r : Requester) (a : Nat) : (s.done r a).mate = s.mate := rfl
@[simp] theorem State.done_mss (s : State) (r : Requester) (a : Nat) : (s.done r a).mss = s.mss := rfl
@[simp] theorem State.done_boot (s : State) (r : Requester) (a : Nat) : (s.done r a).boot = s.boot := rfl
@[simp] theorem State.done_upd (s : State) (r : Requester) (a : Nat) : (s.done r a).upd = s.upd := rfl
@[simp] theorem State.done_elec (s : State) (r : Requester) (a : Nat) : (s.done r a).elec = s.elec := rfl
@[simp] theorem State.done_fresh (s : State) (r : Requester) (a : Nat) : (s.done r a).fresh = s.fresh := rfl
@[simp] theorem State.done_pending (s : State) (r : Requester) (a : Nat) : (s.done r a).pending = s.pending := rfl
@[simp] theorem State.count_bus (s : State) (unit ev inst n : Nat) : (s.count unit ev inst n).bus = s.bus := rfl
@[simp] theorem State.count_err (s : State) (unit ev inst n : Nat) : (s.count unit ev inst n).err = s.err := rfl
@[simp] theorem State.count_line (s : State) (unit ev inst n : Nat) : (s.count unit ev inst n).line = s.line := rfl
@[simp] theorem State.count_eng (s : State) (unit ev inst n : Nat) : (s.count unit ev inst n).eng = s.eng := rfl
@[simp] theorem State.count_tim (s : State) (unit ev inst n : Nat) : (s.count unit ev inst n).tim = s.tim := rfl
@[simp] theorem State.count_tbl (s : State) (unit ev inst n : Nat) : (s.count unit ev inst n).tbl = s.tbl := rfl
@[simp] theorem State.count_cls (s : State) (unit ev inst n : Nat) : (s.count unit ev inst n).cls = s.cls := rfl
@[simp] theorem State.count_lrn (s : State) (unit ev inst n : Nat) : (s.count unit ev inst n).lrn = s.lrn := rfl
@[simp] theorem State.count_cross (s : State) (unit ev inst n : Nat) : (s.count unit ev inst n).cross = s.cross := rfl
@[simp] theorem State.count_sq (s : State) (unit ev inst n : Nat) : (s.count unit ev inst n).sq = s.sq := rfl
@[simp] theorem State.count_sch (s : State) (unit ev inst n : Nat) : (s.count unit ev inst n).sch = s.sch := rfl
@[simp] theorem State.count_fab (s : State) (unit ev inst n : Nat) : (s.count unit ev inst n).fab = s.fab := rfl
@[simp] theorem State.count_hbm (s : State) (unit ev inst n : Nat) : (s.count unit ev inst n).hbm = s.hbm := rfl
@[simp] theorem State.count_hif (s : State) (unit ev inst n : Nat) : (s.count unit ev inst n).hif = s.hif := rfl
@[simp] theorem State.count_mate (s : State) (unit ev inst n : Nat) : (s.count unit ev inst n).mate = s.mate := rfl
@[simp] theorem State.count_mss (s : State) (unit ev inst n : Nat) : (s.count unit ev inst n).mss = s.mss := rfl
@[simp] theorem State.count_boot (s : State) (unit ev inst n : Nat) : (s.count unit ev inst n).boot = s.boot := rfl
@[simp] theorem State.count_upd (s : State) (unit ev inst n : Nat) : (s.count unit ev inst n).upd = s.upd := rfl
@[simp] theorem State.count_elec (s : State) (unit ev inst n : Nat) : (s.count unit ev inst n).elec = s.elec := rfl
@[simp] theorem State.count_fresh (s : State) (unit ev inst n : Nat) : (s.count unit ev inst n).fresh = s.fresh := rfl
@[simp] theorem State.count_pending (s : State) (unit ev inst n : Nat) : (s.count unit ev inst n).pending = s.pending := rfl
@[simp] theorem State.setPkt_bus (s : State) (n : Nat) (p : Pkt) : (s.setPkt n p).bus = s.bus := rfl
@[simp] theorem State.setPkt_pmu (s : State) (n : Nat) (p : Pkt) : (s.setPkt n p).pmu = s.pmu := rfl
@[simp] theorem State.setPkt_err (s : State) (n : Nat) (p : Pkt) : (s.setPkt n p).err = s.err := rfl
@[simp] theorem State.setPkt_eng (s : State) (n : Nat) (p : Pkt) : (s.setPkt n p).eng = s.eng := rfl
@[simp] theorem State.setPkt_tim (s : State) (n : Nat) (p : Pkt) : (s.setPkt n p).tim = s.tim := rfl
@[simp] theorem State.setPkt_tbl (s : State) (n : Nat) (p : Pkt) : (s.setPkt n p).tbl = s.tbl := rfl
@[simp] theorem State.setPkt_cls (s : State) (n : Nat) (p : Pkt) : (s.setPkt n p).cls = s.cls := rfl
@[simp] theorem State.setPkt_lrn (s : State) (n : Nat) (p : Pkt) : (s.setPkt n p).lrn = s.lrn := rfl
@[simp] theorem State.setPkt_cross (s : State) (n : Nat) (p : Pkt) : (s.setPkt n p).cross = s.cross := rfl
@[simp] theorem State.setPkt_sq (s : State) (n : Nat) (p : Pkt) : (s.setPkt n p).sq = s.sq := rfl
@[simp] theorem State.setPkt_sch (s : State) (n : Nat) (p : Pkt) : (s.setPkt n p).sch = s.sch := rfl
@[simp] theorem State.setPkt_fab (s : State) (n : Nat) (p : Pkt) : (s.setPkt n p).fab = s.fab := rfl
@[simp] theorem State.setPkt_hbm (s : State) (n : Nat) (p : Pkt) : (s.setPkt n p).hbm = s.hbm := rfl
@[simp] theorem State.setPkt_hif (s : State) (n : Nat) (p : Pkt) : (s.setPkt n p).hif = s.hif := rfl
@[simp] theorem State.setPkt_mate (s : State) (n : Nat) (p : Pkt) : (s.setPkt n p).mate = s.mate := rfl
@[simp] theorem State.setPkt_mss (s : State) (n : Nat) (p : Pkt) : (s.setPkt n p).mss = s.mss := rfl
@[simp] theorem State.setPkt_boot (s : State) (n : Nat) (p : Pkt) : (s.setPkt n p).boot = s.boot := rfl
@[simp] theorem State.setPkt_upd (s : State) (n : Nat) (p : Pkt) : (s.setPkt n p).upd = s.upd := rfl
@[simp] theorem State.setPkt_elec (s : State) (n : Nat) (p : Pkt) : (s.setPkt n p).elec = s.elec := rfl
@[simp] theorem State.setPkt_fresh (s : State) (n : Nat) (p : Pkt) : (s.setPkt n p).fresh = s.fresh := rfl
@[simp] theorem State.setPkt_pending (s : State) (n : Nat) (p : Pkt) : (s.setPkt n p).pending = s.pending := rfl
@[simp] theorem State.setReg_bus_pendRegs (s : State) (a v : Nat) : (s.setReg a v).bus.pendRegs = s.bus.pendRegs := rfl
@[simp] theorem State.setReg_bus_latch (s : State) (a v : Nat) : (s.setReg a v).bus.latch = s.bus.latch := rfl
@[simp] theorem State.setReg_bus_lowHalf (s : State) (a v : Nat) : (s.setReg a v).bus.lowHalf = s.bus.lowHalf := rfl
@[simp] theorem State.setReg_bus_beat (s : State) (a v : Nat) : (s.setReg a v).bus.beat = s.bus.beat := rfl
@[simp] theorem State.setReg_bus_clk (s : State) (a v : Nat) : (s.setReg a v).bus.clk = s.bus.clk := rfl
@[simp] theorem State.setReg_bus_ticks (s : State) (a v : Nat) : (s.setReg a v).bus.ticks = s.bus.ticks := rfl
@[simp] theorem State.setReg_bus_scrs (s : State) (a v : Nat) : (s.setReg a v).bus.scrs = s.bus.scrs := rfl
@[simp] theorem State.setReg_bus_armed (s : State) (a v : Nat) : (s.setReg a v).bus.armed = s.bus.armed := rfl
@[simp] theorem State.setReg_bus_cpl (s : State) (a v : Nat) : (s.setReg a v).bus.cpl = s.bus.cpl := rfl
@[simp] theorem State.setFld_bus_pendRegs (s : State) (a hi lo v : Nat) : (s.setFld a hi lo v).bus.pendRegs = s.bus.pendRegs := rfl
@[simp] theorem State.setFld_bus_latch (s : State) (a hi lo v : Nat) : (s.setFld a hi lo v).bus.latch = s.bus.latch := rfl
@[simp] theorem State.setFld_bus_lowHalf (s : State) (a hi lo v : Nat) : (s.setFld a hi lo v).bus.lowHalf = s.bus.lowHalf := rfl
@[simp] theorem State.setFld_bus_beat (s : State) (a hi lo v : Nat) : (s.setFld a hi lo v).bus.beat = s.bus.beat := rfl
@[simp] theorem State.setFld_bus_clk (s : State) (a hi lo v : Nat) : (s.setFld a hi lo v).bus.clk = s.bus.clk := rfl
@[simp] theorem State.setFld_bus_ticks (s : State) (a hi lo v : Nat) : (s.setFld a hi lo v).bus.ticks = s.bus.ticks := rfl
@[simp] theorem State.setFld_bus_scrs (s : State) (a hi lo v : Nat) : (s.setFld a hi lo v).bus.scrs = s.bus.scrs := rfl
@[simp] theorem State.setFld_bus_armed (s : State) (a hi lo v : Nat) : (s.setFld a hi lo v).bus.armed = s.bus.armed := rfl
@[simp] theorem State.setFld_bus_cpl (s : State) (a hi lo v : Nat) : (s.setFld a hi lo v).bus.cpl = s.bus.cpl := rfl
@[simp] theorem State.setFlag_bus_pendRegs (s : State) (a i : Nat) (b : Bool) : (s.setFlag a i b).bus.pendRegs = s.bus.pendRegs := rfl
@[simp] theorem State.setFlag_bus_latch (s : State) (a i : Nat) (b : Bool) : (s.setFlag a i b).bus.latch = s.bus.latch := rfl
@[simp] theorem State.setFlag_bus_lowHalf (s : State) (a i : Nat) (b : Bool) : (s.setFlag a i b).bus.lowHalf = s.bus.lowHalf := rfl
@[simp] theorem State.setFlag_bus_beat (s : State) (a i : Nat) (b : Bool) : (s.setFlag a i b).bus.beat = s.bus.beat := rfl
@[simp] theorem State.setFlag_bus_clk (s : State) (a i : Nat) (b : Bool) : (s.setFlag a i b).bus.clk = s.bus.clk := rfl
@[simp] theorem State.setFlag_bus_ticks (s : State) (a i : Nat) (b : Bool) : (s.setFlag a i b).bus.ticks = s.bus.ticks := rfl
@[simp] theorem State.setFlag_bus_scrs (s : State) (a i : Nat) (b : Bool) : (s.setFlag a i b).bus.scrs = s.bus.scrs := rfl
@[simp] theorem State.setFlag_bus_armed (s : State) (a i : Nat) (b : Bool) : (s.setFlag a i b).bus.armed = s.bus.armed := rfl
@[simp] theorem State.setFlag_bus_cpl (s : State) (a i : Nat) (b : Bool) : (s.setFlag a i b).bus.cpl = s.bus.cpl := rfl
@[simp] theorem State.raise_bus_pendRegs (s : State) (a i : Nat) : (s.raise a i).bus.pendRegs = s.bus.pendRegs := rfl
@[simp] theorem State.raise_bus_latch (s : State) (a i : Nat) : (s.raise a i).bus.latch = s.bus.latch := rfl
@[simp] theorem State.raise_bus_lowHalf (s : State) (a i : Nat) : (s.raise a i).bus.lowHalf = s.bus.lowHalf := rfl
@[simp] theorem State.raise_bus_beat (s : State) (a i : Nat) : (s.raise a i).bus.beat = s.bus.beat := rfl
@[simp] theorem State.raise_bus_clk (s : State) (a i : Nat) : (s.raise a i).bus.clk = s.bus.clk := rfl
@[simp] theorem State.raise_bus_ticks (s : State) (a i : Nat) : (s.raise a i).bus.ticks = s.bus.ticks := rfl
@[simp] theorem State.raise_bus_scrs (s : State) (a i : Nat) : (s.raise a i).bus.scrs = s.bus.scrs := rfl
@[simp] theorem State.raise_bus_armed (s : State) (a i : Nat) : (s.raise a i).bus.armed = s.bus.armed := rfl
@[simp] theorem State.raise_bus_cpl (s : State) (a i : Nat) : (s.raise a i).bus.cpl = s.bus.cpl := rfl
@[simp] theorem State.bumpReg_bus_pendRegs (s : State) (a n : Nat) : (s.bumpReg a n).bus.pendRegs = s.bus.pendRegs := rfl
@[simp] theorem State.bumpReg_bus_latch (s : State) (a n : Nat) : (s.bumpReg a n).bus.latch = s.bus.latch := rfl
@[simp] theorem State.bumpReg_bus_lowHalf (s : State) (a n : Nat) : (s.bumpReg a n).bus.lowHalf = s.bus.lowHalf := rfl
@[simp] theorem State.bumpReg_bus_beat (s : State) (a n : Nat) : (s.bumpReg a n).bus.beat = s.bus.beat := rfl
@[simp] theorem State.bumpReg_bus_clk (s : State) (a n : Nat) : (s.bumpReg a n).bus.clk = s.bus.clk := rfl
@[simp] theorem State.bumpReg_bus_ticks (s : State) (a n : Nat) : (s.bumpReg a n).bus.ticks = s.bus.ticks := rfl
@[simp] theorem State.bumpReg_bus_scrs (s : State) (a n : Nat) : (s.bumpReg a n).bus.scrs = s.bus.scrs := rfl
@[simp] theorem State.bumpReg_bus_armed (s : State) (a n : Nat) : (s.bumpReg a n).bus.armed = s.bus.armed := rfl
@[simp] theorem State.bumpReg_bus_cpl (s : State) (a n : Nat) : (s.bumpReg a n).bus.cpl = s.bus.cpl := rfl
@[simp] theorem State.setReg64_bus_pendRegs (s : State) (a v : Nat) : (s.setReg64 a v).bus.pendRegs = s.bus.pendRegs := rfl
@[simp] theorem State.setReg64_bus_latch (s : State) (a v : Nat) : (s.setReg64 a v).bus.latch = s.bus.latch := rfl
@[simp] theorem State.setReg64_bus_lowHalf (s : State) (a v : Nat) : (s.setReg64 a v).bus.lowHalf = s.bus.lowHalf := rfl
@[simp] theorem State.setReg64_bus_beat (s : State) (a v : Nat) : (s.setReg64 a v).bus.beat = s.bus.beat := rfl
@[simp] theorem State.setReg64_bus_clk (s : State) (a v : Nat) : (s.setReg64 a v).bus.clk = s.bus.clk := rfl
@[simp] theorem State.setReg64_bus_ticks (s : State) (a v : Nat) : (s.setReg64 a v).bus.ticks = s.bus.ticks := rfl
@[simp] theorem State.setReg64_bus_scrs (s : State) (a v : Nat) : (s.setReg64 a v).bus.scrs = s.bus.scrs := rfl
@[simp] theorem State.setReg64_bus_armed (s : State) (a v : Nat) : (s.setReg64 a v).bus.armed = s.bus.armed := rfl
@[simp] theorem State.setReg64_bus_cpl (s : State) (a v : Nat) : (s.setReg64 a v).bus.cpl = s.bus.cpl := rfl
@[simp] theorem State.answer_bus_pendRegs (s : State) (r : Requester) (a v : Nat) : (s.answer r a v).bus.pendRegs = s.bus.pendRegs := rfl
@[simp] theorem State.answer_bus_latch (s : State) (r : Requester) (a v : Nat) : (s.answer r a v).bus.latch = s.bus.latch := rfl
@[simp] theorem State.answer_bus_lowHalf (s : State) (r : Requester) (a v : Nat) : (s.answer r a v).bus.lowHalf = s.bus.lowHalf := rfl
@[simp] theorem State.answer_bus_beat (s : State) (r : Requester) (a v : Nat) : (s.answer r a v).bus.beat = s.bus.beat := rfl
@[simp] theorem State.answer_bus_clk (s : State) (r : Requester) (a v : Nat) : (s.answer r a v).bus.clk = s.bus.clk := rfl
@[simp] theorem State.answer_bus_ticks (s : State) (r : Requester) (a v : Nat) : (s.answer r a v).bus.ticks = s.bus.ticks := rfl
@[simp] theorem State.answer_bus_scrs (s : State) (r : Requester) (a v : Nat) : (s.answer r a v).bus.scrs = s.bus.scrs := rfl
@[simp] theorem State.answer_bus_armed (s : State) (r : Requester) (a v : Nat) : (s.answer r a v).bus.armed = s.bus.armed := rfl
@[simp] theorem State.answer_bus_regs (s : State) (r : Requester) (a v : Nat) : (s.answer r a v).bus.regs = s.bus.regs := rfl
@[simp] theorem State.done_bus_pendRegs (s : State) (r : Requester) (a : Nat) : (s.done r a).bus.pendRegs = s.bus.pendRegs := rfl
@[simp] theorem State.done_bus_latch (s : State) (r : Requester) (a : Nat) : (s.done r a).bus.latch = s.bus.latch := rfl
@[simp] theorem State.done_bus_lowHalf (s : State) (r : Requester) (a : Nat) : (s.done r a).bus.lowHalf = s.bus.lowHalf := rfl
@[simp] theorem State.done_bus_beat (s : State) (r : Requester) (a : Nat) : (s.done r a).bus.beat = s.bus.beat := rfl
@[simp] theorem State.done_bus_clk (s : State) (r : Requester) (a : Nat) : (s.done r a).bus.clk = s.bus.clk := rfl
@[simp] theorem State.done_bus_ticks (s : State) (r : Requester) (a : Nat) : (s.done r a).bus.ticks = s.bus.ticks := rfl
@[simp] theorem State.done_bus_scrs (s : State) (r : Requester) (a : Nat) : (s.done r a).bus.scrs = s.bus.scrs := rfl
@[simp] theorem State.done_bus_armed (s : State) (r : Requester) (a : Nat) : (s.done r a).bus.armed = s.bus.armed := rfl
@[simp] theorem State.done_bus_regs (s : State) (r : Requester) (a : Nat) : (s.done r a).bus.regs = s.bus.regs := rfl
@[simp] theorem State.setReg_bus_beats (s : State) (a v : Nat) : (s.setReg a v).bus.beats = s.bus.beats := rfl
@[simp] theorem State.setReg_bus_late (s : State) (a v : Nat) : (s.setReg a v).bus.late = s.bus.late := rfl
@[simp] theorem State.setReg_bus_used (s : State) (a v : Nat) : (s.setReg a v).bus.used = s.bus.used := rfl
@[simp] theorem State.setReg_bus_before (s : State) (a v : Nat) : (s.setReg a v).bus.before = s.bus.before := rfl
@[simp] theorem State.setReg_bus_rcNow (s : State) (a v : Nat) : (s.setReg a v).bus.rcNow = s.bus.rcNow := rfl
@[simp] theorem State.setFld_bus_beats (s : State) (a hi lo v : Nat) : (s.setFld a hi lo v).bus.beats = s.bus.beats := rfl
@[simp] theorem State.setFld_bus_late (s : State) (a hi lo v : Nat) : (s.setFld a hi lo v).bus.late = s.bus.late := rfl
@[simp] theorem State.setFld_bus_used (s : State) (a hi lo v : Nat) : (s.setFld a hi lo v).bus.used = s.bus.used := rfl
@[simp] theorem State.setFld_bus_before (s : State) (a hi lo v : Nat) : (s.setFld a hi lo v).bus.before = s.bus.before := rfl
@[simp] theorem State.setFld_bus_rcNow (s : State) (a hi lo v : Nat) : (s.setFld a hi lo v).bus.rcNow = s.bus.rcNow := rfl
@[simp] theorem State.setFlag_bus_beats (s : State) (a i : Nat) (b : Bool) : (s.setFlag a i b).bus.beats = s.bus.beats := rfl
@[simp] theorem State.setFlag_bus_late (s : State) (a i : Nat) (b : Bool) : (s.setFlag a i b).bus.late = s.bus.late := rfl
@[simp] theorem State.setFlag_bus_used (s : State) (a i : Nat) (b : Bool) : (s.setFlag a i b).bus.used = s.bus.used := rfl
@[simp] theorem State.setFlag_bus_before (s : State) (a i : Nat) (b : Bool) : (s.setFlag a i b).bus.before = s.bus.before := rfl
@[simp] theorem State.setFlag_bus_rcNow (s : State) (a i : Nat) (b : Bool) : (s.setFlag a i b).bus.rcNow = s.bus.rcNow := rfl
@[simp] theorem State.raise_bus_beats (s : State) (a i : Nat) : (s.raise a i).bus.beats = s.bus.beats := rfl
@[simp] theorem State.raise_bus_late (s : State) (a i : Nat) : (s.raise a i).bus.late = s.bus.late := rfl
@[simp] theorem State.raise_bus_used (s : State) (a i : Nat) : (s.raise a i).bus.used = s.bus.used := rfl
@[simp] theorem State.raise_bus_before (s : State) (a i : Nat) : (s.raise a i).bus.before = s.bus.before := rfl
@[simp] theorem State.raise_bus_rcNow (s : State) (a i : Nat) : (s.raise a i).bus.rcNow = s.bus.rcNow := rfl
@[simp] theorem State.setReg64_bus_beats (s : State) (a v : Nat) : (s.setReg64 a v).bus.beats = s.bus.beats := rfl
@[simp] theorem State.setReg64_bus_late (s : State) (a v : Nat) : (s.setReg64 a v).bus.late = s.bus.late := rfl
@[simp] theorem State.setReg64_bus_used (s : State) (a v : Nat) : (s.setReg64 a v).bus.used = s.bus.used := rfl
@[simp] theorem State.setReg64_bus_before (s : State) (a v : Nat) : (s.setReg64 a v).bus.before = s.bus.before := rfl
@[simp] theorem State.setReg64_bus_rcNow (s : State) (a v : Nat) : (s.setReg64 a v).bus.rcNow = s.bus.rcNow := rfl
@[simp] theorem State.bumpReg_bus_beats (s : State) (a n : Nat) : (s.bumpReg a n).bus.beats = s.bus.beats := rfl
@[simp] theorem State.bumpReg_bus_late (s : State) (a n : Nat) : (s.bumpReg a n).bus.late = s.bus.late := rfl
@[simp] theorem State.bumpReg_bus_used (s : State) (a n : Nat) : (s.bumpReg a n).bus.used = s.bus.used := rfl
@[simp] theorem State.bumpReg_bus_before (s : State) (a n : Nat) : (s.bumpReg a n).bus.before = s.bus.before := rfl
@[simp] theorem State.bumpReg_bus_regs (s : State) (a n : Nat) : (s.bumpReg a n).bus.regs = s.bus.regs := rfl
@[simp] theorem State.answer_bus_beats (s : State) (r : Requester) (a v : Nat) : (s.answer r a v).bus.beats = s.bus.beats := rfl
@[simp] theorem State.answer_bus_late (s : State) (r : Requester) (a v : Nat) : (s.answer r a v).bus.late = s.bus.late := rfl
@[simp] theorem State.answer_bus_used (s : State) (r : Requester) (a v : Nat) : (s.answer r a v).bus.used = s.bus.used := rfl
@[simp] theorem State.answer_bus_before (s : State) (r : Requester) (a v : Nat) : (s.answer r a v).bus.before = s.bus.before := rfl
@[simp] theorem State.answer_bus_rcNow (s : State) (r : Requester) (a v : Nat) : (s.answer r a v).bus.rcNow = s.bus.rcNow := rfl
@[simp] theorem State.done_bus_beats (s : State) (r : Requester) (a : Nat) : (s.done r a).bus.beats = s.bus.beats := rfl
@[simp] theorem State.done_bus_late (s : State) (r : Requester) (a : Nat) : (s.done r a).bus.late = s.bus.late := rfl
@[simp] theorem State.done_bus_used (s : State) (r : Requester) (a : Nat) : (s.done r a).bus.used = s.bus.used := rfl
@[simp] theorem State.done_bus_before (s : State) (r : Requester) (a : Nat) : (s.done r a).bus.before = s.bus.before := rfl
@[simp] theorem State.done_bus_rcNow (s : State) (r : Requester) (a : Nat) : (s.done r a).bus.rcNow = s.bus.rcNow := rfl
@[simp] theorem State.use_pmu (s : State) (k : Use) : (s.use k).pmu = s.pmu := rfl
@[simp] theorem State.use_err (s : State) (k : Use) : (s.use k).err = s.err := rfl
@[simp] theorem State.use_line (s : State) (k : Use) : (s.use k).line = s.line := rfl
@[simp] theorem State.use_eng (s : State) (k : Use) : (s.use k).eng = s.eng := rfl
@[simp] theorem State.use_tim (s : State) (k : Use) : (s.use k).tim = s.tim := rfl
@[simp] theorem State.use_tbl (s : State) (k : Use) : (s.use k).tbl = s.tbl := rfl
@[simp] theorem State.use_cls (s : State) (k : Use) : (s.use k).cls = s.cls := rfl
@[simp] theorem State.use_lrn (s : State) (k : Use) : (s.use k).lrn = s.lrn := rfl
@[simp] theorem State.use_cross (s : State) (k : Use) : (s.use k).cross = s.cross := rfl
@[simp] theorem State.use_sq (s : State) (k : Use) : (s.use k).sq = s.sq := rfl
@[simp] theorem State.use_sch (s : State) (k : Use) : (s.use k).sch = s.sch := rfl
@[simp] theorem State.use_fab (s : State) (k : Use) : (s.use k).fab = s.fab := rfl
@[simp] theorem State.use_hbm (s : State) (k : Use) : (s.use k).hbm = s.hbm := rfl
@[simp] theorem State.use_hif (s : State) (k : Use) : (s.use k).hif = s.hif := rfl
@[simp] theorem State.use_mate (s : State) (k : Use) : (s.use k).mate = s.mate := rfl
@[simp] theorem State.use_mss (s : State) (k : Use) : (s.use k).mss = s.mss := rfl
@[simp] theorem State.use_boot (s : State) (k : Use) : (s.use k).boot = s.boot := rfl
@[simp] theorem State.use_upd (s : State) (k : Use) : (s.use k).upd = s.upd := rfl
@[simp] theorem State.use_elec (s : State) (k : Use) : (s.use k).elec = s.elec := rfl
@[simp] theorem State.use_fresh (s : State) (k : Use) : (s.use k).fresh = s.fresh := rfl
@[simp] theorem State.use_pending (s : State) (k : Use) : (s.use k).pending = s.pending := rfl
@[simp] theorem State.use_bus_regs (s : State) (k : Use) : (s.use k).bus.regs = s.bus.regs := rfl
@[simp] theorem State.use_bus_pendRegs (s : State) (k : Use) : (s.use k).bus.pendRegs = s.bus.pendRegs := rfl
@[simp] theorem State.use_bus_latch (s : State) (k : Use) : (s.use k).bus.latch = s.bus.latch := rfl
@[simp] theorem State.use_bus_lowHalf (s : State) (k : Use) : (s.use k).bus.lowHalf = s.bus.lowHalf := rfl
@[simp] theorem State.use_bus_beat (s : State) (k : Use) : (s.use k).bus.beat = s.bus.beat := rfl
@[simp] theorem State.use_bus_clk (s : State) (k : Use) : (s.use k).bus.clk = s.bus.clk := rfl
@[simp] theorem State.use_bus_ticks (s : State) (k : Use) : (s.use k).bus.ticks = s.bus.ticks := rfl
@[simp] theorem State.use_bus_scrs (s : State) (k : Use) : (s.use k).bus.scrs = s.bus.scrs := rfl
@[simp] theorem State.use_bus_armed (s : State) (k : Use) : (s.use k).bus.armed = s.bus.armed := rfl
@[simp] theorem State.use_bus_cpl (s : State) (k : Use) : (s.use k).bus.cpl = s.bus.cpl := rfl
@[simp] theorem State.use_bus_beats (s : State) (k : Use) : (s.use k).bus.beats = s.bus.beats := rfl
@[simp] theorem State.use_bus_rcNow (s : State) (k : Use) : (s.use k).bus.rcNow = s.bus.rcNow := rfl
@[simp] theorem State.use_bus_late (s : State) (k : Use) : (s.use k).bus.late = s.bus.late := rfl
@[simp] theorem State.use_bus_before (s : State) (k : Use) : (s.use k).bus.before = s.bus.before := rfl

/-- Events of an RC count in a clock add up (R8). -/
theorem State.rcNow_bumpReg (s : State) (a b n : Nat) :
    Tab.get 0 (s.bumpReg a n).bus.rcNow b = if b = a then Tab.get 0 s.bus.rcNow a + n else Tab.get 0 s.bus.rcNow b :=
  Tab.get_set 0 s.bus.rcNow a b _

/-- A resource taken once more in the clock. -/
@[simp] theorem State.uses_use_self (s : State) (k : Use) : (s.use k).uses k = s.uses k + 1 := by
  unfold State.use State.uses
  simp

/-! ## Registers -/

@[simp] theorem State.reg_setReg_self (s : State) (a v : Nat) : (s.setReg a v).reg a = v % 2 ^ 32 := by
  simp [State.reg, State.setReg, Tab.at_put_self]

theorem State.reg_setReg_ne (s : State) {a b : Nat} (v : Nat) (h : b ≠ a) : (s.setReg a v).reg b = s.reg b := by
  simp [State.reg, State.setReg, Tab.at_put_ne _ _ _ h]

theorem State.reg_setReg (s : State) (a b v : Nat) : (s.setReg a v).reg b = if b = a then v % 2 ^ 32 else s.reg b := by
  split
  · rename_i h; rw [h, State.reg_setReg_self]
  · rename_i h; exact State.reg_setReg_ne s v h

/-- A register holds 32 bits. -/
theorem State.reg_lt (s : State) (a : Nat) : s.reg a < 2 ^ 32 := BitVec.isLt _

theorem State.fld_setReg_ne (s : State) {a b : Nat} (v h l : Nat) (n : b ≠ a) : (s.setReg a v).fld b h l = s.fld b h l := by
  rw [State.fld, State.reg_setReg_ne s v n, State.fld]

theorem State.flag_setReg_ne (s : State) {a b : Nat} (v i : Nat) (n : b ≠ a) : (s.setReg a v).flag b i = s.flag b i := by
  rw [State.flag, State.reg_setReg_ne s v n, State.flag]

theorem State.reg_setFld_ne (s : State) {a b : Nat} (hi lo v : Nat) (h : b ≠ a) : (s.setFld a hi lo v).reg b = s.reg b :=
  State.reg_setReg_ne s _ h

theorem State.fld_setFld_ne (s : State) {a b : Nat} (hi lo v h l : Nat) (n : b ≠ a) : (s.setFld a hi lo v).fld b h l = s.fld b h l :=
  State.fld_setReg_ne s _ h l n

theorem State.flag_setFld_ne (s : State) {a b : Nat} (hi lo v i : Nat) (n : b ≠ a) : (s.setFld a hi lo v).flag b i = s.flag b i :=
  State.flag_setReg_ne s _ i n

/-- A field just written reads as the value written. -/
theorem State.fld_setFld_self (s : State) (a v : Nat) {hi lo : Nat} (h : hi ≤ 31) : (s.setFld a hi lo v).fld a hi lo = v % 2 ^ (hi + 1 - lo) := by
  rw [State.fld, State.setFld, State.reg_setReg_self, bits_mod32 _ h, bits_putBits_self]

/-- A field written leaves the register's other fields. -/
theorem State.fld_setFld_other (s : State) (a v : Nat) {hi lo h l : Nat} (hh : h ≤ 31) (d : h < lo ∨ hi < l) :
    (s.setFld a hi lo v).fld a h l = s.fld a h l := by
  rw [State.fld, State.setFld, State.reg_setReg_self, bits_mod32 _ hh, bits_putBits_ne _ _ _ _ d, State.fld]

theorem State.flag_setFld_other (s : State) (a v : Nat) {hi lo i : Nat} (hi31 : i ≤ 31) (d : i < lo ∨ hi < i) :
    (s.setFld a hi lo v).flag a i = s.flag a i := by
  rw [State.flag, State.setFld, State.reg_setReg_self, bitOf_mod32 _ hi31, bitOf_putBits_ne _ _ _ _ d, State.flag]

theorem State.flag_setFlag_self (s : State) (a : Nat) {i : Nat} (b : Bool) (h : i ≤ 31) : (s.setFlag a i b).flag a i = b := by
  rw [State.setFlag, State.flag, State.setFld, State.reg_setReg_self, bitOf_mod32 _ h, bitOf_eq, putBits_testBit, if_pos (by omega)]
  cases b <;> simp [b2n]

theorem State.flag_setFlag_other (s : State) (a : Nat) {i j : Nat} (b : Bool) (h : j ≤ 31) (n : j ≠ i) : (s.setFlag a i b).flag a j = s.flag a j :=
  State.flag_setFld_other s a _ h (by omega)

theorem State.flag_setFlag_ne (s : State) {a c : Nat} (i j : Nat) (b : Bool) (n : c ≠ a) : (s.setFlag a i b).flag c j = s.flag c j :=
  State.flag_setFld_ne s i i _ j n

theorem State.fld_setFlag_other (s : State) (a : Nat) {i h l : Nat} (b : Bool) (hh : h ≤ 31) (d : h < i ∨ i < l) :
    (s.setFlag a i b).fld a h l = s.fld a h l := State.fld_setFld_other s a _ hh d

theorem State.fld_setFlag_ne (s : State) {a c : Nat} (i h l : Nat) (b : Bool) (n : c ≠ a) : (s.setFlag a i b).fld c h l = s.fld c h l :=
  State.fld_setFld_ne s i i _ h l n

theorem State.reg_setFlag_ne (s : State) {a c : Nat} (i : Nat) (b : Bool) (n : c ≠ a) : (s.setFlag a i b).reg c = s.reg c :=
  State.reg_setReg_ne s _ n

theorem State.flag_raise_self (s : State) (a : Nat) {i : Nat} (h : i ≤ 31) : (s.raise a i).flag a i = true :=
  State.flag_setFlag_self s a true h

/-- The registers keep their canonical form when one is written. -/
theorem State.setReg_regs_wf (s : State) (a v : Nat) (h : Tab.wf regReset s.bus.regs = true) :
    Tab.wf regReset (s.setReg a v).bus.regs = true := Tab.put_wf _ _ _ _ h

/-! ## Packets and counters -/

@[simp] theorem State.pkt_setPkt_self (s : State) (n : Nat) (p : Pkt) : (s.setPkt n p).pkt n = p := by
  simp [State.pkt, State.setPkt]

theorem State.pkt_setPkt_ne (s : State) {n m : Nat} (p : Pkt) (h : m ≠ n) : (s.setPkt n p).pkt m = s.pkt m := by
  simp [State.pkt, State.setPkt, Tab.get_set_ne _ _ _ h]

end Machine

end Sys2Proof
end

