-- ==== Sys2Proof/Laws/Irq.lean ====
section
/-! SUPPORT. What raising interrupts does: it changes the PEND and PBA registers and the host interface's record of messages, and nothing
else. -/

namespace Sys2Proof.Machine

theorem foldl_keeps {σ β : Type} (P : σ → Prop) (f : σ → β → σ) (hf : ∀ s x, P s → P (f s x)) :
    ∀ (l : List β) (s : σ), P s → P (l.foldl f s)
  | [], _, h => h
  | x :: l, s, h => foldl_keeps P f hf l (f s x) (hf s x h)

/-- A quantity that no step of a fold changes is unchanged by the fold. -/
theorem foldl_same {σ β γ : Type} (g : σ → γ) (f : σ → β → σ) (hf : ∀ s x, g (f s x) = g s) (l : List β) (s : σ) :
    g (l.foldl f s) = g s := foldl_keeps (fun t => g t = g s) f (fun t x h => (hf t x).trans h) l s rfl


theorem pendReg_irq (v : Nat) (h : v < 64) : irqReg (pendReg v) := by unfold irqReg pendReg; omega
theorem pbaReg_irq (v : Nat) (h : v < 64) : irqReg (pbaReg v) := by unfold irqReg pbaReg; omega

theorem State.sendVec_reg (s : State) (v : Nat) (hv : v < 64) {a : Nat} (h : ¬ irqReg a) : (s.sendVec v).reg a = s.reg a := by
  unfold State.sendVec
  split
  · rfl
  · exact State.reg_setFlag_ne s _ _ (fun e => h (e ▸ pbaReg_irq v hv))

theorem State.sendVec_part {γ : Type} (g : State → γ) (hr : ∀ (s : State) x, g { s with bus := { s.bus with regs := x } } = g s)
    (hm : ∀ (s : State) x, g { s with hif := { s.hif with msix := x } } = g s) (s : State) (v : Nat) : g (s.sendVec v) = g s := by
  unfold State.sendVec
  split
  · exact hm s _
  · exact hr s _

/-- Raising interrupts leaves every register but those of irqReg. -/
theorem State.irq_reg (s : State) {a : Nat} (h : ¬ irqReg a) : (s.irq).reg a = s.reg a := by
  unfold State.irq
  refine foldl_same (fun t : State => t.reg a) _ ?_ _ s
  intro t e
  have hv : bits e.2 5 0 < 64 := bits_lt _ _ _
  dsimp only
  split
  · rw [State.sendVec_reg _ _ hv h]
    exact State.reg_setFlag_ne t _ _ (fun e' => h (e' ▸ pendReg_irq _ hv))
  · rfl

/-- A part of the state that neither registers nor messages belong to is unchanged by raising interrupts. -/
theorem State.irq_part {γ : Type} (g : State → γ) (hr : ∀ (s : State) x, g { s with bus := { s.bus with regs := x } } = g s)
    (hm : ∀ (s : State) x, g { s with hif := { s.hif with msix := x } } = g s)
    (hn : ∀ (s : State) x, g { s with hif := { s.hif with intN := x } } = g s) (s : State) : g s.irq = g s := by
  unfold State.irq
  refine (hn _ _).trans (foldl_same g _ ?_ _ s)
  intro t e
  dsimp only
  split
  · exact (State.sendVec_part g hr hm _ _).trans (hr t _)
  · rfl

@[simp] theorem State.irq_pmu (s : State) : (s.irq).pmu = s.pmu := State.irq_part (·.pmu) (fun _ _ => rfl) (fun _ _ => rfl) (fun _ _ => rfl) s
@[simp] theorem State.irq_err (s : State) : (s.irq).err = s.err := State.irq_part (·.err) (fun _ _ => rfl) (fun _ _ => rfl) (fun _ _ => rfl) s
@[simp] theorem State.irq_line (s : State) : (s.irq).line = s.line := State.irq_part (·.line) (fun _ _ => rfl) (fun _ _ => rfl) (fun _ _ => rfl) s
@[simp] theorem State.irq_eng (s : State) : (s.irq).eng = s.eng := State.irq_part (·.eng) (fun _ _ => rfl) (fun _ _ => rfl) (fun _ _ => rfl) s
@[simp] theorem State.irq_tim (s : State) : (s.irq).tim = s.tim := State.irq_part (·.tim) (fun _ _ => rfl) (fun _ _ => rfl) (fun _ _ => rfl) s
@[simp] theorem State.irq_tbl (s : State) : (s.irq).tbl = s.tbl := State.irq_part (·.tbl) (fun _ _ => rfl) (fun _ _ => rfl) (fun _ _ => rfl) s
@[simp] theorem State.irq_cls (s : State) : (s.irq).cls = s.cls := State.irq_part (·.cls) (fun _ _ => rfl) (fun _ _ => rfl) (fun _ _ => rfl) s
@[simp] theorem State.irq_lrn (s : State) : (s.irq).lrn = s.lrn := State.irq_part (·.lrn) (fun _ _ => rfl) (fun _ _ => rfl) (fun _ _ => rfl) s
@[simp] theorem State.irq_cross (s : State) : (s.irq).cross = s.cross := State.irq_part (·.cross) (fun _ _ => rfl) (fun _ _ => rfl) (fun _ _ => rfl) s
@[simp] theorem State.irq_sq (s : State) : (s.irq).sq = s.sq := State.irq_part (·.sq) (fun _ _ => rfl) (fun _ _ => rfl) (fun _ _ => rfl) s
@[simp] theorem State.irq_sch (s : State) : (s.irq).sch = s.sch := State.irq_part (·.sch) (fun _ _ => rfl) (fun _ _ => rfl) (fun _ _ => rfl) s
@[simp] theorem State.irq_fab (s : State) : (s.irq).fab = s.fab := State.irq_part (·.fab) (fun _ _ => rfl) (fun _ _ => rfl) (fun _ _ => rfl) s
@[simp] theorem State.irq_hbm (s : State) : (s.irq).hbm = s.hbm := State.irq_part (·.hbm) (fun _ _ => rfl) (fun _ _ => rfl) (fun _ _ => rfl) s
@[simp] theorem State.irq_mate (s : State) : (s.irq).mate = s.mate := State.irq_part (·.mate) (fun _ _ => rfl) (fun _ _ => rfl) (fun _ _ => rfl) s
@[simp] theorem State.irq_mss (s : State) : (s.irq).mss = s.mss := State.irq_part (·.mss) (fun _ _ => rfl) (fun _ _ => rfl) (fun _ _ => rfl) s
@[simp] theorem State.irq_boot (s : State) : (s.irq).boot = s.boot := State.irq_part (·.boot) (fun _ _ => rfl) (fun _ _ => rfl) (fun _ _ => rfl) s
@[simp] theorem State.irq_upd (s : State) : (s.irq).upd = s.upd := State.irq_part (·.upd) (fun _ _ => rfl) (fun _ _ => rfl) (fun _ _ => rfl) s
@[simp] theorem State.irq_elec (s : State) : (s.irq).elec = s.elec := State.irq_part (·.elec) (fun _ _ => rfl) (fun _ _ => rfl) (fun _ _ => rfl) s
@[simp] theorem State.irq_fresh (s : State) : (s.irq).fresh = s.fresh := State.irq_part (·.fresh) (fun _ _ => rfl) (fun _ _ => rfl) (fun _ _ => rfl) s
@[simp] theorem State.irq_pending (s : State) : (s.irq).pending = s.pending := State.irq_part (·.pending) (fun _ _ => rfl) (fun _ _ => rfl) (fun _ _ => rfl) s
@[simp] theorem State.irq_bus_pendRegs (s : State) : (s.irq).bus.pendRegs = s.bus.pendRegs := State.irq_part (·.bus.pendRegs) (fun _ _ => rfl) (fun _ _ => rfl) (fun _ _ => rfl) s
@[simp] theorem State.irq_bus_latch (s : State) : (s.irq).bus.latch = s.bus.latch := State.irq_part (·.bus.latch) (fun _ _ => rfl) (fun _ _ => rfl) (fun _ _ => rfl) s
@[simp] theorem State.irq_bus_lowHalf (s : State) : (s.irq).bus.lowHalf = s.bus.lowHalf := State.irq_part (·.bus.lowHalf) (fun _ _ => rfl) (fun _ _ => rfl) (fun _ _ => rfl) s
@[simp] theorem State.irq_bus_beat (s : State) : (s.irq).bus.beat = s.bus.beat := State.irq_part (·.bus.beat) (fun _ _ => rfl) (fun _ _ => rfl) (fun _ _ => rfl) s
@[simp] theorem State.irq_bus_clk (s : State) : (s.irq).bus.clk = s.bus.clk := State.irq_part (·.bus.clk) (fun _ _ => rfl) (fun _ _ => rfl) (fun _ _ => rfl) s
@[simp] theorem State.irq_bus_ticks (s : State) : (s.irq).bus.ticks = s.bus.ticks := State.irq_part (·.bus.ticks) (fun _ _ => rfl) (fun _ _ => rfl) (fun _ _ => rfl) s
@[simp] theorem State.irq_bus_scrs (s : State) : (s.irq).bus.scrs = s.bus.scrs := State.irq_part (·.bus.scrs) (fun _ _ => rfl) (fun _ _ => rfl) (fun _ _ => rfl) s
@[simp] theorem State.irq_bus_armed (s : State) : (s.irq).bus.armed = s.bus.armed := State.irq_part (·.bus.armed) (fun _ _ => rfl) (fun _ _ => rfl) (fun _ _ => rfl) s
@[simp] theorem State.irq_bus_cpl (s : State) : (s.irq).bus.cpl = s.bus.cpl := State.irq_part (·.bus.cpl) (fun _ _ => rfl) (fun _ _ => rfl) (fun _ _ => rfl) s

theorem State.irq_fld (s : State) {a : Nat} (h : ¬ irqReg a) (hi lo : Nat) : (s.irq).fld a hi lo = s.fld a hi lo := by
  rw [State.fld, State.irq_reg s h, State.fld]

theorem State.irq_flag (s : State) {a : Nat} (h : ¬ irqReg a) (i : Nat) : (s.irq).flag a i = s.flag a i := by
  rw [State.flag, State.irq_reg s h, State.flag]

end Sys2Proof.Machine
end

