-- ==== Sys2Proof/Laws/Units.lean ====
section
/-! SUPPORT. What each named update of a unit leaves of the other units, field by field, and what is read back after it. -/

namespace Sys2Proof.Machine

@[simp] theorem State.setThread_bus (s : State) (p e t : Nat) (x : Thr) : (s.setThread p e t x).bus = s.bus := by
  unfold State.setThread; dsimp only; split <;> rfl
@[simp] theorem State.setThread_pmu (s : State) (p e t : Nat) (x : Thr) : (s.setThread p e t x).pmu = s.pmu := by
  unfold State.setThread; dsimp only; split <;> rfl
@[simp] theorem State.setThread_err (s : State) (p e t : Nat) (x : Thr) : (s.setThread p e t x).err = s.err := by
  unfold State.setThread; dsimp only; split <;> rfl
@[simp] theorem State.setThread_line (s : State) (p e t : Nat) (x : Thr) : (s.setThread p e t x).line = s.line := by
  unfold State.setThread; dsimp only; split <;> rfl
@[simp] theorem State.setThread_tim (s : State) (p e t : Nat) (x : Thr) : (s.setThread p e t x).tim = s.tim := by
  unfold State.setThread; dsimp only; split <;> rfl
@[simp] theorem State.setThread_tbl (s : State) (p e t : Nat) (x : Thr) : (s.setThread p e t x).tbl = s.tbl := by
  unfold State.setThread; dsimp only; split <;> rfl
@[simp] theorem State.setThread_cls (s : State) (p e t : Nat) (x : Thr) : (s.setThread p e t x).cls = s.cls := by
  unfold State.setThread; dsimp only; split <;> rfl
@[simp] theorem State.setThread_lrn (s : State) (p e t : Nat) (x : Thr) : (s.setThread p e t x).lrn = s.lrn := by
  unfold State.setThread; dsimp only; split <;> rfl
@[simp] theorem State.setThread_cross (s : State) (p e t : Nat) (x : Thr) : (s.setThread p e t x).cross = s.cross := by
  unfold State.setThread; dsimp only; split <;> rfl
@[simp] theorem State.setThread_sq (s : State) (p e t : Nat) (x : Thr) : (s.setThread p e t x).sq = s.sq := by
  unfold State.setThread; dsimp only; split <;> rfl
@[simp] theorem State.setThread_sch (s : State) (p e t : Nat) (x : Thr) : (s.setThread p e t x).sch = s.sch := by
  unfold State.setThread; dsimp only; split <;> rfl
@[simp] theorem State.setThread_fab (s : State) (p e t : Nat) (x : Thr) : (s.setThread p e t x).fab = s.fab := by
  unfold State.setThread; dsimp only; split <;> rfl
@[simp] theorem State.setThread_hbm (s : State) (p e t : Nat) (x : Thr) : (s.setThread p e t x).hbm = s.hbm := by
  unfold State.setThread; dsimp only; split <;> rfl
@[simp] theorem State.setThread_hif (s : State) (p e t : Nat) (x : Thr) : (s.setThread p e t x).hif = s.hif := by
  unfold State.setThread; dsimp only; split <;> rfl
@[simp] theorem State.setThread_mate (s : State) (p e t : Nat) (x : Thr) : (s.setThread p e t x).mate = s.mate := by
  unfold State.setThread; dsimp only; split <;> rfl
@[simp] theorem State.setThread_mss (s : State) (p e t : Nat) (x : Thr) : (s.setThread p e t x).mss = s.mss := by
  unfold State.setThread; dsimp only; split <;> rfl
@[simp] theorem State.setThread_boot (s : State) (p e t : Nat) (x : Thr) : (s.setThread p e t x).boot = s.boot := by
  unfold State.setThread; dsimp only; split <;> rfl
@[simp] theorem State.setThread_upd (s : State) (p e t : Nat) (x : Thr) : (s.setThread p e t x).upd = s.upd := by
  unfold State.setThread; dsimp only; split <;> rfl
@[simp] theorem State.setThread_elec (s : State) (p e t : Nat) (x : Thr) : (s.setThread p e t x).elec = s.elec := by
  unfold State.setThread; dsimp only; split <;> rfl
@[simp] theorem State.setThread_fresh (s : State) (p e t : Nat) (x : Thr) : (s.setThread p e t x).fresh = s.fresh := by
  unfold State.setThread; dsimp only; split <;> rfl
@[simp] theorem State.setThread_pending (s : State) (p e t : Nat) (x : Thr) : (s.setThread p e t x).pending = s.pending := by
  unfold State.setThread; dsimp only; split <;> rfl

@[simp] theorem State.setSlot_bus (s : State) (p k : Nat) (x : Option Slot) : (s.setSlot p k x).bus = s.bus := rfl
@[simp] theorem State.setSlot_pmu (s : State) (p k : Nat) (x : Option Slot) : (s.setSlot p k x).pmu = s.pmu := rfl
@[simp] theorem State.setSlot_err (s : State) (p k : Nat) (x : Option Slot) : (s.setSlot p k x).err = s.err := rfl
@[simp] theorem State.setSlot_line (s : State) (p k : Nat) (x : Option Slot) : (s.setSlot p k x).line = s.line := rfl
@[simp] theorem State.setSlot_tim (s : State) (p k : Nat) (x : Option Slot) : (s.setSlot p k x).tim = s.tim := rfl
@[simp] theorem State.setSlot_tbl (s : State) (p k : Nat) (x : Option Slot) : (s.setSlot p k x).tbl = s.tbl := rfl
@[simp] theorem State.setSlot_cls (s : State) (p k : Nat) (x : Option Slot) : (s.setSlot p k x).cls = s.cls := rfl
@[simp] theorem State.setSlot_lrn (s : State) (p k : Nat) (x : Option Slot) : (s.setSlot p k x).lrn = s.lrn := rfl
@[simp] theorem State.setSlot_cross (s : State) (p k : Nat) (x : Option Slot) : (s.setSlot p k x).cross = s.cross := rfl
@[simp] theorem State.setSlot_sq (s : State) (p k : Nat) (x : Option Slot) : (s.setSlot p k x).sq = s.sq := rfl
@[simp] theorem State.setSlot_sch (s : State) (p k : Nat) (x : Option Slot) : (s.setSlot p k x).sch = s.sch := rfl
@[simp] theorem State.setSlot_fab (s : State) (p k : Nat) (x : Option Slot) : (s.setSlot p k x).fab = s.fab := rfl
@[simp] theorem State.setSlot_hbm (s : State) (p k : Nat) (x : Option Slot) : (s.setSlot p k x).hbm = s.hbm := rfl
@[simp] theorem State.setSlot_hif (s : State) (p k : Nat) (x : Option Slot) : (s.setSlot p k x).hif = s.hif := rfl
@[simp] theorem State.setSlot_mate (s : State) (p k : Nat) (x : Option Slot) : (s.setSlot p k x).mate = s.mate := rfl
@[simp] theorem State.setSlot_mss (s : State) (p k : Nat) (x : Option Slot) : (s.setSlot p k x).mss = s.mss := rfl
@[simp] theorem State.setSlot_boot (s : State) (p k : Nat) (x : Option Slot) : (s.setSlot p k x).boot = s.boot := rfl
@[simp] theorem State.setSlot_upd (s : State) (p k : Nat) (x : Option Slot) : (s.setSlot p k x).upd = s.upd := rfl
@[simp] theorem State.setSlot_elec (s : State) (p k : Nat) (x : Option Slot) : (s.setSlot p k x).elec = s.elec := rfl
@[simp] theorem State.setSlot_fresh (s : State) (p k : Nat) (x : Option Slot) : (s.setSlot p k x).fresh = s.fresh := rfl
@[simp] theorem State.setSlot_pending (s : State) (p k : Nat) (x : Option Slot) : (s.setSlot p k x).pending = s.pending := rfl

@[simp] theorem State.setChan_bus (s : State) (p e c : Nat) (q : List (List Dword)) : (s.setChan p e c q).bus = s.bus := rfl
@[simp] theorem State.setChan_pmu (s : State) (p e c : Nat) (q : List (List Dword)) : (s.setChan p e c q).pmu = s.pmu := rfl
@[simp] theorem State.setChan_err (s : State) (p e c : Nat) (q : List (List Dword)) : (s.setChan p e c q).err = s.err := rfl
@[simp] theorem State.setChan_line (s : State) (p e c : Nat) (q : List (List Dword)) : (s.setChan p e c q).line = s.line := rfl
@[simp] theorem State.setChan_tim (s : State) (p e c : Nat) (q : List (List Dword)) : (s.setChan p e c q).tim = s.tim := rfl
@[simp] theorem State.setChan_tbl (s : State) (p e c : Nat) (q : List (List Dword)) : (s.setChan p e c q).tbl = s.tbl := rfl
@[simp] theorem State.setChan_cls (s : State) (p e c : Nat) (q : List (List Dword)) : (s.setChan p e c q).cls = s.cls := rfl
@[simp] theorem State.setChan_lrn (s : State) (p e c : Nat) (q : List (List Dword)) : (s.setChan p e c q).lrn = s.lrn := rfl
@[simp] theorem State.setChan_cross (s : State) (p e c : Nat) (q : List (List Dword)) : (s.setChan p e c q).cross = s.cross := rfl
@[simp] theorem State.setChan_sq (s : State) (p e c : Nat) (q : List (List Dword)) : (s.setChan p e c q).sq = s.sq := rfl
@[simp] theorem State.setChan_sch (s : State) (p e c : Nat) (q : List (List Dword)) : (s.setChan p e c q).sch = s.sch := rfl
@[simp] theorem State.setChan_fab (s : State) (p e c : Nat) (q : List (List Dword)) : (s.setChan p e c q).fab = s.fab := rfl
@[simp] theorem State.setChan_hbm (s : State) (p e c : Nat) (q : List (List Dword)) : (s.setChan p e c q).hbm = s.hbm := rfl
@[simp] theorem State.setChan_hif (s : State) (p e c : Nat) (q : List (List Dword)) : (s.setChan p e c q).hif = s.hif := rfl
@[simp] theorem State.setChan_mate (s : State) (p e c : Nat) (q : List (List Dword)) : (s.setChan p e c q).mate = s.mate := rfl
@[simp] theorem State.setChan_mss (s : State) (p e c : Nat) (q : List (List Dword)) : (s.setChan p e c q).mss = s.mss := rfl
@[simp] theorem State.setChan_boot (s : State) (p e c : Nat) (q : List (List Dword)) : (s.setChan p e c q).boot = s.boot := rfl
@[simp] theorem State.setChan_upd (s : State) (p e c : Nat) (q : List (List Dword)) : (s.setChan p e c q).upd = s.upd := rfl
@[simp] theorem State.setChan_elec (s : State) (p e c : Nat) (q : List (List Dword)) : (s.setChan p e c q).elec = s.elec := rfl
@[simp] theorem State.setChan_fresh (s : State) (p e c : Nat) (q : List (List Dword)) : (s.setChan p e c q).fresh = s.fresh := rfl
@[simp] theorem State.setChan_pending (s : State) (p e c : Nat) (q : List (List Dword)) : (s.setChan p e c q).pending = s.pending := rfl

@[simp] theorem State.setRx_bus (s : State) (m v : Nat) : (s.setRx m v).bus = s.bus := rfl
@[simp] theorem State.setRx_pmu (s : State) (m v : Nat) : (s.setRx m v).pmu = s.pmu := rfl
@[simp] theorem State.setRx_err (s : State) (m v : Nat) : (s.setRx m v).err = s.err := rfl
@[simp] theorem State.setRx_eng (s : State) (m v : Nat) : (s.setRx m v).eng = s.eng := rfl
@[simp] theorem State.setRx_tim (s : State) (m v : Nat) : (s.setRx m v).tim = s.tim := rfl
@[simp] theorem State.setRx_tbl (s : State) (m v : Nat) : (s.setRx m v).tbl = s.tbl := rfl
@[simp] theorem State.setRx_cls (s : State) (m v : Nat) : (s.setRx m v).cls = s.cls := rfl
@[simp] theorem State.setRx_lrn (s : State) (m v : Nat) : (s.setRx m v).lrn = s.lrn := rfl
@[simp] theorem State.setRx_cross (s : State) (m v : Nat) : (s.setRx m v).cross = s.cross := rfl
@[simp] theorem State.setRx_sq (s : State) (m v : Nat) : (s.setRx m v).sq = s.sq := rfl
@[simp] theorem State.setRx_sch (s : State) (m v : Nat) : (s.setRx m v).sch = s.sch := rfl
@[simp] theorem State.setRx_fab (s : State) (m v : Nat) : (s.setRx m v).fab = s.fab := rfl
@[simp] theorem State.setRx_hbm (s : State) (m v : Nat) : (s.setRx m v).hbm = s.hbm := rfl
@[simp] theorem State.setRx_hif (s : State) (m v : Nat) : (s.setRx m v).hif = s.hif := rfl
@[simp] theorem State.setRx_mate (s : State) (m v : Nat) : (s.setRx m v).mate = s.mate := rfl
@[simp] theorem State.setRx_mss (s : State) (m v : Nat) : (s.setRx m v).mss = s.mss := rfl
@[simp] theorem State.setRx_boot (s : State) (m v : Nat) : (s.setRx m v).boot = s.boot := rfl
@[simp] theorem State.setRx_upd (s : State) (m v : Nat) : (s.setRx m v).upd = s.upd := rfl
@[simp] theorem State.setRx_elec (s : State) (m v : Nat) : (s.setRx m v).elec = s.elec := rfl
@[simp] theorem State.setRx_fresh (s : State) (m v : Nat) : (s.setRx m v).fresh = s.fresh := rfl
@[simp] theorem State.setRx_pending (s : State) (m v : Nat) : (s.setRx m v).pending = s.pending := rfl

@[simp] theorem State.setLock_bus (s : State) (k : LockId) (x : Lock) : (s.setLock k x).bus = s.bus := rfl
@[simp] theorem State.setLock_pmu (s : State) (k : LockId) (x : Lock) : (s.setLock k x).pmu = s.pmu := rfl
@[simp] theorem State.setLock_err (s : State) (k : LockId) (x : Lock) : (s.setLock k x).err = s.err := rfl
@[simp] theorem State.setLock_eng (s : State) (k : LockId) (x : Lock) : (s.setLock k x).eng = s.eng := rfl
@[simp] theorem State.setLock_tim (s : State) (k : LockId) (x : Lock) : (s.setLock k x).tim = s.tim := rfl
@[simp] theorem State.setLock_tbl (s : State) (k : LockId) (x : Lock) : (s.setLock k x).tbl = s.tbl := rfl
@[simp] theorem State.setLock_cls (s : State) (k : LockId) (x : Lock) : (s.setLock k x).cls = s.cls := rfl
@[simp] theorem State.setLock_lrn (s : State) (k : LockId) (x : Lock) : (s.setLock k x).lrn = s.lrn := rfl
@[simp] theorem State.setLock_cross (s : State) (k : LockId) (x : Lock) : (s.setLock k x).cross = s.cross := rfl
@[simp] theorem State.setLock_sq (s : State) (k : LockId) (x : Lock) : (s.setLock k x).sq = s.sq := rfl
@[simp] theorem State.setLock_sch (s : State) (k : LockId) (x : Lock) : (s.setLock k x).sch = s.sch := rfl
@[simp] theorem State.setLock_fab (s : State) (k : LockId) (x : Lock) : (s.setLock k x).fab = s.fab := rfl
@[simp] theorem State.setLock_hbm (s : State) (k : LockId) (x : Lock) : (s.setLock k x).hbm = s.hbm := rfl
@[simp] theorem State.setLock_hif (s : State) (k : LockId) (x : Lock) : (s.setLock k x).hif = s.hif := rfl
@[simp] theorem State.setLock_mate (s : State) (k : LockId) (x : Lock) : (s.setLock k x).mate = s.mate := rfl
@[simp] theorem State.setLock_mss (s : State) (k : LockId) (x : Lock) : (s.setLock k x).mss = s.mss := rfl
@[simp] theorem State.setLock_boot (s : State) (k : LockId) (x : Lock) : (s.setLock k x).boot = s.boot := rfl
@[simp] theorem State.setLock_upd (s : State) (k : LockId) (x : Lock) : (s.setLock k x).upd = s.upd := rfl
@[simp] theorem State.setLock_elec (s : State) (k : LockId) (x : Lock) : (s.setLock k x).elec = s.elec := rfl
@[simp] theorem State.setLock_fresh (s : State) (k : LockId) (x : Lock) : (s.setLock k x).fresh = s.fresh := rfl
@[simp] theorem State.setLock_pending (s : State) (k : LockId) (x : Lock) : (s.setLock k x).pending = s.pending := rfl

@[simp] theorem State.setKerbQueue_bus (s : State) (l : Nat) (q : List Nat) : (s.setKerbQueue l q).bus = s.bus := rfl
@[simp] theorem State.setKerbQueue_pmu (s : State) (l : Nat) (q : List Nat) : (s.setKerbQueue l q).pmu = s.pmu := rfl
@[simp] theorem State.setKerbQueue_err (s : State) (l : Nat) (q : List Nat) : (s.setKerbQueue l q).err = s.err := rfl
@[simp] theorem State.setKerbQueue_eng (s : State) (l : Nat) (q : List Nat) : (s.setKerbQueue l q).eng = s.eng := rfl
@[simp] theorem State.setKerbQueue_tim (s : State) (l : Nat) (q : List Nat) : (s.setKerbQueue l q).tim = s.tim := rfl
@[simp] theorem State.setKerbQueue_tbl (s : State) (l : Nat) (q : List Nat) : (s.setKerbQueue l q).tbl = s.tbl := rfl
@[simp] theorem State.setKerbQueue_cls (s : State) (l : Nat) (q : List Nat) : (s.setKerbQueue l q).cls = s.cls := rfl
@[simp] theorem State.setKerbQueue_lrn (s : State) (l : Nat) (q : List Nat) : (s.setKerbQueue l q).lrn = s.lrn := rfl
@[simp] theorem State.setKerbQueue_cross (s : State) (l : Nat) (q : List Nat) : (s.setKerbQueue l q).cross = s.cross := rfl
@[simp] theorem State.setKerbQueue_sq (s : State) (l : Nat) (q : List Nat) : (s.setKerbQueue l q).sq = s.sq := rfl
@[simp] theorem State.setKerbQueue_sch (s : State) (l : Nat) (q : List Nat) : (s.setKerbQueue l q).sch = s.sch := rfl
@[simp] theorem State.setKerbQueue_fab (s : State) (l : Nat) (q : List Nat) : (s.setKerbQueue l q).fab = s.fab := rfl
@[simp] theorem State.setKerbQueue_hbm (s : State) (l : Nat) (q : List Nat) : (s.setKerbQueue l q).hbm = s.hbm := rfl
@[simp] theorem State.setKerbQueue_hif (s : State) (l : Nat) (q : List Nat) : (s.setKerbQueue l q).hif = s.hif := rfl
@[simp] theorem State.setKerbQueue_mate (s : State) (l : Nat) (q : List Nat) : (s.setKerbQueue l q).mate = s.mate := rfl
@[simp] theorem State.setKerbQueue_mss (s : State) (l : Nat) (q : List Nat) : (s.setKerbQueue l q).mss = s.mss := rfl
@[simp] theorem State.setKerbQueue_boot (s : State) (l : Nat) (q : List Nat) : (s.setKerbQueue l q).boot = s.boot := rfl
@[simp] theorem State.setKerbQueue_upd (s : State) (l : Nat) (q : List Nat) : (s.setKerbQueue l q).upd = s.upd := rfl
@[simp] theorem State.setKerbQueue_elec (s : State) (l : Nat) (q : List Nat) : (s.setKerbQueue l q).elec = s.elec := rfl
@[simp] theorem State.setKerbQueue_fresh (s : State) (l : Nat) (q : List Nat) : (s.setKerbQueue l q).fresh = s.fresh := rfl
@[simp] theorem State.setKerbQueue_pending (s : State) (l : Nat) (q : List Nat) : (s.setKerbQueue l q).pending = s.pending := rfl

@[simp] theorem State.setOvl_bus (s : State) (o : List Ovl) : (s.setOvl o).bus = s.bus := rfl
@[simp] theorem State.setOvl_pmu (s : State) (o : List Ovl) : (s.setOvl o).pmu = s.pmu := rfl
@[simp] theorem State.setOvl_err (s : State) (o : List Ovl) : (s.setOvl o).err = s.err := rfl
@[simp] theorem State.setOvl_line (s : State) (o : List Ovl) : (s.setOvl o).line = s.line := rfl
@[simp] theorem State.setOvl_eng (s : State) (o : List Ovl) : (s.setOvl o).eng = s.eng := rfl
@[simp] theorem State.setOvl_tim (s : State) (o : List Ovl) : (s.setOvl o).tim = s.tim := rfl
@[simp] theorem State.setOvl_cls (s : State) (o : List Ovl) : (s.setOvl o).cls = s.cls := rfl
@[simp] theorem State.setOvl_lrn (s : State) (o : List Ovl) : (s.setOvl o).lrn = s.lrn := rfl
@[simp] theorem State.setOvl_cross (s : State) (o : List Ovl) : (s.setOvl o).cross = s.cross := rfl
@[simp] theorem State.setOvl_sq (s : State) (o : List Ovl) : (s.setOvl o).sq = s.sq := rfl
@[simp] theorem State.setOvl_sch (s : State) (o : List Ovl) : (s.setOvl o).sch = s.sch := rfl
@[simp] theorem State.setOvl_fab (s : State) (o : List Ovl) : (s.setOvl o).fab = s.fab := rfl
@[simp] theorem State.setOvl_hbm (s : State) (o : List Ovl) : (s.setOvl o).hbm = s.hbm := rfl
@[simp] theorem State.setOvl_hif (s : State) (o : List Ovl) : (s.setOvl o).hif = s.hif := rfl
@[simp] theorem State.setOvl_mate (s : State) (o : List Ovl) : (s.setOvl o).mate = s.mate := rfl
@[simp] theorem State.setOvl_mss (s : State) (o : List Ovl) : (s.setOvl o).mss = s.mss := rfl
@[simp] theorem State.setOvl_boot (s : State) (o : List Ovl) : (s.setOvl o).boot = s.boot := rfl
@[simp] theorem State.setOvl_upd (s : State) (o : List Ovl) : (s.setOvl o).upd = s.upd := rfl
@[simp] theorem State.setOvl_elec (s : State) (o : List Ovl) : (s.setOvl o).elec = s.elec := rfl
@[simp] theorem State.setOvl_fresh (s : State) (o : List Ovl) : (s.setOvl o).fresh = s.fresh := rfl
@[simp] theorem State.setOvl_pending (s : State) (o : List Ovl) : (s.setOvl o).pending = s.pending := rfl

@[simp] theorem State.setRow_bus (s : State) (k : Nat) (r : TcamRow) : (s.setRow k r).bus = s.bus := rfl
@[simp] theorem State.setRow_pmu (s : State) (k : Nat) (r : TcamRow) : (s.setRow k r).pmu = s.pmu := rfl
@[simp] theorem State.setRow_err (s : State) (k : Nat) (r : TcamRow) : (s.setRow k r).err = s.err := rfl
@[simp] theorem State.setRow_line (s : State) (k : Nat) (r : TcamRow) : (s.setRow k r).line = s.line := rfl
@[simp] theorem State.setRow_eng (s : State) (k : Nat) (r : TcamRow) : (s.setRow k r).eng = s.eng := rfl
@[simp] theorem State.setRow_tim (s : State) (k : Nat) (r : TcamRow) : (s.setRow k r).tim = s.tim := rfl
@[simp] theorem State.setRow_tbl (s : State) (k : Nat) (r : TcamRow) : (s.setRow k r).tbl = s.tbl := rfl
@[simp] theorem State.setRow_lrn (s : State) (k : Nat) (r : TcamRow) : (s.setRow k r).lrn = s.lrn := rfl
@[simp] theorem State.setRow_cross (s : State) (k : Nat) (r : TcamRow) : (s.setRow k r).cross = s.cross := rfl
@[simp] theorem State.setRow_sq (s : State) (k : Nat) (r : TcamRow) : (s.setRow k r).sq = s.sq := rfl
@[simp] theorem State.setRow_sch (s : State) (k : Nat) (r : TcamRow) : (s.setRow k r).sch = s.sch := rfl
@[simp] theorem State.setRow_fab (s : State) (k : Nat) (r : TcamRow) : (s.setRow k r).fab = s.fab := rfl
@[simp] theorem State.setRow_hbm (s : State) (k : Nat) (r : TcamRow) : (s.setRow k r).hbm = s.hbm := rfl
@[simp] theorem State.setRow_hif (s : State) (k : Nat) (r : TcamRow) : (s.setRow k r).hif = s.hif := rfl
@[simp] theorem State.setRow_mate (s : State) (k : Nat) (r : TcamRow) : (s.setRow k r).mate = s.mate := rfl
@[simp] theorem State.setRow_mss (s : State) (k : Nat) (r : TcamRow) : (s.setRow k r).mss = s.mss := rfl
@[simp] theorem State.setRow_boot (s : State) (k : Nat) (r : TcamRow) : (s.setRow k r).boot = s.boot := rfl
@[simp] theorem State.setRow_upd (s : State) (k : Nat) (r : TcamRow) : (s.setRow k r).upd = s.upd := rfl
@[simp] theorem State.setRow_elec (s : State) (k : Nat) (r : TcamRow) : (s.setRow k r).elec = s.elec := rfl
@[simp] theorem State.setRow_fresh (s : State) (k : Nat) (r : TcamRow) : (s.setRow k r).fresh = s.fresh := rfl
@[simp] theorem State.setRow_pending (s : State) (k : Nat) (r : TcamRow) : (s.setRow k r).pending = s.pending := rfl

@[simp] theorem State.setSlice_bus (s : State) (p : Nat) (x : SliceProg) : (s.setSlice p x).bus = s.bus := rfl
@[simp] theorem State.setSlice_pmu (s : State) (p : Nat) (x : SliceProg) : (s.setSlice p x).pmu = s.pmu := rfl
@[simp] theorem State.setSlice_err (s : State) (p : Nat) (x : SliceProg) : (s.setSlice p x).err = s.err := rfl
@[simp] theorem State.setSlice_line (s : State) (p : Nat) (x : SliceProg) : (s.setSlice p x).line = s.line := rfl
@[simp] theorem State.setSlice_eng (s : State) (p : Nat) (x : SliceProg) : (s.setSlice p x).eng = s.eng := rfl
@[simp] theorem State.setSlice_tim (s : State) (p : Nat) (x : SliceProg) : (s.setSlice p x).tim = s.tim := rfl
@[simp] theorem State.setSlice_tbl (s : State) (p : Nat) (x : SliceProg) : (s.setSlice p x).tbl = s.tbl := rfl
@[simp] theorem State.setSlice_lrn (s : State) (p : Nat) (x : SliceProg) : (s.setSlice p x).lrn = s.lrn := rfl
@[simp] theorem State.setSlice_cross (s : State) (p : Nat) (x : SliceProg) : (s.setSlice p x).cross = s.cross := rfl
@[simp] theorem State.setSlice_sq (s : State) (p : Nat) (x : SliceProg) : (s.setSlice p x).sq = s.sq := rfl
@[simp] theorem State.setSlice_sch (s : State) (p : Nat) (x : SliceProg) : (s.setSlice p x).sch = s.sch := rfl
@[simp] theorem State.setSlice_fab (s : State) (p : Nat) (x : SliceProg) : (s.setSlice p x).fab = s.fab := rfl
@[simp] theorem State.setSlice_hbm (s : State) (p : Nat) (x : SliceProg) : (s.setSlice p x).hbm = s.hbm := rfl
@[simp] theorem State.setSlice_hif (s : State) (p : Nat) (x : SliceProg) : (s.setSlice p x).hif = s.hif := rfl
@[simp] theorem State.setSlice_mate (s : State) (p : Nat) (x : SliceProg) : (s.setSlice p x).mate = s.mate := rfl
@[simp] theorem State.setSlice_mss (s : State) (p : Nat) (x : SliceProg) : (s.setSlice p x).mss = s.mss := rfl
@[simp] theorem State.setSlice_boot (s : State) (p : Nat) (x : SliceProg) : (s.setSlice p x).boot = s.boot := rfl
@[simp] theorem State.setSlice_upd (s : State) (p : Nat) (x : SliceProg) : (s.setSlice p x).upd = s.upd := rfl
@[simp] theorem State.setSlice_elec (s : State) (p : Nat) (x : SliceProg) : (s.setSlice p x).elec = s.elec := rfl
@[simp] theorem State.setSlice_fresh (s : State) (p : Nat) (x : SliceProg) : (s.setSlice p x).fresh = s.fresh := rfl
@[simp] theorem State.setSlice_pending (s : State) (p : Nat) (x : SliceProg) : (s.setSlice p x).pending = s.pending := rfl

@[simp] theorem State.setHandle_bus (s : State) (h : Nat) (x : Handle) : (s.setHandle h x).bus = s.bus := rfl
@[simp] theorem State.setHandle_pmu (s : State) (h : Nat) (x : Handle) : (s.setHandle h x).pmu = s.pmu := rfl
@[simp] theorem State.setHandle_err (s : State) (h : Nat) (x : Handle) : (s.setHandle h x).err = s.err := rfl
@[simp] theorem State.setHandle_line (s : State) (h : Nat) (x : Handle) : (s.setHandle h x).line = s.line := rfl
@[simp] theorem State.setHandle_eng (s : State) (h : Nat) (x : Handle) : (s.setHandle h x).eng = s.eng := rfl
@[simp] theorem State.setHandle_tim (s : State) (h : Nat) (x : Handle) : (s.setHandle h x).tim = s.tim := rfl
@[simp] theorem State.setHandle_tbl (s : State) (h : Nat) (x : Handle) : (s.setHandle h x).tbl = s.tbl := rfl
@[simp] theorem State.setHandle_cls (s : State) (h : Nat) (x : Handle) : (s.setHandle h x).cls = s.cls := rfl
@[simp] theorem State.setHandle_lrn (s : State) (h : Nat) (x : Handle) : (s.setHandle h x).lrn = s.lrn := rfl
@[simp] theorem State.setHandle_cross (s : State) (h : Nat) (x : Handle) : (s.setHandle h x).cross = s.cross := rfl
@[simp] theorem State.setHandle_sch (s : State) (h : Nat) (x : Handle) : (s.setHandle h x).sch = s.sch := rfl
@[simp] theorem State.setHandle_fab (s : State) (h : Nat) (x : Handle) : (s.setHandle h x).fab = s.fab := rfl
@[simp] theorem State.setHandle_hbm (s : State) (h : Nat) (x : Handle) : (s.setHandle h x).hbm = s.hbm := rfl
@[simp] theorem State.setHandle_hif (s : State) (h : Nat) (x : Handle) : (s.setHandle h x).hif = s.hif := rfl
@[simp] theorem State.setHandle_mate (s : State) (h : Nat) (x : Handle) : (s.setHandle h x).mate = s.mate := rfl
@[simp] theorem State.setHandle_mss (s : State) (h : Nat) (x : Handle) : (s.setHandle h x).mss = s.mss := rfl
@[simp] theorem State.setHandle_boot (s : State) (h : Nat) (x : Handle) : (s.setHandle h x).boot = s.boot := rfl
@[simp] theorem State.setHandle_upd (s : State) (h : Nat) (x : Handle) : (s.setHandle h x).upd = s.upd := rfl
@[simp] theorem State.setHandle_elec (s : State) (h : Nat) (x : Handle) : (s.setHandle h x).elec = s.elec := rfl
@[simp] theorem State.setHandle_fresh (s : State) (h : Nat) (x : Handle) : (s.setHandle h x).fresh = s.fresh := rfl
@[simp] theorem State.setHandle_pending (s : State) (h : Nat) (x : Handle) : (s.setHandle h x).pending = s.pending := rfl

@[simp] theorem State.setPd_bus (s : State) (d : Nat) (x : Pd) : (s.setPd d x).bus = s.bus := rfl
@[simp] theorem State.setPd_pmu (s : State) (d : Nat) (x : Pd) : (s.setPd d x).pmu = s.pmu := rfl
@[simp] theorem State.setPd_err (s : State) (d : Nat) (x : Pd) : (s.setPd d x).err = s.err := rfl
@[simp] theorem State.setPd_line (s : State) (d : Nat) (x : Pd) : (s.setPd d x).line = s.line := rfl
@[simp] theorem State.setPd_eng (s : State) (d : Nat) (x : Pd) : (s.setPd d x).eng = s.eng := rfl
@[simp] theorem State.setPd_tim (s : State) (d : Nat) (x : Pd) : (s.setPd d x).tim = s.tim := rfl
@[simp] theorem State.setPd_tbl (s : State) (d : Nat) (x : Pd) : (s.setPd d x).tbl = s.tbl := rfl
@[simp] theorem State.setPd_cls (s : State) (d : Nat) (x : Pd) : (s.setPd d x).cls = s.cls := rfl
@[simp] theorem State.setPd_lrn (s : State) (d : Nat) (x : Pd) : (s.setPd d x).lrn = s.lrn := rfl
@[simp] theorem State.setPd_cross (s : State) (d : Nat) (x : Pd) : (s.setPd d x).cross = s.cross := rfl
@[simp] theorem State.setPd_sch (s : State) (d : Nat) (x : Pd) : (s.setPd d x).sch = s.sch := rfl
@[simp] theorem State.setPd_fab (s : State) (d : Nat) (x : Pd) : (s.setPd d x).fab = s.fab := rfl
@[simp] theorem State.setPd_hbm (s : State) (d : Nat) (x : Pd) : (s.setPd d x).hbm = s.hbm := rfl
@[simp] theorem State.setPd_hif (s : State) (d : Nat) (x : Pd) : (s.setPd d x).hif = s.hif := rfl
@[simp] theorem State.setPd_mate (s : State) (d : Nat) (x : Pd) : (s.setPd d x).mate = s.mate := rfl
@[simp] theorem State.setPd_mss (s : State) (d : Nat) (x : Pd) : (s.setPd d x).mss = s.mss := rfl
@[simp] theorem State.setPd_boot (s : State) (d : Nat) (x : Pd) : (s.setPd d x).boot = s.boot := rfl
@[simp] theorem State.setPd_upd (s : State) (d : Nat) (x : Pd) : (s.setPd d x).upd = s.upd := rfl
@[simp] theorem State.setPd_elec (s : State) (d : Nat) (x : Pd) : (s.setPd d x).elec = s.elec := rfl
@[simp] theorem State.setPd_fresh (s : State) (d : Nat) (x : Pd) : (s.setPd d x).fresh = s.fresh := rfl
@[simp] theorem State.setPd_pending (s : State) (d : Nat) (x : Pd) : (s.setPd d x).pending = s.pending := rfl

@[simp] theorem State.setQueue_bus (s : State) (q : Nat) (l : List Nat) : (s.setQueue q l).bus = s.bus := rfl
@[simp] theorem State.setQueue_pmu (s : State) (q : Nat) (l : List Nat) : (s.setQueue q l).pmu = s.pmu := rfl
@[simp] theorem State.setQueue_err (s : State) (q : Nat) (l : List Nat) : (s.setQueue q l).err = s.err := rfl
@[simp] theorem State.setQueue_line (s : State) (q : Nat) (l : List Nat) : (s.setQueue q l).line = s.line := rfl
@[simp] theorem State.setQueue_eng (s : State) (q : Nat) (l : List Nat) : (s.setQueue q l).eng = s.eng := rfl
@[simp] theorem State.setQueue_tim (s : State) (q : Nat) (l : List Nat) : (s.setQueue q l).tim = s.tim := rfl
@[simp] theorem State.setQueue_tbl (s : State) (q : Nat) (l : List Nat) : (s.setQueue q l).tbl = s.tbl := rfl
@[simp] theorem State.setQueue_cls (s : State) (q : Nat) (l : List Nat) : (s.setQueue q l).cls = s.cls := rfl
@[simp] theorem State.setQueue_lrn (s : State) (q : Nat) (l : List Nat) : (s.setQueue q l).lrn = s.lrn := rfl
@[simp] theorem State.setQueue_cross (s : State) (q : Nat) (l : List Nat) : (s.setQueue q l).cross = s.cross := rfl
@[simp] theorem State.setQueue_sch (s : State) (q : Nat) (l : List Nat) : (s.setQueue q l).sch = s.sch := rfl
@[simp] theorem State.setQueue_fab (s : State) (q : Nat) (l : List Nat) : (s.setQueue q l).fab = s.fab := rfl
@[simp] theorem State.setQueue_hbm (s : State) (q : Nat) (l : List Nat) : (s.setQueue q l).hbm = s.hbm := rfl
@[simp] theorem State.setQueue_hif (s : State) (q : Nat) (l : List Nat) : (s.setQueue q l).hif = s.hif := rfl
@[simp] theorem State.setQueue_mate (s : State) (q : Nat) (l : List Nat) : (s.setQueue q l).mate = s.mate := rfl
@[simp] theorem State.setQueue_mss (s : State) (q : Nat) (l : List Nat) : (s.setQueue q l).mss = s.mss := rfl
@[simp] theorem State.setQueue_boot (s : State) (q : Nat) (l : List Nat) : (s.setQueue q l).boot = s.boot := rfl
@[simp] theorem State.setQueue_upd (s : State) (q : Nat) (l : List Nat) : (s.setQueue q l).upd = s.upd := rfl
@[simp] theorem State.setQueue_elec (s : State) (q : Nat) (l : List Nat) : (s.setQueue q l).elec = s.elec := rfl
@[simp] theorem State.setQueue_fresh (s : State) (q : Nat) (l : List Nat) : (s.setQueue q l).fresh = s.fresh := rfl
@[simp] theorem State.setQueue_pending (s : State) (q : Nat) (l : List Nat) : (s.setQueue q l).pending = s.pending := rfl

@[simp] theorem State.setPtrs_bus (s : State) (g : Nat) (p : Ptrs) : (s.setPtrs g p).bus = s.bus := rfl
@[simp] theorem State.setPtrs_pmu (s : State) (g : Nat) (p : Ptrs) : (s.setPtrs g p).pmu = s.pmu := rfl
@[simp] theorem State.setPtrs_err (s : State) (g : Nat) (p : Ptrs) : (s.setPtrs g p).err = s.err := rfl
@[simp] theorem State.setPtrs_line (s : State) (g : Nat) (p : Ptrs) : (s.setPtrs g p).line = s.line := rfl
@[simp] theorem State.setPtrs_eng (s : State) (g : Nat) (p : Ptrs) : (s.setPtrs g p).eng = s.eng := rfl
@[simp] theorem State.setPtrs_tim (s : State) (g : Nat) (p : Ptrs) : (s.setPtrs g p).tim = s.tim := rfl
@[simp] theorem State.setPtrs_tbl (s : State) (g : Nat) (p : Ptrs) : (s.setPtrs g p).tbl = s.tbl := rfl
@[simp] theorem State.setPtrs_cls (s : State) (g : Nat) (p : Ptrs) : (s.setPtrs g p).cls = s.cls := rfl
@[simp] theorem State.setPtrs_lrn (s : State) (g : Nat) (p : Ptrs) : (s.setPtrs g p).lrn = s.lrn := rfl
@[simp] theorem State.setPtrs_cross (s : State) (g : Nat) (p : Ptrs) : (s.setPtrs g p).cross = s.cross := rfl
@[simp] theorem State.setPtrs_sq (s : State) (g : Nat) (p : Ptrs) : (s.setPtrs g p).sq = s.sq := rfl
@[simp] theorem State.setPtrs_fab (s : State) (g : Nat) (p : Ptrs) : (s.setPtrs g p).fab = s.fab := rfl
@[simp] theorem State.setPtrs_hbm (s : State) (g : Nat) (p : Ptrs) : (s.setPtrs g p).hbm = s.hbm := rfl
@[simp] theorem State.setPtrs_hif (s : State) (g : Nat) (p : Ptrs) : (s.setPtrs g p).hif = s.hif := rfl
@[simp] theorem State.setPtrs_mate (s : State) (g : Nat) (p : Ptrs) : (s.setPtrs g p).mate = s.mate := rfl
@[simp] theorem State.setPtrs_mss (s : State) (g : Nat) (p : Ptrs) : (s.setPtrs g p).mss = s.mss := rfl
@[simp] theorem State.setPtrs_boot (s : State) (g : Nat) (p : Ptrs) : (s.setPtrs g p).boot = s.boot := rfl
@[simp] theorem State.setPtrs_upd (s : State) (g : Nat) (p : Ptrs) : (s.setPtrs g p).upd = s.upd := rfl
@[simp] theorem State.setPtrs_elec (s : State) (g : Nat) (p : Ptrs) : (s.setPtrs g p).elec = s.elec := rfl
@[simp] theorem State.setPtrs_fresh (s : State) (g : Nat) (p : Ptrs) : (s.setPtrs g p).fresh = s.fresh := rfl
@[simp] theorem State.setPtrs_pending (s : State) (g : Nat) (p : Ptrs) : (s.setPtrs g p).pending = s.pending := rfl

@[simp] theorem State.setBudget_bus (s : State) (o : Nat) (v : Int) : (s.setBudget o v).bus = s.bus := rfl
@[simp] theorem State.setBudget_pmu (s : State) (o : Nat) (v : Int) : (s.setBudget o v).pmu = s.pmu := rfl
@[simp] theorem State.setBudget_err (s : State) (o : Nat) (v : Int) : (s.setBudget o v).err = s.err := rfl
@[simp] theorem State.setBudget_line (s : State) (o : Nat) (v : Int) : (s.setBudget o v).line = s.line := rfl
@[simp] theorem State.setBudget_eng (s : State) (o : Nat) (v : Int) : (s.setBudget o v).eng = s.eng := rfl
@[simp] theorem State.setBudget_tim (s : State) (o : Nat) (v : Int) : (s.setBudget o v).tim = s.tim := rfl
@[simp] theorem State.setBudget_tbl (s : State) (o : Nat) (v : Int) : (s.setBudget o v).tbl = s.tbl := rfl
@[simp] theorem State.setBudget_cls (s : State) (o : Nat) (v : Int) : (s.setBudget o v).cls = s.cls := rfl
@[simp] theorem State.setBudget_lrn (s : State) (o : Nat) (v : Int) : (s.setBudget o v).lrn = s.lrn := rfl
@[simp] theorem State.setBudget_cross (s : State) (o : Nat) (v : Int) : (s.setBudget o v).cross = s.cross := rfl
@[simp] theorem State.setBudget_sq (s : State) (o : Nat) (v : Int) : (s.setBudget o v).sq = s.sq := rfl
@[simp] theorem State.setBudget_fab (s : State) (o : Nat) (v : Int) : (s.setBudget o v).fab = s.fab := rfl
@[simp] theorem State.setBudget_hbm (s : State) (o : Nat) (v : Int) : (s.setBudget o v).hbm = s.hbm := rfl
@[simp] theorem State.setBudget_hif (s : State) (o : Nat) (v : Int) : (s.setBudget o v).hif = s.hif := rfl
@[simp] theorem State.setBudget_mate (s : State) (o : Nat) (v : Int) : (s.setBudget o v).mate = s.mate := rfl
@[simp] theorem State.setBudget_mss (s : State) (o : Nat) (v : Int) : (s.setBudget o v).mss = s.mss := rfl
@[simp] theorem State.setBudget_boot (s : State) (o : Nat) (v : Int) : (s.setBudget o v).boot = s.boot := rfl
@[simp] theorem State.setBudget_upd (s : State) (o : Nat) (v : Int) : (s.setBudget o v).upd = s.upd := rfl
@[simp] theorem State.setBudget_elec (s : State) (o : Nat) (v : Int) : (s.setBudget o v).elec = s.elec := rfl
@[simp] theorem State.setBudget_fresh (s : State) (o : Nat) (v : Int) : (s.setBudget o v).fresh = s.fresh := rfl
@[simp] theorem State.setBudget_pending (s : State) (o : Nat) (v : Int) : (s.setBudget o v).pending = s.pending := rfl

@[simp] theorem State.setFabLane_bus (s : State) (l : Nat) (x : FabLane) : (s.setFabLane l x).bus = s.bus := rfl
@[simp] theorem State.setFabLane_pmu (s : State) (l : Nat) (x : FabLane) : (s.setFabLane l x).pmu = s.pmu := rfl
@[simp] theorem State.setFabLane_err (s : State) (l : Nat) (x : FabLane) : (s.setFabLane l x).err = s.err := rfl
@[simp] theorem State.setFabLane_line (s : State) (l : Nat) (x : FabLane) : (s.setFabLane l x).line = s.line := rfl
@[simp] theorem State.setFabLane_eng (s : State) (l : Nat) (x : FabLane) : (s.setFabLane l x).eng = s.eng := rfl
@[simp] theorem State.setFabLane_tim (s : State) (l : Nat) (x : FabLane) : (s.setFabLane l x).tim = s.tim := rfl
@[simp] theorem State.setFabLane_tbl (s : State) (l : Nat) (x : FabLane) : (s.setFabLane l x).tbl = s.tbl := rfl
@[simp] theorem State.setFabLane_cls (s : State) (l : Nat) (x : FabLane) : (s.setFabLane l x).cls = s.cls := rfl
@[simp] theorem State.setFabLane_lrn (s : State) (l : Nat) (x : FabLane) : (s.setFabLane l x).lrn = s.lrn := rfl
@[simp] theorem State.setFabLane_cross (s : State) (l : Nat) (x : FabLane) : (s.setFabLane l x).cross = s.cross := rfl
@[simp] theorem State.setFabLane_sq (s : State) (l : Nat) (x : FabLane) : (s.setFabLane l x).sq = s.sq := rfl
@[simp] theorem State.setFabLane_sch (s : State) (l : Nat) (x : FabLane) : (s.setFabLane l x).sch = s.sch := rfl
@[simp] theorem State.setFabLane_hbm (s : State) (l : Nat) (x : FabLane) : (s.setFabLane l x).hbm = s.hbm := rfl
@[simp] theorem State.setFabLane_hif (s : State) (l : Nat) (x : FabLane) : (s.setFabLane l x).hif = s.hif := rfl
@[simp] theorem State.setFabLane_mate (s : State) (l : Nat) (x : FabLane) : (s.setFabLane l x).mate = s.mate := rfl
@[simp] theorem State.setFabLane_mss (s : State) (l : Nat) (x : FabLane) : (s.setFabLane l x).mss = s.mss := rfl
@[simp] theorem State.setFabLane_boot (s : State) (l : Nat) (x : FabLane) : (s.setFabLane l x).boot = s.boot := rfl
@[simp] theorem State.setFabLane_upd (s : State) (l : Nat) (x : FabLane) : (s.setFabLane l x).upd = s.upd := rfl
@[simp] theorem State.setFabLane_elec (s : State) (l : Nat) (x : FabLane) : (s.setFabLane l x).elec = s.elec := rfl
@[simp] theorem State.setFabLane_fresh (s : State) (l : Nat) (x : FabLane) : (s.setFabLane l x).fresh = s.fresh := rfl
@[simp] theorem State.setFabLane_pending (s : State) (l : Nat) (x : FabLane) : (s.setFabLane l x).pending = s.pending := rfl

@[simp] theorem State.setDramChan_bus (s : State) (c : Nat) (x : DramChan) : (s.setDramChan c x).bus = s.bus := rfl
@[simp] theorem State.setDramChan_pmu (s : State) (c : Nat) (x : DramChan) : (s.setDramChan c x).pmu = s.pmu := rfl
@[simp] theorem State.setDramChan_err (s : State) (c : Nat) (x : DramChan) : (s.setDramChan c x).err = s.err := rfl
@[simp] theorem State.setDramChan_line (s : State) (c : Nat) (x : DramChan) : (s.setDramChan c x).line = s.line := rfl
@[simp] theorem State.setDramChan_eng (s : State) (c : Nat) (x : DramChan) : (s.setDramChan c x).eng = s.eng := rfl
@[simp] theorem State.setDramChan_tim (s : State) (c : Nat) (x : DramChan) : (s.setDramChan c x).tim = s.tim := rfl
@[simp] theorem State.setDramChan_tbl (s : State) (c : Nat) (x : DramChan) : (s.setDramChan c x).tbl = s.tbl := rfl
@[simp] theorem State.setDramChan_cls (s : State) (c : Nat) (x : DramChan) : (s.setDramChan c x).cls = s.cls := rfl
@[simp] theorem State.setDramChan_lrn (s : State) (c : Nat) (x : DramChan) : (s.setDramChan c x).lrn = s.lrn := rfl
@[simp] theorem State.setDramChan_cross (s : State) (c : Nat) (x : DramChan) : (s.setDramChan c x).cross = s.cross := rfl
@[simp] theorem State.setDramChan_sq (s : State) (c : Nat) (x : DramChan) : (s.setDramChan c x).sq = s.sq := rfl
@[simp] theorem State.setDramChan_sch (s : State) (c : Nat) (x : DramChan) : (s.setDramChan c x).sch = s.sch := rfl
@[simp] theorem State.setDramChan_fab (s : State) (c : Nat) (x : DramChan) : (s.setDramChan c x).fab = s.fab := rfl
@[simp] theorem State.setDramChan_hif (s : State) (c : Nat) (x : DramChan) : (s.setDramChan c x).hif = s.hif := rfl
@[simp] theorem State.setDramChan_mate (s : State) (c : Nat) (x : DramChan) : (s.setDramChan c x).mate = s.mate := rfl
@[simp] theorem State.setDramChan_mss (s : State) (c : Nat) (x : DramChan) : (s.setDramChan c x).mss = s.mss := rfl
@[simp] theorem State.setDramChan_boot (s : State) (c : Nat) (x : DramChan) : (s.setDramChan c x).boot = s.boot := rfl
@[simp] theorem State.setDramChan_upd (s : State) (c : Nat) (x : DramChan) : (s.setDramChan c x).upd = s.upd := rfl
@[simp] theorem State.setDramChan_elec (s : State) (c : Nat) (x : DramChan) : (s.setDramChan c x).elec = s.elec := rfl
@[simp] theorem State.setDramChan_fresh (s : State) (c : Nat) (x : DramChan) : (s.setDramChan c x).fresh = s.fresh := rfl
@[simp] theorem State.setDramChan_pending (s : State) (c : Nat) (x : DramChan) : (s.setDramChan c x).pending = s.pending := rfl

@[simp] theorem State.setBank_bus (s : State) (c b : Nat) (x : DramBank) : (s.setBank c b x).bus = s.bus := rfl
@[simp] theorem State.setBank_pmu (s : State) (c b : Nat) (x : DramBank) : (s.setBank c b x).pmu = s.pmu := rfl
@[simp] theorem State.setBank_err (s : State) (c b : Nat) (x : DramBank) : (s.setBank c b x).err = s.err := rfl
@[simp] theorem State.setBank_line (s : State) (c b : Nat) (x : DramBank) : (s.setBank c b x).line = s.line := rfl
@[simp] theorem State.setBank_eng (s : State) (c b : Nat) (x : DramBank) : (s.setBank c b x).eng = s.eng := rfl
@[simp] theorem State.setBank_tim (s : State) (c b : Nat) (x : DramBank) : (s.setBank c b x).tim = s.tim := rfl
@[simp] theorem State.setBank_tbl (s : State) (c b : Nat) (x : DramBank) : (s.setBank c b x).tbl = s.tbl := rfl
@[simp] theorem State.setBank_cls (s : State) (c b : Nat) (x : DramBank) : (s.setBank c b x).cls = s.cls := rfl
@[simp] theorem State.setBank_lrn (s : State) (c b : Nat) (x : DramBank) : (s.setBank c b x).lrn = s.lrn := rfl
@[simp] theorem State.setBank_cross (s : State) (c b : Nat) (x : DramBank) : (s.setBank c b x).cross = s.cross := rfl
@[simp] theorem State.setBank_sq (s : State) (c b : Nat) (x : DramBank) : (s.setBank c b x).sq = s.sq := rfl
@[simp] theorem State.setBank_sch (s : State) (c b : Nat) (x : DramBank) : (s.setBank c b x).sch = s.sch := rfl
@[simp] theorem State.setBank_fab (s : State) (c b : Nat) (x : DramBank) : (s.setBank c b x).fab = s.fab := rfl
@[simp] theorem State.setBank_hif (s : State) (c b : Nat) (x : DramBank) : (s.setBank c b x).hif = s.hif := rfl
@[simp] theorem State.setBank_mate (s : State) (c b : Nat) (x : DramBank) : (s.setBank c b x).mate = s.mate := rfl
@[simp] theorem State.setBank_mss (s : State) (c b : Nat) (x : DramBank) : (s.setBank c b x).mss = s.mss := rfl
@[simp] theorem State.setBank_boot (s : State) (c b : Nat) (x : DramBank) : (s.setBank c b x).boot = s.boot := rfl
@[simp] theorem State.setBank_upd (s : State) (c b : Nat) (x : DramBank) : (s.setBank c b x).upd = s.upd := rfl
@[simp] theorem State.setBank_elec (s : State) (c b : Nat) (x : DramBank) : (s.setBank c b x).elec = s.elec := rfl
@[simp] theorem State.setBank_fresh (s : State) (c b : Nat) (x : DramBank) : (s.setBank c b x).fresh = s.fresh := rfl
@[simp] theorem State.setBank_pending (s : State) (c b : Nat) (x : DramBank) : (s.setBank c b x).pending = s.pending := rfl

@[simp] theorem State.setMbxNow_bus (s : State) (m : Nat) (x : MbxNow) : (s.setMbxNow m x).bus = s.bus := rfl
@[simp] theorem State.setMbxNow_pmu (s : State) (m : Nat) (x : MbxNow) : (s.setMbxNow m x).pmu = s.pmu := rfl
@[simp] theorem State.setMbxNow_err (s : State) (m : Nat) (x : MbxNow) : (s.setMbxNow m x).err = s.err := rfl
@[simp] theorem State.setMbxNow_line (s : State) (m : Nat) (x : MbxNow) : (s.setMbxNow m x).line = s.line := rfl
@[simp] theorem State.setMbxNow_eng (s : State) (m : Nat) (x : MbxNow) : (s.setMbxNow m x).eng = s.eng := rfl
@[simp] theorem State.setMbxNow_tim (s : State) (m : Nat) (x : MbxNow) : (s.setMbxNow m x).tim = s.tim := rfl
@[simp] theorem State.setMbxNow_tbl (s : State) (m : Nat) (x : MbxNow) : (s.setMbxNow m x).tbl = s.tbl := rfl
@[simp] theorem State.setMbxNow_cls (s : State) (m : Nat) (x : MbxNow) : (s.setMbxNow m x).cls = s.cls := rfl
@[simp] theorem State.setMbxNow_lrn (s : State) (m : Nat) (x : MbxNow) : (s.setMbxNow m x).lrn = s.lrn := rfl
@[simp] theorem State.setMbxNow_cross (s : State) (m : Nat) (x : MbxNow) : (s.setMbxNow m x).cross = s.cross := rfl
@[simp] theorem State.setMbxNow_sq (s : State) (m : Nat) (x : MbxNow) : (s.setMbxNow m x).sq = s.sq := rfl
@[simp] theorem State.setMbxNow_sch (s : State) (m : Nat) (x : MbxNow) : (s.setMbxNow m x).sch = s.sch := rfl
@[simp] theorem State.setMbxNow_fab (s : State) (m : Nat) (x : MbxNow) : (s.setMbxNow m x).fab = s.fab := rfl
@[simp] theorem State.setMbxNow_hbm (s : State) (m : Nat) (x : MbxNow) : (s.setMbxNow m x).hbm = s.hbm := rfl
@[simp] theorem State.setMbxNow_mate (s : State) (m : Nat) (x : MbxNow) : (s.setMbxNow m x).mate = s.mate := rfl
@[simp] theorem State.setMbxNow_mss (s : State) (m : Nat) (x : MbxNow) : (s.setMbxNow m x).mss = s.mss := rfl
@[simp] theorem State.setMbxNow_boot (s : State) (m : Nat) (x : MbxNow) : (s.setMbxNow m x).boot = s.boot := rfl
@[simp] theorem State.setMbxNow_upd (s : State) (m : Nat) (x : MbxNow) : (s.setMbxNow m x).upd = s.upd := rfl
@[simp] theorem State.setMbxNow_elec (s : State) (m : Nat) (x : MbxNow) : (s.setMbxNow m x).elec = s.elec := rfl
@[simp] theorem State.setMbxNow_fresh (s : State) (m : Nat) (x : MbxNow) : (s.setMbxNow m x).fresh = s.fresh := rfl
@[simp] theorem State.setMbxNow_pending (s : State) (m : Nat) (x : MbxNow) : (s.setMbxNow m x).pending = s.pending := rfl

@[simp] theorem State.setSensor_bus (s : State) (n : Nat) (x : Sensor) : (s.setSensor n x).bus = s.bus := rfl
@[simp] theorem State.setSensor_pmu (s : State) (n : Nat) (x : Sensor) : (s.setSensor n x).pmu = s.pmu := rfl
@[simp] theorem State.setSensor_err (s : State) (n : Nat) (x : Sensor) : (s.setSensor n x).err = s.err := rfl
@[simp] theorem State.setSensor_line (s : State) (n : Nat) (x : Sensor) : (s.setSensor n x).line = s.line := rfl
@[simp] theorem State.setSensor_eng (s : State) (n : Nat) (x : Sensor) : (s.setSensor n x).eng = s.eng := rfl
@[simp] theorem State.setSensor_tim (s : State) (n : Nat) (x : Sensor) : (s.setSensor n x).tim = s.tim := rfl
@[simp] theorem State.setSensor_tbl (s : State) (n : Nat) (x : Sensor) : (s.setSensor n x).tbl = s.tbl := rfl
@[simp] theorem State.setSensor_cls (s : State) (n : Nat) (x : Sensor) : (s.setSensor n x).cls = s.cls := rfl
@[simp] theorem State.setSensor_lrn (s : State) (n : Nat) (x : Sensor) : (s.setSensor n x).lrn = s.lrn := rfl
@[simp] theorem State.setSensor_cross (s : State) (n : Nat) (x : Sensor) : (s.setSensor n x).cross = s.cross := rfl
@[simp] theorem State.setSensor_sq (s : State) (n : Nat) (x : Sensor) : (s.setSensor n x).sq = s.sq := rfl
@[simp] theorem State.setSensor_sch (s : State) (n : Nat) (x : Sensor) : (s.setSensor n x).sch = s.sch := rfl
@[simp] theorem State.setSensor_fab (s : State) (n : Nat) (x : Sensor) : (s.setSensor n x).fab = s.fab := rfl
@[simp] theorem State.setSensor_hbm (s : State) (n : Nat) (x : Sensor) : (s.setSensor n x).hbm = s.hbm := rfl
@[simp] theorem State.setSensor_hif (s : State) (n : Nat) (x : Sensor) : (s.setSensor n x).hif = s.hif := rfl
@[simp] theorem State.setSensor_mate (s : State) (n : Nat) (x : Sensor) : (s.setSensor n x).mate = s.mate := rfl
@[simp] theorem State.setSensor_boot (s : State) (n : Nat) (x : Sensor) : (s.setSensor n x).boot = s.boot := rfl
@[simp] theorem State.setSensor_upd (s : State) (n : Nat) (x : Sensor) : (s.setSensor n x).upd = s.upd := rfl
@[simp] theorem State.setSensor_elec (s : State) (n : Nat) (x : Sensor) : (s.setSensor n x).elec = s.elec := rfl
@[simp] theorem State.setSensor_fresh (s : State) (n : Nat) (x : Sensor) : (s.setSensor n x).fresh = s.fresh := rfl
@[simp] theorem State.setSensor_pending (s : State) (n : Nat) (x : Sensor) : (s.setSensor n x).pending = s.pending := rfl

@[simp] theorem State.setBfd_bus (s : State) (i : Nat) (x : Option Bfd) : (s.setBfd i x).bus = s.bus := rfl
@[simp] theorem State.setBfd_pmu (s : State) (i : Nat) (x : Option Bfd) : (s.setBfd i x).pmu = s.pmu := rfl
@[simp] theorem State.setBfd_err (s : State) (i : Nat) (x : Option Bfd) : (s.setBfd i x).err = s.err := rfl
@[simp] theorem State.setBfd_line (s : State) (i : Nat) (x : Option Bfd) : (s.setBfd i x).line = s.line := rfl
@[simp] theorem State.setBfd_eng (s : State) (i : Nat) (x : Option Bfd) : (s.setBfd i x).eng = s.eng := rfl
@[simp] theorem State.setBfd_tim (s : State) (i : Nat) (x : Option Bfd) : (s.setBfd i x).tim = s.tim := rfl
@[simp] theorem State.setBfd_tbl (s : State) (i : Nat) (x : Option Bfd) : (s.setBfd i x).tbl = s.tbl := rfl
@[simp] theorem State.setBfd_cls (s : State) (i : Nat) (x : Option Bfd) : (s.setBfd i x).cls = s.cls := rfl
@[simp] theorem State.setBfd_lrn (s : State) (i : Nat) (x : Option Bfd) : (s.setBfd i x).lrn = s.lrn := rfl
@[simp] theorem State.setBfd_cross (s : State) (i : Nat) (x : Option Bfd) : (s.setBfd i x).cross = s.cross := rfl
@[simp] theorem State.setBfd_sq (s : State) (i : Nat) (x : Option Bfd) : (s.setBfd i x).sq = s.sq := rfl
@[simp] theorem State.setBfd_sch (s : State) (i : Nat) (x : Option Bfd) : (s.setBfd i x).sch = s.sch := rfl
@[simp] theorem State.setBfd_fab (s : State) (i : Nat) (x : Option Bfd) : (s.setBfd i x).fab = s.fab := rfl
@[simp] theorem State.setBfd_hbm (s : State) (i : Nat) (x : Option Bfd) : (s.setBfd i x).hbm = s.hbm := rfl
@[simp] theorem State.setBfd_hif (s : State) (i : Nat) (x : Option Bfd) : (s.setBfd i x).hif = s.hif := rfl
@[simp] theorem State.setBfd_mate (s : State) (i : Nat) (x : Option Bfd) : (s.setBfd i x).mate = s.mate := rfl
@[simp] theorem State.setBfd_boot (s : State) (i : Nat) (x : Option Bfd) : (s.setBfd i x).boot = s.boot := rfl
@[simp] theorem State.setBfd_upd (s : State) (i : Nat) (x : Option Bfd) : (s.setBfd i x).upd = s.upd := rfl
@[simp] theorem State.setBfd_elec (s : State) (i : Nat) (x : Option Bfd) : (s.setBfd i x).elec = s.elec := rfl
@[simp] theorem State.setBfd_fresh (s : State) (i : Nat) (x : Option Bfd) : (s.setBfd i x).fresh = s.fresh := rfl
@[simp] theorem State.setBfd_pending (s : State) (i : Nat) (x : Option Bfd) : (s.setBfd i x).pending = s.pending := rfl

@[simp] theorem State.setLport_bus (s : State) (k : Nat) (x : LacpPort) : (s.setLport k x).bus = s.bus := rfl
@[simp] theorem State.setLport_pmu (s : State) (k : Nat) (x : LacpPort) : (s.setLport k x).pmu = s.pmu := rfl
@[simp] theorem State.setLport_err (s : State) (k : Nat) (x : LacpPort) : (s.setLport k x).err = s.err := rfl
@[simp] theorem State.setLport_line (s : State) (k : Nat) (x : LacpPort) : (s.setLport k x).line = s.line := rfl
@[simp] theorem State.setLport_eng (s : State) (k : Nat) (x : LacpPort) : (s.setLport k x).eng = s.eng := rfl
@[simp] theorem State.setLport_tim (s : State) (k : Nat) (x : LacpPort) : (s.setLport k x).tim = s.tim := rfl
@[simp] theorem State.setLport_tbl (s : State) (k : Nat) (x : LacpPort) : (s.setLport k x).tbl = s.tbl := rfl
@[simp] theorem State.setLport_cls (s : State) (k : Nat) (x : LacpPort) : (s.setLport k x).cls = s.cls := rfl
@[simp] theorem State.setLport_lrn (s : State) (k : Nat) (x : LacpPort) : (s.setLport k x).lrn = s.lrn := rfl
@[simp] theorem State.setLport_cross (s : State) (k : Nat) (x : LacpPort) : (s.setLport k x).cross = s.cross := rfl
@[simp] theorem State.setLport_sq (s : State) (k : Nat) (x : LacpPort) : (s.setLport k x).sq = s.sq := rfl
@[simp] theorem State.setLport_sch (s : State) (k : Nat) (x : LacpPort) : (s.setLport k x).sch = s.sch := rfl
@[simp] theorem State.setLport_fab (s : State) (k : Nat) (x : LacpPort) : (s.setLport k x).fab = s.fab := rfl
@[simp] theorem State.setLport_hbm (s : State) (k : Nat) (x : LacpPort) : (s.setLport k x).hbm = s.hbm := rfl
@[simp] theorem State.setLport_hif (s : State) (k : Nat) (x : LacpPort) : (s.setLport k x).hif = s.hif := rfl
@[simp] theorem State.setLport_mate (s : State) (k : Nat) (x : LacpPort) : (s.setLport k x).mate = s.mate := rfl
@[simp] theorem State.setLport_boot (s : State) (k : Nat) (x : LacpPort) : (s.setLport k x).boot = s.boot := rfl
@[simp] theorem State.setLport_upd (s : State) (k : Nat) (x : LacpPort) : (s.setLport k x).upd = s.upd := rfl
@[simp] theorem State.setLport_elec (s : State) (k : Nat) (x : LacpPort) : (s.setLport k x).elec = s.elec := rfl
@[simp] theorem State.setLport_fresh (s : State) (k : Nat) (x : LacpPort) : (s.setLport k x).fresh = s.fresh := rfl
@[simp] theorem State.setLport_pending (s : State) (k : Nat) (x : LacpPort) : (s.setLport k x).pending = s.pending := rfl

@[simp] theorem State.setMep_bus (s : State) (n : Nat) (x : Mep) : (s.setMep n x).bus = s.bus := rfl
@[simp] theorem State.setMep_pmu (s : State) (n : Nat) (x : Mep) : (s.setMep n x).pmu = s.pmu := rfl
@[simp] theorem State.setMep_err (s : State) (n : Nat) (x : Mep) : (s.setMep n x).err = s.err := rfl
@[simp] theorem State.setMep_line (s : State) (n : Nat) (x : Mep) : (s.setMep n x).line = s.line := rfl
@[simp] theorem State.setMep_eng (s : State) (n : Nat) (x : Mep) : (s.setMep n x).eng = s.eng := rfl
@[simp] theorem State.setMep_tim (s : State) (n : Nat) (x : Mep) : (s.setMep n x).tim = s.tim := rfl
@[simp] theorem State.setMep_tbl (s : State) (n : Nat) (x : Mep) : (s.setMep n x).tbl = s.tbl := rfl
@[simp] theorem State.setMep_cls (s : State) (n : Nat) (x : Mep) : (s.setMep n x).cls = s.cls := rfl
@[simp] theorem State.setMep_lrn (s : State) (n : Nat) (x : Mep) : (s.setMep n x).lrn = s.lrn := rfl
@[simp] theorem State.setMep_cross (s : State) (n : Nat) (x : Mep) : (s.setMep n x).cross = s.cross := rfl
@[simp] theorem State.setMep_sq (s : State) (n : Nat) (x : Mep) : (s.setMep n x).sq = s.sq := rfl
@[simp] theorem State.setMep_sch (s : State) (n : Nat) (x : Mep) : (s.setMep n x).sch = s.sch := rfl
@[simp] theorem State.setMep_fab (s : State) (n : Nat) (x : Mep) : (s.setMep n x).fab = s.fab := rfl
@[simp] theorem State.setMep_hbm (s : State) (n : Nat) (x : Mep) : (s.setMep n x).hbm = s.hbm := rfl
@[simp] theorem State.setMep_hif (s : State) (n : Nat) (x : Mep) : (s.setMep n x).hif = s.hif := rfl
@[simp] theorem State.setMep_mate (s : State) (n : Nat) (x : Mep) : (s.setMep n x).mate = s.mate := rfl
@[simp] theorem State.setMep_boot (s : State) (n : Nat) (x : Mep) : (s.setMep n x).boot = s.boot := rfl
@[simp] theorem State.setMep_upd (s : State) (n : Nat) (x : Mep) : (s.setMep n x).upd = s.upd := rfl
@[simp] theorem State.setMep_elec (s : State) (n : Nat) (x : Mep) : (s.setMep n x).elec = s.elec := rfl
@[simp] theorem State.setMep_fresh (s : State) (n : Nat) (x : Mep) : (s.setMep n x).fresh = s.fresh := rfl
@[simp] theorem State.setMep_pending (s : State) (n : Nat) (x : Mep) : (s.setMep n x).pending = s.pending := rfl

@[simp] theorem State.dmaWrite_bus (s : State) (m : Bool) (a : Nat) (bs : List Byte) : (s.dmaWrite m a bs).bus = s.bus := rfl
@[simp] theorem State.dmaWrite_pmu (s : State) (m : Bool) (a : Nat) (bs : List Byte) : (s.dmaWrite m a bs).pmu = s.pmu := rfl
@[simp] theorem State.dmaWrite_err (s : State) (m : Bool) (a : Nat) (bs : List Byte) : (s.dmaWrite m a bs).err = s.err := rfl
@[simp] theorem State.dmaWrite_line (s : State) (m : Bool) (a : Nat) (bs : List Byte) : (s.dmaWrite m a bs).line = s.line := rfl
@[simp] theorem State.dmaWrite_eng (s : State) (m : Bool) (a : Nat) (bs : List Byte) : (s.dmaWrite m a bs).eng = s.eng := rfl
@[simp] theorem State.dmaWrite_tim (s : State) (m : Bool) (a : Nat) (bs : List Byte) : (s.dmaWrite m a bs).tim = s.tim := rfl
@[simp] theorem State.dmaWrite_tbl (s : State) (m : Bool) (a : Nat) (bs : List Byte) : (s.dmaWrite m a bs).tbl = s.tbl := rfl
@[simp] theorem State.dmaWrite_cls (s : State) (m : Bool) (a : Nat) (bs : List Byte) : (s.dmaWrite m a bs).cls = s.cls := rfl
@[simp] theorem State.dmaWrite_lrn (s : State) (m : Bool) (a : Nat) (bs : List Byte) : (s.dmaWrite m a bs).lrn = s.lrn := rfl
@[simp] theorem State.dmaWrite_cross (s : State) (m : Bool) (a : Nat) (bs : List Byte) : (s.dmaWrite m a bs).cross = s.cross := rfl
@[simp] theorem State.dmaWrite_sq (s : State) (m : Bool) (a : Nat) (bs : List Byte) : (s.dmaWrite m a bs).sq = s.sq := rfl
@[simp] theorem State.dmaWrite_sch (s : State) (m : Bool) (a : Nat) (bs : List Byte) : (s.dmaWrite m a bs).sch = s.sch := rfl
@[simp] theorem State.dmaWrite_fab (s : State) (m : Bool) (a : Nat) (bs : List Byte) : (s.dmaWrite m a bs).fab = s.fab := rfl
@[simp] theorem State.dmaWrite_hbm (s : State) (m : Bool) (a : Nat) (bs : List Byte) : (s.dmaWrite m a bs).hbm = s.hbm := rfl
@[simp] theorem State.dmaWrite_mate (s : State) (m : Bool) (a : Nat) (bs : List Byte) : (s.dmaWrite m a bs).mate = s.mate := rfl
@[simp] theorem State.dmaWrite_mss (s : State) (m : Bool) (a : Nat) (bs : List Byte) : (s.dmaWrite m a bs).mss = s.mss := rfl
@[simp] theorem State.dmaWrite_boot (s : State) (m : Bool) (a : Nat) (bs : List Byte) : (s.dmaWrite m a bs).boot = s.boot := rfl
@[simp] theorem State.dmaWrite_upd (s : State) (m : Bool) (a : Nat) (bs : List Byte) : (s.dmaWrite m a bs).upd = s.upd := rfl
@[simp] theorem State.dmaWrite_elec (s : State) (m : Bool) (a : Nat) (bs : List Byte) : (s.dmaWrite m a bs).elec = s.elec := rfl
@[simp] theorem State.dmaWrite_fresh (s : State) (m : Bool) (a : Nat) (bs : List Byte) : (s.dmaWrite m a bs).fresh = s.fresh := rfl
@[simp] theorem State.dmaWrite_pending (s : State) (m : Bool) (a : Nat) (bs : List Byte) : (s.dmaWrite m a bs).pending = s.pending := rfl

@[simp] theorem State.mssSend_bus (s : State) (q : Nat) (bs : List Byte) : (s.mssSend q bs).bus = s.bus := rfl
@[simp] theorem State.mssSend_pmu (s : State) (q : Nat) (bs : List Byte) : (s.mssSend q bs).pmu = s.pmu := rfl
@[simp] theorem State.mssSend_err (s : State) (q : Nat) (bs : List Byte) : (s.mssSend q bs).err = s.err := rfl
@[simp] theorem State.mssSend_line (s : State) (q : Nat) (bs : List Byte) : (s.mssSend q bs).line = s.line := rfl
@[simp] theorem State.mssSend_eng (s : State) (q : Nat) (bs : List Byte) : (s.mssSend q bs).eng = s.eng := rfl
@[simp] theorem State.mssSend_tim (s : State) (q : Nat) (bs : List Byte) : (s.mssSend q bs).tim = s.tim := rfl
@[simp] theorem State.mssSend_tbl (s : State) (q : Nat) (bs : List Byte) : (s.mssSend q bs).tbl = s.tbl := rfl
@[simp] theorem State.mssSend_cls (s : State) (q : Nat) (bs : List Byte) : (s.mssSend q bs).cls = s.cls := rfl
@[simp] theorem State.mssSend_lrn (s : State) (q : Nat) (bs : List Byte) : (s.mssSend q bs).lrn = s.lrn := rfl
@[simp] theorem State.mssSend_sq (s : State) (q : Nat) (bs : List Byte) : (s.mssSend q bs).sq = s.sq := rfl
@[simp] theorem State.mssSend_sch (s : State) (q : Nat) (bs : List Byte) : (s.mssSend q bs).sch = s.sch := rfl
@[simp] theorem State.mssSend_fab (s : State) (q : Nat) (bs : List Byte) : (s.mssSend q bs).fab = s.fab := rfl
@[simp] theorem State.mssSend_hbm (s : State) (q : Nat) (bs : List Byte) : (s.mssSend q bs).hbm = s.hbm := rfl
@[simp] theorem State.mssSend_hif (s : State) (q : Nat) (bs : List Byte) : (s.mssSend q bs).hif = s.hif := rfl
@[simp] theorem State.mssSend_mate (s : State) (q : Nat) (bs : List Byte) : (s.mssSend q bs).mate = s.mate := rfl
@[simp] theorem State.mssSend_mss (s : State) (q : Nat) (bs : List Byte) : (s.mssSend q bs).mss = s.mss := rfl
@[simp] theorem State.mssSend_boot (s : State) (q : Nat) (bs : List Byte) : (s.mssSend q bs).boot = s.boot := rfl
@[simp] theorem State.mssSend_upd (s : State) (q : Nat) (bs : List Byte) : (s.mssSend q bs).upd = s.upd := rfl
@[simp] theorem State.mssSend_elec (s : State) (q : Nat) (bs : List Byte) : (s.mssSend q bs).elec = s.elec := rfl
@[simp] theorem State.mssSend_fresh (s : State) (q : Nat) (bs : List Byte) : (s.mssSend q bs).fresh = s.fresh := rfl
@[simp] theorem State.mssSend_pending (s : State) (q : Nat) (bs : List Byte) : (s.mssSend q bs).pending = s.pending := rfl

/-! ## Reading back -/

@[simp] theorem State.handle_setHandle_self (s : State) (h : Nat) (x : Handle) : (s.setHandle h x).handle h = x := by simp [State.handle, State.setHandle]
theorem State.handle_setHandle_ne (s : State) {h j : Nat} (x : Handle) (hj : j ≠ h) : (s.setHandle h x).handle j = s.handle j := by
  simp [State.handle, State.setHandle, Tab.get_set_ne _ _ _ hj]
@[simp] theorem State.pdOf_setPd_self (s : State) (d : Nat) (x : Pd) : (s.setPd d x).pdOf d = x := by simp [State.pdOf, State.setPd]
theorem State.pdOf_setPd_ne (s : State) {d j : Nat} (x : Pd) (hj : j ≠ d) : (s.setPd d x).pdOf j = s.pdOf j := by
  simp [State.pdOf, State.setPd, Tab.get_set_ne _ _ _ hj]
@[simp] theorem State.queue_setQueue_self (s : State) (q : Nat) (l : List Nat) : (s.setQueue q l).queue q = l := by simp [State.queue, State.setQueue]
theorem State.queue_setQueue_ne (s : State) {q j : Nat} (l : List Nat) (hj : j ≠ q) : (s.setQueue q l).queue j = s.queue j := by
  simp [State.queue, State.setQueue, Tab.get_set_ne _ _ _ hj]
@[simp] theorem State.row_setRow_self (s : State) (k : Nat) (r : TcamRow) : (s.setRow k r).row k = r := by simp [State.row, State.setRow]
theorem State.row_setRow_ne (s : State) {k j : Nat} (r : TcamRow) (hj : j ≠ k) : (s.setRow k r).row j = s.row j := by
  simp [State.row, State.setRow, Tab.get_set_ne _ _ _ hj]
@[simp] theorem State.fabLane_setFabLane_self (s : State) (n : Nat) (x : FabLane) : (s.setFabLane n x).fabLane n = x := by simp [State.fabLane, State.setFabLane]
theorem State.fabLane_setFabLane_ne (s : State) {n j : Nat} (x : FabLane) (hj : j ≠ n) : (s.setFabLane n x).fabLane j = s.fabLane j := by
  simp [State.fabLane, State.setFabLane, Tab.get_set_ne _ _ _ hj]
@[simp] theorem State.dramChan_setDramChan_self (s : State) (c : Nat) (x : DramChan) : (s.setDramChan c x).dramChan c = x := by simp [State.dramChan, State.setDramChan]
theorem State.dramChan_setDramChan_ne (s : State) {c j : Nat} (x : DramChan) (hj : j ≠ c) : (s.setDramChan c x).dramChan j = s.dramChan j := by
  simp [State.dramChan, State.setDramChan, Tab.get_set_ne _ _ _ hj]
@[simp] theorem State.rxOf_setRx_self (s : State) (m : Nat) (v : Nat) : (s.setRx m v).rxOf m = v := by simp [State.rxOf, State.setRx]
theorem State.rxOf_setRx_ne (s : State) {m j : Nat} (v : Nat) (hj : j ≠ m) : (s.setRx m v).rxOf j = s.rxOf j := by
  simp [State.rxOf, State.setRx, Tab.get_set_ne _ _ _ hj]
@[simp] theorem State.sensor_setSensor_self (s : State) (n : Nat) (x : Sensor) : (s.setSensor n x).sensor n = x := by simp [State.sensor, State.setSensor]
theorem State.sensor_setSensor_ne (s : State) {n j : Nat} (x : Sensor) (hj : j ≠ n) : (s.setSensor n x).sensor j = s.sensor j := by
  simp [State.sensor, State.setSensor, Tab.get_set_ne _ _ _ hj]
@[simp] theorem State.bfd_setBfd_self (s : State) (i : Nat) (x : Option Bfd) : (s.setBfd i x).bfd i = x := by simp [State.bfd, State.setBfd]
theorem State.bfd_setBfd_ne (s : State) {i j : Nat} (x : Option Bfd) (hj : j ≠ i) : (s.setBfd i x).bfd j = s.bfd j := by
  simp [State.bfd, State.setBfd, Tab.get_set_ne _ _ _ hj]

/-- A thread written reads back as written (R120). -/
@[simp] theorem State.thread_setThread_self (s : State) (p e t : Nat) (x : Thr) : (s.setThread p e t x).thread p e t = x := by
  unfold State.setThread State.thread
  dsimp only
  split <;> simp

theorem State.thread_setThread_ne (s : State) {p e t p' e' t' : Nat} (x : Thr) (h : thrKey p' e' t' ≠ thrKey p e t) :
    (s.setThread p e t x).thread p' e' t' = s.thread p' e' t' := by
  unfold State.setThread State.thread
  dsimp only
  split <;> simp [Tab.get_set_ne _ _ _ h]

@[simp] theorem State.slot_setSlot_self (s : State) (p k : Nat) (x : Option Slot) : (s.setSlot p k x).slot p k = x := by simp [State.slot, State.setSlot]

@[simp] theorem State.chan_setChan_self (s : State) (p e c : Nat) (q : List (List Dword)) : (s.setChan p e c q).chan p e c = q := by
  simp [State.chan, State.setChan]

end Sys2Proof.Machine
end

