-- ==== Sys2Proof/Machine/FabFrame.lean ====
section
/-! DEFINITION. The frame that a fabric lane carries in a beat: marker, cell slots and FEC parity (spec/12_fabric R324, R325). -/

namespace Sys2Proof.Machine

/-! ## The marker (R325, R346) -/

/-- FLAGS of a lane's marker: RF while it trains after a failure, DRAIN while it drains, SYNC from the SYNC state on. DEDUCED, log 98. -/
def State.markerFlags (s : State) (l : Nat) : Nat :=
  let st := s.fabLaneSt l
  b2n (st == 1 && (s.fabLane l).sendRf) * 2 ^ 7 + b2n (st == 5) * 2 ^ 6 + b2n (2 ≤ st && st ≤ 5) * 2 ^ 5

/-- The 16 bytes of a lane's marker; the pair's number in ACTIVE with ALIAS_EN (R325, R502). -/
def State.markerBytes (s : State) (l : Nat) : List Byte :=
  let mid := s.markerFlags l * 2 ^ 40 + l % 256 * 2 ^ 32 + s.srcMod true 0 * 2 ^ 24 + s.beatN % 65536
  beBytes markerPattern 8 ++ beBytes mid 6 ++ beBytes (crc16 (BitVec.ofNat 48 mid)).toNat 2

/-! ## The FEC (R324) -/

/-- The product of an element of the symbol field by α: GF(2^10) with x^10 + x^3 + 1, as in IEEE 802.3 RS(544,514). -/
def gfTimes (a : Nat) : Nat := if 512 ≤ a then (a * 2 % 1024) ^^^ 9 else a * 2

/-- The product of two elements of the symbol field. -/
def gfMul (a b : Nat) : Nat :=
  ((List.range 10).foldl (fun (x : Nat × Nat) i => (if bitOf b i then x.1 ^^^ x.2 else x.1, gfTimes x.2)) (0, a)).1

/-- A power of α. -/
def gfPow : Nat → Nat
  | 0 => 1
  | n + 1 => gfTimes (gfPow n)

/-- The generator polynomial (x - α^0) … (x - α^(n - 1)), highest power first. -/
def rsGenerator : Nat → List Nat
  | 0 => [1]
  | n + 1 =>
    let g := rsGenerator n
    List.zipWith (fun a b => a ^^^ b) (g ++ [0]) (0 :: g.map (gfMul (gfPow n)))

/-- The 28 parity symbols of a codeword's data symbols, first symbol at the highest power. -/
def rsParity (ds : List Nat) : List Nat :=
  let g := (rsGenerator 28).tail
  ds.foldl (fun r d =>
    let f := d ^^^ r.headD 0
    List.zipWith (fun a b => a ^^^ gfMul f b) (r.tail ++ [0]) g) (List.replicate 28 0)

/-- Bytes as 10-bit symbols, the most significant bit of each byte first. DESIGN CHOICE, log 98. -/
def symbolsOf (bs : List Byte) : List Nat :=
  let n := beNat bs
  let k := bs.length * 8 / 10
  (List.range k).map fun i => n / 2 ^ (10 * (k - 1 - i)) % 1024

/-- 10-bit symbols as bytes. -/
def bytesOfSymbols (ss : List Nat) : List Byte := beBytes (ss.foldl (fun n x => n * 1024 + x) 0) (ss.length * 10 / 8)

/-- The 140 parity bytes of a frame: four codewords interleaved symbol by symbol (R324). -/
def fecParity (data : List Byte) : List Byte :=
  let ss := symbolsOf data
  let part := fun (c : Nat) => rsParity ((ss.zipIdx.filter fun x => x.2 % 4 == c).map (·.1))
  let ps := (List.range 4).map part
  bytesOfSymbols ((List.range 28).flatMap fun i => ps.map fun p => p.getD i 0)

/-! ## The frame (R324) -/

/-- An idle cell: TYPE 0 and bits that the spec leaves open (R328, R329). -/
def idleCell (b l k : Nat) : List Byte := beBytes (Config.idleCell b l k).toNat 272

/-- A lane's frame in the current beat up to its idle fill: marker, 16 cell slots, 3 bytes of 0, FEC parity (R324). A lane that is off or has just
failed sends none. -/
def State.laneFrame (s : State) (l : Nat) : List Byte :=
  let st := s.fabLaneSt l
  if st = 0 || st = 6 then []
  else
    let cell := fun (k : Nat) => ((s.fab.tx.find? fun c => c.lane == l && c.slot == k).map (·.bytes)).getD (idleCell s.beatN l k)
    let data := (List.range 16).flatMap cell ++ [0, 0, 0]
    s.markerBytes l ++ data ++ fecParity data

end Sys2Proof.Machine
end

