-- ==== Sys2Proof/Machine/Pci.lean ====
section
/-! DEFINITION. What the PCI Express function presents of itself (spec/14_host R376, R377). A read of the configuration space is no
command of the opcode table, so these are views that claims can name and no step computes. -/

namespace Sys2Proof.Machine

/-- The class code (R377). -/
def pciClassCode : BitVec 24 := 0x028000

/-- The vendor identifier: PCI_VID of the factory area (R377, R424). -/
def pciVendor : BitVec 16 := factoryByte 13 ++ factoryByte 12

/-- The device identifier: 0x96FE in the recovery function, else 0x9600 (R377). -/
def State.pciDevice (s : State) : BitVec 16 := if s.flag pcieStat 9 then 0x96FE else 0x9600

/-- The Device Serial Number capability: GEN_SERIAL in its low 48 bits (R376); its high 16 bits are the standard's, and not given. -/
def State.pciSerialLow (s : State) : Nat := s.serial % 2 ^ 48

end Sys2Proof.Machine
end

