-- ==== Sys2Proof/Tests/Slice0.lean ====
section
/-! SUPPORT. Tests of the model: the well-formedness checks, the operation words and the worked examples of the spec, a few single steps, and
for every statement with hypotheses a state and operands that meet them. -/

namespace Sys2Proof.Tests

open Sys2Proof Sys2Proof.Machine

set_option Elab.async false

/-! ## Ill-formed commands are refused by WellFormed -/

theorem test_wf_register_write : (Instr.registerWrite .host 0x100006 0).wf = false ∧ (Instr.registerWrite .host 0x100004 0).wf = true := by decide

theorem test_wf_unsupported : (Instr.unsupportedRequestAccess .host 0x100004 4 true).wf = false ∧ (Instr.unsupportedRequestAccess .host 0x100004 0 true).wf = false
    ∧ (Instr.unsupportedRequestAccess .host 0x100005 4 true).wf = true := by decide

theorem test_wf_unmapped : (Instr.unmappedAccess .mss 0xFFFFFFD true).wf = false := by decide

theorem test_wf_latching_read : (Instr.latchingLowHalfRead .host 0x100002).wf = false := by decide

theorem test_wf_high_half_write : (Instr.highHalfWrite .host 0x100001 0).wf = false := by decide

theorem test_wf_read_clear : (Instr.readClearRead .host 0x400042).wf = false := by decide

theorem test_wf_beat_boundary : (Instr.beatBoundary [3, 3] []).wf = false ∧ (Instr.beatBoundary [] [(5, 0), (5, 1)]).wf = false := by decide

theorem test_wf_crossing_delivery : (Instr.crossingDelivery true [10656] false).wf = false ∧ (Instr.crossingDelivery true [7, 7] false).wf = false
    ∧ (Instr.crossingDelivery true [0, 10655] false).wf = true := by decide

theorem test_wf_fec : (Instr.fecUncorrectable (.port 3) [48, 48]).wf = false := by decide

theorem test_wf_ser : (Instr.serWindowEnd 3 122881).wf = false ∧ (Instr.serWindowEnd 3 122880).wf = true := by decide

theorem test_wf_frame_header : (Instr.frameHeaderToKerb 0 []).wf = false ∧ (Instr.frameHeaderToKerb 0 (List.replicate 257 0)).wf = false
    ∧ (Instr.frameHeaderToKerb 0 (List.replicate 256 0)).wf = true := by decide +kernel

theorem test_wf_edit_data : (Instr.editIns 0 []).wf = false ∧ (Instr.editIns 0 (List.replicate 61 0)).wf = false
    ∧ (Instr.editOvr 0 []).wf = false ∧ (Instr.editOvr 0 (List.replicate 60 0)).wf = true := by decide +kernel

theorem test_wf_cell : (Instr.cellReceived 0 0 (List.replicate 255 0)).wf = false ∧ (Instr.cellReceived 0 0 (List.replicate 256 0)).wf = true := by decide +kernel

theorem test_wf_dram : (Instr.dramRequest true 0 0 0 none).wf = false ∧ (Instr.dramRequest true 0 0 2 (some [1])).wf = false
    ∧ (Instr.dramRequest true 0 0 2 (some [1, 2])).wf = true := by decide +kernel

theorem test_wf_remap_copy : (Instr.remapCopyComplete 0 0 (List.replicate 17 0)).wf = false := by decide +kernel

theorem test_wf_sensors : (Instr.sensorSample (List.replicate 133 0)).wf = false ∧ (Instr.sensorSample (List.replicate 134 0)).wf = true := by decide +kernel

/-! ## The encodings and worked examples of the spec -/

/-- The four words of the IPv4 program's table (06_engine_isa, worked example) and the search of 08_tcam_patterns. -/
theorem test_words_of_the_examples : opOf 0x08041028 = some (0, .mem .hld 2 1 0x028) ∧ opOf 0x28062A60 = some (2, .mem .hld 3 2 0xA60)
    ∧ opOf 0x3C0E5001 = some (3, .lkp 7 5 1) ∧ opOf 0x0FC08000 = some (0, .disp 0 8) ∧ opOf 0x0C52A003 = some (0, .tcs 9 20 3) := by decide

/-- Words written out from the tables of R157 and R169. -/
theorem test_words_of_the_tables : opOf 0x00422180 = some (0, .alu .add 1 2 3) ∧ opOf 0x90885FFF = some (9, .imm .addi 4 5 0xFFF)
    ∧ opOf 0x03846384 = some (0, .cmp 4 2 6 7) ∧ opOf 0x0E001013 = some (0, .send 1 true 3) ∧ opOf 0x0F9E8123 = some (0, .call 15 0x123)
    ∧ opOf 0 = some (0, .nop) ∧ opOf 0x03C00000 = none ∧ opOf 0x10000000 = none := by decide

/-- The edit script of the IPv4 program on a frame with TTL 64, protocol 17 and checksum 0x1234 (06_engine_isa, worked example). -/
theorem test_edit_script_of_the_example :
    (let frame : List Byte := [0x02, 0x4E, 0x4C, 0, 5, 0x28, 0x02, 1, 2, 3, 4, 5, 8, 0,
        0x45, 0, 0, 0x1C, 0, 0, 0, 0, 0x40, 0x11, 0x12, 0x34, 10, 0, 0, 1, 10, 0, 0, 2]
      let script : List Byte := [0x30, 0, 0, 12, 0, 0x1B, 0x7D, 0x4A, 0x90, 0xE2, 0x02, 0x4E, 0x4C, 0, 0x05, 0x28, 0x40, 0, 14, 0, 0, 0, 0, 0]
      let j := EditJob.run frame [] false 30 { rest := script, out := [], pos := 0, bad := false, fin := false }
      j.bad = false ∧ j.out ++ frame.drop j.pos = [0, 0x1B, 0x7D, 0x4A, 0x90, 0xE2, 0x02, 0x4E, 0x4C, 0, 5, 0x28, 8, 0,
        0x45, 0, 0, 0x1C, 0, 0, 0, 0, 0x3F, 0x11, 0x13, 0x34, 10, 0, 0, 1, 10, 0, 0, 2]) := by decide +kernel

/-- Policer 70,012 after 1,000,000 idle beats and a packet of 1,500 bytes (08_tcam_patterns). -/
theorem test_policer_of_the_example :
    polUpdate (polRecord 0 0 7 0 true) 55 109 65536 131072 1000000 1500 3 = (polRecord 16393216 33170432 7 1000000 true, 0) := by decide +kernel

/-- The beat number of TAI second 1,778,000,000 (18_time). -/
theorem test_beat_number_of_the_example : ({ State.reset with tim := { sec := 1778000000 } } : State).taiBeat = 10417968750000000 := by decide +kernel

/-- The crossing descriptor of a replicated packet of 1,300 bytes with 3 script units and list 200, of avenue 5 (10_queues_buffers). -/
theorem test_descriptor_of_the_example :
    ({ kind := 1, queue := 200, dest := 0, colour := 0, req := 5, script := List.replicate 24 0, frame := List.replicate 1300 0, pkt := 0, tag := none,
       inj := none } : XRec).desc = 0x140000000C84C514 := by decide +kernel

/-- Where class 1 buffer 1,000,000 lies: channel 3 at offset 169,146,880, row 5,161, bank 15, column 4 (13_stacked_dram). -/
theorem test_dram_place_of_the_example : State.reset.dramPlace true 18267869184 = (3, 169146880) ∧ burstOff 0 15 5161 4 = 169146880 := by decide +kernel

/-- Table 1 of the default partition (07_tables R195): an IPv4 FIB over banks 0 to 27, extended into DRAM. -/
theorem test_default_partition : (State.reset.loadPartition (fun i => (i * 16384, 16384)) (fun _ => (0, 0))).reg (tdAddr 1) = 0xB0000390 := by decide +kernel

/-- SHA-384 of the three bytes "abc" (FIPS 180-4). -/
theorem test_sha384 : sha384 [97, 98, 99]
    = 0xcb00753f45a35e8bb5a03d699ac65007272c32ab0eded1631a8b605a43ff5bed8086072ba1e7cc2358baeca134c825a7 := by decide +kernel

/-- The graph of MPLS over IPv6 and the layer table of its frame (04_parse_graph, worked example). -/
def mplsGraph : List (Nat × Nat) :=
  let n := fun (i : Nat) (w0 w1 w2 w3 : Nat) => [(0x2180000 + i * 16, w0), (0x2180004 + i * 16, w1), (0x2180008 + i * 16, w2), (0x218000C + i * 16, w3)]
  let t := fun (i v m nx : Nat) => [(0x2190000 + i * 8, v * 0x10000 + m), (0x2190004 + i * 8, nx * 0x10000)]
  n 0 0x90100E00 0x0 0x30408000 0xFFC00000 ++ n 1 0xA0280400 0x0 0x8408000 0xFFC00000 ++ n 2 0xB1080400 0x0 0xBB46050 0xFF800000
    ++ n 3 0xC0420000 0x2240014 0x24204010 0xFF800000 ++ n 4 0xC0602800 0x0 0x18208018 0xFF800000 ++ n 5 0xE2100800 0x0 0x0 0xFF800000
    ++ n 6 0xE2001400 0x0 0x0 0xFF800000 ++ n 8 0xB12C0400 0x0 0xBB46040 0xFF800000 ++ n 9 0xD0700000 0x4461000 0x202020 0xFF800000
  ++ t 0 0x8100 0xFFFF 1 ++ t 1 0x86DD 0xFFFF 4 ++ t 2 0x800 0xFFFF 3 ++ t 3 0x8847 0xFFFF 2 ++ t 16 0x11 0xFF 5 ++ t 17 0x6 0xFF 6
    ++ t 24 0x11 0xFF 5 ++ t 25 0x6 0xFF 6 ++ t 26 0x89 0xFF 8 ++ t 27 0x3C 0xFF 9 ++ t 32 0x89 0xFF 8 ++ t 64 0x0 0x1000 8
    ++ t 65 0x1004 0x100F 3 ++ t 66 0x1006 0x100F 4 ++ t 80 0x0 0x1000 2 ++ t 81 0x1004 0x100F 3 ++ t 82 0x1006 0x100F 4

/-- The first 98 bytes of the example's frame. -/
def mplsFrame : List Byte :=
  [2, 0, 0, 0, 0, 1, 2, 0, 0, 0, 0, 2, 129, 0, 0, 5, 134, 221, 96, 0, 0, 0, 0, 52,
    137, 64, 0, 1, 2, 3, 4, 5, 6, 7, 8, 9, 10, 11, 12, 13, 14, 15, 16, 17, 18, 19, 20, 21,
    22, 23, 24, 25, 26, 27, 28, 29, 30, 31, 0, 6, 64, 63, 0, 12, 128, 63, 0, 18, 193, 63, 69, 0,
    0, 40, 0, 1, 0, 0, 64, 17, 102, 194, 10, 0, 0, 1, 10, 0, 0, 2, 0, 1, 0, 2, 0, 20,
    0, 0, 0, 0, 0, 0, 0, 0, 0, 0, 0, 0, 0, 0]

theorem test_parse_of_the_example :
    (let s : State := { State.reset with bus := { regs := mplsGraph.map fun e => (e.1, BitVec.ofNat 32 e.2) } }
      let w := s.walk 0 true mplsFrame 110 true none 49 0 0 true {}
      w.status = 0 ∧ w.visits = 8 ∧ w.node = 5 ∧ w.off = 98 ∧ w.tun = 1
      ∧ w.layers.map (·.word) = [0x010E0001, 0x01040E02, 0x01281206, 0x230C3A12, 0x21144604, 0x21085A21]
      ∧ (classIndex w.layers).drop 8 = [2, 4, 0xFF, 0xFF, 5, 5, 0xFF, 0xFF]) := by decide +kernel

/-- The sample record of the 512-byte packet (20_counters_sampling). -/
theorem test_sample_record_of_the_example :
    (smpBytes { ctx := 32, lave := 4, passes := 1, frameLen := 512, admBeat := 0x2A3B4C50, admClk := 73, queue := 40200, disp := 0, exitB := 5, land := 6,
                sched := 7, run := 212, wait := 0, lookups := 3, engine := 7 } 0 0 0 0x0C41 8 false).take 32
      = leBytes 0x0C41020000001420 8 ++ leBytes 0x009D08492A3B4C50 8 ++ leBytes 0x0008000700060005 8
        ++ leBytes 0x00070003000000D4 8 := by decide +kernel

/-! ## Single steps -/

/-- A register write and a read of a running block (R5 to R8): the reserved bits stay. -/
theorem test_step_register_write :
    (match step { State.reset with pending := [.registerWrite .mss 0xD000004 0xFFFFFFC5] } with
      | .next t => (t.reg 0xD000004, t.pending.length)
      | _ => (0, 9)) = (0x28, 0) := by decide +kernel

/-- An idle step is one clock of the beat. -/
theorem test_idle_step : (match step State.reset with | .next t => t.bus.clk | _ => 9) = 1 := by decide +kernel

/-! ## States and operands that meet the hypotheses of the statements -/

/-- A state and operands that meet the hypotheses of PacketsAreParsed, clause by clause. -/
theorem witness_PacketsAreParsed : (let s : State := { State.reset with bus := { regs := [(0x2000004, 0x1)], ticks := 64 }, eng := { slots := [(0, some {})] } }
    s.slot 0 0 = some {} ∧ ({} : Slot).phase = .parsing ∧ 0 + 64 ≤ s.bus.ticks ∧ s.pgErrAct 10 = 0)
    ∧ (let s : State := { State.reset with line := { recQ := [(15, [7])] } }
    Tab.get [] s.line.recQ 15 = [7] ∧ (s.kerbQueue 15).length < 512 ∧ s.uses (.recirc 15) < 2 ∧ ∀ x, x ∈ s.kerbQueue 15 → (s.pkt x).kerbTick ≠ s.bus.ticks) := by decide

/-- A state and operands that meet the hypotheses of BankChecks, clause by clause. -/
theorem witness_BankChecks : State.reset.eng.pgChk = none ∧ State.reset.eng.chk = none
    ∧ (let s : State := { State.reset with eng := { pgChk := some { bankB := true, dirty := false }, chk := some { bankB := true, dirty := false } } }
    s.eng.pgChk = some { bankB := true, dirty := false } ∧ s.eng.chk = some { bankB := true, dirty := false } ∧ s.badBundle true = none) := by decide

/-- A state and operands that meet the hypotheses of CodeBundlesWrittenAndRead, clause by clause. -/
theorem witness_CodeBundlesWrittenAndRead : (let s : State := { State.reset with bus := { regs := [(codeAddr, 0x17FFF)] } }
    s.codeWritable (s.flag codeAddr 16) = true ∧ s.flag codeAddr 16 = true ∧ s.bistRuns 16 = false) := by decide +kernel

/-- A state and operands that meet the hypotheses of PacketsPassThroughTheAvenue, clause by clause. -/
theorem witness_PacketsPassThroughTheAvenue : (let s : State := { State.reset with bus := { regs := [(0x3000000, 2), (0x3000004, 0x13)] }, line := { kerbQ := [(3, [5])] } }
    let s : State := { s with bus := { s.bus with ticks := 1 } }
    (s.pkt 5).kerbTick < s.bus.ticks ∧ s.flag 0x50 8 = false ∧ s.admittingAve 3 = some 0 ∧ s.kerbQueue 3 = [5] ∧ s.slot 0 0 = none)
    ∧ (let sl : Slot := { phase := .eligible }
    let s : State := { State.reset with eng := { slots := [(1023, some sl)] } }
    (s.eng.slots.all fun e => (e.2.map fun x => x.parseDue s.bus.ticks) != some true) = true ∧ s.uses (.dispatch 0) < 2 ∧ s.eligible 0 = [(1023, sl)] ∧ s.slot 0 1023 = some sl ∧ s.engineFor 0 sl = some 0)
    ∧ (let s : State := { State.reset with bus := { ticks := 1024 }, eng := { slots := [(17407, some {})] } }
    s.slot 16 1023 = some {} ∧ ({} : Slot).phase = .parsing ∧ 0 + 1024 ≤ s.bus.ticks ∧ bitOf (s.regAs 0 (fltCfg (s.aveLogical 16))) 3 = false)
    ∧ (let s : State := { State.reset with eng := { thr := [(thrKey 16 34 7, { st := .ready })] } }
    s.issuer 16 34 [] = some 7 ∧ Issues s ⟨16, 34, 7⟩ 0 ∧ s.bundle 16 false 0 = 0 ∧ s.flag 0x400090 30 = false) := by decide +kernel

/-- A state and operands that meet the hypotheses of EngineEventsAndDebug, clause by clause. -/
theorem witness_EngineEventsAndDebug : (let s : State := { State.reset with eng := { thr := [(thrKey 0 1 2, { st := .blockedInt, wait := .commit 3, stage := [9] })] } }
    (s.thread 0 1 2).wait = .commit 3 ∧ (s.thread 0 1 2).st = .blockedInt ∧ (∀ v : Fin 8, v ≠ 2 → (s.thread 0 1 v).wait ≠ .commit 3)
    ∧ s.waiter 0 (s.chanTarget 0 1 3 (s.thread 0 1 2).stage).1 (s.chanTarget 0 1 3 (s.thread 0 1 2).stage).2 = none
    ∧ s.inWindow 0 1 (s.thread 0 1 2) = true ∧ s.chanRoom 0 (s.chanTarget 0 1 3 (s.thread 0 1 2).stage).1 (s.chanTarget 0 1 3 (s.thread 0 1 2).stage).2 = true)
    ∧ (let s : State := { State.reset with eng := { thr := (List.range 8).map fun v => (thrKey 0 33 v, { st := .blockedInt, wait := .recv 0 1 }) } }
    (∀ v : Fin 8, (s.thread 0 33 v).st = .blockedInt ∧ (s.thread 0 33 v).reqs = []) ∧ s.waiter 0 supEngine 1 = none
    ∧ (s.chan 0 supEngine 1).length < 32 ∧ Tab.get false s.eng.fired (engKey 0 33) = false)
    ∧ ((List.range 34).filter fun x => State.reset.flag (dbgCtl 0 x) 24).length < 4
    ∧ (let s : State := { State.reset with bus := { regs := (List.range 4).map fun x => (dbgCtl 0 x, 0x1000000) } }
    s.flag (dbgCtl 0 4) 24 = false ∧ 4 ≤ ((List.range 34).filter fun x => s.flag (dbgCtl 0 x) 24).length)
    ∧ (let s : State := { State.reset with bus := { regs := [(0x3000400, 0x1000000)] }, eng := { thr := [(7, { st := .ready })] } }
    s.engIso 0 0 = true ∧ ∀ u : Fin 8, (0x80#8).getLsbD u = true → (s.thread 0 0 u).st = .ready)
    ∧ (let s : State := { State.reset with eng := { thr := [(0, { st := .haltedDl }), (1, { st := .halted, prior := .ready })] } }
    ∀ u : Fin 8, (3#8).getLsbD u = true → (s.thread 0 0 u).st = .haltedDl
      ∨ ((s.thread 0 0 u).st = .halted ∧ (s.thread 0 0 u).prior = .ready ∧ (s.thread 0 0 u).held = [] ∧ (s.thread 0 0 u).wait = .none))
    ∧ (let s : State := { State.reset with eng := { thr := [(1, { st := .halted, prior := .ready })] } }
    (thr s ⟨0, 0, 1⟩).st = .halted ∧ (thr s ⟨0, 0, 1⟩).prior = .ready
    ∧ (s.setThread 0 0 1 { thr s ⟨0, 0, 1⟩ with st := .ready, stepping := true }).issues 0 0 1 = true ∧ s.bundle 0 false 0 = 0)
    ∧ (let s : State := { State.reset with bus := { regs := [(0x3000000, 2), (0x3000400, 0x1000000)] } }
    s.scrState (aveWin 0) = 2 ∧ s.engSpare 0 32 = true ∧ s.engIso 0 (s.engMap 0 0) = true ∧ s.engMap 0 0 < 35
    ∧ (s.freeThreads 0 (s.engMap 0 0)).length = 8)
    ∧ (let s : State := { State.reset with bus := { regs := [(0x3000010, 1)] } }
    s.bistRuns 0 = true) := by decide +kernel

/-- A state and operands that meet the hypotheses of ResponsesReachTheThread, clause by clause. -/
theorem witness_ResponsesReachTheThread : (let q : Req := { kind := .lkp, id := 255, rd := 31, key := [0], turns := [{ bank := 0, inAt := some 0, got := some 7 }] }
    let s : State := { State.reset with bus := { regs := [(0x5000000, 2), (0x5002FE0, 0x90000020)] }, eng := { thr := [(0, { st := .ready, reqs := [q] })] } }
    (thr s ⟨0, 0, 0⟩).reqs[0]? = some q ∧ Awaits s ⟨0, 0, 0⟩ ∧ s.scrRunning .lkp = true ∧ s.tdValid q.id = true ∧ q.turns ≠ []
    ∧ s.lookedUp q (s.admOf 0 0 (thr s ⟨0, 0, 0⟩)) = true)
    ∧ (let q : Req := { kind := .tcs, id := 3, rd := 1, turns := [{ bank := 135, inAt := some 0, got := some 0 }], found := [(8191, 5, false)] }
    let s : State := { State.reset with bus := { regs := [(0x8000000, 2), (0x800011C, 0x80000100), (0x8010030, 0x80000007)] }, eng := { thr := [(0, { st := .blockedExt, wait := .all, reqs := [q] })] } }
    (thr s ⟨0, 0, 0⟩).reqs[0]? = some q ∧ s.profValid (s.admOf 0 0 (thr s ⟨0, 0, 0⟩)) q.id = true ∧ Awaits s ⟨0, 0, 0⟩
    ∧ s.entryBad 0 (s.profTable (s.admOf 0 0 (thr s ⟨0, 0, 0⟩)) q.id) 8191 = false)
    ∧ (let q : Req := { kind := .pol, id := 15, key := [0xFFFFF], turns := [{ bank := 79, inAt := some 0 }] }
    let s : State := { State.reset with bus := { ticks := 1, clk := 1 }, cls := { pol := [(0xFFFFF, 2 ^ 84)] }, eng := { thr := [(0, { st := .ready, reqs := [q] })] } }
    (thr s ⟨0, 0, 0⟩).reqs[0]? = some q ∧ s.polTurn 15 = some (thrKey 0 0 0, 0) ∧ Awaits s ⟨0, 0, 0⟩ ∧ bitOf (s.policer 0xFFFFF).toNat 84 = true
    ∧ s.flag 0x400090 30 = false)
    ∧ (let r : Turn := { bank := 63 }
    let q : Req := { kind := .lkp, id := 255, rd := 31, key := [0], turns := [r] }
    let s : State := { State.reset with eng := { thr := [(0, { st := .ready, reqs := [q] })] } }
    (s.queued (s.ofAvenue 0) 63).length < 4 ∧ (Tab.get {} s.eng.thr 0).reqs[0]? = some q
    ∧ (s.turnsOf (s.ofAvenue 0) 63).filter (·.turn.inAt.isNone) = [] ++ { key := 0, req := 0, ix := 0, turn := r } :: [])
    ∧ (let r : Turn := { bank := 79 }
    let q : Req := { kind := .pol, id := 15, key := [0], turns := [r] }
    let s : State := { State.reset with eng := { thr := [(0, { st := .ready, reqs := [q] })] } }
    (s.queued (s.ofAvenue 0) 79).length < 4 ∧ (Tab.get {} s.eng.thr 0).reqs[0]? = some q
    ∧ (s.turnsOf (s.ofAvenue 0) 79).filter (·.turn.inAt.isNone) = [] ++ { key := 0, req := 0, ix := 0, turn := r } :: [])
    ∧ (let r : Turn := { bank := 135 }
    let q : Req := { kind := .tcs, id := 3, turns := [r] }
    let s : State := { State.reset with eng := { thr := [(thrKey 16 34 7, { st := .ready, reqs := [q] })] } }
    (s.queued (ofEngine 16 34) 135).length < 4 ∧ (Tab.get {} s.eng.thr (thrKey 16 34 7)).reqs[0]? = some q
    ∧ (s.turnsOf (ofEngine 16 34) 135).filter (·.turn.inAt.isNone) = [] ++ { key := thrKey 16 34 7, req := 0, ix := 0, turn := r } :: []) := by decide +kernel

/-- A state and operands that meet the hypotheses of HashCommandsComplete, clause by clause. -/
theorem witness_HashCommandsComplete : (let s : State := { State.reset with bus := { regs := [(0x5000000, 2), (0x5002FE0, 0xA2000040)] } }
    OwnsWindow .host 0 ∧ s.scrRunning .lkp = true ∧ s.tdValid 255 = true ∧ s.tdKind 255 = 2
    ∧ s.findSlot 255 s.hashWord (s.winWords 0 0 4) (s.hashBuckets 255 (s.winWords 0 0 4)) = none
    ∧ ((s.hashBuckets 255 (s.winWords 0 0 4)).findSome? fun x => (s.freeSlot 255 x).map (x, ·)).isSome = true)
    ∧ (State.reset.scrRunning .lkp = false ∧ ({ State.reset with bus := { regs := [(0x5000000, 2)] } } : State).scrRunning .lkp = true
    ∧ State.reset.tdValid 255 = false)
    ∧ (let s : State := { State.reset with bus := { regs := [(0x5000000, 2), (0x5002FE0, 0xA2000040)], ticks := 1 } }
    let c : HashCmd := { win := 1, op := 4, table := 255, key := [0], res := [], static := false }
    let u : State := { s with tbl := { hashQ := [c], sram := [((s.hashBuckets 255 [0]).headD 0, slotLine 16 3 [2 ^ 63, 7])] } }
    OwnsWindow .mss 1 ∧ u.tbl.hashQ = [c] ∧ c.tick < u.bus.ticks ∧ (u.hashTry c).isSome = true ∧ c.win < 2 ∧ u.scrRunning .lkp = true
    ∧ (u.findSlot 255 u.hashWord c.key (u.hashBuckets 255 c.key)).isSome = true) := by
  decide +kernel

/-- A state and operands that meet the hypotheses of TableWindowsAndOverlay, clause by clause. -/
theorem witness_TableWindowsAndOverlay : OwnsWindow .host 0 ∧ OwnsWindow .mss 1 ∧ State.reset.fld (winBase 1 + 4) 26 0 ≤ winLast 3
    ∧ (let s : State := { State.reset with bus := { regs := [(0x6001004, 65535)] } }
    s.fld (winBase 1 + 4) 26 0 = 65535 ∧ s.wordTable 65535 = none ∧ s.stagedOf 0 + s.stagedOf 1 < 3072 ∧ s.wordTable (sramWords + 65535) = none
    ∧ s.inPatImg 65535 = false)
    ∧ (let o : Ovl := { writer := 1, word := sramWords, data := 5, mask := 1, committed := true, go := false }
    let s : State := { State.reset with tbl := { ovl := [{ o with committed := false }, o] } }
    s.tbl.ovl = [{ o with committed := false }] ++ o :: [] ∧ o.committed = true ∧ ovlBank o = 64
    ∧ (∀ x ∈ [{ o with committed := false }], x.committed = false ∨ ovlBank x ≠ 64) ∧ s.uses (.bankMaint 64) = 0 ∧ o.drained = false)
    ∧ (let o : Ovl := { writer := 1, word := 65535, data := 5, mask := 1, committed := false, go := false }
    o ∈ [o] ∧ o.committed = false ∧ o.writer = 1 ∧ o.go = false ∧ o.word = 65535) := by decide +kernel

/-- A state and operands that meet the hypotheses of TcamCommands, clause by clause. -/
theorem witness_TcamCommands : (let s : State := { State.reset with bus := { regs := [(0x8000000, 2), (0x800011C, 0x80000100), (0x8021004, 8191)] } }
    OwnsWindow .mss 1 ∧ s.flag (tcmWin 1) 31 = false ∧ s.scrRunning .tcm = true ∧ s.tcmValid 7 = true ∧ s.fld (tcmWin 1 + 4) 15 0 = 8191
    ∧ 8191 < s.tcmSize 7)
    ∧ (OwnsWindow .host 0 ∧ State.reset.flag (tcmWin 0) 31 = false ∧ State.reset.scrRunning .tcm = false
    ∧ ({ State.reset with bus := { regs := [(tcmWin 0, 0x80000000)] } } : State).flag (tcmWin 0) 31 = true)
    ∧ (let c : TcamCmd := { win := 1, op := 1, table := 7, idx := 0, val := [], msk := [], act := 3 }
    let s : State := { State.reset with bus := { regs := [(0x800011C, 0x80000100)], ticks := 32 }, cls := { cmds := [c], prog := [(16, { gap := some 1, step := 1, inval := [(1048576, 0)] })] } }
    (s.slice 16).fixes = [] ∧ s.sliceCmd 16 = some c ∧ (s.slice 16).gap = some 1 ∧ ((s.rowOp c 1 (s.slice 16).step).bind (·.target)) = some 0
    ∧ s.tooEarly 16 7 0 = false ∧ s.rowSlot 16 7 = true)
    ∧ (let c : TcamCmd := { win := 1, op := 1, table := 7, idx := 0, val := [], msk := [], act := 3 }
    let s : State := { State.reset with bus := { regs := [(0x800011C, 0x80000100)], ticks := 31 }, cls := { cmds := [c], prog := [(16, { gap := some 1, step := 1, inval := [(1048576, 0)] })] } }
    s.sliceCmd 16 = some c ∧ ((s.rowOp c 1 1).bind (·.target)) = some 0 ∧ s.tooEarly 16 7 0 = true)
    ∧ (let c : TcamCmd := { win := 1, op := 2, table := 7, idx := 0, val := [], msk := [], act := 3 }
    let s : State := { State.reset with bus := { regs := [(0x800011C, 0x80000100)], ticks := 32 }, cls := { cmds := [c], prog := [(16, { gap := some 1 })], rows := [(1048576, { valid := true, cbad := true })] } }
    (s.slice 16).fixes = [] ∧ s.sliceCmd 16 = some c ∧ (s.slice 16).gap = some 1 ∧ ((s.rowOp c 1 0).bind (·.target)) = some 1
    ∧ s.tooEarly 16 7 1 = false ∧ s.rowSlot 16 7 = true ∧ s.entryValid 16 7 0 = true ∧ s.entryBad 16 7 0 = true)
    ∧ (let s : State := { State.reset with bus := { regs := [(0x800011C, 0x80000100)] }, cls := { prog := [(0, { fixes := [.inPlace 7 5] })] } }
    (s.slice 0).fixes = .inPlace 7 5 :: [] ∧ s.rowSlot 0 7 = true ∧ (s.doFix 0 (.inPlace 7 5)).isSome = true)
    ∧ (let c : TcamCmd := { win := 0, op := 4, table := 7, idx := 0, val := [], msk := [], act := 3 }
    let s : State := { State.reset with cls := { cmds := [c], prog := (List.range 17).map fun p => (p, { done := 1 }) } }
    s.cls.cmds = [] ++ [c] ∧ s.slicesPast (s.cls.base + 0 + 1) = true) := by decide +kernel

/-- A state and operands that meet the hypotheses of PolicersAndPatterns, clause by clause. -/
theorem witness_PolicersAndPatterns : (let s : State := { State.reset with cls := { pol := [(0xFFFFF, 2 ^ 84)] } }
    bitOf (s.policer 0xFFFFF).toNat 84 = true ∧ s.uses (.policer 15) = 0)
    ∧ (OwnsWindow .host 0 ∧ OwnsWindow .mss 1 ∧ State.reset.flag (polWin 1) 31 = false ∧ State.reset.polIdle 0 = true)
    ∧ (let s : State := { State.reset with bus := { regs := [(0x8050104, 0xFFFFF)] }, eng := { thr := [(0, { reqs := [{ kind := .pol, id := 0xFFFFF, turns := [{ bank := 79, inAt := some 0 }] }] })] } }
    s.flag (polWin 1) 31 = false ∧ s.fld (polWin 1 + 4) 19 0 % 16 = 15 ∧ s.polIdle 15 = false)
    ∧ (let c : ScanCopy := { frame := [], profile := 1, cfg := 0x80000010, slotB := false, hdrEnd := 0, ctx := 0, admBeat := 0, admClk := 0, hash := 0 }
    let s : State := { State.reset with cls := { scans := [(3, [c])] } }
    Tab.get [] s.cls.scans 3 = [c] ∧ s.cls.recs.length + 16 ≤ 4096 ∧ ∀ u : Fin 4, ∀ c ∈ Tab.get [] s.cls.scans u, c.slotB = s.flag patStat 0)
    ∧ (let s : State := { State.reset with bus := { regs := [(0x900001C, 1), (0x9000200, 0x800001FF)] } }
    s.flag 0x9000200 31 = true ∧ s.fld 0x9000200 28 0 = 511 ∧ s.patProtected true = false ∧ 511 < s.fld (patBase true + 4) 20 0 * 512)
    ∧ State.reset.cls.chk = none
    ∧ (let s : State := { State.reset with cls := { chk := some { bankB := true, dirty := false }, latched := some [], recs := [[]] } }
    s.cls.chk = some { bankB := true, dirty := false } ∧ s.cls.latched = some []) := by decide +kernel

/-- A state and operands that meet the hypotheses of LearningUnit, clause by clause. -/
theorem witness_LearningUnit : (let c : Cand := { key := 2 ^ 62 - 1, ctx := 0, dest := 9, lave := 0 }
    let s : State := { State.reset with bus := { regs := [(0x5000000, 2), (0x5001000, 0xAA000040), (0xA000000, 0)] }, lrn := { queue := [c] } }
    s.lrn.ran < 8 ∧ s.lrn.queue = [c] ∧ s.lrnRecent c = false ∧ s.lrnReady = true ∧ s.macFind c.key = none
    ∧ ((s.hashBuckets s.lrnTable [c.key]).findSome? fun x => (s.freeSlot s.lrnTable x).map (x, ·)).isSome = true)
    ∧ (let s : State := { State.reset with bus := { regs := [(0x5000000, 2), (0x5001000, 0xAA000040), (0xA000000, 0)] } }
    let u : State := { s with tbl := { sram := [((s.hashBuckets 0 [5]).headD 0, slotLine 16 3 [2 ^ 63 + 5, 9])] } }
    u.lrnReady = true ∧ u.lrnTable = 0 ∧ (u.macFind 5).map (·.2) = some 9 ∧ macDest 9 = 9 ∧ macAge 9 = u.epoch)
    ∧ (let s : State := { State.reset with bus := { regs := [(0x5000000, 2), (0x5001000, 0xAA000040), (0xA000000, 0), (0xA000008, 0x100), (0xA00000C, 1)] } }
    let u : State := { s with tbl := { sram := [((s.hashBuckets 0 [5]).headD 0, slotLine 16 3 [2 ^ 63 + 5, 9])] }, lrn := { aged := [5] } }
    u.lrn.aged = [5] ∧ u.lrnReady = true ∧ (u.macFind 5).map (·.2) = some 9 ∧ macStatic 9 = false ∧ u.ageLimit ≤ u.ageOf 9)
    ∧ (let x : Track := { key := 5, count := 1, opened := 0, last := 0, frozen := some 0 }
    let s : State := { State.reset with bus := { ticks := 1500000000, regs := [(0xA000008, 0x6401), (0xA000010, 0x0104)], lowHalf := [(0xA000018, 5)] }, lrn := { tracks := [x], agePend := some 0x6402 } }
    (s.track 5).bind (·.frozen) = some 0 ∧ s.fld 0xA000010 23 8 = 1 ∧ 0 + 1 * 1500000000 ≤ s.bus.ticks ∧ s.lrnFrozen 5 = true
    ∧ (Tab.get 0 s.bus.lowHalf 0xA000018).toNat = 5 ∧ s.fld 0xA000008 7 0 = 1 ∧ s.lrn.epochAt + 1 * 1500000000 ≤ s.bus.ticks)
    ∧ State.reset.lrnOwner .mss = true
    ∧ (let s : State := { State.reset with lrn := { latched := some [], recs := [[]] } }
    s.lrn.latched = some [] ∧ s.lrnOwner .mss = true) := by decide +kernel

/-- A state and operands that meet the hypotheses of EditCommandsAct, clause by clause. -/
theorem witness_EditCommandsAct : (let h : Handle := { st := .held, script := [0x10, 0, 0, 1], frame := [7, 8] }
    let s : State := { State.reset with sq := { editQ := [{ pd := 1, queue := 0, mark := false, aqm := 0, ready := 0 }], handles := [(1, h)], pds := [(1, { handle := 1, owner := 38 })] } }
    s.editTaken = some { pd := 1, queue := 0, mark := false, aqm := 0, ready := 0 } ∧ (s.editJob (s.handle (s.pdOf 1).handle)).fin = false
    ∧ readEdit (s.editJob (s.handle (s.pdOf 1).handle)).rest = (.del (0#16).toNat (1#8).toNat, [])
    ∧ editRange (s.handle (s.pdOf 1).handle).frame (s.pdOf 1).pcdata (s.pdOf 1).copy (.del 0 1) = some (0, 1, []))
    ∧ readEdit [0x00, 5] = (.fin, []) ∧ readEdit [0x20, 0, 2, 1, 9] = (.ins 2 [9], []) ∧ readEdit [0x30, 0, 2, 1, 9] = (.ovr 2 [9], [])
    ∧ readEdit [0x40, 0, 14] = (.dec4 14, []) ∧ readEdit [0x41, 0, 14] = (.dec6 14, []) ∧ readEdit [0x42, 0, 14] = (.decm 14, [])
    ∧ readEdit [0x50, 1, 0, 16] = (.pcopy 256 16, []) ∧ editRange [] [] false (.pcopy 256 16) = none := by decide +kernel

/-- A state and operands that meet the hypotheses of SquareCommands, clause by clause. -/
theorem witness_SquareCommands : (let r : XRec := { kind := 0, queue := 1048575, dest := 0, colour := 0, req := 17, script := [], frame := [1], pkt := 0, tag := none, inj := none }
    let s : State := { State.reset with bus := { regs := [(0xC000000, 2), (0xC000020, 64), (0xC000040, 1)] }, sq := { arrivals := [r], built := true, cfg0 := [(1048575, 0xA0000000)], cfg1 := [(1048575, 1)] } }
    s.sq.arrivals = [r] ∧ s.landedNow = [] ∧ s.scrRunning .bpm = true ∧ s.queueCheck 1048575 (unitsOf 1 0) false = none ∧ s.pickClass false 1 ≠ none ∧ s.newHandle = some 0
    ∧ s.newPd = some 0)
    ∧ (let j : ReplJob := { hold := 0, base := 0, made := 0, count := 1 }
    let s : State := { State.reset with sq := { repl := [j], handles := [(0, { st := .held, ref := 1 })], pds := [(0, { owner := 34 })], cfg0 := [(0, 0xA0000000)], cfg1 := [(0, 1)] } }
    s.sq.repl = [j] ∧ s.copyBad 0 = none ∧ (s.pdOf j.hold).owner = 34 ∧ s.queueCheck (s.copyEntry' 0).1 (s.handle 0).units false = none ∧ s.newPd = some 1)
    ∧ (let x : Handle := { st := .held, ref := 1, deep := true, len := 1 }
    let s : State := { State.reset with bus := { regs := [(0xC000020, 64), (0xC000050, 1)] }, sq := { built := true, handles := [(0, x)] } }
    (s.sq.handles.filter fun e => s.moveDue e.2) = [(0, x)] ∧ (∀ e ∈ s.sq.pds, e.2.handle = 0 → e.2.owner ≠ 37 ∧ e.2.owner ≠ 38) ∧ s.pickClass true x.len = some 0)
    ∧ (let s : State := { State.reset with sq := { handles := [(0, { st := .held, ref := 1 }), (1, { st := .held, ref := 2 }), (2, { st := .quarantined })], pds := [(0, { handle := 0, owner := 0 }), (1, { handle := 1, owner := 62 })] } }
    (s.pdOf 0).owner = 0 ∧ (s.handle 0).ref = 1 ∧ (s.pdOf 1).owner = 62 ∧ (s.handle 1).ref = 2 ∧ (s.pdOf 1).owner ≠ 63 ∧ (s.handle 2).st = .quarantined) := by
  decide +kernel

/-- A state and operands that meet the hypotheses of SchedulerDecisions, clause by clause. -/
theorem witness_SchedulerDecisions : (let s : State := { State.reset with
      bus := { regs := [(0xD010000, 2), (0xD010004, 0x10000000)], beat := 1, beats := 1 }
      sch := { nodes := [0, nodeKey 1 0, nodeKey 2 0, nodeKey 3 0, nodeKey 4 0].map fun k => (k, { d0 := 2 ^ 31 }), budget := [(0, 1000)] }
      sq := { queues := [(0, [1])], cfg0 := [(0, 0xA0000000)], handles := [(1, { st := .held, ref := 1, frame := [1], len := 1 })], pds := [(1, { handle := 1, owner := 36 })] } }
    (0 : Int) < Tab.get (0 : Int) s.sch.budget 0 ∧ s.sideReady 0 = true ∧ s.outTurn 0 = true
    ∧ (s.pickOut 0).map (·.1) = some [(0, true), (nodeKey 1 0, false), (nodeKey 2 0, false), (nodeKey 3 0, false), (nodeKey 4 0, false)]
    ∧ s.headPd 0 = some 1 ∧ (s.nodeRec (nodeKey 4 0)).aqm = 0)
    ∧ (let k : Taken := { pd := 1, queue := 0, mark := false, aqm := 0, ready := 0 }
    let s : State := { State.reset with sq := { editQ := [k], handles := [(1, { st := .held, script := [0x10, 0, 0, 1], frame := [7, 8] })], pds := [(1, { handle := 1, owner := 38 })] } }
    s.editTaken = some k ∧ (EditJob.run [7, 8] [] false 5 (s.editJob (s.handle 1))).bad = false
    ∧ (EditJob.run [7, 8] [] false 5 (s.editJob (s.handle 1))).pos = 1) := by decide +kernel

/-- A state and operands that meet the hypotheses of QueueAndNodeWindows, clause by clause. -/
theorem witness_QueueAndNodeWindows : (let s : State := { State.reset with bus := { regs := [(0xD020004, 1048575), (0xD020108, 0x00F00000)] } }
    OwnsWindow .host 0 ∧ OwnsWindow .mss 1 ∧ (4 : Fin 8).val ≤ 4 ∧ s.fld (nodeWin 0 + 4) 19 0 = 1048575 ∧ 1048575 < levelSize 4 ∧ 0 < levelSize 0
    ∧ (s.written (nodeKey 4 0)).d0 &&& attachMask = s.reg (nodeWin 1 + 8) &&& attachMask) := by decide +kernel

/-- A state and operands that meet the hypotheses of FabricLanesMove, clause by clause. -/
theorem witness_FabricLanesMove : (let s : State := { State.reset with
      bus := { regs := [(0xE000000, 2), (0xE00000C, 1), (0xE00003C, 0x80000000), (0xE0107D0, 5), (0xE0107E0, 4), (0xE0107F0, 3)], beat := 16, beats := 16 }
      fab := { lanes := [(125, { drain := 0 })], reqOn := [(0xFFFF, true)], heard := [(63, 1)] } }
    s.scrRunning .fab = true ∧ s.fabLaneSt 125 = 5 ∧ (s.fabLane 125).drain + 16 ≤ s.bus.beats ∧ s.failSeen 125 1 = true ∧ s.failSeen 125 4 = false ∧ s.bus.clk = 0 ∧ s.fabLaneSt 126 = 4 ∧ (s.fabLane 126).bad = []
    ∧ s.fabLaneSt 127 = 3 ∧ s.fabSet 127 = true ∧ (s.fabLane 127).ready + max (s.fld 0xE00000C 15 0) 1 ≤ s.bus.beats ∧ s.beatN % 16 = 0
    ∧ s.flag fabCfg 7 = false ∧ Tab.get false s.fab.reqOn 0xFFFF = true ∧ Tab.get 0 s.fab.reqAt 0xFFFF + 64 ≤ 64
    ∧ (∀ m : Fin 64, (Tab.get [] s.fab.ctl m).length < 256) ∧ Tab.get 0 s.fab.heard 63 ≠ 0)
    ∧ (let s : State := { State.reset with bus := { regs := [(0xE000000, 2), (0xE010000, 2), (0xE00005C, 1), (0xE00000C, 0x10000)], beat := 64, beats := 64 }, fab := { lanes := [(0, { good := 63 })], reqOn := [(0, true)], heard := [(0, 1)] } }
    s.fabLaneSt 0 = 2 ∧ (s.fabLane 0).good = 63 ∧ Tab.get 0 s.fab.reqAt 0 + 64 ≤ s.bus.beats ∧ Tab.get 0 s.fab.heard 0 + s.fld 0xE00005C 15 0 ≤ s.bus.beats + 1
    ∧ (s.fabLane 0).bad.length < s.fld 0xE00000C 23 16)
    ∧ (let fl : Byte := 0x20
    let body : BitVec 40 := 5
    let m := markerOf (BitVec.ofNat 64 markerPattern) fl body (crc16 (fl ++ body))
    markerOk m = true ∧ fl.getLsbD 7 = false ∧ fl.getLsbD 5 = true)
    ∧ (let s : State := { State.reset with bus := { regs := [(0xE000000, 2), (0xE010000, 4)] } }
    let h : BitVec 128 := BitVec.ofNat 128 (2 ^ 126 + crcIeee (beBytes (2 ^ 126) 16 ++ []))
    s.fabLaneSt 0 = 4 ∧ (s.fabLane 0).lastBad = false ∧ bits h.toNat 127 126 = 1 ∧ bits h.toNat 119 114 = s.fabMod
    ∧ h.toNat % 2 ^ 32 = crcIeee (beBytes (h.toNat - h.toNat % 2 ^ 32) 16 ++ []) ∧ 2 - Int.ofNat s.fabWin ≤ diff16 (bits h.toNat 113 98) s.beatN
    ∧ diff16 (bits h.toNat 113 98) s.beatN ≤ 1) := by decide +kernel

/-- A state and operands that meet the hypotheses of MatedPairStates, clause by clause. -/
theorem witness_MatedPairStates : (let m := fun (v : Nat) => ({ State.reset with bus := { regs := [(0x30000C, v)], ticks := 75000000 }, mate := { holdAt := some 0, test := some [], testAt := some 0 } } : State)
    State.reset.mateOn = false ∧ (m 1).mateSt = 1 ∧ (m 4).mateSt = 4 ∧ (m 5).mateSt = 5 ∧ (m 5).mate.relAt + 75000000 ≤ (m 5).bus.ticks ∧ (m 0x405).mateShows % 8 = 4
    ∧ (m 2).mate.expired = false ∧ (m 2).mateSt ≠ 0 ∧ (m 2).mate.kickAt + (m 2).kickClocks ≤ (m 2).bus.ticks ∧ (m 3).mateSt = 3 ∧ (m 3).seenLow = false
    ∧ 0 + 15000 ≤ (m 3).bus.ticks ∧ (m 3).mate.backoff ≤ (m 3).bus.ticks ∧ 0 + 15000000 ≤ (m 3).bus.ticks)
    ∧ (let s : State := { State.reset with bus := { regs := [(0x300000, 0x10001), (0x30000C, 0x12)] } }
    s.mateOn = true ∧ s.mate.expired = false ∧ s.mateBarred = false ∧ s.mate.lastMs ≠ some (s.tim.sec * 1000 + s.tim.ns / 1000000))
    ∧ (let s : State := { State.reset with bus := { regs := [(0x300000, 0x41), (0x30000C, 0x12)] } }
    s.mayClaim = true ∧ s.seenLow = false)
    ∧ (let s : State := { State.reset with bus := { regs := [(0x300000, 0x10001), (0x30000C, 0x3), (0x900000, 1)] } }
    s.mateOn = true ∧ max (s.fld mateCfg 19 16) 1 < s.ageMs s.mate.dirAt ∧ max (s.fld mateCfg 19 16) 1 < s.ageMs s.fab.hbAt ∧ s.flag mateStat 4 = false
    ∧ s.mate.holdAt = none)
    ∧ (let s : State := { State.reset with bus := { regs := [(0x300000, 3), (0x30000C, 0x3)] } }
    s.mateSt = 3 ∧ s.secondary = true)
    ∧ (let s : State := { State.reset with bus := { regs := [(0x300000, 0x11), (0x30000C, 0x402), (0x300018, 0x80), (0x900000, 1)] }, mate := { dirAt := some 0, wtrAt := some 0 } }
    s.wtrRuns = true ∧ s.mateSt = 2 ∧ s.mssMode = 1 ∧ s.mate.testAt = none)
    ∧ (let s : State := { State.reset with bus := { regs := [(0xE000000, 2), (0xE000050, 63), (0x30000C, 2)] } }
    s.scrRunning .fab = true ∧ (63 : Fin 64).val = s.fld 0xE000050 5 0 ∧ s.mateSt ≠ 4 ∧ s.mateSt ≠ 5)
    ∧ (0x3000000000000000#64).extractLsb' 60 4 = 3#4 := by decide +kernel

/-- A state and operands that meet the hypotheses of DramBurstsServed, clause by clause. -/
theorem witness_DramBurstsServed : (let s : State := { State.reset with bus := { regs := (0xF000000, 0x80000000) :: (List.range 128).map fun c => (hbmCh c 0, 1) } }
    let b := s.burstAt false 7 64 none
    s.flag (hbmHalf false 0) 31 = true ∧ s.flag (hbmCh (b.pc / 2) 0) 0 = true ∧ s.dramRoom b = true ∧ (64 : Nat) < halfEnd false
    ∧ (0x1FFFFFFFC0#37).toNat % 64 = 0 ∧ halfEnd false ≤ (0x1FFFFFFFC0#37).toNat ∧ halfEnd true ≤ (0x1FFFFFFFC0#37).toNat)
    ∧ (let b : Burst := { tm := true, agent := 0, pc := 193, bank := 0, row := 0, col := 0, addr := 0, write := false, data := 0, mask := 0, since := 0, id := 0 }
    let s : State := { State.reset with bus := { regs := [(0xF000020, 0x80000000), (hbmCh 96 0, 1)] }, hbm := { waiting := [b], flaw := [(burstKey 193 0 0 0, 1)], banks := [(193 * 16, { kept := true, row := some 0 })] } }
    let q : State := { s with bus := { regs := [(0xF00002C, 1)], ticks := 1 }, hbm := { s.hbm with queue := [(193, [b])], waiting := [], flaw := [] } }
    let w : Burst := { b with write := true, mask := BitVec.allOnes 64 }
    s.hbm.waiting = [] ++ b :: [] ∧ b.pc = 96 * 2 + 1 ∧ s.flag (hbmHalf true 0) 31 = true ∧ s.flag (hbmCh 96 0) 0 = true ∧ s.dramRoom b = true
    ∧ (q.dramPick 193).1.map (·.1) = some b
    ∧ (({ q with hbm := { q.hbm with queue := [(193, [w])] } } : State).dramPick 193).1.map (·.1) = some w ∧ q.flag 0x400090 30 = false
    ∧ (q.bankOf 193 0).kept = true ∧ (q.bankOf 193 0).keptAt + max (q.fld 0xF000040 15 4) 1 ≤ 2 ^ 20 ∧ chanTm 96 = true ∧ q.flag (hbmHalf true 0xC) 0 = true
    ∧ Tab.get 0 s.hbm.flaw (burstKey 193 0 0 0) = 1) := by decide +kernel

/-- A state and operands that meet the hypotheses of DramRefreshAndRepair, clause by clause. -/
theorem witness_DramRefreshAndRepair : State.reset.flag (hbmCh 127 0x20) 31 = false ∧ (State.reset.dramChan 127).asleep = false ∧ -(Int.ofNat State.reset.postpone) < State.reset.refDebt 127 255 15
    ∧ (let s : State := { State.reset with bus := { regs := [(hbmStk 3 0, 0x80000000), (hbmCh 0 0x10, 63), (hbmCh 0 0x20, 0x80000100)], ticks := 624 }, hbm := { chans := [(0, { remap := [(63, some { pc := 0, bank := 0, row := 1, spare := 0, from? := some 1 })] }), (1, { park := .entering 0 }), (2, { park := .asleep 0 (some 24) })] } }
    chanTm 122 = true ∧ s.stackParked (122 / 32) = true ∧ (s.dramChan 122).park = .awake ∧ s.chanIdle 122 = true
    ∧ (s.dramChan 122).last + s.idleClocks (122 / 32) ≤ s.bus.ticks ∧ (s.dramChan 1).park = .entering 0 ∧ 0 + 23 ≤ s.bus.ticks
    ∧ (s.dramChan 2).park = .asleep 0 (some 24) ∧ max (0 + 23) 24 + 600 ≤ s.bus.ticks ∧ s.fld (hbmCh 0 0x10) 5 0 = 63
    ∧ bitOf (0xC2FBF87F#32).toNat 31 = true ∧ bits (0xC2FBF87F#32).toNat 25 11 = 24447
    ∧ Tab.get none (s.dramChan 0).remap 63 = some { pc := 0, bank := 0, row := 1, spare := 0, from? := some 1 } ∧ s.flag (hbmCh 0 0x20) 31 = true
    ∧ s.flag (hbmStk 0 4) 3 = false ∧ s.fld (hbmStk 3 0) 15 8 ≤ (0#8).toNat)
    ∧ (let s : State := { State.reset with bus := { regs := [(hbmStk 3 0, 0xFF00)] } }
    (254#8).toNat < s.fld (hbmStk 3 0) 15 8 ∧ s.flag (hbmStk 3 4) 3 = false) := by decide +kernel

/-- A state and operands that meet the hypotheses of HostResetsAndPower, clause by clause. -/
theorem witness_HostResetsAndPower : (let s : State := { State.reset with hif := { perst := false }, boot := { inReset := false } }
    s.hif.perst = false ∧ s.boot.inReset = false ∧ RefClock.pcieRef ∉ s.elec.clkBad) := by decide

/-- A state and operands that meet the hypotheses of RingsInterruptsAndMailboxes, clause by clause. -/
theorem witness_RingsInterruptsAndMailboxes : State.reset.flag (ringReg true 63 8) 31 = false ∧ State.reset.flag pcieStat 9 = false
    ∧ (let d : RingDesc := { w0 := 0, w1 := 128, w2 := 0, w3 := 0 }
    let p : Punt := { kind := 0, reason := 0, ctx := 0, pass := 1, adm := 0, sec := 0, ns := 0, colour := 0, script := [], frame := [1], tag := none }
    let s : State := { State.reset with bus := { regs := [(pcieStat, 0x900), (ringReg false 63 8, 0x80060000), (ringReg false 63 0xC, 2)] }, hif := { pr := [(63, { punts := [p], fetched := [d] })] } }
    s.flag (ringReg false 63 8) 31 = true ∧ s.ringHalted false 63 = false ∧ s.ringDma false 63 = true ∧ (s.ring false 63).fetched.length < 32 ∧ s.hif.puntBusy ≤ s.bus.ticks * 50
    ∧ (s.ring false 63).fetched.length + 0 < s.ringPosted false 63 ∧ s.fwRing 63 = false ∧ d.puntOk = true
    ∧ (s.ringTurn false (fun r => s.ringDma false r && !s.ringHalted false r && (s.ring false r).punts != [] && (s.ring false r).fetched != [])).map (·.1) = some 63)
    ∧ (let d : RingDesc := { w0 := 0, w1 := 60, w2 := 0, w3 := 0 }
    let s : State := { State.reset with bus := { regs := [(pcieStat, 0x900)] }, hif := { ir := [(0, { fetched := [d] })], budget := 180 } }
    d.injectBad = none ∧ 3 * (8 * bits d.w1.toNat 17 14 + bits d.w1.toNat 13 0) ≤ s.hif.budget
    ∧ (s.ringTurn true (fun r => s.busMaster && !s.ringHalted true r && (s.ring true r).fetched != [])).map (·.1) = some 0)
    ∧ (let s : State := { State.reset with bus := { regs := [(ringReg true 5 0x10, 1), (ringReg true 5 0x18, 0x10001), (0x610800, 1), (pcieStat, 0x900), (0x70000C, 1)], ticks := 1500 }, hif := { ir := [(5, { rose := some 0 })] } }
    (s.ring true 5).rose = some 0 ∧ s.fld (ringReg true 5 0x18) 31 16 = 1 ∧ 1 ≤ s.ringUnread true 5 ∧ 0 + 1 * 1500 ≤ s.bus.ticks
    ∧ s.flag (pbaReg 0) 0 = true ∧ s.busMaster = true ∧ s.flag (mbx 0 0xC) 0 = true
    ∧ (s.mbxNow 0).withdrawn = false ∧ (s.mbxNow 0).again = none ∧ (s.mbxNow 0).popped = false)
    ∧ mbxSender .host 15 = true ∧ mbxSender .mss 31 = true ∧ mbxSender .host 16 = false ∧ mbxSender .mss 0 = false ∧ State.reset.flag (mbx 31 0xC) 0 = false := by
  decide +kernel

/-- A state and operands that meet the hypotheses of MailboxCommandsTakenAndExecuted, clause by clause. -/
theorem witness_MailboxCommandsTakenAndExecuted : (let cmd := fun (op : Nat) (p : List Byte) => ({ mb := 3, ptr := 64, tag := 7, op := op, len := p.length, cap := 5000, payload := p, dead := false, ans := none } : MssCmd)
    let s := fun (op : Nat) (p : List Byte) => ({ State.reset with bus := { regs := [(mbx 3 0xC, 1), (pcieStat, 0x900), (0x900000, 1)] }, mss := { taken := [cmd op p] } } : State)
    let s0 := s 2 []
    let a : State := { s0 with mss := { taken := [{ cmd 2 [] with ans := some (0, [1]) }] } }
    let w := fun (n : Nat) => leBytes n 8
    let p80 := w 0x0100
    let p81 := w 0x000200010001
    let p90 := w 0x0000080000000000
    let pA1 := w 0x7FF001
    let pB0 := w 0x2000000000
    s0.mssMode ≠ 0 ∧ (rotOrder (s0.mss.turn + 1) 16).find? (fun m => s0.flag (mbx m 0xC) 0) = some 3
    ∧ (s0.reg (mbx 3 0x10) + s0.reg (mbx 3 0x14) * 2 ^ 32) % 64 = 0 ∧ (s0.mbxNow 3).withdrawn = false ∧ (s0.mbxNow 3).again = none
    ∧ findIdx? (fun (c : MssCmd) => c.mb == 3) a.mss.taken = some 0 ∧ a.flag (mbx 19 0xC) 0 = false ∧ a.busMaster = true
    ∧ s0.nextCmd 2 = some (0, cmd 2 []) ∧ (s 1 []).nextCmd 1 = some (0, cmd 1 []) ∧ s0.mssMode ≠ 3
    ∧ (s 0x80 p80).nextCmd 0x80 = some (0, cmd 0x80 p80) ∧ 1 ≤ bits (word64 p80 0) 15 8 ∧ bits (word64 p80 0) 7 0 + bits (word64 p80 0) 15 8 ≤ 134
    ∧ (signed16 (bits (word64 p81 0) 31 16) : Int) < signed16 (bits (word64 p81 0) 47 32) ∧ bits (word64 p81 0) 7 0 < 134
    ∧ bits (word64 p90 0) 47 32 = 2048 ∧ bits (word64 p90 0) 49 48 = 0
    ∧ bits (word64 pA1 0) 22 12 = 2047 ∧ bits (word64 pA1 0) 10 0 + bits (word64 pA1 0) 22 12 ≤ 2048
    ∧ bits (word64 pB0 0) 37 24 = 8192)
    ∧ (let p := leBytes (0x5244 + 2 ^ 16 + 2 ^ 32) 8 ++ leBytes 1 8 ++ leBytes 0 16 ++ leBytes (32 * 2 ^ 3 + 5 * 2 ^ 24) 8 ++ leBytes 0x0A000001 8 ++ leBytes 0 48
      let s : State := { State.reset with bus := { regs := [(0x900000, 1), (tdAddr 0, 0xB0000040)] } }
      p.length = 96 ∧ word64 p 0 = 0x5244 + 2 ^ 16 + 2 ^ 32 ∧ s.tbl.lastSeq < word64 p 1 ∧ bits (word64 p 4) 2 0 = 0 ∧ bits (word64 p 4) 10 3 = 32
      ∧ word64 p 5 < 2 ^ 32 ∧ word64 p 6 = 0 ∧ 0 < s.fibRoom false
      ∧ s.wordTable 5 = some 0 ∧ s.tdBridged 0 = false ∧ s.mssMode = 1 ∧ (1 : BitVec 512) ≠ s.shadowWord 5)
    ∧ (let p : List Byte := List.replicate 208 0
      let q := [0, 3, 255] ++ p.drop 3
      q.length = 208 ∧ byteAt q 0 = 0 ∧ byteAt q 2 = 255 ∧ State.reset.eep (keySlot 0) = 0xFF ∧ State.reset.eep (keySlot 3) ≠ 0x5A
      ∧ ({ State.reset with mss := { eeprom := [(keySlot 3, 0x5A)] } } : State).eep (keySlot 3) = 0x5A)
    ∧ (let s : State := { State.reset with bus := { regs := [(0x3000000, 2), (0x3000004, 0x15)] } }
      s.servingAve 5 = some 0 ∧ s.waiter 0 supEngine 3 = none ∧ (s.chan 0 supEngine 3).length < chanDepth supEngine 3) := by
  decide +kernel

/-- A state and operands that meet the hypotheses of ManagementServicesAct, clause by clause. -/
theorem witness_ManagementServicesAct : (let w := fun (n : Nat) => leBytes n 8
    let cmd := fun (op : Nat) (p : List Byte) => ({ mb := 3, ptr := 64, tag := 7, op := op, len := p.length, cap := 5000, payload := p, dead := false, ans := none } : MssCmd)
    let s := fun (op : Nat) (p : List Byte) => ({ State.reset with mss := { taken := [cmd op p] } } : State)
    let p20 := w (95 + 3 * 2 ^ 8 + 128 * 2 ^ 24 + 128 * 2 ^ 32)
    let p22 := w (11 + 1000 * 2 ^ 4 + 2 * 2 ^ 17)
    let p30 := w 1 ++ w (32767 + 2 ^ 24 + 3300 * 2 ^ 32) ++ w 10000000 ++ w 42 ++ List.replicate 74 0
    let p40 := w 47 ++ w 1 ++ w 0 ++ w 0
    let p60 := w (8191 + 191 * 2 ^ 40) ++ List.replicate 48 0
    let p70 := w (3 + 3600 * 2 ^ 16 + 600 * 2 ^ 32) ++ List.replicate 104 0
    (s 0x20 p20).nextCmd 0x20 = some (0, cmd 0x20 p20) ∧ bits (word64 p20 0) 6 0 = 95 ∧ bits (word64 p20 0) 15 8 = 3 ∧ bits (word64 p20 0) 39 32 = 128
    ∧ bits (word64 p20 0) 31 24 + bits (word64 p20 0) 39 32 = 256
    ∧ bits (word64 p22 0) 3 0 = 11 ∧ bits (word64 p22 0) 15 4 = 1000 ∧ bits (word64 p22 0) 18 17 = 2
    ∧ p30.length = 64 + bits (word64 p30 3) 7 0 ∧ bits (word64 p30 1) 14 0 = 32767 ∧ bits (word64 p30 0) 31 0 ≠ 0 ∧ bits (word64 p30 1) 31 24 = 1
    ∧ bits (word64 p30 1) 63 32 = 3300 ∧ bits (word64 p30 2) 31 0 = 10000000 ∧ State.reset.bfd 32767 = none
    ∧ p40.length = 32 ∧ bits (word64 p40 0) 5 0 = 47 ∧ lacpMask (words64 p40 0 4) < 2 ^ 96 ∧ (lacpPorts (words64 p40 0 4)).length ≤ 16
    ∧ p60.length = 56 ∧ bits (word64 p60 0) 12 0 = 8191 ∧ bits (word64 p60 0) 47 40 = 191 ∧ State.reset.mep 8191 = none
    ∧ p70.length = 112 ∧ bits (word64 p70 0) 27 16 = 3600 ∧ bits (word64 p70 0) 47 32 = 600)
    ∧ (let x : Bfd := { b0 := 9, b1 := 5 + 3 * 2 ^ 24 + 3300 * 2 ^ 32, b2 := 3300, b3 := 0, tmpl := [], state := 3, diag := 0, remDisc := 8, remTx := 3300, remRx := 3300, remMult := 3, poll := false, fin := false, heard := 0, sentAt := 0 }
      let s : State := { State.reset with bus := { regs := [(0x900000, 1), (0x3000000, 2), (0x3000004, 0x15)], ticks := 100000000000000 }, mss := { bfd := [(5, some x)], lacp := [(0, some [0, 1, 0, 0])], resp := [(0, some [0, 0, 1, 0])], mep := [(0, some { w0 := 2 ^ 48, maid := [], remote := 0, heard := 0, delay := 0, loss := 0, sentAt := 0, seq := 0 })], ipfix := [(0, [12, 0, 1, 0, 1, 0, 0, 0])], flows := [{ key := [], pkts := 1, octets := 1, first := 0, last := 0 }] }, eng := { chan := [(chanKey 0 supEngine 4, [[BitVec.ofNat 64 (5 + 3 * 2 ^ 16 + 2 ^ 48 + 2 ^ 56)]])] } }
      s.mssMode = 1 ∧ s.servingAve 5 = some 0 ∧ s.bfdFind 9 none = some x ∧ s.bfd 5 = some x ∧ x.session = 5 ∧ s.waiter 0 supEngine 4 = none
      ∧ (s.chan 0 supEngine 4).length < chanDepth supEngine 4 ∧ s.chan 0 supEngine 4 = [[BitVec.ofNat 64 (5 + 3 * 2 ^ 16 + 2 ^ 48 + 2 ^ 56)]]
      ∧ bits (BitVec.ofNat 64 (5 + 3 * 2 ^ 16 + 2 ^ 48 + 2 ^ 56)).toNat 63 56 = 1 ∧ bits (BitVec.ofNat 64 (5 + 3 * 2 ^ 16 + 2 ^ 48 + 2 ^ 56)).toNat 51 48 = 1
      ∧ x.mult * (max x.reqRx x.remTx * 1500) ≤ s.bus.ticks - x.heard ∧ x.interval * 1500 ≤ s.bus.ticks - x.sentAt ∧ x.remRx ≠ 0 ∧ x.mult ≠ 1
      ∧ s.lacpOf 0 = some [0, 1, 0, 0] ∧ 45000000000 ≤ s.bus.ticks - (Tab.get {} s.mss.lport 0).sentAt
      ∧ respIs [0, 0, 1, 0] false 0 1 = true ∧ respIs [0, 0, 1, 0] false 0 2 = false ∧ s.mss.answers < 200000 ∧ s.resp 0 = some [0, 0, 1, 0]
      ∧ (s.mep 0).isSome ∧ ccmClocks 1 ≤ s.bus.ticks ∧ bitOf (s.collector 0 0) 2 = true ∧ bitOf (s.collector 0 0) 3 = true
      ∧ 1500000000 * bits (s.collector 0 0) 27 16 ≤ s.bus.ticks ∧ s.mss.flows[0]? ≠ none) := by decide +kernel

/-- A state and operands that meet the hypotheses of ResetsStartsAndSupplies, clause by clause. -/
theorem witness_ResetsStartsAndSupplies : (let hw : BootHw := { eepromOk := true, flashMib := 64, flashHdr := true, slow := false, loaderOk := true, crossOk := true, dramOk := true, railOk := true, hang := 0 }
    let s : State := { State.reset with bus := { regs := [(bootStat, 0x300)] }, boot := { cause := 4 } }
    State.reset.upd.writing = none ∧ State.reset.boot.held = none ∧ State.reset.boot.flashBusy = false ∧ s.boot.inReset = true ∧ (∀ n, n < 40 → (s.sensor n).value < 1520)
    ∧ RefClock.sysRef ∉ s.elec.clkBad ∧ RefClock.aonClk ∉ s.elec.clkBad ∧ 64 ≤ hw.flashMib.toNat ∧ (63 : BitVec 16).toNat < 64 ∧ s.boot.cause ≠ 1 ∧ s.fld bootStat 9 8 = 3 ∧ s.boot.pend = false)
    ∧ (let s : State := { State.reset with bus := { regs := [(0x800040, 0x80000064), (bootStat, 0x40)], ticks := 150000000 } }
      s.flag 0x800040 31 = true ∧ s.boot.kick + max (s.fld 0x800040 15 0) 100 * 1500000 ≤ s.bus.ticks ∧ s.flag bootStat 6 = true)
    ∧ (let s : State := { State.reset with bus := { regs := [(0x40, 1), (0x30000C, 1), (0x400004, 0x10000), (bootStat, 0x8000), (0x800040, 0x80000000)], ticks := 45000000000 }, boot := { inReset := false } }
      s.flag 0x800040 31 = true ∧ s.boot.kick + max (s.fld 0x800040 15 0) 100 * 1500000 ≤ s.bus.ticks ∧ s.flag bootStat 6 = false ∧ s.bootStep = 8
      ∧ s.boot.launch + s.bootTimeout ≤ s.bus.ticks ∧ s.flag 0x40 0 = true ∧ s.flag 0x400004 16 = true ∧ s.flag 0x50 8 = false ∧ s.fld 0x30000C 2 0 ≠ 0)
    ∧ RefClock.aonClk ∉ State.reset.elec.clkBad ∧ RefClock.sysRef ∉ State.reset.elec.clkBad := by decide +kernel

/-- A state and operands that meet the hypotheses of UpdateCommandsAct, clause by clause. -/
theorem witness_UpdateCommandsAct : (let cmd := fun (op : Nat) (p : List Byte) => ({ mb := 3, ptr := 64, tag := 7, op := op, len := p.length, cap := 32, payload := p, dead := false, ans := none } : MssCmd)
    let h := List.replicate 24 (0 : Byte) ++ [4] ++ List.replicate 231 0
    let s : State := { State.reset with bus := { regs := [(updStat, 0x11), (0x900000, 1)] }, upd := { header := h, body := [1, 2] }, mss := { taken := [cmd 0x101 (leBytes 2 8 ++ [3, 4])] } }
    State.reset.updState = 0 ∧ s.mssMode = 1 ∧ h.length = 256 ∧ s.updState = 1 ∧ s.nextCmd 0x101 = some (0, cmd 0x101 (leBytes 2 8 ++ [3, 4]))
    ∧ word64 (leBytes 2 8 ++ [3, 4]) 0 = s.upd.body.length ∧ s.upd.body.length + ((leBytes 2 8 ++ [3, 4]).length - 8) ≤ imgLen s.upd.header
    ∧ [1, 2, 3, 4].length = imgLen s.upd.header)
    ∧ (let hd := fun (k : Nat) => [0x49, 0x4D, 1, BitVec.ofNat 8 k] ++ List.replicate 28 0 ++ leBytes 1 4 ++ List.replicate 220 (0 : Byte)
      let s := fun (k : Nat) => ({ State.reset with bus := { regs := [(updStat, 16 * k + 2)] }, upd := { header := hd k, body := [] } } : State)
      (s 1).upd.armed = 0 ∧ (s 1).upd.bcr = none ∧ imgKind (s 3).upd.header = 3 ∧ (s 3).updState = 2 ∧ imgKind (s 1).upd.header = 1 ∧ (s 1).updState = 2
      ∧ imgKind (s 2).upd.header = 2 ∧ (s 2).updState = 2 ∧ (s 2).updReady (s 2).updUnits = true ∧ (s 2).openWord.2.updLoad.2 = true)
    ∧ (let cmd : MssCmd := { mb := 3, ptr := 64, tag := 7, op := 0x103, len := 8, cap := 16, payload := List.replicate 8 0, dead := false, ans := none }
      let s : State := { State.reset with bus := { regs := [(bootStat, 0x9080)], ticks := 90000000000 }, mss := { taken := [cmd] }, upd := { armed := 1, target := 5 }, boot := { trialEnd := some 90000000000 } }
      s.nextCmd 0x103 = some (0, cmd) ∧ s.upd.armed ≠ 0 ∧ slotsIn s.upd.armed = [0] ∧ s.slotPending (unitSlot 0) = false ∧ slotStat 0 = some psStat ∧ s.flag psStat 5 = false
      ∧ s.onTrial = true ∧ (90000000000 : Nat) ≤ s.bus.ticks ∧ s.boot.held = none ∧ s.boot.flashBusy = false)
    ∧ (let cmd : MssCmd := { mb := 3, ptr := 64, tag := 7, op := 0x103, len := 8, cap := 16, payload := List.replicate 8 0, dead := false, ans := none }
      let s : State := { State.reset with mss := { taken := [cmd] }, upd := { bcr := some (true, []) }, boot := { flashBusy := true } }
      let u : State := { s with upd := { writing := some ([], []) } }
      s.boot.flashBusy = true ∧ s.boot.held = none ∧ s.upd.writing = none ∧ s.upd.bcr = some (true, []) ∧ s.nextCmd 0x103 = some (0, cmd) ∧ u.upd.writing = some ([], [])) := by
  decide +kernel

/-- A state and operands that meet the hypotheses of TimeAndReferences, clause by clause. -/
theorem witness_TimeAndReferences : (let s : State := { State.reset with bus := { regs := [(0x200000, 0), (0x200038, 5), (refReg 0 0, 0x80000001), (refReg 1 0, 0x80000002), (trgReg 7 0, 0x80000003), (0x200300, 0x80)] }, tim := { ns := 500000000, meas := [(0, some (10, 0)), (1, some (20, 0))], caps := [[1, 2, 3]], capLatch := [1, 2, 3], txts := [[1, 2, 3, 4]], txLatch := [1, 2, 3, 4] } }
    let u : State := { s with tim := { s.tim with meas := [], setMode := 1 }, bus := { regs := [(timStat, 2), (refReg 0 0, 0x80000001)] } }
    State.reset.tickEnd.tim.setMode = 0 ∧ u.tickEnd.tim.setMode = 1 ∧ s.voteDue = true ∧ u.voteDue = true ∧ State.reset.voteDue = false
    ∧ (∀ n, n < 3 → State.reset.refExpired n = false) ∧ (∀ k, k < 8 → State.reset.flag (trgReg k 0) 31 = false) ∧ s.flag (refReg 0 0) 31 = true ∧ s.fld (refReg 0 0) 1 0 = 1 ∧ s.fld (refReg 1 0) 1 0 = 2
    ∧ s.flag 0x200000 0 = false ∧ s.timSt = 0 ∧ s.refValid 0 = some 10 ∧ s.refValid 1 = some 20 ∧ s.refValid 2 = none
    ∧ u.timSt = 2 ∧ u.refKind 0 = 1 ∧ u.refValid 0 = none ∧ u.refValid 1 = none ∧ u.refValid 2 = none
    ∧ s.flag (trgReg 6 0) 31 = false ∧ s.flag (trgReg 7 0) 31 = true ∧ s.flag (trgReg 7 0) 29 = false ∧ s.trgReached 7 = true
    ∧ s.flag 0x200300 (2 * 3 + b2n (!false)) = true ∧ Tab.get none s.tim.edge 3 = none ∧ s.tim.caps.length < 64)
    ∧ (let s : State := { State.reset with bus := { regs := [(0x200000, 0), (0x200038, 5), (refReg 0 0, 0x80000001), (refReg 1 0, 0x80000002), (refReg 2 0, 0x80000002)] }, tim := { ns := 999999999, meas := [(0, some (10, 0)), (1, some (20, 0)), (2, some (30, 0))] } }
      s.refValid 0 = some 10 ∧ s.refValid 1 = some 20 ∧ s.refValid 2 = some 30 ∧ s.voteDue = true) := by decide +kernel

/-- A state and operands that meet the hypotheses of CountersErrorsAndAgeing, clause by clause. -/
theorem witness_CountersErrorsAndAgeing : (let s : State := { State.reset with bus := { regs := [(0x400004, 0x80010000), (0x4000A0, 0xBC1428), (0x4000B0, 0x80000000), (0x500100, 0x40000000), (0x501000, 0x1003), (0x501100, 0xD040001), (0x900000, 1)], ticks := 1500000 }, err := { queue := [[1, 2]], latched := some [1, 2], hold := some 0 }, pmu := { queue := [[3]], latched := some [3] } }
    let u : State := { s with err := { s.err with raised := [(0, 60), (1, 60)] } }
    requesterNo .host = 0 ∧ pmuKnown (s.fld 0x501000 27 0) = true ∧ requesterNo .mss = 1 ∧ pmuKnown (s.fld 0x501100 27 0) = true ∧ s.mssMode < 2
    ∧ s.flag 0x500100 30 = true ∧ State.reset.flag 0x500100 30 = false ∧ s.errOwner = .host ∧ s.err.hold = some 0 ∧ 0 + max (s.fld 0x400004 15 0) 1 * 1500000 ≤ s.bus.ticks ∧ s.boot.held = none
    ∧ s.boot.flashBusy = false ∧ errClass 0x00 4 = some 3 ∧ fromTm 0x00 4 4095 = false ∧ errClass 0x50 1 = some 1 ∧ s.err.queue.length < 1024 ∧ s.flag 0x4000B0 31 = true
    ∧ s.mssMode = 1 ∧ (0 : BitVec 8).toNat < s.marginLow ∧ s.raisedMv (monDie 33) < s.maxMv ∧ Tab.get 0 s.err.stepAt (monDie 33) = 0
    ∧ (0 : BitVec 8).toNat < u.marginCrit ∧ u.maxMv ≤ u.raisedMv (monDie 15))
    ∧ (let s : State := { State.reset with bus := { regs := [(trcBase 15 1 + 8, 0x4000)] }, pmu := { traces := [(1, { entries := [(1, 2, 3)] })] } }
      s.flag (trcBase 15 1 + 8) 14 = true ∧ s.flag (trcBase 0 1 + 8) 14 = false ∧ (s.trace 0 1)[0]? = some (1, 2, 3))
    ∧ (let s : State := { State.reset with bus := { regs := [(0x4000A0, 0xBC01428), (0x900000, 1)] } }
      bits 0x3FFF011 7 0 = 17 ∧ bits 0x2000011 25 24 = 2 ∧ s.mssMode = 1) := by decide +kernel

/-- A state and operands that meet the hypotheses of InvariantKeptByEveryStep, clause by clause. -/
theorem witness_InvariantKeptByEveryStep : StateInv State.reset ∧ ∃ t, step State.reset = .next t := ⟨⟨by decide +kernel, by decide, by decide, by decide, by decide⟩, _, rfl⟩

/-- A state and operands that meet the hypotheses of WellFormedCommandsComplete, clause by clause. -/
theorem witness_WellFormedCommandsComplete : Instr.wf .vote = true ∧ Instr.wf (.registerWrite .host 0xFFFFFFC 0) = true := by decide +kernel

/-- A state that meets the hypotheses of IdleStepPassesOneClock. -/
theorem witness_IdleStepPassesOneClock : State.reset.pending = [] ∧ State.reset.bus.clk ≠ 255 := by decide

/-- A register of ResetHoldsResetValues. -/
theorem witness_ResetHoldsResetValues : (regLookup 0).isSome = true ∧ (regLookup 0xD010000).isSome = true := by decide +kernel

/-- A requester and a state that meet the hypotheses of RegisterWriteByAccessType. -/
theorem witness_RegisterWriteByAccessType : State.reset.hidden .host 0x100020 = false ∧ State.reset.hidden .mss 0x100020 = false
    ∧ (0x100020 : BitVec 28).toNat % 4 = 0 ∧ (regLookup (canonAddr 0x100020)).isSome = true ∧ ((regLookup (canonAddr 0x100020)).map (·.1.fw)) = some false
    ∧ winForeign .host (canonAddr 0x100020) = none := by decide +kernel

/-- Accesses that meet the hypotheses of RefusedAndUnmappedAccesses. -/
theorem witness_RefusedAndUnmappedAccesses : ¬ (4 = 4 ∧ (1 : BitVec 28).toNat % 4 = 0) ∧ ¬ (1 = 4 ∧ (0 : BitVec 28).toNat % 4 = 0)
    ∧ (0xFFFFFFC : BitVec 28).toNat % 4 = 0 ∧ State.reset.mapped .host 0xFFFFFFC = false := by decide +kernel

/-- A requester and a state that meet the hypotheses of HalvesOf64BitValues. -/
theorem witness_HalvesOf64BitValues : State.reset.hidden .mss 0x100000 = false ∧ State.reset.flag (ringReg true 0 8) 31 = false
    ∧ State.reset.hidden .mss 0x100040 = false := by decide +kernel

/-- States that meet the hypotheses of ArmedWhenNotPending and of ArmRejectedWhilePending. -/
theorem witness_ArmedWhenNotPending : State.reset.slotPending (.flxCal 11) = false
    ∧ ({ State.reset with bus := { regs := [(slotTgt .pmuSnap + 4, 0x10)] } } : State).slotPending .pmuSnap = true := by decide +kernel

theorem witness_ArmRejectedWhilePending : ({ State.reset with bus := { regs := [(slotTgt (.lkpUpd 1) + 4, 0x10)] } } : State).slotPending (.lkpUpd 1) = true := by
  decide +kernel

/-- States that meet the hypotheses of BeatNumberFromTai. -/
theorem witness_BeatNumberFromTai :
    (let s : State := { State.reset with tim := { everLocked := true } };
      s.flag 0x100014 1 = false ∧ s.tim.everLocked = true)
    ∧ ({ State.reset with bus := { regs := [(0x100014, 8)] } } : State).flag 0x100014 3 = true := by decide +kernel

/-- Functions and states that meet the hypotheses of ScrCommandsAcceptedOrRejected, clause by clause. -/
theorem witness_ScrCommandsAcceptedOrRejected :
    (State.reset.scrOf (.line 11) = 0 ∧ (State.reset.scrSt (.line 11)).cmd = 0
      ∧ ({ State.reset with bus := { regs := [(pgModeAddr 11, 0)] } } : State).scrBad (.line 11) = false ∧ State.reset.startDepends (.line 11) = false
      ∧ State.reset.poweredDown = false ∧ ({ State.reset with bus := { regs := [(0x900000, 2)] } } : State).poweredDown = true)
    ∧ (let s : State := { State.reset with bus := { regs := [(scrAddr .fab, 2)] } };
      s.scrOf .fab = 2 ∧ (s.scrSt .fab).cmd = 0 ∧ s.stopDepends .fab = false)
    ∧ (let s : State := { State.reset with bus := { regs := [(pgModeAddr 0, 9)] } };
      s.scrOf (.line 0) = 0 ∧ s.scrBad (.line 0) = true)
    ∧ (State.reset.scrOf .fab = 0 ∧ State.reset.scrBad .fab = false ∧ State.reset.startDepends .fab = true)
    ∧ (let s : State := { State.reset with bus := { regs := [(scrAddr (.ave 0), 2), (scrAddr .lkp, 2)] } };
      s.scrOf .lkp = 2 ∧ s.stopDepends .lkp = true)
    ∧ (let s : State := { State.reset with bus := { regs := [(scrAddr .bpm, 3)], scrs := [(scrAddr .bpm, { cmd := 1 })] } };
      s.scrOf .bpm = 3 ∧ (s.scrSt .bpm).cmd ≠ 0)
    ∧ ({ State.reset with bus := { regs := [(scrAddr .bpm, 4)] } } : State).scrOf .bpm = 4
    ∧ ({ State.reset with bus := { regs := [(scrAddr .bpm, 1)] } } : State).scrOf .bpm = 1 := by decide +kernel

/-- States that meet the hypotheses of ScrSequencesEnd. -/
theorem witness_ScrSequencesEnd :
    (let s : State := { State.reset with bus := { regs := [(scrAddr .fab, 1)], ticks := 75000000, scrs := [(scrAddr .fab, { since := 1 })] } };
      s.scrOf .fab = 1 ∧ (s.scrSt .fab).ev = none ∧ 75000000 ≤ s.bus.ticks + 1 - (s.scrSt .fab).since)
    ∧ (let s : State := { State.reset with bus := { regs := [(scrAddr (.line 3), 3)], ticks := 1500000, scrs := [(scrAddr (.line 3), { since := 1 })] } };
      s.scrOf (.line 3) = 3 ∧ s.scrDrained (.line 3) = true ∧ 1500000 ≤ s.bus.ticks + 1 - (s.scrSt (.line 3)).since)
    ∧ (let s : State := { State.reset with bus := { regs := [(scrAddr (.ave 16), 1), (scrAddr (.line 3), 1)] } };
      s.scrOf (.ave 16) = 1 ∧ (s.scrSt (.ave 16)).ev = none ∧ 32 ≤ s.usableEngines 16 ∧ s.engRetired 16 supEngine = false
      ∧ Tab.get 0 s.eng.rebuild 16 = 0 ∧ s.scrOf (.line 3) = 1 ∧ s.elec.clkBad = [])
    ∧ (let s : State := { State.reset with bus := { regs := [(scrAddr (.ave 16), 1)] }, eng := { retired := [(engKey 16 0, true), (engKey 16 1, true), (engKey 16 2, true)] } };
      s.scrOf (.ave 16) = 1 ∧ s.usableEngines 16 < 32) := by decide +kernel

/-- A state that meets the hypotheses of CrossingDeliversWholeRecords. -/
theorem witness_CrossingDeliversWholeRecords : State.reset.cross.marked = [] := by decide

/-- States that meet the hypotheses of LineDefectsSetAndCleared. -/
theorem witness_LineDefectsSetAndCleared :
    State.reset.signalBack 95 = false
    ∧ (let s : State := { State.reset with bus := { regs := (List.range 8).map fun i => (lnStat (88 + i), 3), ticks := 15000000 } };
      s.signalBack 88 = true) := by decide +kernel

/-- States that meet the hypotheses of MarkerLock. -/
theorem witness_MarkerLock : (State.reset.lock (.fab 127)).st = .search
    ∧ (({ State.reset with line := { locks := [(0, { st := .confirm, finds := 3 })] } } : State).lock (.pcs 0 0)).st = .confirm
    ∧ (({ State.reset with line := { locks := [(0, { st := .locked, misses := 4 })] } } : State).lock (.pcs 0 0)).st = .locked := by decide +kernel

/-- A state that meets the hypotheses of FecAndSer: a frame of context 191 is in reception. -/
theorem witness_FecAndSer : 3 ≤ ({ State.reset with line := { rx := [(191, 3)] } } : State).rxOf 191 := by decide +kernel

/-- States that meet the hypotheses of FramesReachTheKerb. -/
theorem witness_FramesReachTheKerb :
    (1 ≤ [(1 : Byte)].length ∧ [(1 : Byte)].length ≤ 256 ∧ State.reset.ctxScr 0 ≠ 2 ∧ ([] : List Byte).length = 0)
    ∧ (let head : List Byte := [0x01, 0x80, 0xC2, 0x00, 0x00, 0x01, 2, 0, 0, 0, 0, 2, 0x88, 0x08, 0x00, 0x01] ++ List.replicate 44 0;
      let s : State := { State.reset with bus := { regs := [(0x1000000, 2), (pgModeAddr 0, 0)] } };
      60 ≤ head.length ∧ head.length ≤ 256 ∧ s.ctxScr 0 = 2 ∧ s.rxUp 0 = true ∧ s.gathers 0 = false ∧ s.flag 0x50 8 = false ∧ isPauseFrame head = true)
    ∧ (let s : State := { State.reset with bus := { regs := [(0x1000000, 2), (pgModeAddr 0, 7)] } };
      s.rxOf 0 = 0 ∧ s.gathers 0 = true ∧ s.rxUp 0 = true)
    ∧ (let s : State := { State.reset with line := { rx := [(191, 3)], pkts := [(1, { blocks := 1, maxFrame := 256 })] } };
      3 ≤ s.rxOf 191 ∧ (s.pkt (s.rxOf 191 - 2)).bad = 0 ∧ (s.pkt (s.rxOf 191 - 2)).fec = false
      ∧ s.rxPkt 191 = some 1 ∧ (s.pkt 1).stored = true ∧ ceilDiv (min ((s.pkt 1).data.length + [(1 : Byte)].length) (s.pkt 1).maxFrame) 256 ≤ (s.pkt 1).blocks)
    ∧ (let s : State := { State.reset with bus := { regs := [(0x1000000, 2), (pgModeAddr 0, 0), (defLive 0, 1)] } };
      s.rxOf 0 = 0 ∧ s.ctxScr 0 = 2 ∧ s.rxUp 0 = false) := by decide +kernel

/-- A state and a frame that meet the hypotheses of GoodFrameIsQueued. -/
theorem witness_GoodFrameIsQueued :
    (let head : List Byte := [2, 0, 0, 0, 0, 1, 2, 0, 0, 0, 0, 2, 0x12, 0x34] ++ List.replicate 46 0;
      let s : State := { State.reset with bus := { regs := [(0x1000000, 2), (pgModeAddr 0, 0), (macCfg 0, 0x250005F2), (0x3000000, 2), (0x3000004, 0x15)] } };
      60 ≤ head.length ∧ head.length ≤ 256 ∧ s.ctxScr 0 = 2 ∧ s.rxUp 0 = true ∧ s.flag 0x50 8 = false ∧ s.standby = false ∧ isPauseFrame head = false ∧ s.kerbRoom (0 / 16) = true
      ∧ head.length + 4 ≤ s.maxFrame 0 ∧ s.flag (macCfg 0) 29 = true ∧ s.fld (macCfg 0) 27 24 = 5 ∧ s.servingAve 5 = some 0 ∧ s.uses (.kerb (0 / 16)) < 2
      ∧ s.kerbQueue 5 = [] ∧ s.flag 0x500100 31 = false ∧ s.gathers 0 = false)
    ∧ (let head : List Byte := [2, 0, 0, 0, 0, 1, 2, 0, 0, 0, 0, 2, 0x12, 0x34] ++ List.replicate 46 0;
      let s : State := { State.reset with bus := { regs := [(0x1000000, 2), (pgModeAddr 0, 7)] }, line := { gather := [(0, head)] } };
      s.ctxScr 0 = 2 ∧ s.rxUp 0 = true ∧ s.gathers 0 = true ∧ 1 ≤ s.line.nextPkt ∧ s.rxOf 0 = 0 ∧ Tab.get [] s.line.gather 0 = head
      ∧ Tab.get false s.line.gatherFec 0 = false ∧ Tab.get false s.line.gatherFcs 0 = false) := by
  decide +kernel

/-- States that meet the hypotheses of EgressFrames. -/
theorem witness_EgressFrames :
    (let r : EgressRec := { target := 0, frame := [2, 0, 0, 0, 0, 1, 2, 0, 0, 0, 0, 2, 0x12, 0x34] };
      let s : State := { State.reset with bus := { regs := [(0x1000000, 2), (pgModeAddr 0, 0)] }, line := { egress := [r] } };
      r.target < 192 ∧ s.ctxScr r.target = 2 ∧ s.txUp r.target = true ∧ s.rxUp r.target = true ∧ s.flag 0x400000 0 = false ∧ s.flag 0x50 8 = false ∧ s.standby = false
      ∧ ptpAt r.frame = none)
    ∧ (let s : State := { State.reset with bus := { regs := [(0x1000000, 2), (pgModeAddr 0, 0), (defLive 0, 1)] } };
      s.ctxScr 0 = 2 ∧ s.rxUp 0 = false)
    ∧ (let s : State := { State.reset with bus := { regs := [(pgModeAddr 0, 0)] } };
      s.ctxScr 0 ≠ 2 ∧ s.ctxOwner 0 ≠ .none) := by decide +kernel

/-- States that meet the hypotheses of FlexEAndOtn. -/
theorem witness_FlexEAndOtn :
    (∀ c : Fin 32, State.reset.cliAgrees 11 true c = true) ∧ State.reset.flxCarrier 11 = false
    ∧ ({ State.reset with bus := { regs := [(flxBase 0 + 0x100, 0x80050000)] } } : State).cliAgrees 0 false 0 = false
    ∧ (let s : State := { State.reset with bus := { regs := [(flxBase 0 + 0x10, 0x80000000)], ticks := 30000000 }, line := { crSent := [(0, 2)] } };
      Tab.get 0 s.line.crSent 0 = 2 ∧ Tab.get 0 s.line.crSent 0 ≠ 0 ∧ Tab.get 0 s.line.txAt 0 = 0 ∧ s.flxPhys 0 = [0]
      ∧ Tab.get 0 s.line.crAt 0 + max (s.fld (flxBase 0 + 0x44) 15 0) 1 * 1500000 ≤ s.bus.ticks)
    ∧ (let s : State := { State.reset with bus := { regs := [(flxBase 0 + 4, 0x100), (flxBase 1 + 0x100, 0x80010000)] }, line := { otnSw := [(0, true)] } };
      s.flxCarrier 0 = true ∧ Tab.get false s.line.otnSw 0 = true) := by decide +kernel

/-- A thread that can issue; a guard that is false; and operands at the ends of their ranges. -/
theorem witness_AluOperationsComplete :
    (let s : State := { State.reset with eng := { thr := [(thrKey 16 34 7, { st := .ready })] } };
      Issues s ⟨16, 34, 7⟩ 0 ∧ Issues s ⟨16, 34, 7⟩ 15 = Issues s ⟨16, 34, 7⟩ 15 ∧ guardTrue 9 (thr s ⟨16, 34, 7⟩).p = false) := by
  refine ⟨by decide +kernel, rfl, by decide +kernel⟩

theorem witness_ImmediateOperationsComplete :
    (let s : State := { State.reset with eng := { thr := [(thrKey 0 0 0, { st := .ready })] } };
      Issues s ⟨0, 0, 0⟩ 0 ∧ (63 : BitVec 6).toNat + (0 : BitVec 6).toNat + 1 ≤ 64 ∧ (15 : BitVec 5).toNat ≤ 15) := by decide +kernel

theorem witness_PredicateAndSharedRegisterOperations :
    (let s : State := { State.reset with eng := { thr := [(thrKey 0 0 0, { st := .ready })] } };
      Issues s ⟨0, 0, 0⟩ 0 ∧ (6 : BitVec 7).toNat ≤ 6 ∧ (15 : BitVec 5).toNat ≤ 15) := by decide +kernel

/-- A thread with a slot; addresses at the ends of the writable parts. -/
theorem witness_MemoryOperationsComplete :
    (let s : State := { State.reset with eng := { thr := [(thrKey 0 34 0, { st := .ready, script := [1, 2, 3, 4, 5, 6, 7, 8] })], slots := [(0, some {})] } };
      Issues s ⟨0, 34, 0⟩ 0 ∧ s.slot 0 (thr s ⟨0, 34, 0⟩).slot = some {} ∧ (thr s ⟨0, 34, 0⟩).script.length < 64
      ∧ 8 * (0 : BitVec 3).toNat < (thr s ⟨0, 34, 0⟩).script.length)
    ∧ (let sl : Slot := { script := [1, 2, 3, 4, 5, 6, 7, 8] };
      let s : State := { State.reset with eng := { thr := [(thrKey 0 0 0, { st := .ready, slot := 3 })], slots := [(3, some sl)] } };
      Issues s ⟨0, 0, 0⟩ 0 ∧ s.slot 0 (thr s ⟨0, 0, 0⟩).slot = some sl ∧ ((thr s ⟨0, 0, 0⟩).reg 0).toNat + (0x1FF : BitVec 12).toNat % 512 + memSize 0x1FF ≤ 512
      ∧ hvWritable (((thr s ⟨0, 0, 0⟩).reg 0).toNat + (0x0FF : BitVec 12).toNat % 512) (memSize 0x0FF) = true
      ∧ lmAddr ((thr s ⟨0, 0, 0⟩).reg 0) 0 % memSize 0 = 0 ∧ lmAddr ((thr s ⟨0, 0, 0⟩).reg 0) 0 < lmSize 0 ∧ sl.script.length < 64
      ∧ 8 * (0 : BitVec 3).toNat < sl.script.length) := by decide +kernel

/-- Valid tables and profiles with keys at the ends of their ranges. -/
theorem witness_RequestsAreIssued :
    (let s : State := { State.reset with bus := { regs := [(0x5001000, 0x90000020), (0x8000000, 2), (tcmTbl 0, 0x80000000), (tcmProf 0, 0x80000000)] }, eng := { thr := [(thrKey 0 0 0, { st := .ready })] } };
      Issues s ⟨0, 0, 0⟩ 0 ∧ NoTurnWaits s = true ∧ s.tdValid 0 = true ∧ (31 : BitVec 5).toNat + s.tdKw 0 ≤ 32 ∧ (31 : BitVec 5).toNat + s.tdRw 0 ≤ 32 ∧ s.profValid (s.admOf 0 0 (thr s ⟨0, 0, 0⟩)) 0 = true
      ∧ (62 : BitVec 6).toNat * 8 + s.profBytes (s.admOf 0 0 (thr s ⟨0, 0, 0⟩)) 0 ≤ 512 ∧ ((thr s ⟨0, 0, 0⟩).reg 0).toNat < 2 ^ 25 ∧ (Tab.get [] s.tbl.statQ (s.aveLogical 0)).length < 64
      ∧ (Tab.get [] s.tbl.statQ (s.aveLogical 0)).any (·.thr.isSome) = false ∧ s.uses (.stat (s.aveLogical 0)) < 2) := by
  decide +kernel

/-- Channels with room, with a message, and empty; a supervisor; an isolated engine. -/
theorem witness_ChannelOperationsComplete :
    (let s : State := { State.reset with bus := { regs := [(0x3000400, 0x1000000)] }, eng := { thr := [(thrKey 0 0 0, { st := .ready }), (thrKey 0 1 0, { st := .ready }), (thrKey 0 34 0, { st := .ready })], chan := [(chanKey 0 1 14, [[5]])] } };
      Issues s ⟨0, 0, 0⟩ 0 ∧ Issues s ⟨0, 1, 0⟩ 0 ∧ Issues s ⟨0, 34, 0⟩ 0 ∧ (thr s ⟨0, 0, 0⟩).stage = [] ∧ s.waiter 0 0 14 = none ∧ (s.chan 0 0 14).length < 4 ∧ s.committers = []
      ∧ s.chan 0 1 14 = [[5]] ∧ s.chan 0 0 14 = [] ∧ (28 : BitVec 5).toNat ≤ 28 ∧ s.engIso 0 1 = false ∧ s.engIso 0 0 = true
      ∧ (s.thread 0 (s.engMap 0 (((thr s ⟨0, 34, 0⟩).reg 0).toNat % 32 + 2)) 3).st = .free
      ∧ s.engMap 0 (((thr s ⟨0, 34, 0⟩).reg 0).toNat % 32) < 34
      ∧ (s.thread 0 (s.engMap 0 (((thr s ⟨0, 34, 0⟩).reg 0).toNat % 32)) (bits ((thr s ⟨0, 34, 0⟩).reg 0).toNat 10 8)).st ≠ .free) := by decide +kernel

/-- A thread with a slot whose operand names a queue, a list and a ring in range. -/
theorem witness_ControlAndDispositions :
    (let sl : Slot := { phase := .running 0 0 };
      let s : State := { State.reset with bus := { regs := [(0x5000014, 1)] }, eng := { thr := [(thrKey 0 0 0, { st := .ready, slot := 3 })], slots := [(3, some sl)] } };
      Issues s ⟨0, 0, 0⟩ 0 ∧ s.slot 0 (thr s ⟨0, 0, 0⟩).slot = some sl ∧ bits ((thr s ⟨0, 0, 0⟩).reg 0).toNat 20 0 < 1048576
      ∧ bits ((thr s ⟨0, 0, 0⟩).reg 0).toNat 41 40 < 3 ∧ bits ((thr s ⟨0, 0, 0⟩).reg 0).toNat 7 0 < 64
      ∧ bits ((thr s ⟨0, 0, 0⟩).reg 0).toNat 19 0 < s.replLists) := by decide +kernel

theorem witness_OperationWordsRoundTrip : opFits 9 (.imm .addi 4 5 0xFFF) = true ∧ opOf 0x90885FFF = some (9, .imm .addi 4 5 0xFFF) := by decide +kernel

theorem witness_OperationAloneInBundle : opFits 0 (.alu .add 31 31 31) = true ∧ opFits 0 .nop = true := by decide +kernel

end Sys2Proof.Tests
end

/-! ## What a step keeps, and that it ends

StateInv speaks of three parts of the state: the register file, the time counter and the error record queue. An update of the model keeps what it says
of them because the updates that it is made of do; so does a command, which also ends in a next state. Below stands one lemma for each update
(State.Inv.name) and one for each command (name_ends), in the model's own order, each put together from the lemmas of what its definition calls. -/

section
open Sys2Proof

namespace Sys2Proof.Machine

/-- StateInv of a state, with names for its parts: what every update keeps. -/
structure State.Inv (s : State) : Prop where
  regs : Tab.wf regReset s.bus.regs = true
  sec : s.tim.sec < 2 ^ 48
  ns : s.tim.ns < 1000000000
  frac : s.tim.frac < 65536
  queue : s.err.queue.length ≤ 1024

theorem State.inv_iff (s : State) : s.Inv ↔ StateInv s :=
  ⟨fun h => ⟨h.regs, h.sec, h.ns, h.frac, h.queue⟩, fun ⟨hr, hs, hn, hf, hq⟩ => ⟨hr, hs, hn, hf, hq⟩⟩

/-- A command ends in a next state, which keeps what the state before it keeps. -/
def Ends (s : State) (o : Host.Outcome State Fault Refusal) : Prop := ∃ t, o = .next t ∧ (s.Inv → t.Inv)

/-- What a command's execution gives, where it does not wait, keeps what StateInv wants. -/
def Answers (r : CmdResult) : Prop := ∀ x, r = some x → x.1.Inv

section
variable {s t u : State} {c : Prop} {dec : Decidable c}

/-! ### How proofs are put together: one rule for each form that an update is written in -/

theorem State.Inv.either (ht : t.Inv) (hu : u.Inv) : (if c then t else u : State).Inv := by split <;> assumption

theorem State.Inv.ite (h : s.Inv) (ht : s.Inv → t.Inv) (hu : s.Inv → u.Inv) : (if c then t else u : State).Inv := .either (ht h) (hu h)

theorem State.Inv.ifThen (h : s.Inv) (ht : s.Inv → t.Inv) : (if c then t else s : State).Inv := .either (ht h) h

theorem State.Inv.ifElse (h : s.Inv) (hu : s.Inv → u.Inv) : (if c then s else u : State).Inv := .either h (hu h)

theorem State.Inv.dite {t : c → State} {u : ¬ c → State} (ht : ∀ x, (t x).Inv) (hu : ∀ x, (u x).Inv) : (if x : c then t x else u x : State).Inv := by
  split
  · exact ht _
  · exact hu _

theorem State.Inv.foldl {β : Type} {f : State → β → State} {l : List β} (h : s.Inv) (hf : ∀ {s x}, s.Inv → (f s x).Inv) : (l.foldl f s).Inv :=
  foldl_keeps State.Inv f (fun _ _ => hf) l s h

/-- A fold that carries more than the state. -/
theorem State.Inv.foldlFst {β γ : Type} {f : State × γ → β → State × γ} {a : State × γ} {l : List β} (h : a.1.Inv)
    (hf : ∀ {a x}, a.1.Inv → (f a x).1.Inv) : (l.foldl f a).1.Inv :=
  foldl_keeps (fun a => a.1.Inv) f (fun _ _ => hf) l a h

theorem State.Inv.ofSome (h : t.Inv) (e : some t = some u) : u.Inv := Option.some.inj e ▸ h

theorem State.Inv.ofFst {γ : Type} {x : State × γ} {c : γ} (h : x.1.Inv) (e : x = (t, c)) : t.Inv := by
  subst e
  exact h

theorem Ends.next (h : s.Inv → t.Inv) : Ends s (.next t) := ⟨t, rfl, h⟩

theorem Ends.either {o p : Host.Outcome State Fault Refusal} (ho : Ends s o) (hp : Ends s p) : Ends s (if c then o else p) := by
  split <;> assumption

theorem Ends.after {o : Host.Outcome State Fault Refusal} (h : Ends t o) (ht : s.Inv → t.Inv) : Ends s o := by
  obtain ⟨u, e, hu⟩ := h
  exact ⟨u, e, fun x => hu (ht x)⟩

/-- A command carried out in the course of another. -/
theorem State.Inv.run {f : State → Host.Outcome State Fault Refusal} (h : s.Inv) (hf : Ends s (f s)) : (s.run f).Inv := by
  obtain ⟨t, e, ht⟩ := hf
  unfold State.run
  rw [e]
  exact ht h

end

/-! ### One component replaced: of most of them StateInv does not speak, and of the others in part -/

section
variable {s : State}

theorem State.Inv.withPmu {c : PmuState} (h : s.Inv) : ({ s with pmu := c } : State).Inv :=
  ⟨h.regs, h.sec, h.ns, h.frac, h.queue⟩

theorem State.Inv.withLine {c : LineState} (h : s.Inv) : ({ s with line := c } : State).Inv :=
  ⟨h.regs, h.sec, h.ns, h.frac, h.queue⟩

theorem State.Inv.withEng {c : EngState} (h : s.Inv) : ({ s with eng := c } : State).Inv :=
  ⟨h.regs, h.sec, h.ns, h.frac, h.queue⟩

theorem State.Inv.withTbl {c : TblState} (h : s.Inv) : ({ s with tbl := c } : State).Inv :=
  ⟨h.regs, h.sec, h.ns, h.frac, h.queue⟩

theorem State.Inv.withCls {c : ClsState} (h : s.Inv) : ({ s with cls := c } : State).Inv :=
  ⟨h.regs, h.sec, h.ns, h.frac, h.queue⟩

theorem State.Inv.withLrn {c : LrnState} (h : s.Inv) : ({ s with lrn := c } : State).Inv :=
  ⟨h.regs, h.sec, h.ns, h.frac, h.queue⟩

theorem State.Inv.withCross {c : CrossState} (h : s.Inv) : ({ s with cross := c } : State).Inv :=
  ⟨h.regs, h.sec, h.ns, h.frac, h.queue⟩

theorem State.Inv.withSq {c : SqState} (h : s.Inv) : ({ s with sq := c } : State).Inv :=
  ⟨h.regs, h.sec, h.ns, h.frac, h.queue⟩

theorem State.Inv.withSch {c : SchState} (h : s.Inv) : ({ s with sch := c } : State).Inv :=
  ⟨h.regs, h.sec, h.ns, h.frac, h.queue⟩

theorem State.Inv.withFab {c : FabState} (h : s.Inv) : ({ s with fab := c } : State).Inv :=
  ⟨h.regs, h.sec, h.ns, h.frac, h.queue⟩

theorem State.Inv.withHbm {c : HbmState} (h : s.Inv) : ({ s with hbm := c } : State).Inv :=
  ⟨h.regs, h.sec, h.ns, h.frac, h.queue⟩

theorem State.Inv.withHif {c : HifState} (h : s.Inv) : ({ s with hif := c } : State).Inv :=
  ⟨h.regs, h.sec, h.ns, h.frac, h.queue⟩

theorem State.Inv.withMate {c : MateState} (h : s.Inv) : ({ s with mate := c } : State).Inv :=
  ⟨h.regs, h.sec, h.ns, h.frac, h.queue⟩

theorem State.Inv.withMss {c : MssState} (h : s.Inv) : ({ s with mss := c } : State).Inv :=
  ⟨h.regs, h.sec, h.ns, h.frac, h.queue⟩

theorem State.Inv.withBoot {c : BootState} (h : s.Inv) : ({ s with boot := c } : State).Inv :=
  ⟨h.regs, h.sec, h.ns, h.frac, h.queue⟩

theorem State.Inv.withUpd {c : UpdState} (h : s.Inv) : ({ s with upd := c } : State).Inv :=
  ⟨h.regs, h.sec, h.ns, h.frac, h.queue⟩

theorem State.Inv.withElec {c : ElecState} (h : s.Inv) : ({ s with elec := c } : State).Inv :=
  ⟨h.regs, h.sec, h.ns, h.frac, h.queue⟩

theorem State.Inv.withFresh {n : Nat} (h : s.Inv) : ({ s with fresh := n } : State).Inv :=
  ⟨h.regs, h.sec, h.ns, h.frac, h.queue⟩

theorem State.Inv.withPending {cs : List Instr} (h : s.Inv) : ({ s with pending := cs } : State).Inv :=
  ⟨h.regs, h.sec, h.ns, h.frac, h.queue⟩

/-- All the components that StateInv does not speak of. -/
theorem State.Inv.others {pmu : PmuState} {line : LineState} {eng : EngState} {tbl : TblState} {cls : ClsState} {lrn : LrnState}
    {cross : CrossState} {sq : SqState} {sch : SchState} {fab : FabState} {hbm : HbmState} {hif : HifState} {mate : MateState}
    {mss : MssState} {boot : BootState} {upd : UpdState} {elec : ElecState} {fresh : Nat} {pending : List Instr} (h : s.Inv) :
    (⟨s.bus, pmu, s.err, line, eng, s.tim, tbl, cls, lrn, cross, sq, sch, fab,
      hbm, hif, mate, mss, boot, upd, elec, fresh, pending⟩ : State).Inv :=
  ⟨h.regs, h.sec, h.ns, h.frac, h.queue⟩

/-- The register bus, its register file aside. -/
theorem State.Inv.withBus {pendRegs : List (Nat × Nat × Nat)} {latch : Tab (Option Word)} {lowHalf : Tab Word} {beat : BitVec 64}
    {clk : BitVec 8} {ticks beats : Nat} {rcNow : Tab Nat} {late : Tab (Option Word)} {used : Tab Nat} {before : List (Nat × Nat × Word)}
    {scrs : Tab ScrSt} {armed : Tab (Option Armed)} {cpl : Option Completion} (h : s.Inv) :
    ({ s with bus := ⟨s.bus.regs, pendRegs, latch, lowHalf, beat, clk, ticks, beats, rcNow, late, used, before, scrs, armed,
      cpl⟩ } : State).Inv := ⟨h.regs, h.sec, h.ns, h.frac, h.queue⟩

/-- The time component, the time itself aside. -/
theorem State.Inv.withTim {res ticks setMode : Nat} {voted : Bool} {good bad : Nat} {everLocked : Bool} {hist : List Int} {holdF : Int}
    {meas : Tab (Option (Int × Nat))} {anchor : Tab Nat} {caps : List (List Nat)} {capLatch : List Nat} {txts : List (List Nat)}
    {txLatch : List Nat} {edge : Tab (Option Nat)} {latch : Tab (Nat × Nat)} {pulse : Tab Nat} {telemetry : Nat} (h : s.Inv) :
    ({ s with tim := ⟨s.tim.sec, s.tim.ns, s.tim.frac, res, ticks, setMode, voted, good, bad, everLocked, hist, holdF, meas, anchor, caps,
      capLatch, txts, txLatch, edge, latch, pulse, telemetry⟩ } : State).Inv := ⟨h.regs, h.sec, h.ns, h.frac, h.queue⟩

/-- The error unit, its queue aside. -/
theorem State.Inv.withErr {latched : Option (List Byte)} {seq lost : Nat} {tmBuf : List ErrReport} {pairs : List (Nat × Nat)}
    {secOf : Nat} {hold : Option Nat} {engErr stepAt raised : Tab Nat} {wires : List (Nat × Nat)} {remap out : List Nat}
    {rehome : Option (Nat × Nat × Nat)} (h : s.Inv) :
    ({ s with err := ⟨s.err.queue, latched, seq, lost, tmBuf, pairs, secOf, hold, engErr, stepAt, raised, wires, remap, out,
      rehome⟩ } : State).Inv := ⟨h.regs, h.sec, h.ns, h.frac, h.queue⟩

end

/-! ### The updates that StateInv rests on -/

section
variable {s : State}

theorem State.inv_reset : State.reset.Inv := ⟨rfl, by decide, by decide, by decide, Nat.zero_le _⟩

/-- A register written: the file stays canonical. -/
theorem State.Inv.setReg {a v : Nat} (h : s.Inv) : (s.setReg a v).Inv :=
  ⟨State.setReg_regs_wf s a v h.regs, h.sec, h.ns, h.frac, h.queue⟩


/-! ### Ops -/

theorem State.Inv.setFld {a hi lo v : Nat} (h : s.Inv) : (s.setFld a hi lo v).Inv := h.setReg

theorem State.Inv.setFlag {a i : Nat} {b : Bool} (h : s.Inv) : (s.setFlag a i b).Inv := h.setFld

theorem State.Inv.raise {a i : Nat} (h : s.Inv) : (s.raise a i).Inv := h.setFlag

theorem State.Inv.bumpReg {a n : Nat} (h : s.Inv) : (s.bumpReg a n).Inv := h.withBus

theorem State.Inv.rcMerge (h : s.Inv) : s.rcMerge.Inv := h.withBus.foldl (·.setReg)

theorem State.Inv.holdOld {a : Nat} (h : s.Inv) : (s.holdOld a).Inv := by
  unfold State.holdOld
  split
  · exact h
  · exact h.withBus

theorem State.Inv.use {k : Use} (h : s.Inv) : (s.use k).Inv := h.withBus

theorem State.Inv.setReg64 {a v : Nat} (h : s.Inv) : (s.setReg64 a v).Inv := h.setReg.setReg

theorem State.Inv.setRegs {a : Nat} {vs : List Nat} (h : s.Inv) : (s.setRegs a vs).Inv := h.foldl (·.setReg)

theorem State.Inv.answer {r : Requester} {a v : Nat} (h : s.Inv) : (s.answer r a v).Inv := h.withBus

theorem State.Inv.done {r : Requester} {a : Nat} (h : s.Inv) : (s.done r a).Inv := h.answer

theorem State.Inv.count {unit ev inst n : Nat} (h : s.Inv) : (s.count unit ev inst n).Inv := h.withPmu

theorem State.Inv.mateExpire (h : s.Inv) : s.mateExpire.Inv := h.ifElse (fun h => (h.ifElse (·.setFld.raise)).setFlag.withMate)

theorem State.Inv.fatal (h : s.Inv) : s.fatal.Inv := h.withErr.raise.mateExpire

theorem State.Inv.logEvent {sev unit code a0 a1 : Nat} (h : s.Inv) : (s.logEvent sev unit code a0 a1).Inv := h.setReg.others.ifThen (·.raise)

theorem State.Inv.logOpen {kind unit : Nat} (h : s.Inv) : (s.logOpen kind unit).Inv := h.withFresh.logEvent

theorem State.Inv.tellFirmware {n : Nat} (h : s.Inv) : (s.tellFirmware n).Inv := h.withMss

theorem State.Inv.errQueue {r : ErrReport} (h : s.Inv) : (s.errQueue r).Inv := by
  unfold State.errQueue
  split
  · exact ⟨h.regs, h.sec, h.ns, h.frac, by simpa using ‹_›⟩
  · exact h.withErr.raise

theorem State.Inv.errLimited {r : ErrReport} (h : s.Inv) : (s.errLimited r).Inv := h.ite (·.withErr.raise) (·.withErr.errQueue)

theorem State.Inv.isoSet {p e : Nat} {on : Bool} (h : s.Inv) : (s.isoSet p e on).Inv := h.ite (·.raise) (·.holdOld.setFlag)

theorem State.Inv.engineEcc {k : Nat} (h : s.Inv) : (s.engineEcc k).Inv := h.withErr.ifThen (·.isoSet.ifThen (·.withErr))

theorem State.Inv.errEnter {r : ErrReport} (h : s.Inv) : (s.errEnter r).Inv :=
  ((h.ifThen (·.engineEcc)).bumpReg.raise.raise.ite (·.errLimited) (·.errQueue)).ifThen (·.fatal)

theorem State.Inv.report {unit code cls inst detail : Nat} (h : s.Inv) : (s.report unit code cls inst detail).Inv := h.errEnter

theorem State.Inv.reportTm {unit code cls inst detail : Nat} (h : s.Inv) : (s.reportTm unit code cls inst detail).Inv :=
  h.ite (·.withErr) (·.withErr.raise)

theorem State.Inv.injectionFor {mem inst n : Nat} {t : State} (h : s.Inv) (e : s.injectionFor mem inst = some (n, t)) : t.Inv := by
  unfold State.injectionFor at e
  split at e
  · cases e
    exact h.setFlag.raise
  · cases e

theorem State.Inv.written' {mem inst : Nat} (h : s.Inv) : (s.written' mem inst).Inv := by
  unfold State.written'
  split
  · exact (h.injectionFor ‹_›)
  · exact h

theorem State.Inv.writtenAny {mem : Nat} (h : s.Inv) : (s.writtenAny mem).Inv := h.written'

theorem State.Inv.modSample {tag : Option Nat} {f : Sample → Sample} (h : s.Inv) : (s.modSample tag f).Inv := by
  unfold State.modSample
  split
  · exact h
  · exact h.withPmu

theorem State.Inv.closeSample {tag : Option Nat} {outcome dunit dreason : Nat} {pdrop : Bool} (h : s.Inv) :
    (s.closeSample tag outcome dunit dreason pdrop).Inv := by
  unfold State.closeSample
  split
  · exact h
  · exact h.ifElse (·.withPmu.ite (·.withPmu) (·.count.raise))

theorem State.Inv.mssSend {queue : Nat} {frame : List Byte} (h : s.Inv) : (s.mssSend queue frame).Inv := h.withCross

theorem State.Inv.setPkt {n : Nat} {p : Pkt} (h : s.Inv) : (s.setPkt n p).Inv := h.withLine

theorem State.Inv.freeBlocks {n : Nat} (h : s.Inv) : (s.freeBlocks n).Inv := h.withLine.setPkt

theorem State.Inv.forget {n : Nat} (h : s.Inv) : (s.forget n).Inv := h.freeBlocks.withLine

theorem State.Inv.dropPkt {n unit code inst : Nat} (h : s.Inv) : (s.dropPkt n unit code inst).Inv := h.count.closeSample.forget


/-! ### Line -/

theorem State.Inv.setRx {m v : Nat} (h : s.Inv) : (s.setRx m v).Inv := h.withLine

theorem State.Inv.gatherClear {m : Nat} (h : s.Inv) : (s.gatherClear m).Inv := h.withLine

theorem State.Inv.loseReception {m code : Nat} (h : s.Inv) : (s.loseReception m code).Inv := by
  unfold State.loseReception
  split
  · exact h.setPkt.setRx
  · exact h.ite (·.count.gatherClear.setRx) (·.ifThen (·.setRx))

theorem State.Inv.refreshCtx {m : Nat} (h : s.Inv) : (s.refreshCtx m).Inv := h.setReg.ifThen (·.loseReception)

theorem State.Inv.refreshPort {p : Nat} (h : s.Inv) : (s.refreshPort p).Inv := (h.ifThen (·.raise)).setFlag

theorem State.Inv.setDefect {live i : Nat} {on : Bool} (h : s.Inv) : (s.setDefect live i on).Inv := h.setFlag.ifThen (·.raise)

theorem State.Inv.refreshFlx {f : Nat} (h : s.Inv) : (s.refreshFlx f).Inv := (h.setDefect.foldl (·.setDefect)).setReg.setDefect.setDefect

theorem State.Inv.refreshGroup {g : Nat} (h : s.Inv) : (s.refreshGroup g).Inv :=
  (((h.foldl (·.refreshPort)).refreshFlx.ifElse (·.refreshFlx)).ifElse (·.foldl (·.refreshCtx))).foldl (·.ifThen (·.refreshCtx))

theorem execSignalDetectLoss_ends {lane : Fin 96} : Ends s (execSignalDetectLoss lane s) := .next (·.setFld.raise.setDefect.refreshGroup)

theorem State.Inv.unlock {which : Nat → Bool} (h : s.Inv) : (s.unlock which).Inv :=
  h.withLine.foldl (·.ite (·.setDefect) (·.ite (·.setDefect) (·.setDefect)))

theorem execSignalDetectGain_ends {lane : Fin 96} : Ends s (execSignalDetectGain lane s) :=
  .next (·.setFld.withLine.unlock.foldl (·.ifThen (·.refreshGroup)))

theorem execSignalDetectReturn_ends {port : Fin 96} : Ends s (execSignalDetectReturn port s) := .next (·.ifThen (·.setDefect.refreshGroup))

theorem State.Inv.markFecMore {m : Nat} (h : s.Inv) : (State.markFec.more s m).Inv := h.withLine

theorem State.Inv.markFec {m : Nat} (h : s.Inv) : (s.markFec m).Inv := by
  unfold State.markFec
  split
  · exact h.ite (·.markFecMore) (·.setPkt)
  · exact h.ite (·.withLine) (·.markFecMore)

theorem State.Inv.fecStart {m : Nat} (h : s.Inv) : (s.fecStart m).1.Inv := h.withLine

theorem execFecUncorrectable_ends {src : FecSource} {ctxs : List (Fin 192)} : Ends s (execFecUncorrectable src ctxs s) := by
  refine .next fun h => .foldl ?_ (·.markFec)
  split
  · exact h.setReg64.withLine
  · exact h.setDefect.withLine

theorem execSerWindowEnd_ends {port : Fin 96} {corr : Nat} : Ends s (execSerWindowEnd port corr s) :=
  .next (fun h => ((h.setReg64.withLine.ite (·.setDefect) (·.ifThen (·.setDefect))).ite (·.setDefect) (·.ifThen (·.setDefect))).refreshGroup)

theorem execLocalFaultReceived_ends {port : Fin 96} : Ends s (execLocalFaultReceived port s) := .next (·.setDefect.refreshGroup)

theorem execRemoteFaultReceived_ends {port : Fin 96} : Ends s (execRemoteFaultReceived port s) := .next (·.setDefect.refreshGroup)

theorem execFaultSequencesAbsent_ends {port : Fin 96} {isLocal : Bool} : Ends s (execFaultSequencesAbsent port isLocal s) :=
  .next (·.setDefect.refreshGroup)

theorem execRdegReceived_ends {port : Fin 96} {on : Bool} : Ends s (execRdegReceived port on s) := .next (·.setDefect)

theorem State.Inv.setKerbQueue {l : Nat} {q : List Nat} (h : s.Inv) : (s.setKerbQueue l q).Inv := h.withLine

theorem State.Inv.sampleTag {n : Nat} (h : s.Inv) : (s.sampleTag n).Inv :=
  h.ifThen (·.withFresh.ifThen (·.ite (·.withPmu.setPkt.count) (·.count.raise)))

theorem State.Inv.kerbOverflow {n : Nat} (h : s.Inv) : (s.kerbOverflow n).Inv := h.raise.dropPkt

theorem State.Inv.kerbPut {l n : Nat} (h : s.Inv) : (s.kerbPut l n).Inv := h.setPkt.ite (·.setKerbQueue) (·.setKerbQueue.kerbOverflow)

theorem State.Inv.enterKerb {n : Nat} (h : s.Inv) : (s.enterKerb n).Inv := by
  unfold State.enterKerb
  extract_lets
  split
  · exact h.dropPkt
  · exact (h.ifElse (·.sampleTag)).kerbPut

theorem State.Inv.reachKerb {n : Nat} (h : s.Inv) : (s.reachKerb n).Inv := h.ite (·.use.enterKerb) (·.withLine)

theorem State.Inv.kerbClock (h : s.Inv) : s.kerbClock.Inv := h.withLine.foldl (·.reachKerb)

theorem State.Inv.noBlock {n : Nat} {first : Bool} (h : s.Inv) : (s.noBlock n first).Inv :=
  h.raise.ite (·.withLine.setKerbQueue.dropPkt) (·.freeBlocks.setPkt)

theorem State.Inv.takeBlock {n : Nat} (h : s.Inv) : (s.takeBlock n).Inv := h.withLine.setPkt

theorem State.Inv.takeBlocks {n k : Nat} (h : s.Inv) : (s.takeBlocks n k).1.Inv := by
  fun_induction State.takeBlocks s n k with
  | case1 s => exact h
  | case2 s k room ih => exact ih h.takeBlock
  | case3 s k full m e s' room ih => exact ih h.noBlock.takeBlock
  | case4 s k full m e s' room => exact h.noBlock
  | case5 s k full e => exact h

theorem State.Inv.growFrame {n : Nat} {data : List Byte} (h : s.Inv) : (s.growFrame n data).Inv := h.setPkt.ifThen (·.takeBlocks.ifElse (·.noBlock))

theorem State.Inv.frameStart {m : Nat} {head : List Byte} {fec : Bool} (h : s.Inv) : (s.frameStart m head fec).Inv := by
  unfold State.frameStart
  refine h.ite (·.count.setRx) fun h => h.ite (·.count.setRx) fun h => h.ite (·.count.setRx) fun h => h.ite (·.setRx) fun h =>
    h.ite (·.count.setRx) fun h => ?_
  extract_lets n hash at' p _ s1
  have h1 : s1.Inv := State.Inv.setPkt h.withLine
  have taken : (s1.takeBlocks n 1).1.Inv := h1.takeBlocks
  generalize s1.takeBlocks n 1 = y at taken ⊢
  obtain ⟨t, ok⟩ := y
  exact taken.ite (fun h => h.setRx.growFrame.ifElse (·.reachKerb)) (·.noBlock.setRx)

theorem State.Inv.gatherMore {m : Nat} {data : List Byte} (h : s.Inv) : (s.gatherMore m data).Inv := by
  unfold State.gatherMore
  extract_lets old
  have started : (if old = [] then s.fecStart m else (s, Tab.get false s.line.gatherFec m)).1.Inv := by
    split
    · exact h.fecStart
    · exact h
  generalize (if old = [] then s.fecStart m else (s, Tab.get false s.line.gatherFec m)) = y at started ⊢
  obtain ⟨t, fec⟩ := y
  exact started.withLine

theorem execFrameHeaderToKerb_ends {m : Fin 192} {head : List Byte} (h : 0 < head.length) (le : head.length ≤ 256) :
    Ends s (execFrameHeaderToKerb m head s) := by
  unfold execFrameHeaderToKerb
  split
  · simp only [Bool.or_eq_true, decide_eq_true_eq] at *
    omega
  · exact .either (.next (·.gatherMore)) (.next (·.fecStart.frameStart.writtenAny))

theorem execFrameDataArrival_ends {m : Fin 192} {data : List Byte} : Ends s (execFrameDataArrival m data s) := by
  unfold execFrameDataArrival
  split
  · exact .next (·.growFrame)
  · exact .either (.next (·.gatherMore)) (.next id)

theorem State.Inv.macCount {m i n : Nat} (h : s.Inv) : (s.macCount m i n).Inv := h.setReg64

theorem State.Inv.countRx {m len : Nat} (h : s.Inv) : (s.countRx m len).Inv := h.ifThen (·.macCount.macCount)

theorem State.Inv.judge {n : Nat} {fcsOk : Bool} (h : s.Inv) : (s.judge n fcsOk).Inv := h.setPkt.ifThen (·.macCount)

theorem execFrameEnd_ends {m : Fin 192} {len : Nat} {fcsOk : Bool} : Ends s (execFrameEnd m len fcsOk s) := by
  refine .either (.next id) ?_
  split
  · exact .next (·.countRx.judge.setRx)
  · exact .either (.next (·.countRx.setRx)) (.either (.next (·.setRx)) (.either (.next (·.fecStart.count)) (.next id)))

theorem execGatherFrameComplete_ends {m : Fin 192} {fcsOk : Bool} : Ends s (execGatherFrameComplete m fcsOk s) := by
  refine .either (.next (·.gatherClear.setRx)) (.either (.next (·.gatherClear.count)) (.either (.next (·.gatherClear.count)) (.either (.next
      (·.gatherClear.countRx.count)) (.either (.next (·.gatherClear.countRx.count)) (.either (.next (·.gatherClear.countRx.macCount.count)) (.either
      (.next (·.gatherClear.countRx.count)) ?_))))))
  extract_lets
  split
  · exact .next (·.gatherClear.countRx.frameStart.growFrame.judge.setRx)
  · exact .next (·.gatherClear.countRx.frameStart.setRx)

theorem State.Inv.applyCli {f : Nat} (h : s.Inv) : (s.applyCli f).Inv := h.foldl (·.withLine)

theorem State.Inv.setCalFail {f mask : Nat} (h : s.Inv) : (s.setCalFail f mask).Inv := (h.withLine.ifElse (·.raise)).refreshGroup

theorem State.Inv.calSwitchRequest {f : Nat} (h : s.Inv) : (s.calSwitchRequest f).Inv :=
  h.ite (·.setCalFail.ite (·.withLine) (·.withLine)) (·.setCalFail.raise)

theorem State.Inv.txSwitch {f : Nat} (h : s.Inv) : (s.txSwitch f).Inv := h.setFlag.withLine.applyCli.refreshGroup

theorem State.Inv.flxClock (h : s.Inv) : s.flxClock.Inv := h.foldl (·.txSwitch)

theorem State.Inv.loseInFlight {m : Nat} (h : s.Inv) : (s.loseInFlight m).Inv := by
  unfold State.loseInFlight
  split
  · exact h.setPkt.setRx.ifThen (·.macCount)
  · exact h.ifThen (·.withLine)

theorem State.Inv.takeRxCli {f : Nat} (h : s.Inv) : (s.takeRxCli f).Inv := h.foldl (·.withLine)

theorem State.Inv.rxSwitch {f : Nat} (h : s.Inv) : (s.rxSwitch f).Inv := (h.setFlag.foldl (·.ifThen (·.loseInFlight))).takeRxCli

theorem execCrReceived_ends {f : Fin 12} {calB : Bool} : Ends s (execCrReceived f calB s) := by
  refine .either (.next id) ?_
  extract_lets
  split <;> exact .next (·.withLine.setCalFail)

theorem execCaReceived_ends {f : Fin 12} {k : Fin 8} {calB : Bool} : Ends s (execCaReceived f k calB s) :=
  .either (.either (.next (·.others)) (.next (·.withLine))) (.next id)

theorem execCBitFlipReceived_ends {f : Fin 12} : Ends s (execCBitFlipReceived f s) := .either (.next id) (.next (·.rxSwitch))

theorem execCaTimeout_ends {f : Fin 12} : Ends s (execCaTimeout f s) := .either (.next id) (.next (·.withLine.raise))

theorem State.Inv.judgeCal {f : Nat} (h : s.Inv) : (s.judgeCal f).Inv := h.ifElse (·.withLine)

theorem execFlexeOverheadFrame_ends {f : Fin 12} {k : Fin 8} {group : BitVec 20} {phyMap : BitVec 256} {mfOk rpf : Bool} {skewNs : Nat}
    {cal : List (BitVec 16)} : Ends s (execFlexeOverheadFrame f k group phyMap mfOk rpf skewNs cal s) :=
  .next (·.withLine.judgeCal.refreshGroup)

theorem State.Inv.flxReset {f : Nat} (h : s.Inv) : (s.flxReset f).Inv := h.withLine

theorem execOtnCalendarSwitch_ends {g : Fin 12} {transmit : Bool} : Ends s (execOtnCalendarSwitch g transmit s) :=
  .either (.either (.next (·.withLine.txSwitch)) (.next id)) (.either (.next (·.rxSwitch)) (.next id))

theorem State.Inv.setTti {a : Nat} {v : BitVec 512} (h : s.Inv) : (s.setTti a v).Inv := h.foldl (·.setReg)

theorem State.Inv.takeTti {g : Nat} {pm : Bool} {v : BitVec 512} (h : s.Inv) : (s.takeTti g pm v).Inv := h.withLine.ifThen (·.setTti.setDefect)

theorem execOtnMultiframeReceived_ends {g : Fin 12} {aligned : Bool} {smTti pmTti : BitVec 512} {smBdi pmBdi : Bool} {smBip pmBip smBei pmBei : Nat}
    {maint : Bool} : Ends s (execOtnMultiframeReceived g aligned smTti pmTti smBdi pmBdi smBip pmBip smBei pmBei maint s) :=
  .either (.next (·.setDefect.refreshGroup)) (.next
    (·.setDefect.takeTti.takeTti.setDefect.setDefect.setDefect.bumpReg.bumpReg.bumpReg.bumpReg.withLine.refreshGroup))

theorem State.Inv.setDefectOpt {live i : Nat} {b : Option Bool} (h : s.Inv) : (s.setDefectOpt live i b).Inv := by
  unfold State.setDefectOpt
  split
  · exact h
  · exact h.setDefect

theorem execOtnSecond_ends {g : Fin 12} : Ends s (execOtnSecond g s) := .next (·.withLine.setDefectOpt.setDefectOpt.setDefect)

theorem State.Inv.setLock {k : LockId} {x : Lock} (h : s.Inv) : (s.setLock k x).Inv := h.withLine

theorem State.Inv.pcsReset {g : Nat} (h : s.Inv) : (s.pcsReset g).Inv := (h.withLine.foldl (·.setFld)).setFld

theorem State.Inv.lockDefects {k : LockId} {lost deskewOk : Bool} (h : s.Inv) : (s.lockDefects k lost deskewOk).Inv := by
  unfold State.lockDefects
  split
  · exact ((h.ite (·.setDefect) (·.ifThen (·.setDefect))).ifThen (·.setDefect)).refreshGroup
  · exact (h.ite (·.setDefect) (·.ifThen (·.setDefect))).refreshGroup
  · exact (h.ite (·.setDefect) (·.ifThen (·.setDefect))).refreshGroup
  · exact h


/-! ### Parse -/

theorem State.Inv.setSlot {p slot : Nat} {x : Option Slot} (h : s.Inv) : (s.setSlot p slot x).Inv := h.withEng

theorem State.Inv.graphRewrite {p o : Nat} (h : s.Inv) : (s.graphRewrite p o).Inv := h.withEng

theorem State.Inv.graphMemErr {p o : Nat} (h : s.Inv) : (s.graphMemErr p o).Inv := h.graphRewrite.report

theorem State.Inv.parsed {p slot : Nat} {memErr : Option Nat} (h : s.Inv) : (s.parsed p slot memErr).Inv := by
  unfold State.parsed
  split
  · exact h
  · exact (h.ifThen (·.graphMemErr)).setSlot

theorem State.Inv.parseEnds (h : s.Inv) : s.parseEnds.Inv := h.foldl (·.parsed)

theorem execHeaderVectorComplete_ends {p : Fin 17} {slot : Fin 1024} {memErr : Option Nat} : Ends s (execHeaderVectorComplete p slot memErr s) := by
  refine .next (fun h => ?_)
  split
  · exact h
  · exact h.ifThen (·.parsed)

theorem execRecirculationQueueTransfer_ends {l : Fin 16} : Ends s (execRecirculationQueueTransfer l s) := by
  unfold execRecirculationQueueTransfer
  split
  · exact .next id
  · exact .next (·.withLine.use.kerbPut)

theorem State.Inv.pgTouched {b : Bool} (h : s.Inv) : (s.pgTouched b).Inv := by
  unfold State.pgTouched
  extract_lets
  split
  · exact h.setFlag.ifThen (·.withEng)
  · exact h.setFlag

theorem execPgCheck_ends {bankB : Bool} : Ends s (execPgCheck bankB s) := .either (.next (·.setFlag.raise)) (.next (·.setFlag.withEng.setFlag))

theorem execPgCheckComplete_ends : Ends s (execPgCheckComplete s) := by
  unfold execPgCheckComplete
  split
  · exact .next id
  next c _ =>
    extract_lets _ s1
    have kept (h : s.Inv) : s1.Inv := State.Inv.setFlag h.withEng
    clear_value s1
    generalize s.graphFault c.bankB = fault
    obtain ⟨code, ix⟩ := fault
    exact .next fun h => (kept h).setReg.ifThen (·.setFlag)

theorem State.Inv.pgSwitch (h : s.Inv) : s.pgSwitch.Inv := h.ite (·.setFlag) (·.raise)


/-! ### Operands -/

theorem State.Inv.setThread {p e t : Nat} {x : Thr} (h : s.Inv) : (s.setThread p e t x).Inv := h.withEng.ifThen (·.withEng)

theorem State.Inv.setSreg {p e n : Nat} {v : Dword} (h : s.Inv) : (s.setSreg p e n v).Inv := h.withEng

theorem State.Inv.setChan {p e c : Nat} {q : List (List Dword)} (h : s.Inv) : (s.setChan p e c q).Inv := h.withEng

theorem State.Inv.putMsg {p e c : Nat} {msg : List Dword} (h : s.Inv) : (s.putMsg p e c msg).Inv := by
  unfold State.putMsg
  split
  · extract_lets
    split
    · exact h.setThread
    · exact h
  · exact h.setChan

theorem State.Inv.commitBlocked {p e t : Nat} (h : s.Inv) : (s.commitBlocked p e t).Inv := by
  unfold State.commitBlocked
  extract_lets
  split
  · exact h
  · exact h.ifThen (·.setThread.putMsg)

theorem State.Inv.commitWaiting (h : s.Inv) : s.commitWaiting.Inv := h.foldl (·.commitBlocked)

theorem State.Inv.commitBefore {p te tc key : Nat} (h : s.Inv) : (s.commitBefore p te tc key).Inv := h.foldl (·.commitBlocked)


/-! ### TableAddr -/

theorem State.Inv.setRaw {w : Nat} {l : Line} (h : s.Inv) : (s.setRaw w l).Inv := h.ite (·.withTbl) (·.withTbl)

theorem State.Inv.modReq {key i : Nat} {f : Req → Req} (h : s.Inv) : (s.modReq key i f).Inv := by
  unfold State.modReq
  extract_lets
  split
  · exact h
  · exact h.withEng

theorem State.Inv.putTurn {r : TurnRef} (h : s.Inv) : (s.putTurn r).Inv := h.modReq

theorem State.Inv.enterOne {who : Nat → Bool} {bank : Nat} (h : s.Inv) : (s.enterOne who bank).Inv := by
  refine h.ifElse (fun h => ?_)
  split
  · exact h
  · exact h.putTurn

theorem State.Inv.enterBank {who : Nat → Bool} {bank : Nat} (h : s.Inv) : (s.enterBank who bank).Inv := h.foldl (·.enterOne)

theorem State.Inv.noteProbe {p e t : Nat} {q : Req} (h : s.Inv) : (s.noteProbe p e t q).1.Inv := by
  unfold State.noteProbe
  extract_lets
  split
  · split
    · exact h.setSlot
    · exact h
  · exact h

theorem State.Inv.addTurns {p e t i : Nat} {ts : List Turn} (h : s.Inv) : (s.addTurns p e t i ts).Inv := by
  unfold State.addTurns
  extract_lets
  split
  · exact h
  · exact (h.setThread.foldl (·.enterBank)).ifThen (·.count)

theorem State.Inv.sendReq {p e t : Nat} {q : Req} (h : s.Inv) : (s.sendReq p e t q).Inv := by
  unfold State.sendReq
  extract_lets
  split
  · exact h.withTbl.ite (·.setThread) (·.use)
  · exact h.setThread.addTurns

theorem State.Inv.request {p e t : Nat} {q0 : Req} (h : s.Inv) : (s.request p e t q0).Inv := h.noteProbe.ite (·.sendReq) (·.setThread)


/-! ### Isa -/

theorem State.Inv.sendFault {p : Nat} {r : List Dword} (h : s.Inv) : (s.sendFault p r).Inv := h.ite (·.putMsg.withEng.writtenAny) (·.withEng.raise)

theorem State.Inv.dispose {p slot : Nat} {d : Disp} {script : List Byte} (h : s.Inv) : (s.dispose p slot d script).Inv := by
  unfold State.dispose
  split
  · exact h
  · exact h.setSlot

theorem State.Inv.threadFault {p e t code detail opslot pc : Nat} (h : s.Inv) : (s.threadFault p e t code detail opslot pc).Inv :=
  h.raise.ite (·.setThread.sendFault) (fun h => (h.setThread.ifThen (·.dispose)).sendFault)

theorem State.Inv.commit {p e t c : Nat} (h : s.Inv) : (s.commit p e t c).Inv := h.commitBefore.ite (·.setThread.putMsg) (·.setThread)

theorem State.Inv.abortThread {p t w : Nat} (h : s.Inv) : (s.abortThread p t w).Inv := h.ifElse (·.threadFault)

theorem State.Inv.breakpoint {p e t : Nat} (h : s.Inv) : (s.breakpoint p e t).Inv := h.ite (·.setThread) (·.count)

theorem State.Inv.takeMsg {p e c : Nat} {m : List Dword} {t : State} (h : s.Inv) (eq : s.takeMsg p e c = some (m, t)) : t.Inv := by
  unfold State.takeMsg at eq
  split at eq
  · cases eq
  · cases eq
    exact h.setChan

theorem State.Inv.modThread {p e t : Nat} {f : Thr → Thr} (h : s.Inv) : (s.modThread p e t f).Inv := h.setThread

theorem State.Inv.modScript {p e t slot : Nat} {f : List Byte → List Byte} (h : s.Inv) : (s.modScript p e t slot f).Inv := by
  refine h.ite (·.modThread) (fun h => ?_)
  split
  · exact h
  · exact h.setSlot

theorem State.Inv.writeHv {p slot a : Nat} {bs : List Byte} (h : s.Inv) : (s.writeHv p slot a bs).Inv := by
  unfold State.writeHv
  split
  · exact h
  · exact h.setSlot

theorem State.Inv.opApply {s0 : State} {p e t : Nat} {x : Thr} {lit : Word} {o : Op} (h : s.Inv) : (s0.opApply p e t x lit o s).Inv := by
  unfold State.opApply
  extract_lets
  split
  · exact h
  · exact h.modThread
  · exact h.modThread
  · exact h.modThread
  · exact h.modThread
  · exact h.modThread
  · exact h.modThread
  · exact h.modThread
  · exact h.modThread
  · exact h.modThread
  · exact h.modThread
  · exact h.modThread
  · exact h.modThread
  · exact h.modThread
  · exact h.modThread
  · exact h.setSreg
  · exact h.modThread.setSreg
  · split
    exacts [h.modThread, h.writeHv, h.modThread, h.withEng]
  · exact h.modScript
  · exact h.modScript
  · exact h.modScript
  · exact h.request
  · exact h.request
  · exact h.request
  · exact h.ite (·.count) (·.request)
  · exact h.modThread
  · exact h.modThread.ifThen (·.commit)
  · split
    · exact (h.takeMsg ‹_›).modThread
    · exact h.modThread
  · split
    · exact (h.takeMsg ‹_›).modThread
    · exact h.modThread
  · exact h.abortThread
  · exact h.breakpoint
  · exact h
  · exact h.modThread
  · exact h.modThread
  · exact h
  · exact h

theorem State.Inv.endProgram {p e t : Nat} {x : Thr} {kind w : Nat} (h : s.Inv) : (s.endProgram p e t x kind w).Inv := h.modSample.dispose.setThread

theorem State.Inv.setTrace {l k : Nat} {es : List (BitVec 64 × BitVec 64 × BitVec 64)} (h : s.Inv) : (s.setTrace l k es).Inv := h.withPmu.setFld

theorem State.Inv.endTrace {l k cause : Nat} (h : s.Inv) : (s.endTrace l k cause).Inv := h.ifThen (·.setFlag.setFlag.setFld)

theorem State.Inv.traceEntry {l k : Nat} {en : BitVec 64 × BitVec 64 × BitVec 64} (h : s.Inv) : (s.traceEntry l k en).Inv :=
  h.count.ite (·.setTrace) (·.setTrace.ifThen (·.endTrace))

theorem State.Inv.traceIssue {p e t : Nat} {x : Thr} {b : BitVec 128} (h : s.Inv) : (s.traceIssue p e t x b).Inv := by
  unfold State.traceIssue
  split
  · exact h
  · exact h.ifElse (fun h => (h.ifThen (·.setFlag)).ifThen (·.traceEntry.ifThen (·.endTrace)))

theorem State.Inv.traceResp {p e t : Nat} {q : Req} {w : Dword} (h : s.Inv) : (s.traceResp p e t q w).Inv := by
  unfold State.traceResp
  split
  · exact h
  · exact h.ifThen (·.traceEntry)

theorem State.Inv.applyOps {s0 : State} {p e t : Nat} {x : Thr} {os : List SlotOp} (h : s.Inv) : (State.applyOps s0 p e t x os s).Inv := by
  induction os generalizing s with
  | nil => exact h
  | cons o os ih => exact ih (h.ifThen (·.opApply))

theorem State.Inv.advance {p e t : Nat} {x : Thr} {low : Nat} {ops : List SlotOp} (h : s.Inv) : (s.advance p e t x low ops).Inv := by
  unfold State.advance
  split
  · split
    · exact h.endProgram
    · exact h
  · split
    · exact h.modThread
    · exact h.ite (·.threadFault) (·.modThread)

theorem State.Inv.issueNow {p e t : Nat} {b : BitVec 128} (h : s.Inv) : (s.issueNow p e t b).Inv := by
  unfold State.issueNow
  extract_lets x s1 s2 s3 tag
  split
  next ops bad _ =>
  extract_lets nreq s4 s5
  have h2 : s2.Inv := h.use.count.traceIssue
  have h5 : s5.Inv := by
    unfold s5
    split
    · exact h2.threadFault
    · exact h2.setThread.modSample.applyOps.advance
  exact h5.ifThen (·.modThread)

theorem State.Inv.issue {p e t : Nat} {b : BitVec 128} (h : s.Inv) : (s.issue p e t b).Inv := h.ite (·.setThread) (·.ifElse (·.issueNow))

theorem State.Inv.issueEngine {p e n : Nat} {ecc : Ecc} {skip : List Nat} (h : s.Inv) : (s.issueEngine p e ecc n skip).Inv := by
  induction n generalizing s ecc skip with
  | zero => exact h
  | succ n ih =>
    unfold State.issueEngine
    split
    · exact h
    · extract_lets x k a s1 held s2
      split
      · exact h.use.report.threadFault
      · exact h.use.report.threadFault
      · have h1 : s1.Inv := by
          unfold s1
          split
          · exact h.report
          · exact h.report
          · exact h
        have h2 : s2.Inv := h1.issue
        exact .either (ih h2) h2

theorem execBundleIssue_ends {p : Fin 17} {e : Fin 35} {ecc : Ecc} : Ends s (execBundleIssue p e ecc s) := .next (·.ifElse (·.issueEngine.written'))

theorem State.Inv.runOp {t : Tid} {gd : BitVec 4} {o : Op} {lit : Word} (h : s.Inv) : (s.runOp t gd o lit).Inv := h.ifThen (·.issue)

theorem execNop_ends {t : Tid} {gd : BitVec 4} : Ends s (execNop t gd s) := .next (·.runOp)

theorem execAdd_ends {t : Tid} {gd : BitVec 4} {rd ra rb : BitVec 5} : Ends s (execAdd t gd rd ra rb s) := .next (·.runOp)

theorem execSub_ends {t : Tid} {gd : BitVec 4} {rd ra rb : BitVec 5} : Ends s (execSub t gd rd ra rb s) := .next (·.runOp)

theorem execAnd_ends {t : Tid} {gd : BitVec 4} {rd ra rb : BitVec 5} : Ends s (execAnd t gd rd ra rb s) := .next (·.runOp)

theorem execOr_ends {t : Tid} {gd : BitVec 4} {rd ra rb : BitVec 5} : Ends s (execOr t gd rd ra rb s) := .next (·.runOp)

theorem execXor_ends {t : Tid} {gd : BitVec 4} {rd ra rb : BitVec 5} : Ends s (execXor t gd rd ra rb s) := .next (·.runOp)

theorem execAndn_ends {t : Tid} {gd : BitVec 4} {rd ra rb : BitVec 5} : Ends s (execAndn t gd rd ra rb s) := .next (·.runOp)

theorem execShl_ends {t : Tid} {gd : BitVec 4} {rd ra rb : BitVec 5} : Ends s (execShl t gd rd ra rb s) := .next (·.runOp)

theorem execShr_ends {t : Tid} {gd : BitVec 4} {rd ra rb : BitVec 5} : Ends s (execShr t gd rd ra rb s) := .next (·.runOp)

theorem execSar_ends {t : Tid} {gd : BitVec 4} {rd ra rb : BitVec 5} : Ends s (execSar t gd rd ra rb s) := .next (·.runOp)

theorem execRol_ends {t : Tid} {gd : BitVec 4} {rd ra rb : BitVec 5} : Ends s (execRol t gd rd ra rb s) := .next (·.runOp)

theorem execMin_ends {t : Tid} {gd : BitVec 4} {rd ra rb : BitVec 5} : Ends s (execMin t gd rd ra rb s) := .next (·.runOp)

theorem execMax_ends {t : Tid} {gd : BitVec 4} {rd ra rb : BitVec 5} : Ends s (execMax t gd rd ra rb s) := .next (·.runOp)

theorem execMinu_ends {t : Tid} {gd : BitVec 4} {rd ra rb : BitVec 5} : Ends s (execMinu t gd rd ra rb s) := .next (·.runOp)

theorem execMaxu_ends {t : Tid} {gd : BitVec 4} {rd ra rb : BitVec 5} : Ends s (execMaxu t gd rd ra rb s) := .next (·.runOp)

theorem execMul_ends {t : Tid} {gd : BitVec 4} {rd ra rb : BitVec 5} : Ends s (execMul t gd rd ra rb s) := .next (·.runOp)

theorem execMulhu_ends {t : Tid} {gd : BitVec 4} {rd ra rb : BitVec 5} : Ends s (execMulhu t gd rd ra rb s) := .next (·.runOp)

theorem execCsadd_ends {t : Tid} {gd : BitVec 4} {rd ra rb : BitVec 5} : Ends s (execCsadd t gd rd ra rb s) := .next (·.runOp)

theorem execCrc32_ends {t : Tid} {gd : BitVec 4} {rd ra rb : BitVec 5} : Ends s (execCrc32 t gd rd ra rb s) := .next (·.runOp)

theorem execClz_ends {t : Tid} {gd : BitVec 4} {rd ra : BitVec 5} : Ends s (execClz t gd rd ra s) := .next (·.runOp)

theorem execPopc_ends {t : Tid} {gd : BitVec 4} {rd ra : BitVec 5} : Ends s (execPopc t gd rd ra s) := .next (·.runOp)

theorem execBswap_ends {t : Tid} {gd : BitVec 4} {rd ra : BitVec 5} : Ends s (execBswap t gd rd ra s) := .next (·.runOp)

theorem execAddi_ends {t : Tid} {gd : BitVec 4} {rd ra : BitVec 5} {imm : BitVec 12} : Ends s (execAddi t gd rd ra imm s) := .next (·.runOp)

theorem execAndi_ends {t : Tid} {gd : BitVec 4} {rd ra : BitVec 5} {imm : BitVec 12} : Ends s (execAndi t gd rd ra imm s) := .next (·.runOp)

theorem execOri_ends {t : Tid} {gd : BitVec 4} {rd ra : BitVec 5} {imm : BitVec 12} : Ends s (execOri t gd rd ra imm s) := .next (·.runOp)

theorem execXori_ends {t : Tid} {gd : BitVec 4} {rd ra : BitVec 5} {imm : BitVec 12} : Ends s (execXori t gd rd ra imm s) := .next (·.runOp)

theorem execShli_ends {t : Tid} {gd : BitVec 4} {rd ra : BitVec 5} {sh : BitVec 6} : Ends s (execShli t gd rd ra sh s) := .next (·.runOp)

theorem execShri_ends {t : Tid} {gd : BitVec 4} {rd ra : BitVec 5} {sh : BitVec 6} : Ends s (execShri t gd rd ra sh s) := .next (·.runOp)

theorem execSari_ends {t : Tid} {gd : BitVec 4} {rd ra : BitVec 5} {sh : BitVec 6} : Ends s (execSari t gd rd ra sh s) := .next (·.runOp)

theorem execExt_ends {t : Tid} {gd : BitVec 4} {rd ra : BitVec 5} {pos len1 : BitVec 6} : Ends s (execExt t gd rd ra pos len1 s) := .next (·.runOp)

theorem execIns_ends {t : Tid} {gd : BitVec 4} {rd ra : BitVec 5} {pos len1 : BitVec 6} : Ends s (execIns t gd rd ra pos len1 s) := .next (·.runOp)

theorem execMovi_ends {t : Tid} {gd : BitVec 4} {rd : BitVec 5} {imm : BitVec 17} : Ends s (execMovi t gd rd imm s) := .next (·.runOp)

theorem execLimm_ends {t : Tid} {gd : BitVec 4} {rd : BitVec 5} {lit : Word} : Ends s (execLimm t gd rd lit s) := .next (·.runOp)

theorem execLimmh_ends {t : Tid} {gd : BitVec 4} {rd : BitVec 5} {lit : Word} : Ends s (execLimmh t gd rd lit s) := .next (·.runOp)

theorem execCmp_ends {t : Tid} {gd : BitVec 4} {cond : BitVec 7} {pd : BitVec 3} {ra rb : BitVec 5} : Ends s (execCmp t gd cond pd ra rb s) :=
  .next (·.runOp)

theorem execCmpeqi_ends {t : Tid} {gd : BitVec 4} {pd : BitVec 3} {ra : BitVec 5} {imm : BitVec 12} : Ends s (execCmpeqi t gd pd ra imm s) :=
  .next (·.runOp)

theorem execCmpnei_ends {t : Tid} {gd : BitVec 4} {pd : BitVec 3} {ra : BitVec 5} {imm : BitVec 12} : Ends s (execCmpnei t gd pd ra imm s) :=
  .next (·.runOp)

theorem execCmplti_ends {t : Tid} {gd : BitVec 4} {pd : BitVec 3} {ra : BitVec 5} {imm : BitVec 12} : Ends s (execCmplti t gd pd ra imm s) :=
  .next (·.runOp)

theorem execCmpgei_ends {t : Tid} {gd : BitVec 4} {pd : BitVec 3} {ra : BitVec 5} {imm : BitVec 12} : Ends s (execCmpgei t gd pd ra imm s) :=
  .next (·.runOp)

theorem execCmpltui_ends {t : Tid} {gd : BitVec 4} {pd : BitVec 3} {ra : BitVec 5} {imm : BitVec 12} : Ends s (execCmpltui t gd pd ra imm s) :=
  .next (·.runOp)

theorem execCmpgeui_ends {t : Tid} {gd : BitVec 4} {pd : BitVec 3} {ra : BitVec 5} {imm : BitVec 12} : Ends s (execCmpgeui t gd pd ra imm s) :=
  .next (·.runOp)

theorem execTsti_ends {t : Tid} {gd : BitVec 4} {pd : BitVec 3} {ra : BitVec 5} {imm : BitVec 12} : Ends s (execTsti t gd pd ra imm s) :=
  .next (·.runOp)

theorem execPlog_ends {t : Tid} {gd : BitVec 4} {fn : BitVec 7} {pd pa pb : BitVec 3} : Ends s (execPlog t gd fn pd pa pb s) := .next (·.runOp)

theorem execMovp_ends {t : Tid} {gd : BitVec 4} {rd : BitVec 5} : Ends s (execMovp t gd rd s) := .next (·.runOp)

theorem execPmov_ends {t : Tid} {gd : BitVec 4} {ra : BitVec 5} : Ends s (execPmov t gd ra s) := .next (·.runOp)

theorem execRds_ends {t : Tid} {gd : BitVec 4} {rd n : BitVec 5} : Ends s (execRds t gd rd n s) := .next (·.runOp)

theorem execWrs_ends {t : Tid} {gd : BitVec 4} {n rb : BitVec 5} : Ends s (execWrs t gd n rb s) := .next (·.runOp)

theorem execFadds_ends {t : Tid} {gd : BitVec 4} {rd n rb : BitVec 5} : Ends s (execFadds t gd rd n rb s) := .next (·.runOp)

theorem execHld_ends {t : Tid} {gd : BitVec 4} {rd ra : BitVec 5} {imm : BitVec 12} : Ends s (execHld t gd rd ra imm s) := .next (·.runOp)

theorem execHst_ends {t : Tid} {gd : BitVec 4} {rd ra : BitVec 5} {imm : BitVec 12} : Ends s (execHst t gd rd ra imm s) := .next (·.runOp)

theorem execLld_ends {t : Tid} {gd : BitVec 4} {rd ra : BitVec 5} {imm : BitVec 12} : Ends s (execLld t gd rd ra imm s) := .next (·.runOp)

theorem execLst_ends {t : Tid} {gd : BitVec 4} {rd ra : BitVec 5} {imm : BitVec 12} : Ends s (execLst t gd rd ra imm s) := .next (·.runOp)

theorem execEput_ends {t : Tid} {gd : BitVec 4} {ra : BitVec 5} : Ends s (execEput t gd ra s) := .next (·.runOp)

theorem execEset_ends {t : Tid} {gd : BitVec 4} {ra : BitVec 5} {k : BitVec 3} : Ends s (execEset t gd ra k s) := .next (·.runOp)

theorem execEclr_ends {t : Tid} {gd : BitVec 4} : Ends s (execEclr t gd s) := .next (·.runOp)

theorem execLkp_ends {t : Tid} {gd : BitVec 4} {rd ra : BitVec 5} {table : BitVec 10} : Ends s (execLkp t gd rd ra table s) := .next (·.runOp)

theorem execTcs_ends {t : Tid} {gd : BitVec 4} {rd : BitVec 5} {hoff : BitVec 6} {prof : BitVec 8} : Ends s (execTcs t gd rd hoff prof s) :=
  .next (·.runOp)

theorem execPol_ends {t : Tid} {gd : BitVec 4} {rd ra : BitVec 5} : Ends s (execPol t gd rd ra s) := .next (·.runOp)

theorem execStat_ends {t : Tid} {gd : BitVec 4} {ra rb : BitVec 5} : Ends s (execStat t gd ra rb s) := .next (·.runOp)

theorem execWaitr_ends {t : Tid} {gd : BitVec 4} : Ends s (execWaitr t gd s) := .next (·.runOp)

theorem execSend_ends {t : Tid} {gd : BitVec 4} {ra : BitVec 5} {last : Bool} {ch : BitVec 4} : Ends s (execSend t gd ra last ch s) := .next (·.runOp)

theorem execRecv_ends {t : Tid} {gd : BitVec 4} {rd : BitVec 5} {ch : BitVec 4} : Ends s (execRecv t gd rd ch s) := .next (·.runOp)

theorem execRecvt_ends {t : Tid} {gd : BitVec 4} {rd : BitVec 5} {pd : BitVec 3} {ch : BitVec 4} : Ends s (execRecvt t gd rd pd ch s) :=
  .next (·.runOp)

theorem execAbort_ends {t : Tid} {gd : BitVec 4} {ra : BitVec 5} : Ends s (execAbort t gd ra s) := .next (·.runOp)

theorem execBrk_ends {t : Tid} {gd : BitVec 4} : Ends s (execBrk t gd s) := .next (·.runOp)

theorem execBr_ends {t : Tid} {gd : BitVec 4} {target : BitVec 15} : Ends s (execBr t gd target s) := .next (·.runOp)

theorem execCall_ends {t : Tid} {gd : BitVec 4} {rl : BitVec 5} {target : BitVec 15} : Ends s (execCall t gd rl target s) := .next (·.runOp)

theorem execLoop_ends {t : Tid} {gd : BitVec 4} {rl : BitVec 5} {target : BitVec 15} : Ends s (execLoop t gd rl target s) := .next (·.runOp)

theorem execJmp_ends {t : Tid} {gd : BitVec 4} {rl : BitVec 5} : Ends s (execJmp t gd rl s) := .next (·.runOp)

theorem execFwd_ends {t : Tid} {gd : BitVec 4} {ra : BitVec 5} : Ends s (execFwd t gd ra s) := .next (·.runOp)

theorem execRepl_ends {t : Tid} {gd : BitVec 4} {ra : BitVec 5} : Ends s (execRepl t gd ra s) := .next (·.runOp)

theorem execPunt_ends {t : Tid} {gd : BitVec 4} {ra : BitVec 5} : Ends s (execPunt t gd ra s) := .next (·.runOp)

theorem execRecirc_ends {t : Tid} {gd : BitVec 4} {ra : BitVec 5} : Ends s (execRecirc t gd ra s) := .next (·.runOp)

theorem execDrop_ends {t : Tid} {gd : BitVec 4} {ra : BitVec 5} : Ends s (execDrop t gd ra s) := .next (·.runOp)


/-! ### Avenue -/

theorem State.Inv.deadlineSlot {p slot : Nat} (h : s.Inv) : (s.deadlineSlot p slot).Inv := by
  unfold State.deadlineSlot
  split
  · exact h
  next sl _ =>
    refine h.ifElse fun h => ?_
    extract_lets l s1 pass
    have h1 : s1.Inv := h.count
    dsimp only
    split
    · exact h1.setThread.dispose.ifThen (·.sendFault)
    · exact h1.dispose.ifThen (·.sendFault)

theorem State.Inv.vacate {p slot : Nat} (h : s.Inv) : (s.vacate p slot).Inv := by
  unfold State.vacate
  extract_lets
  split
  · exact h.deadlineSlot
  · exact h.deadlineSlot.setSlot.withEng

theorem State.Inv.windowEnds (h : s.Inv) : s.windowEnds.Inv := h.foldl (·.vacate)

theorem State.Inv.admitPkt {p n : Nat} (h : s.Inv) : (s.admitPkt p n).Inv := (h.modSample.ifThen (·.setPkt)).setSlot

theorem execAvenueAdmission_ends {l : Fin 16} : Ends s (execAvenueAdmission l s) := by
  unfold execAvenueAdmission
  split
  · refine .either (.next id) ?_
    split
    · exact .next (·.setKerbQueue.use.admitPkt)
    · exact .either (.next id) (.next (·.vacate.setKerbQueue.use.admitPkt))
  · exact .next id

theorem execDeadline_ends {p : Fin 17} {slot : Fin 1024} : Ends s (execDeadline p slot s) := by
  unfold execDeadline
  split
  · exact .next id
  · exact .either (.next id) (.next (·.deadlineSlot))

theorem State.Inv.takeExits {p : Nat} (h : s.Inv) : (s.takeExits p).1.Inv := h.withEng

theorem execDispatch_ends {p : Fin 17} : Ends s (execDispatch p s) := by
  refine .either (.next (·.parseEnds)) ?_
  split
  · exact .next (·.parseEnds)
  · exact .next (·.parseEnds.use.use.modSample.setThread.count.setSlot)

theorem State.Inv.woken {p e t : Nat} (h : s.Inv) : (s.woken p e t).Inv := by
  unfold State.woken
  refine h.ifElse fun h => ?_
  dsimp only
  split
  · exact h.setThread.ifThen (·.sendReq)
  · exact h.setThread

theorem State.Inv.formCand {p e t : Nat} {q : Req} {w : Nat} (h : s.Inv) : (s.formCand p e t q w).Inv := by
  unfold State.formCand
  extract_lets
  split
  · exact h.ifThen (·.count.setSlot)
  · exact h

theorem State.Inv.receiveResp {p e t : Nat} {hd : Held} (h : s.Inv) : (s.receiveResp p e t hd).Inv := by
  unfold State.receiveResp
  split
  · exact h.threadFault
  · exact h.formCand.modThread.woken

theorem State.Inv.respondWith {p e t i : Nat} {words : List Dword} {err : Option Nat} (h : s.Inv) : (s.respondWith p e t i words err).Inv := by
  unfold State.respondWith
  extract_lets
  split
  · exact h
  · exact h.ite (·.setThread) (·.traceResp.ite (·.setThread) (·.setThread.receiveResp))

theorem State.Inv.respond {p e t i : Nat} {words : List Dword} (h : s.Inv) : (s.respond p e t i words).Inv := h.respondWith

theorem State.Inv.respondErr {p e t i detail : Nat} (h : s.Inv) : (s.respondErr p e t i detail).Inv := h.respondWith

theorem execChannelCommit_ends {p : Fin 17} {e : Fin 35} {ch : Fin 16} : Ends s (execChannelCommit p e ch s) := by
  refine .next (fun h => ?_)
  split
  · exact h
  · exact h.commitBlocked

theorem execAllThreadsBlocked_ends {p : Fin 17} {e : Fin 35} : Ends s (execAllThreadsBlocked p e s) :=
  .either (.next (·.withEng.raise.ifThen (·.putMsg))) (.next id)

theorem execIso_ends {p : Fin 17} {e : Fin 35} {on : Bool} : Ends s (execIso p e on s) := .next (·.isoSet)

theorem State.Inv.forThreads {mask : BitVec 8} {f : State → Nat → State} (h : s.Inv) (hf : ∀ {s t}, s.Inv → (f s t).Inv) :
    (s.forThreads mask f).Inv := h.foldl (·.ifThen hf)

theorem execHalt_ends {p : Fin 17} {e : Fin 35} {mask : BitVec 8} : Ends s (execHalt p e mask s) :=
  .next (·.forThreads fun h => h.ite (·.setThread) (·.raise))

theorem State.Inv.unhalt {p e t : Nat} (h : s.Inv) : (s.unhalt p e t).Inv := by
  unfold State.unhalt
  extract_lets x s1 s2
  have h1 : s1.Inv := h.setThread
  have h2 : s2.Inv := h1.foldl (·.receiveResp)
  split
  · exact h1.receiveResp
  · split
    · split
      · exact (h2.takeMsg ‹_›).modThread
      · exact h2
    · exact h2

theorem execResume_ends {p : Fin 17} {e : Fin 35} {mask : BitVec 8} : Ends s (execResume p e mask s) := by
  refine .next (·.forThreads fun {s t} h => ?_)
  split
  · exact h.unhalt
  · exact h.setThread
  · exact h.raise

theorem State.Inv.stepThread {p e t : Nat} (h : s.Inv) : (s.stepThread p e t).Inv := h.unhalt.modThread.ifThen (·.issue)

theorem execStep_ends {p : Fin 17} {e : Fin 35} {mask : BitVec 8} : Ends s (execStep p e mask s) := by
  refine .next (·.forThreads fun {s t} h => ?_)
  split
  · exact h.stepThread
  · exact h.setThread
  · exact h.raise

theorem State.Inv.codeTouched {b : Bool} (h : s.Inv) : (s.codeTouched b).Inv := by
  unfold State.codeTouched
  extract_lets
  split
  · exact h.setFlag.ifThen (·.withEng)
  · exact h.setFlag

theorem State.Inv.nextCodeAddr (h : s.Inv) : s.nextCodeAddr.Inv := h.setFld

theorem State.Inv.writeCode {b : Bool} {a : Nat} {w : BitVec 128} (h : s.Inv) : (s.writeCode b a w).Inv := h.foldl (·.ifElse (·.withEng.written'))

theorem execCodeData3Write_ends {r : Requester} {v : Word} : Ends s (execCodeData3Write r v s) :=
  .either (.next (·.setReg.withBus.writeCode.codeTouched.nextCodeAddr)) (.next (·.setReg.withBus.raise.nextCodeAddr))

theorem State.Inv.codeFetch {p : Nat} (h : s.Inv) : (s.codeFetch p).Inv := h.foldl (·.setReg)

theorem execCodeData0Read_ends {r : Requester} {p : Fin 17} : Ends s (execCodeData0Read r p s) := .next (·.codeFetch.withBus)

theorem execPsCheck_ends {bankB : Bool} : Ends s (execPsCheck bankB s) := .either (.next (·.setFlag.raise)) (.next (·.setFlag.withEng.setFlag))

theorem execPsCheckComplete_ends {eccAt : Option (Fin 17 × BitVec 15)} : Ends s (execPsCheckComplete eccAt s) := by
  unfold execPsCheckComplete
  split
  · exact .next id
  next c _ =>
    extract_lets _ s1 res s2
    have kept (h : s.Inv) : s1.Inv := State.Inv.setFlag h.withEng
    clear_value s1 res
    split
    · exact .next fun h => (kept h).setReg
    · exact .next fun h => (kept h).setReg.ifElse (·.setFlag)

theorem State.Inv.startSupervisor {p : Nat} (h : s.Inv) : (s.startSupervisor p).Inv := h.foldl (·.setThread)

theorem State.Inv.psSwitch (h : s.Inv) : s.psSwitch.Inv := h.ite (·.setFlag.setFlag.withEng.foldl (·.ifThen (·.startSupervisor))) (·.raise)

theorem State.Inv.endOldProt (h : s.Inv) : s.endOldProt.Inv := by
  unfold State.endOldProt
  split
  · exact h.ifThen (·.withEng.setFlag)
  · exact h

theorem State.Inv.clearEngine {p e : Nat} (h : s.Inv) : (s.clearEngine p e).Inv := h.withEng

theorem State.Inv.dropTrace {l k : Nat} (h : s.Inv) : (s.dropTrace l k).Inv := h.ifThen (·.endTrace.setTrace)

theorem State.Inv.remapEngine {p k phys : Nat} (h : s.Inv) : (s.remapEngine p k phys).Inv :=
  h.ite (·.holdOld.holdOld.setFld.setFlag.clearEngine.ifThen (·.dropTrace)) (·.raise)

theorem execEngineRemap_ends {p : Fin 17} {k : Fin 32} {phys : BitVec 6} : Ends s (execEngineRemap p k phys s) := .next (·.remapEngine)

theorem execBistFail_ends {p : Fin 17} {e : Fin 35} : Ends s (execBistFail p e s) := .either (.next (·.raise.report.withEng)) (.next id)

theorem State.Inv.clearAvenue {p : Nat} (h : s.Inv) : (s.clearAvenue p).Inv := h.withEng

theorem State.Inv.copyCode {src dst : Nat} (h : s.Inv) : (s.copyCode src dst).Inv := h.withEng

theorem State.Inv.copyGraph {src dst : Nat} (h : s.Inv) : (s.copyGraph src dst).Inv := h.withEng

theorem State.Inv.aveStarts {p : Nat} (h : s.Inv) : (s.aveStarts p).Inv := h.withEng.setFlag


/-! ### Tables -/

theorem State.Inv.statEnter {l : Nat} {u : StatUpdate} {t : State} (h : s.Inv) (e : s.statEnter l u = some t) : t.Inv := by
  unfold State.statEnter at e
  split at e
  · cases e
    exact h
  · dsimp only at e
    split at e
    · cases e
    · cases e
      exact h.setThread.woken.use

theorem State.Inv.statEvict (h : s.Inv) : s.statEvict.Inv := by
  unfold State.statEvict
  split
  · exact h
  · exact h.others

theorem State.Inv.statTake {u : StatUpdate} (h : s.Inv) : (s.statTake u).Inv := (h.ifThen (·.statEvict)).withTbl.writtenAny

theorem State.Inv.statEnterAll {l n : Nat} {us : List StatUpdate} (h : s.Inv) : (s.statEnterAll l n us).1.Inv := by
  fun_induction State.statEnterAll s l n us with
  | case1 s us => exact h
  | case2 s n => exact h
  | case3 s n u us e ih => exact ih h
  | case4 s n u us t e v vs er ih => rw [er] at ih; exact ih (h.statEnter e)

theorem State.Inv.statStep {l : Nat} (h : s.Inv) : (s.statStep l).Inv := h.ifElse (fun h => (h.foldl (·.statTake)).statEnterAll.withTbl)

theorem State.Inv.statClock (h : s.Inv) : s.statClock.Inv := h.ifElse (·.foldl (·.statStep))

theorem State.Inv.statBoundary (h : s.Inv) : s.statBoundary.Inv := h.withTbl

theorem State.Inv.setStatPair {i : Nat} {v : Nat × Nat} (h : s.Inv) : (s.setStatPair i v).Inv := h.withTbl

theorem State.Inv.takeShare {l : Nat} {t : State} (h : s.Inv) (e : s.takeShare l = some t) : t.Inv := by
  unfold State.takeShare at e
  dsimp only at e
  split at e
  · cases e
    exact h.withTbl
  · cases e

theorem State.Inv.takeRemainder {t : State} (h : s.Inv) (e : s.takeRemainder = some t) : t.Inv := by
  unfold State.takeRemainder at e
  split at e
  · cases e
    exact h.withTbl
  · cases e

theorem State.Inv.setDram {k : Nat × Nat} {st : Nat} (h : s.Inv) : (s.setDram k st).Inv := h.modReq

theorem State.Inv.dramClock (h : s.Inv) : s.dramClock.Inv := by
  refine h.foldl fun h => h.foldl fun h => ?_
  split
  · exact (h.takeShare ‹_›).setDram
  · split
    · exact (h.takeRemainder ‹_›).setDram
    · exact h.setDram.count.raise

theorem State.Inv.dramBoundary (h : s.Inv) : s.dramBoundary.Inv := by
  refine .foldl (.foldl h.withTbl fun h => h.foldl fun h => ?_) fun h => h.foldl fun h => ?_
  · split
    · exact (h.takeShare ‹_›).setDram
    · exact h
  · split
    · exact (h.takeRemainder ‹_›).setDram
    · exact h

theorem State.Inv.serveRead {r : TurnRef} (h : s.Inv) : (s.serveRead r).Inv := by
  unfold State.serveRead
  extract_lets
  split
  · exact h.putTurn.count
  · refine h.putTurn.count.ifThen (fun h => ?_)
    split
    · exact h.addTurns
    · exact h

theorem State.Inv.servePort {bank port : Nat} (h : s.Inv) : (s.servePort bank port).Inv := by
  unfold State.servePort
  split
  · exact h
  · exact h.serveRead

theorem State.Inv.enterAll (h : s.Inv) : s.enterAll.Inv := h.foldl (·.enterBank)

theorem State.Inv.bankClock (h : s.Inv) : s.bankClock.Inv := h.ifElse (fun h => (h.foldl (·.servePort.servePort)).dramClock.enterAll)

theorem State.Inv.setOvl {o : List Ovl} (h : s.Inv) : (s.setOvl o).Inv := h.withTbl

theorem State.Inv.stage {writer : Nat} {go : Bool} {w : Nat} {data : Line} {mask : BitVec 64} (h : s.Inv) : (s.stage writer go w data mask).Inv := by
  unfold State.stage
  split
  · split
    · exact h.setOvl
    · exact h
  · exact h.setOvl

theorem State.Inv.shadowWords {ws : List Nat} (h : s.Inv) : (s.shadowWords ws).Inv := by
  refine h.foldl (fun h => ?_)
  split
  · exact h.ifElse (·.withTbl)
  · exact h

theorem State.Inv.commitOverlay {writers : List Nat} (h : s.Inv) : (s.commitOverlay writers).Inv := h.setOvl.shadowWords

theorem State.Inv.overlayBoundary {extra : List Nat} (h : s.Inv) : (s.overlayBoundary extra).Inv := h.commitOverlay.setFlag.setFlag.withTbl

theorem execCommit_ends {w : Fin 2} : Ends s (execCommit w s) := .next (·.setFlag)

theorem execDiscard_ends {w : Fin 2} : Ends s (execDiscard w s) := .next (·.setOvl)

theorem State.Inv.putSlot {n : Nat} {at' : Nat × Nat} {ws : List Nat} (h : s.Inv) : (s.putSlot n at' ws).Inv := h.stage

theorem State.Inv.clearSlot {n : Nat} {at' : Nat × Nat} (h : s.Inv) : (s.clearSlot n at').Inv := h.stage

theorem State.Inv.runChain {n : Nat} {l : List ((Nat × Nat) × (Nat × Nat))} (h : s.Inv) : (s.runChain n l).Inv := by
  induction l with
  | nil => exact h
  | cons m l ih => exact ih.putSlot.clearSlot

theorem State.Inv.makeRoom {n : Nat} {key : List Nat} {p : Nat × Nat} {t : State} (h : s.Inv) (e : s.makeRoom n key = some (t, p)) : t.Inv := by
  unfold State.makeRoom at e
  dsimp only at e
  split at e
  · cases e
    exact h
  · split at e
    · cases e
    · cases e
      exact h.runChain

theorem State.Inv.hashRun {c : HashCmd} (h : s.Inv) : (s.hashRun c).1.Inv := by
  unfold State.hashRun
  extract_lets
  split
  · exact h
  · split
    · exact h
    · exact (h.makeRoom ‹_›).putSlot
  · exact h
  · exact h.putSlot
  · exact h.clearSlot
  · exact h

theorem State.Inv.setWinLine {w : Nat} {l : Line} (h : s.Inv) : (s.setWinLine w l).Inv := h.setRegs

theorem State.Inv.hashReply {c : HashCmd} {res : Nat} {found : List Nat} (h : s.Inv) : (s.hashReply c res found).Inv :=
  h.ifElse (·.setFld.ifThen (·.setReg64.setReg64))

theorem State.Inv.hashSend {c : HashCmd} (h : s.Inv) : (s.hashSend c).Inv := h.withTbl

theorem State.Inv.hashWrite {r : Requester} {w : Fin 2} {op table : Nat} {static : Bool} (h : s.Inv) : (s.hashWrite r w op table static).Inv :=
  h.ite (·.raise) (·.ite (·.hashReply) (·.ite (·.hashReply) (·.hashSend)))

theorem execInsert_ends {r : Requester} {w : Fin 2} {table : Byte} {static : Bool} : Ends s (execInsert r w table static s) := .next (·.hashWrite)

theorem execReplace_ends {r : Requester} {w : Fin 2} {table : Byte} {static : Bool} : Ends s (execReplace r w table static s) := .next (·.hashWrite)

theorem execDelete_ends {r : Requester} {w : Fin 2} {table : Byte} : Ends s (execDelete r w table s) := .next (·.hashWrite)

theorem execFind_ends {r : Requester} {w : Fin 2} {table : Byte} : Ends s (execFind r w table s) := .next (·.hashWrite)

theorem execOverlayDrain_ends {bank : Fin 65} : Ends s (execOverlayDrain bank s) := by
  unfold execOverlayDrain
  extract_lets
  split
  · exact .next id
  · split
    · exact .next id
    · exact .next (·.setRaw.use.setOvl.written')

theorem State.Inv.ovlFree (h : s.Inv) : s.ovlFree.Inv := h.ifThen (·.setOvl)

theorem execWindowRead_ends {r : Requester} {w : Fin 2} {target : Fin 4} : Ends s (execWindowRead r w target s) :=
  .either (.next (·.raise)) (.either (.next (·.setFld.setWinLine.raise)) (.next (·.setFld.setWinLine)))

theorem State.Inv.winStage {w i : Nat} {d : Line} {m : BitVec 64} (h : s.Inv) : (s.winStage w i d m).Inv :=
  h.ite (·.raise) (·.ite (·.stage) (·.raise))

theorem execWindowWrite_ends {r : Requester} {w : Fin 2} {target : Fin 4} : Ends s (execWindowWrite r w target s) := by
  refine .either (.next (·.raise)) (.either (.next (·.setFld.raise)) ?_)
  split
  · exact .next (·.setFld.winStage)
  · exact .next (·.setFld.setStatPair)
  · exact .next (·.setFld.others.writtenAny)
  · exact .either (.next (·.setFld.raise)) (.next (·.setFld.setRaw))

theorem State.Inv.lkpStart (h : s.Inv) : s.lkpStart.Inv := h.withTbl

theorem State.Inv.routeDelta {hd : List Nat} {recs : List (List Nat)} (h : s.Inv) : (s.routeDelta hd recs).1.Inv := by
  unfold State.routeDelta
  dsimp only
  split
  · exact h
  · split
    · exact h.withTbl
    · split
      · exact h.withTbl
      · exact h.withTbl

theorem State.Inv.newRoots {kind : Nat} (h : s.Inv) : (s.newRoots kind).Inv := (h.foldl (·.setReg.setReg)).withFresh

theorem State.Inv.newWords (h : s.Inv) : s.newWords.Inv := h.withTbl

theorem State.Inv.fibBoundary {b : Nat} (h : s.Inv) : (s.fibBoundary b).Inv :=
  h.ifElse (·.ite (·.raise) (fun h => ((h.withTbl.ifThen (·.newRoots)).ifThen (·.newRoots)).newWords))

theorem State.Inv.hitLeaf {v6 : Bool} {x : Prefix} (h : s.Inv) : (s.hitLeaf v6 x).Inv := h.ite (·.withTbl) (·.withTbl)

theorem State.Inv.leafSample (h : s.Inv) : s.leafSample.Inv := h.ifElse (·.withTbl)

theorem State.Inv.askRewrite {w : Nat} (h : s.Inv) : (s.askRewrite w).Inv := h.ifElse (·.withTbl)

theorem State.Inv.rewriteClock (h : s.Inv) : s.rewriteClock.Inv := h.ifElse (·.foldl (·.ifThen (·.withTbl.stage)))

theorem State.Inv.tableError {n w : Nat} (h : s.Inv) : (s.tableError n w).Inv := h.setReg.raise.report.ite (·.hashSend) (·.askRewrite)

theorem execLookupResponse_ends {t : Tid} {i : Fin 8} {bad : Option (BitVec 28)} : Ends s (execLookupResponse t i bad s) := by
  unfold execLookupResponse
  extract_lets
  split
  · exact .next id
  · refine .either (.next id) (.either (.next (·.respondErr)) (.either (.next id) ?_))
    dsimp only
    split
    · exact .either (.next (·.tableError.respond)) (.next (·.tableError.respondErr))
    · refine .next fun h => State.Inv.respond ?_
      split
      · exact State.Inv.hitLeaf h.withFresh
      · exact h.withFresh

theorem execBankQueueEntry_ends {l : Fin 16} {bank : Fin 64} : Ends s (execBankQueueEntry l bank s) := .next (·.enterOne)

theorem execPolicerQueueEntry_ends {l bank : Fin 16} : Ends s (execPolicerQueueEntry l bank s) := .next (·.enterOne)


/-! ### Tcam -/

theorem State.Inv.setRow {k : Nat} {r : TcamRow} (h : s.Inv) : (s.setRow k r).Inv := h.withCls

theorem State.Inv.writeRow {k : Nat} {val msk : BitVec 80} {act : BitVec 40} {bad : Bool} (h : s.Inv) : (s.writeRow k val msk act bad).Inv := h.setRow

theorem State.Inv.checkInjected {p : Nat} (h : s.Inv) : (s.checkInjected p).1.Inv := by
  unfold State.checkInjected
  split
  · exact (h.injectionFor ‹_›)
  · exact h

theorem State.Inv.writeEntry {p t i : Nat} {val msk : List (BitVec 80)} {act : BitVec 40} (h : s.Inv) : (s.writeEntry p t i val msk act).Inv :=
  h.checkInjected.foldl (·.writeRow)

theorem State.Inv.setEntryValid {p t i : Nat} {v : Bool} (h : s.Inv) : (s.setEntryValid p t i v).Inv := h.foldl (·.setRow)

theorem State.Inv.copyEntry {ps pd t i j : Nat} (h : s.Inv) : (s.copyEntry ps pd t i j).Inv := h.checkInjected.foldl (·.writeRow)

theorem State.Inv.restoreEntry {p t i : Nat} (h : s.Inv) : (s.restoreEntry p t i).Inv := h.foldl (·.setRow)

theorem State.Inv.setSlice {p : Nat} {x : SliceProg} (h : s.Inv) : (s.setSlice p x).Inv := h.withCls

theorem State.Inv.slicePass {p : Nat} (h : s.Inv) : (s.slicePass p).Inv := h.setSlice

theorem State.Inv.passTested (h : s.Inv) : s.passTested.Inv := h.foldl (·.ifThen (·.slicePass))

theorem State.Inv.tcmError {parity : Bool} {p t i : Nat} (h : s.Inv) : (s.tcmError parity p t i).Inv := h.setReg.raise.report

theorem State.Inv.askFixes {p : Nat} {fs : List RowFix} (h : s.Inv) : (s.askFixes p fs).Inv := h.setSlice

theorem State.Inv.entryLost {p t i : Nat} (h : s.Inv) : (s.entryLost p t i).Inv := h.setReg.raise.report

theorem State.Inv.tcmRepair {p t i : Nat} (h : s.Inv) : (s.tcmRepair p t i).Inv := by
  unfold State.tcmRepair
  split
  · exact h.askFixes
  · exact h.askFixes.entryLost

theorem State.Inv.badCopy {p t i : Nat} (h : s.Inv) : (s.badCopy p t i).Inv := h.tcmError.tcmRepair

theorem State.Inv.invalidateEntry {p t i : Nat} (h : s.Inv) : (s.invalidateEntry p t i).Inv := h.setEntryValid.setSlice

theorem State.Inv.doRowOp {p : Nat} {c : TcamCmd} {o : RowOp} (h : s.Inv) : (s.doRowOp p c o).Inv := by
  unfold State.doRowOp
  split
  exacts [h.invalidateEntry, h.setEntryValid, h.setEntryValid, h.writeEntry, h.copyEntry]

theorem State.Inv.tcmReport {p : Nat} {c : TcamCmd} {plan : Option Nat} (h : s.Inv) : (s.tcmReport p c plan).Inv := by
  unfold State.tcmReport
  extract_lets
  split
  · split
    · exact h.setFld
    · exact h.setReg
  · exact h.ifElse (fun h => (h.ifThen (·.badCopy)).setRegs.setRegs.setReg.setReg.ifElse (·.setFld))
  · exact h

theorem State.Inv.tcmSettle {p n : Nat} (h : s.Inv) : (s.tcmSettle p n).Inv := by
  fun_induction State.tcmSettle s p n with
  | case1 s => exact h
  | case2 s fuel e => exact h
  | case3 s fuel c e x plan more go => exact h.setSlice
  | case4 s fuel c e x plan more stop ih => exact ih h.tcmReport.setSlice

theorem State.Inv.doFix {p : Nat} {r : RowFix} {t : State} (h : s.Inv) (e : s.doFix p r = some t) : t.Inv := by
  unfold State.doFix at e
  split at e
  · cases e
    exact h.restoreEntry
  · cases e
    exact h.invalidateEntry
  · split at e
    · cases e
    · split at e
      · cases e
        exact h.copyEntry
      · cases e
        exact h.entryLost
  · split at e
    · cases e
      exact h.setEntryValid
    · cases e
      exact h

theorem execTcamRowOperation_ends {q : RowStep} : Ends s (execTcamRowOperation q s) := by
  unfold execTcamRowOperation
  dsimp only
  split
  · refine .either (.next id) ?_
    split
    · exact .next id
    · exact .next fun h => (h.doFix ‹_›).setSlice.use.tcmSettle
  · exact .next id
  · split
    · exact .next id
    · refine .either (.next id) ?_
      split
      · exact .next (·.badCopy.setSlice.use)
      · exact .next (·.doRowOp.setSlice.use.tcmSettle)

theorem State.Inv.tcmCommand {r : Requester} {w : Fin 2} {op table : Nat} {bad : Bool} (h : s.Inv) : (s.tcmCommand r w op table bad).Inv :=
  h.ite (·.raise) (·.ite (·.raise) (·.ite (·.setFld) (·.ite (·.setFld) (·.ite (·.setFld) (·.setFld.setFlag.withCls.passTested.foldl (·.ifThen
    (·.tcmSettle)))))))

theorem execTcamWrite_ends {r : Requester} {w : Fin 2} {table : Fin 8} : Ends s (execTcamWrite r w table s) := .next (·.tcmCommand)

theorem execTcamInsert_ends {r : Requester} {w : Fin 2} {table : Fin 8} : Ends s (execTcamInsert r w table s) := .next (·.tcmCommand)

theorem execTcamDelete_ends {r : Requester} {w : Fin 2} {table : Fin 8} : Ends s (execTcamDelete r w table s) := .next (·.tcmCommand)

theorem execTcamRead_ends {r : Requester} {w : Fin 2} {q : CheckRead} : Ends s (execTcamRead r w q s) := .next (·.tcmCommand)

theorem execTcamClear_ends {r : Requester} {w : Fin 2} {table : Fin 8} : Ends s (execTcamClear r w table s) := .next (·.tcmCommand)

theorem execTcamCommandComplete_ends {w : Fin 2} : Ends s (execTcamCommandComplete w s) := by
  unfold execTcamCommandComplete
  extract_lets mine
  split
  · exact .next id
  · exact .either (.either (.next (·.setFlag.withCls)) (.next (·.setFlag))) (.next id)

theorem State.Inv.tcmStart (h : s.Inv) : s.tcmStart.Inv := h.withCls

theorem State.Inv.tcmStop (h : s.Inv) : s.tcmStop.Inv := (h.foldl (·.ifThen (·.setFlag.setFld))).withCls

theorem State.Inv.copySlice {src dst : Nat} (h : s.Inv) : (s.copySlice src dst).Inv := h.withCls.setSlice

theorem execTcamQueueEntry_ends {p : Fin 17} {e : Fin 35} {t : Fin 8} : Ends s (execTcamQueueEntry p e t s) := .next (·.enterOne)

theorem State.Inv.serveSearch {p t : Nat} (h : s.Inv) : (s.serveSearch p t).Inv := by
  refine h.ifElse (fun h => ?_)
  split
  · exact h
  · exact h.putTurn.use.modReq

theorem State.Inv.searchClock (h : s.Inv) : s.searchClock.Inv := h.foldl (·.serveSearch)

theorem State.Inv.verify {p t : Nat} {badFirst rerun : Bool} {l : List (Nat × Nat × Bool)} (h : s.Inv) : (s.verify p t badFirst rerun l).1.Inv := by
  fun_induction State.verify s p t badFirst rerun l with
  | case1 s badFirst rerun => exact h
  | case2 s badFirst rerun i act rest ih => exact ih h.tcmError.askFixes
  | case3 s badFirst rerun i act wrong rest _ bad ih => exact ih h.badCopy
  | case4 s badFirst rerun i act wrong rest _ bad => exact h

theorem execTcamSearchResponse_ends {t : Tid} {i : Fin 8} {falseAt : List (BitVec 16)} {parity : Bool} :
    Ends s (execTcamSearchResponse t i falseAt parity s) := by
  unfold execTcamSearchResponse
  extract_lets
  split
  · exact .next id
  · exact .either (.next id) (.either (.next (·.respondErr)) (.either (.next id) (.next (·.verify.respond))))

theorem State.Inv.setPolicer {x : Nat} {r : BitVec 128} (h : s.Inv) : (s.setPolicer x r).Inv := h.withCls.written'

theorem State.Inv.polRun {x bytes inc : Nat} (h : s.Inv) : (s.polRun x bytes inc).1.Inv := h.setPolicer

theorem State.Inv.polError {x : Nat} (h : s.Inv) : (s.polError x).Inv := h.raise.setReg.report

theorem execPolicerResponse_ends {t : Tid} {i : Fin 8} {bad : Bool} : Ends s (execPolicerResponse t i bad s) := by
  unfold execPolicerResponse
  extract_lets
  split
  · exact .next id
  · exact .either (.next id) (.either (.next (·.use.polError.respondErr)) (.either (.next (·.use.polRun.respond)) (.next (·.use.raise.respond))))

theorem execPolicerRefresh_ends {x : BitVec 20} : Ends s (execPolicerRefresh x s) := .next (·.ifThen (·.polRun.use))

theorem execPolicerWindowRead_ends {r : Requester} {w : Fin 2} {bad : Bool} : Ends s (execPolicerWindowRead r w bad s) :=
  .either (.next (·.raise)) (.either (.next (·.raise)) (.either (.next (·.setFlag.polError)) (.next (·.setFlag.setRegs))))

theorem State.Inv.polStore {x : Nat} {v : BitVec 128} (h : s.Inv) : (s.polStore x v).Inv := h.setPolicer.use

theorem State.Inv.polSlots (h : s.Inv) : s.polSlots.Inv := by
  unfold State.polSlots
  refine .foldlFst h fun {a w} ha => ?_
  dsimp only
  split
  · exact ha
  · exact ha.withCls.setFlag.polStore

theorem execPolicerWindowWrite_ends {r : Requester} {w : Fin 2} : Ends s (execPolicerWindowWrite r w s) :=
  .either (.next (·.raise)) (.either (.next (·.raise)) (.either (.next (·.polStore)) (.next (·.withCls.setFlag))))


/-! ### Pattern -/

theorem State.Inv.patCopy {n scan hdrEnd hash : Nat} (h : s.Inv) : (s.patCopy n scan hdrEnd hash).Inv := by
  refine h.ifElse (fun h => State.Inv.either h.count.raise ?_)
  split
  · exact h.count.raise
  · exact State.Inv.either h.count.raise h.withCls

theorem State.Inv.patEnter {r : List Byte} (h : s.Inv) : (s.patEnter r).Inv := h.ite (·.withCls.writtenAny) (·.raise)

theorem execPatternScan_ends {u : Fin 4} {err : Option (BitVec 32)} : Ends s (execPatternScan u err s) := by
  unfold execPatternScan
  split
  · exact .next id
  next c rest _ =>
    extract_lets _ s1 s2 s3 set sets start len stop most found s4 s5
    have h2 (h : s.Inv) : s2.Inv := State.Inv.writtenAny (State.Inv.count h.withCls)
    have h5 (h : s.Inv) : s5.Inv := (h2 h).count.foldl (·.patEnter)
    clear_value s5
    split
    · exact .next fun h => (h2 h).patEnter.raise.report
    · exact .either (.next h2) (.next fun h => (h5 h).withFresh)

theorem State.Inv.patTouched {b : Bool} (h : s.Inv) : (s.patTouched b).Inv := by
  unfold State.patTouched
  extract_lets
  split
  · exact h.setFlag.ifThen (·.withCls)
  · exact h.setFlag

theorem execPatWinWrite_ends {r : Requester} {v : Word} : Ends s (execPatWinWrite r v s) :=
  .either (.next (·.done.raise)) (.next (·.done.withTbl.patTouched.setFld))

theorem execPatCheck_ends {slotB : Bool} : Ends s (execPatCheck slotB s) := .either (.next (·.setFlag)) (.next (·.setFlag.withCls.setFlag))

theorem execPatCheckComplete_ends : Ends s (execPatCheckComplete s) := by
  unfold execPatCheckComplete
  split
  · exact .next id
  · exact .next (·.withCls.setFlag.setReg.ifThen (·.setFlag))

theorem State.Inv.patSwitch (h : s.Inv) : s.patSwitch.Inv := h.ite (·.setFlag.setFlag) (·.raise)

theorem execPatOldProtEnd_ends : Ends s (execPatOldProtEnd s) := .either (.next id) (.next (·.setFlag))

theorem execPatRec0Read_ends {r : Requester} : Ends s (execPatRec0Read r s) := .next (·.withCls.answer)

theorem execPatRec3Read_ends {r : Requester} : Ends s (execPatRec3Read r s) := .next (·.answer.ifThen (·.withCls))


/-! ### Learning -/

theorem State.Inv.lrnOffer {c : Cand} (h : s.Inv) : (s.lrnOffer c).Inv := h.ifElse (·.ite (·.withLrn) (·.raise))

theorem State.Inv.lrnRecord {ty key lave new old ctx : Nat} (h : s.Inv) : (s.lrnRecord ty key lave new old ctx).Inv :=
  h.count.ite (·.withLrn.writtenAny) (·.withLrn.raise)

theorem State.Inv.macPut {p : Nat × Nat} {key w : Nat} (h : s.Inv) : (s.macPut p key w).Inv := h.putSlot

theorem State.Inv.setTrack {x : Track} (h : s.Inv) : (s.setTrack x).Inv := h.withLrn

theorem State.Inv.trackMove {key : Nat} (h : s.Inv) : (s.trackMove key).1.Inv := by
  unfold State.trackMove
  extract_lets
  split
  · split
    · exact h.setTrack
    · split
      · exact h.setTrack.raise
      · exact h.setTrack
  · split
    · exact h.setTrack
    · split
      · exact h.withLrn.setTrack
      · exact h.raise

theorem State.Inv.unfreeze {key : Nat} (h : s.Inv) : (s.unfreeze key).Inv := h.ifThen (·.withLrn.lrnRecord)

theorem execFreezeExpiry_ends {key : BitVec 62} : Ends s (execFreezeExpiry key s) := by
  unfold execFreezeExpiry
  extract_lets
  split
  · exact .either (.next (·.unfreeze)) (.next id)
  · exact .next id

theorem execUnfreeze_ends {r : Requester} {v : Word} : Ends s (execUnfreeze r v s) :=
  .either (.next (·.done.foldl (·.unfreeze))) (.next (·.done.unfreeze))

theorem State.Inv.learnNew {c : Cand} (h : s.Inv) : (s.learnNew c).Inv := by
  unfold State.learnNew
  extract_lets
  split
  · exact (h.makeRoom ‹_›).macPut.lrnRecord
  · split
    · exact h.raise.lrnRecord
    · exact h.clearSlot.lrnRecord.macPut.lrnRecord

theorem State.Inv.learnRefresh {p : Nat × Nat} {key w : Nat} (h : s.Inv) : (s.learnRefresh p key w).Inv := h.ifElse (·.macPut.count)

theorem State.Inv.learn {c : Cand} (h : s.Inv) : (s.learn c).Inv := by
  unfold State.learn
  split
  · exact h.learnNew
  · exact h.ite (·.ifElse (·.raise.ifThen (·.lrnRecord))) (·.ite (·.learnRefresh) (·.ifElse (·.trackMove.ite (·.lrnRecord) (·.macPut.lrnRecord))))

theorem State.Inv.ageOut {key : Nat} (h : s.Inv) : (s.ageOut key).Inv := by
  unfold State.ageOut
  split
  · exact h
  · exact h.ifElse (·.clearSlot.lrnRecord)

theorem State.Inv.setAged {l : List Nat} (h : s.Inv) : (s.setAged l).Inv := h.withLrn.setFlag

theorem State.Inv.lrnEffect {c : HashCmd} (h : s.Inv) : (s.lrnEffect c).Inv := by
  unfold State.lrnEffect
  split
  exacts [(h.ifThen (·.count.learn)).withLrn, h.ifThen (·.count.ageOut), h.stage, h]

theorem State.Inv.hashTry {c : HashCmd} {t : State} (h : s.Inv) (e : s.hashTry c = some t) : t.Inv := by
  unfold State.hashTry at e
  dsimp only at e
  split at e
  · split at e
    · cases e
      exact h.lrnEffect
    · cases e
  · split at e
    · cases e
      exact h.hashReply
    · split at e
      · cases e
        exact h.hashRun.withTbl.hashReply
      · cases e

theorem State.Inv.hashDrain {n : Nat} (h : s.Inv) : (s.hashDrain n).Inv := by
  fun_induction State.hashDrain s n with
  | case1 s => exact h
  | case2 s k e => exact h
  | case3 s k c q e now => exact h
  | case4 s k c q e now none => exact h
  | case5 s k c q e now t some ih => exact ih (h.hashTry some).withTbl

theorem State.Inv.hashClock (h : s.Inv) : s.hashClock.Inv := h.hashDrain

theorem State.Inv.lrnRun {op key : Nat} {cand : Option Cand} (h : s.Inv) : (s.lrnRun op key cand).Inv := by
  unfold State.lrnRun
  extract_lets c _ s1
  have h1 : s1.Inv := h.withLrn
  split
  case h_1 e =>
    split at e
    · exact h1.hashTry e
    · cases e
  case h_2 => exact h1.hashSend

theorem execLearnExecute_ends {ager : Bool} : Ends s (execLearnExecute ager s) := by
  refine .either (.next id) (.either ?_ ?_)
  · split
    · exact .next id
    · exact .next (·.setAged.lrnRun)
  · split
    · exact .next id
    · exact .next (·.withLrn.ifElse (·.lrnRun))

theorem execEpochAdvance_ends : Ends s (execEpochAdvance s) := by
  unfold execEpochAdvance
  extract_lets e s1 s2 _ s3 s4 due
  refine .either (.next id) (.next fun h => ?_)
  have h2 : s2.Inv := by
    unfold s2
    split
    · exact h.setFld.setReg
    · exact h.setFld
  have h3 : s3.Inv := h2.withLrn
  exact State.Inv.setAged (h3.ifThen (·.raise))

theorem execLrnRec0Read_ends {r : Requester} : Ends s (execLrnRec0Read r s) := .either (.next (·.withLrn.answer)) (.next (·.raise.done))

theorem State.Inv.evpnRecord {rec' : List Byte} (h : s.Inv) : (s.evpnRecord rec').Inv := by
  unfold State.evpnRecord
  extract_lets
  split
  · exact h.ite (·.withMss.logEvent) (·.logEvent)
  · exact (h.ifThen (·.withMss)).logEvent
  · exact h.withMss.logEvent
  · exact h.withMss.logEvent
  · exact h.logEvent
  · exact h

theorem execLrnRec7Read_ends {r : Requester} : Ends s (execLrnRec7Read r s) := by
  refine .either ?_ (.next (·.raise.done))
  extract_lets s1 s2
  refine .next fun h => ?_
  have h1 : s1.Inv := by
    unfold s1
    split
    · exact h.ifThen (·.evpnRecord)
    · exact h
  have h2 : s2.Inv := h1.answer
  exact h2.ifThen (·.withLrn)


/-! ### Square -/

theorem State.Inv.setHandle {hd : Nat} {x : Handle} (h : s.Inv) : (s.setHandle hd x).Inv := h.withSq

theorem State.Inv.setPd {d : Nat} {x : Pd} (h : s.Inv) : (s.setPd d x).Inv := h.withSq

theorem State.Inv.setQueue {q : Nat} {l : List Nat} (h : s.Inv) : (s.setQueue q l).Inv := h.withSq

theorem State.Inv.qmDrop {code req : Nat} (h : s.Inv) : (s.qmDrop code req).Inv := by
  unfold State.qmDrop
  extract_lets
  split
  exacts [h.count.raise, h.count.raise, h.count.raise, h.count.raise, h.count]

theorem State.Inv.landDrop {code req : Nat} {tag : Option Nat} (h : s.Inv) : (s.landDrop code req tag).Inv := h.qmDrop.closeSample

theorem State.Inv.releaseHandle {hd : Nat} (h : s.Inv) : (s.releaseHandle hd).Inv := h.closeSample.setReg.setHandle

theorem State.Inv.endRead {d : Nat} (h : s.Inv) : (s.endRead d).Inv := h.withSq

theorem State.Inv.freeLog {kind pd owner req : Nat} (h : s.Inv) : (s.freeLog kind pd owner req).Inv := h.setReg.setReg

theorem State.Inv.quarantine {hd : Nat} (h : s.Inv) : (s.quarantine hd).Inv := (h.ifElse (·.setReg)).setHandle.raise

theorem State.Inv.freePd {req d : Nat} (h : s.Inv) : (s.freePd req d).Inv :=
  h.ite (·.freeLog.raise.reportTm) (·.ite (·.freeLog.raise.quarantine.setPd.reportTm) (·.setPd.setHandle.endRead.ifThen (·.releaseHandle)))

theorem State.Inv.dropNote {d code : Nat} (h : s.Inv) : (s.dropNote d code).Inv := h.setHandle

theorem execFree_ends {req : Fin 64} {pd : BitVec 27} : Ends s (execFree req pd s) := .next (·.freePd)

theorem execQuarantineRelease_ends {hd : BitVec 27} : Ends s (execQuarantineRelease hd s) :=
  .either (.next (·.withSq.setReg.releaseHandle)) (.next id)

theorem State.Inv.ctlSend {m w : Nat} (h : s.Inv) : (s.ctlSend m w).Inv := h.ite (·.withFab) (·.raise)

theorem State.Inv.sendRequest {dest : Nat} {on : Bool} (h : s.Inv) : (s.sendRequest dest on).Inv := h.withFab.ctlSend

theorem State.Inv.checkRequest {dest : Nat} (h : s.Inv) : (s.checkRequest dest).Inv := h.ifElse (·.withFab.ifThen (·.sendRequest))

theorem State.Inv.addDemand {q d : Nat} {up : Bool} (h : s.Inv) : (s.addDemand q d up).Inv := h.ifElse (·.withFab.checkRequest)

theorem State.Inv.evict {hd : Nat} (h : s.Inv) : (s.evict hd).Inv :=
  ((h.foldl (fun h => (h.foldl (·.addDemand)).setQueue)).foldl (·.setPd)).withSq.landDrop.releaseHandle

theorem State.Inv.resettle {hs : List Nat} {got : List (Nat × Nat)} (h : s.Inv) : (s.resettle hs got).Inv :=
  (h.foldl (·.ifThen (·.evict))).foldl (·.foldl (·.ifThen (·.setHandle)))

theorem State.Inv.claimClass {req len c : Nat} {t : State} (h : s.Inv) (e : s.claimClass req len = some (t, c)) : t.Inv := by
  unfold State.claimClass at e
  split at e
  · obtain ⟨_, -, e⟩ := Option.map_eq_some_iff.mp e
    cases e
    exact h
  · obtain ⟨_, -, e⟩ := Option.map_eq_some_iff.mp e
    cases e
    exact h.resettle

theorem State.Inv.storePacket {req colour n : Nat} {script frame : List Byte} {tag : Option Nat} {t : State} (h : s.Inv)
    (e : s.storePacket req colour script frame tag = .ok (t, n)) : t.Inv := by
  unfold State.storePacket at e
  split at e
  · cases e
  · split at e
    · cases e
    · cases e
      exact (h.claimClass ‹_›).withSq.setHandle.setReg

theorem State.Inv.enqueue {hd q dest : Nat} {copy : Bool} {pcdata : List Byte} {t : State} (h : s.Inv)
    (e : s.enqueue hd q dest copy pcdata = some t) : t.Inv := by
  unfold State.enqueue at e
  split at e
  · cases e
  · cases e
    exact h.setHandle.setPd.setQueue.addDemand

theorem State.Inv.landOne {req q dest colour : Nat} {fabric copy : Bool} {script frame pcdata : List Byte} {tag : Option Nat} (h : s.Inv) :
    (s.landOne req q dest colour fabric copy script frame pcdata tag).Inv := by
  unfold State.landOne
  split
  · exact h.landDrop
  · split
    · exact h.landDrop
    · split
      · exact ((h.storePacket ‹_›).enqueue ‹_›).writtenAny
      · exact h.landDrop

theorem State.Inv.replError {a : Nat} (h : s.Inv) : (s.replError a).Inv := h.reportTm

theorem State.Inv.makeCopy {j : ReplJob} (h : s.Inv) : (s.makeCopy j).Inv := by
  unfold State.makeCopy
  dsimp only
  split
  · exact h.replError.qmDrop.setHandle
  · split
    · exact h.qmDrop.setHandle
    · split
      · exact h.enqueue ‹_›
      · exact h.qmDrop.setHandle

theorem State.Inv.replRun {n : Nat} (h : s.Inv) : (s.replRun n).Inv := by
  fun_induction State.replRun s n with
  | case1 s => exact h
  | case2 s n e => exact h
  | case3 s n j rest e full => exact h
  | case4 s n j rest e full s' j' s'' ih => exact ih (h.makeCopy.withSq.ifElse (·.freePd))

theorem execReplicationEngine_ends : Ends s (execReplicationEngine s) := .next (·.replRun)

theorem State.Inv.landRepl {r : XRec} (h : s.Inv) : (s.landRepl r).Inv := by
  unfold State.landRepl
  split
  · exact h.replError.landDrop
  · split
    · exact h.landDrop
    · split
      · exact h.landDrop
      · split
        · exact h.landDrop
        · split
          · exact h.landDrop
          · exact (h.storePacket ‹_›).setHandle.setPd.withSq.replRun

theorem State.Inv.land {r : XRec} (h : s.Inv) : (s.land r).Inv :=
  h.replRun.modSample.ite (·.landDrop) (·.ite (·.landRepl) (·.ite (·.landDrop) (·.landOne)))

theorem execRecordLanding_ends : Ends s (execRecordLanding s) := by
  unfold execRecordLanding
  split
  · exact .next id
  · exact .next (·.withSq.land)

theorem State.Inv.landFabric {p : FabPkt} (h : s.Inv) : (s.landFabric p).Inv := by
  refine h.ite (·.count.raise) (·.ite (·.landDrop) (fun h => ?_))
  extract_lets
  split
  · exact h.landDrop
  · exact h.ite (·.landDrop) (·.landOne)

theorem State.Inv.landAll (h : s.Inv) : s.landAll.Inv := by
  unfold State.landAll
  extract_lets rs _ s1 ps s2
  have h1 : s1.Inv := .foldl h.withSq (·.land)
  have h2 : s2.Inv := h1.replRun
  exact .foldl h2.withSq (·.landFabric)

theorem State.Inv.grantBoundary (h : s.Inv) : s.grantBoundary.Inv := h.ifElse (·.withSq.foldl (·.ifElse (·.withSq)))

theorem State.Inv.loseGrants (h : s.Inv) : s.loseGrants.Inv := h.raise.withSq

theorem State.Inv.spendGrant {req u : Nat} {t : State} (h : s.Inv) (e : s.spendGrant req u = some t) : t.Inv := by
  unfold State.spendGrant at e
  split at e
  · split at e
    · cases e
      exact h
    · cases e
  · split at e
    · cases e
    · split at e
      · cases e
      · cases e
        exact h.withSq

theorem State.Inv.latchDue (h : s.Inv) : s.latchDue.Inv := h.withSq

theorem execMove_ends : Ends s (execMove s) := by
  unfold execMove
  extract_lets due
  clear_value due
  split
  · exact .next id
  · refine .either (.next id) ?_
    split
    · exact .next (·.latchDue.setHandle.raise)
    · extract_lets s1 reads _ s2
      refine .next fun h => ?_
      have h1 : s1.Inv := h.latchDue.modSample
      exact State.Inv.setHandle h1.withSq

theorem execQueueRead_ends {r : Requester} {w : Fin 2} : Ends s (execQueueRead r w s) := .either (.next (·.raise)) (.next (·.setRegs))

theorem execQueueWrite_ends {r : Requester} {w : Fin 2} : Ends s (execQueueWrite r w s) := .either (.next (·.raise)) (.next (·.withSq.writtenAny))

theorem execFlush_ends {r : Requester} {w : Fin 2} : Ends s (execFlush r w s) := .either (.next (·.raise)) (.next (·.withSq))

theorem State.Inv.setDeficit {k : Nat} {v : Int} (h : s.Inv) : (s.setDeficit k v).Inv := h.withSch

theorem State.Inv.settleNodes {ks : List Nat} (h : s.Inv) : (s.settleNodes ks).Inv := h.foldl (·.ifElse (·.setDeficit))

theorem State.Inv.flushPd {d : Nat} (h : s.Inv) : (s.flushPd d).Inv := h.qmDrop.dropNote.freePd

theorem State.Inv.queueBoundary (h : s.Inv) : s.queueBoundary.Inv := by
  unfold State.queueBoundary
  extract_lets _ s1 s2 s3
  have h1 : s1.Inv := .foldl h.withSq (·.flushPd)
  have h2 : s2.Inv := h1.foldl fun h => State.Inv.ifElse (State.Inv.setQueue (State.Inv.withSq (h.foldl (·.addDemand)))) (·.settleNodes)
  have h3 : s3.Inv := .foldl h2 (·.withSq)
  exact h3.withSq

theorem State.Inv.bpmStart (h : s.Inv) : s.bpmStart.Inv := by
  unfold State.bpmStart
  extract_lets s1 s2
  have h2 : s2.Inv := (h.foldl (·.setReg)).setReg
  exact h2.others


/-! ### Editor -/

theorem State.Inv.editStep {c : EditCmd} (h : s.Inv) : (s.editStep c).Inv := by
  unfold State.editStep
  split
  · exact h
  · exact h.ifElse (·.withSq)

theorem execEditEnd_ends : Ends s (execEditEnd s) := .next (·.editStep)

theorem execEditDel_ends {off : BitVec 16} {len : Byte} : Ends s (execEditDel off len s) := .next (·.editStep)

theorem execEditIns_ends {off : BitVec 16} {data : List Byte} : Ends s (execEditIns off data s) := .next (·.editStep)

theorem execEditOvr_ends {off : BitVec 16} {data : List Byte} : Ends s (execEditOvr off data s) := .next (·.editStep)

theorem execDec4_ends {off : BitVec 16} : Ends s (execDec4 off s) := .next (·.editStep)

theorem execDec6_ends {off : BitVec 16} : Ends s (execDec6 off s) := .next (·.editStep)

theorem execDecm_ends {off : BitVec 16} : Ends s (execDecm off s) := .next (·.editStep)

theorem execPcopy_ends {off : BitVec 16} {n : Byte} : Ends s (execPcopy off n s) := .next (·.editStep)

theorem State.Inv.takenDrop {req d code : Nat} (h : s.Inv) : (s.takenDrop req d code).Inv := h.qmDrop.dropNote.freePd

theorem State.Inv.bufferError {req d what : Nat} (h : s.Inv) : (s.bufferError req d what).Inv :=
  h.ite (·.reportTm.takenDrop) (·.qmDrop.reportTm.setPd.quarantine.endRead)

theorem State.Inv.editOne {t : Taken} (h : s.Inv) : (s.editOne t).Inv := by
  unfold State.editOne
  extract_lets p hd j f _ s1
  have h1 : s1.Inv := h.withSq
  refine .either h1.takenDrop ?_
  split
  next t' f' marked =>
    have h2 : t'.Inv := by
      split at marked
      · split at marked <;> cases marked
        · exact h1
        · exact h1.count
      · cases marked
        exact h1
    exact h2.withSq

theorem execEgressEdit_ends {err : Option (Fin 3)} : Ends s (execEgressEdit err s) := by
  unfold execEgressEdit
  split
  · exact .next id
  · split
    · exact .next (·.withSq.bufferError)
    · exact .next (·.editOne)

theorem State.Inv.editAll (h : s.Inv) : s.editAll.Inv := by
  refine h.foldl (fun h => ?_)
  split
  · exact h.editOne
  · exact h


/-! ### Sched -/

theorem State.Inv.setPtrs {g : Nat} {p : Ptrs} (h : s.Inv) : (s.setPtrs g p).Inv := h.withSch

theorem State.Inv.wgGreen {g n : Nat} {cs : List (Nat × Nat)} {t : State} (h : s.Inv) (e : s.wgGreen g cs = some (n, t)) : t.Inv := by
  unfold State.wgGreen at e
  split at e
  · cases e
  · cases e
    exact h.setPtrs

theorem State.Inv.wgMove {g unit n m : Nat} {cs : List Nat} {t : State} (h : s.Inv) (e : s.wgMove g unit cs n = some (m, t)) : t.Inv := by
  induction n generalizing s with
  | zero => cases e
  | succ n ih =>
    unfold State.wgMove at e
    dsimp only at e
    split at e
    · cases e
    · split at e
      · cases e
        exact h.setDeficit.setPtrs
      · exact ih h.setDeficit.setPtrs e

theorem State.Inv.wgDwrr {g unit n : Nat} {cs : List (Nat × Nat)} {t : State} (h : s.Inv) (e : s.wgDwrr g unit cs = some (n, t)) : t.Inv := by
  unfold State.wgDwrr at e
  extract_lets el fuel at e
  split at e
  · exact h.wgMove e
  · extract_lets s1 at e
    have h1 : s1.Inv := h.ifElse (·.setDeficit.setPtrs)
    split at e
    · exact (Prod.mk.inj (Option.some.inj e)).2 ▸ h1
    · exact h1.wgMove e

theorem State.Inv.choose {g unit n : Nat} {strict wg : List Nat} {dw : Bool} {t : State} (h : s.Inv)
    (e : s.choose g unit strict wg = some (n, dw, t)) : t.Inv := by
  unfold State.choose at e
  extract_lets st wc at e
  split at e
  · cases e
    exact h
  · split at e
    case h_1 green =>
      cases e
      exact h.wgGreen green
    case h_2 =>
      split at e
      · cases e
        exact h
      · obtain ⟨_, dwrr, eq⟩ := Option.map_eq_some_iff.mp e
        cases eq
        exact h.wgDwrr dwrr

theorem State.Inv.pickBelow {n k : Nat} {l : List (Nat × Bool)} {t : State} (h : s.Inv) (e : s.pickBelow n k = some (l, t)) : t.Inv := by
  induction n generalizing s k l with
  | zero =>
    cases e
    exact h
  | succ n ih =>
    unfold State.pickBelow at e
    dsimp only at e
    split at e
    · cases e
    · obtain ⟨_, below, eq⟩ := Option.map_eq_some_iff.mp e
      cases eq
      exact ih (h.choose ‹_›) below

theorem State.Inv.pickOut {o : Nat} {l : List (Nat × Bool)} {t : State} (h : s.Inv) (e : s.pickOut o = some (l, t)) : t.Inv := by
  unfold State.pickOut at e
  split at e
  · cases e
  · obtain ⟨_, below, eq⟩ := Option.map_eq_some_iff.mp e
    cases eq
    exact (h.choose ‹_›).pickBelow below

theorem State.Inv.countClock {o c : Nat} (h : s.Inv) : (s.countClock o c).Inv := h.withSch

theorem State.Inv.charge {o b : Nat} {path : List (Nat × Bool)} (h : s.Inv) : (s.charge o b path).Inv := by
  unfold State.charge
  extract_lets s1
  have h1 : s1.Inv := h.foldl fun h => State.Inv.ifThen (h.ifThen (·.setDeficit)) (·.withSch)
  exact h1.withSch

theorem State.Inv.settleDeficits {path : List (Nat × Bool)} (h : s.Inv) : (s.settleDeficits path).Inv := h.settleNodes

theorem State.Inv.takeHead {q d : Nat} (h : s.Inv) : (s.takeHead q d).Inv := h.addDemand.setQueue

theorem State.Inv.handOver {o q d aqm : Nat} {mark : Bool} (h : s.Inv) : (s.handOver o q d aqm mark).Inv := h.setPd.ite (·.withFab) (·.withSq)

theorem State.Inv.decide' {o c q d : Nat} {path : List (Nat × Bool)} (h : s.Inv) : (s.decide' o c q d path).Inv :=
  h.countClock.count.ite (·.takeHead.count.raise.setHandle.freePd.settleDeficits) (fun h => ((h.modSample.ifThen
    (·.count.raise)).takeHead.charge.ifThen
    (·.withFab.checkRequest)).handOver.settleDeficits)

theorem execSchedulerDecision_ends {o : Fin 194} {bad : Option Bool} : Ends s (execSchedulerDecision o bad s) := by
  refine .either (.next id) ?_
  split
  · exact .next id
  · extract_lets
    split
    · exact .next fun h => h.pickOut ‹_›
    · split
      · exact .next fun h => (h.pickOut ‹_›).countClock.takeHead.bufferError.settleDeficits
      · exact .next fun h => (h.pickOut ‹_›).decide'

theorem State.Inv.refill {full : Bool} {k : Nat} (h : s.Inv) : (s.refill full k).Inv := h.withSch

theorem State.Inv.setBudget {o : Nat} {v : Int} (h : s.Inv) : (s.setBudget o v).Inv := h.withSch

theorem State.Inv.raiseBudget {o rate : Nat} (h : s.Inv) : (s.raiseBudget o rate).Inv := h.setBudget

theorem State.Inv.fabricBudget {fabBytes : Nat} (h : s.Inv) : (s.fabricBudget fabBytes).Inv := (h.ifThen (·.raise)).setBudget.setReg

theorem State.Inv.refillAll {lose : Bool} (h : s.Inv) : (s.refillAll lose).Inv :=
  ((h.ifElse (·.foldl (·.refill))).foldl (·.ifThen (·.raiseBudget))).raiseBudget

theorem State.Inv.nodeBoundary (h : s.Inv) : s.nodeBoundary.Inv := h.withSch

theorem State.Inv.sampleBoundary {lose : Bool} {b : Nat} (h : s.Inv) : (s.sampleBoundary lose b).Inv := h.withSch

theorem execNodeRead_ends {r : Requester} {w : Fin 2} {level : Fin 8} : Ends s (execNodeRead r w level s) :=
  .either (.next (·.raise)) (.either (.next (·.setFld.setFld)) (.next (·.setFld.setFld.setRegs)))

theorem execNodeWrite_ends {r : Requester} {w : Fin 2} {level : Fin 8} : Ends s (execNodeWrite r w level s) :=
  .either (.next (·.raise)) (.either (.next (·.setFld.setFld)) (.next (fun h => (h.setFld.ite (·.setFld) (·.setFld.raise)).withSch)))

theorem execSampleRead_ends {r : Requester} {w : Fin 2} {clr : Bool} : Ends s (execSampleRead r w clr s) :=
  .either (.next (·.raise)) (.either (.next (·.setFlag.setRegs.withSch)) (.next (·.setFlag.setRegs)))

theorem State.Inv.chanStart {c : Nat} (h : s.Inv) : (s.chanStart c).Inv :=
  (((h.foldl (·.setDeficit)).foldl (·.setPtrs)).foldl (·.refill)).ifThen (·.setBudget)


/-! ### Fabric -/

theorem State.Inv.setFabLane {l : Nat} {x : FabLane} (h : s.Inv) : (s.setFabLane l x).Inv := h.withFab

theorem State.Inv.sendStatus (h : s.Inv) : s.sendStatus.Inv := h.foldl (·.ifElse (·.withFab.ctlSend))

theorem State.Inv.sendIfPlanes {before : Nat} (h : s.Inv) : (s.sendIfPlanes before).Inv := h.ifThen (·.sendStatus)

theorem State.Inv.putLaneSt {l v : Nat} (h : s.Inv) : (s.putLaneSt l v).Inv := h.setFld

theorem State.Inv.fabTrain {l : Nat} {rf : Bool} (h : s.Inv) : (s.fabTrain l rf).Inv := h.putLaneSt.setFabLane.setLock

theorem State.Inv.fabReady {l : Nat} (h : s.Inv) : (s.fabReady l).Inv := h.putLaneSt.setFabLane

theorem State.Inv.fabFail {l cause : Nat} (h : s.Inv) : (s.fabFail l cause).Inv :=
  h.ifThen (·.putLaneSt.setFld.raise.raise.withFab.reportTm.sendIfPlanes)

theorem State.Inv.fabClock (h : s.Inv) : s.fabClock.Inv := h.withFab.foldl (·.ifThen (·.ite (·.fabTrain) (·.putLaneSt)))

theorem State.Inv.fabLock {l : Nat} {locked lost : Bool} (h : s.Inv) : (s.fabLock l locked lost).Inv :=
  h.ite (·.putLaneSt.setFabLane) (·.ifThen (·.ite (·.fabTrain) (·.fabFail)))

theorem execLaneEnable_ends {i : Fin 4} {v : Word} : Ends s (execLaneEnable i v s) :=
  .next (·.setReg.foldl (·.ite (·.ifThen (·.fabTrain)) (·.ifThen (·.putLaneSt))))

theorem execLaneFail_ends {l : Fin 128} {cause : Fin 5} : Ends s (execLaneFail l cause s) := .next (·.ifThen (·.fabFail))

theorem execLaneDrainEnd_ends {l : Fin 128} : Ends s (execLaneDrainEnd l s) := .next (·.ifThen (·.ite (·.fabReady) (·.putLaneSt)))

theorem execLaneReturn_ends {l : Fin 128} : Ends s (execLaneReturn l s) := .next (·.ifThen (·.putLaneSt.sendIfPlanes))

theorem execFabricFrameReceived_ends {l : Fin 128} {pattern : BitVec 64} {flags : Byte} {body : BitVec 40} {crc : BitVec 16} {bad : Bool} :
    Ends s (execFabricFrameReceived l pattern flags body crc bad s) :=
  .either (.next id) (.next (fun h => ((h.ifThen (·.setFld.setFld.setFlag.setFlag)).setFabLane.ifThen (·.raise.count)).ite (·.fabReady) (·.ite
    (·.fabFail) (·.ifThen (·.fabFail)))))

theorem State.Inv.linkSetSwitch (h : s.Inv) : s.linkSetSwitch.Inv :=
  ((h.foldl (·.ite (·.putLaneSt) (·.ifThen (·.putLaneSt.setFabLane)))).foldl (·.setReg)).sendIfPlanes

theorem State.Inv.dropStream {ds : List Nat} (h : s.Inv) : (s.dropStream ds).Inv := h.foldl (·.setHandle.freePd)

theorem State.Inv.placeStream {b m : Nat} {ds : List Nat} {slots : List (Nat × Nat)} (h : s.Inv) : (s.placeStream b m ds slots).Inv :=
  (h.withFab.foldl (·.count)).foldl (·.closeSample.freePd)

theorem State.Inv.sendStream {b m : Nat} {ds : List Nat} {free : List (Nat × Nat)} (h : s.Inv) : (s.sendStream b m ds free).1.Inv := by
  unfold State.sendStream
  extract_lets _ s1 reach mine n
  have h1 : s1.Inv := h.withFab
  split
  · exact h1.dropStream.count
  · split
    · exact State.Inv.raise (State.Inv.count h1.withFab)
    · exact h1.placeStream

theorem State.Inv.sendData {b : Nat} (h : s.Inv) : (s.sendData b).Inv := by
  unfold State.sendData
  exact .foldlFst h.withFab (·.sendStream)

theorem State.Inv.sendControl {b : Nat} (h : s.Inv) : (s.sendControl b).Inv := by
  refine h.foldl (fun h => ?_)
  split
  · exact h
  · exact h.withFab.count

theorem State.Inv.fabReadErrors {errs : List (Nat × Nat)} (h : s.Inv) : (s.fabReadErrors errs).Inv := h.foldl (·.ifThen (·.withFab.bufferError))

theorem State.Inv.fabTransmit {b : Nat} (h : s.Inv) : (s.fabTransmit b).Inv := (h.withFab.ifThen (·.sendData)).ifThen (·.sendControl)

theorem State.Inv.hear {m : Nat} (h : s.Inv) : (s.hear m).Inv := h.withFab

theorem State.Inv.cellDrop {reason bit : Nat} (h : s.Inv) : (s.cellDrop reason bit).Inv := h.count.raise

theorem State.Inv.cellData {l smod dmod stamp : Nat} {c : RxCell} (h : s.Inv) : (s.cellData l smod dmod stamp c).Inv := by
  refine h.ite (·.count) (·.ite (·.cellDrop) (fun h => ?_))
  split
  · exact h.ite (·.count) (·.withFab.count)
  · exact h.withFab.count

theorem State.Inv.cellIn {l : Nat} {hdr : BitVec 128} {payload : List Byte} (h : s.Inv) : (s.cellIn l hdr payload).1.Inv := by
  unfold State.cellIn
  extract_lets
  split
  · exact h
  · split
    · exact h.cellDrop
    · split
      · exact h.cellDrop
      · split
        · exact h.cellDrop
        · split
          · exact h.cellData
          · exact h.hear.count

theorem State.Inv.streamRelease {b : Nat} (h : s.Inv) : (s.streamRelease b).Inv := by
  refine h.withFab.foldl (fun h => ?_)
  split
  · exact h.count.raise
  · exact h.withSq

theorem State.Inv.grantLoop {e g sent n : Nat} (h : s.Inv) : (s.grantLoop e g sent n).1.Inv := by
  fun_induction State.grantLoop s e g sent n with
  | case1 s sent => exact h
  | case2 s sent n b stop q idle => exact h
  | case3 s sent n b stop q idle none => exact h
  | case4 s sent n b stop q idle m some s' ih => exact ih h.withFab.ctlSend.count

theorem State.Inv.creditBoundary (h : s.Inv) : s.creditBoundary.Inv := by
  unfold State.creditBoundary
  split
  · exact h
  · exact .foldlFst h (·.withFab.grantLoop)

theorem State.Inv.msgRequest {src e : Nat} {on : Bool} (h : s.Inv) : (s.msgRequest src e on).Inv := h.withFab

theorem State.Inv.msgGrant {src e units : Nat} (h : s.Inv) : (s.msgGrant src e units).Inv := h.withFab.checkRequest

theorem State.Inv.msgStatus {src planes : Nat} (h : s.Inv) : (s.msgStatus src planes).Inv := h.ifElse (·.setFld.setFlag)

theorem execRequest_ends {src : Fin 64} {e : BitVec 10} {on : Bool} : Ends s (execRequest src e on s) := .next (·.ifThen (·.hear.msgRequest))

theorem execGrant_ends {src : Fin 64} {e : BitVec 10} {units : BitVec 20} : Ends s (execGrant src e units s) := .next (·.ifThen (·.hear.msgGrant))

theorem execStatus_ends {src : Fin 64} {planes : Byte} : Ends s (execStatus src planes s) := .next (·.ifThen (·.hear.msgStatus))

theorem State.Inv.msgOther {mtype : Nat} (h : s.Inv) : (s.msgOther mtype).Inv := h.ifThen (·.cellDrop)

theorem execEmptyMessage_ends {src : Fin 64} {mtype : BitVec 4} : Ends s (execEmptyMessage src mtype s) := .next (·.ifThen (·.hear.msgOther))

theorem execRequestRepeat_ends {dest : BitVec 16} : Ends s (execRequestRepeat dest s) := .next (·.ifThen (·.sendRequest))

theorem execStatusRefresh_ends : Ends s (execStatusRefresh s) := .next (·.ifThen (·.sendStatus))

theorem execStatusTimeout_ends {m : Fin 64} : Ends s (execStatusTimeout m s) :=
  .either (.next id) (.next (·.withFab.setFld.raise.foldl (·.checkRequest)))

theorem State.Inv.fabStart (h : s.Inv) : s.fabStart.Inv := by
  unfold State.fabStart
  exact .sendStatus (.foldl (.withFab (.foldl (h.foldl (·.setFlag)) (·.ifThen (·.putLaneSt)))) (·.withFab.sendRequest))

theorem State.Inv.fabDiscard (h : s.Inv) : s.fabDiscard.Inv := h.withFab.dropStream


/-! ### Mate -/

theorem State.Inv.sendHeartbeat (h : s.Inv) : s.sendHeartbeat.Inv := h.ifElse (·.others.count.ifThen (·.ctlSend.count))

theorem State.Inv.wtrRefresh (h : s.Inv) : s.wtrRefresh.Inv := h.withMate.setFld

theorem State.Inv.wtrRestart (h : s.Inv) : s.wtrRestart.Inv := h.withMate.wtrRefresh

theorem State.Inv.setMateSt {v : Nat} (h : s.Inv) : (s.setMateSt v).Inv := h.ifElse (·.setFld.raise.sendHeartbeat.wtrRefresh)

theorem State.Inv.setTake {b : Bool} (h : s.Inv) : (s.setTake b).Inv := h.ifElse (·.withMate.sendHeartbeat)

theorem State.Inv.toStandby (h : s.Inv) : s.toStandby.Inv := h.setFlag.setMateSt.wtrRestart

theorem State.Inv.release (h : s.Inv) : s.release.Inv := h.ifThen (·.withMate.setFlag.setMateSt)

theorem State.Inv.healthRefresh (h : s.Inv) : s.healthRefresh.Inv := h.setFlag.ite (·.setTake.wtrRestart) (·.wtrRefresh)

theorem State.Inv.heartbeatIn {mstate health : Nat} (h : s.Inv) : (s.heartbeatIn mstate health).Inv :=
  ((h.setFld.setFld.setFlag.setFlag.ifThen (·.toStandby)).ifThen (·.release)).wtrRefresh

theorem State.Inv.mateCfgWrite {v : Nat} (h : s.Inv) : (s.mateCfgWrite v).Inv :=
  ((h.ifThen (·.raise)).setReg.ifElse (·.setFlag)).ite (·.setFlag.withMate.setMateSt) (·.ite (·.withMate.setMateSt) (·.wtrRefresh))

theorem execMateEnable_ends {v : Word} : Ends s (execMateEnable v s) := .next (·.ifElse (·.mateCfgWrite))

theorem execSync_ends : Ends s (execSync s) := .next (·.ifThen (·.toStandby))

theorem execRelease_ends : Ends s (execRelease s) := .next (·.release)

theorem State.Inv.wtrDone (h : s.Inv) : s.wtrDone.Inv := h.withMate.setFld.setTake

theorem execForceTake_ends : Ends s (execForceTake s) := .next (·.ifThen (·.wtrDone))

theorem execWtrExpiry_ends : Ends s (execWtrExpiry s) := by
  refine .next (fun h => ?_)
  split
  · exact h.ifThen (·.wtrDone)
  · exact h

theorem execMateKick_ends {r : Requester} : Ends s (execMateKick r s) := by
  unfold execMateKick
  split
  · exact .next (·.bumpReg)
  · exact .next (·.withMate.ifThen (·.setMateSt))

theorem execKickTimeout_ends : Ends s (execKickTimeout s) := .next (·.ifThen (·.mateExpire))

theorem execHeartbeatSend_ends : Ends s (execHeartbeatSend s) := .next (·.ifElse (·.withMate.sendHeartbeat))

theorem execDirectHeartbeat_ends {f : BitVec 96} : Ends s (execDirectHeartbeat f s) :=
  .either (.next id) (.either (.next (·.count)) (.either (.next id) (.next (·.setFld.count.withMate.heartbeatIn))))

theorem State.Inv.msgHeartbeat {src seq mstate health : Nat} (h : s.Inv) : (s.msgHeartbeat src seq mstate health).Inv :=
  h.ifElse (·.setFld.count.withFab.heartbeatIn)

theorem execHeartbeat_ends {src : Fin 64} {seq : BitVec 16} {mstate health : Byte} : Ends s (execHeartbeat src seq mstate health s) :=
  .next (·.ifThen (·.hear.msgHeartbeat))

theorem State.Inv.message {src : Nat} {m : BitVec 64} (h : s.Inv) : (s.message src m).Inv := by
  unfold State.message
  extract_lets
  split
  exacts [h.msgRequest, h.msgGrant, h.msgHeartbeat, h.msgStatus, h.msgOther]

theorem execCellReceived_ends {l : Fin 128} {hdr : BitVec 128} {payload : List Byte} : Ends s (execCellReceived l hdr payload s) :=
  .next (·.cellIn.foldl (·.message))

theorem execMateDeclaredFailed_ends : Ends s (execMateDeclaredFailed s) := .next (·.ifElse (·.ite (·.ifElse (·.raise.raise)) (·.ifThen (·.raise))))

theorem execClaim_ends : Ends s (execClaim s) := .next (·.ifElse (·.ite (·.raise) (·.withMate.setFlag.setMateSt.count)))

theorem execClaimHoldEnd_ends : Ends s (execClaimHoldEnd s) := by
  refine .next (fun h => ?_)
  split
  · exact h.ifThen (·.withMate.setMateSt.ifThen (·.sendStatus))
  · exact h

theorem State.Inv.withdraw {ms : Nat} (h : s.Inv) : (s.withdraw ms).Inv := h.withMate.toStandby.count

theorem execMateSeenLow_ends : Ends s (execMateSeenLow s) := .next (·.setFlag.ifElse (·.ite (·.withdraw) (·.ite (·.withMate) (·.raise.withdraw))))

theorem execMateSeenHigh_ends : Ends s (execMateSeenHigh s) := .next (·.setFlag.ifThen (·.withMate))

theorem execClaimBackoffEnd_ends : Ends s (execClaimBackoffEnd s) := .next (·.ifThen (·.withMate))

theorem execReleasingTimeout_ends : Ends s (execReleasingTimeout s) := .next (·.ifThen (·.toStandby))

theorem execSelfTestFrame_ends {frame : List Byte} : Ends s (execSelfTestFrame frame s) := .next (·.ifThen (·.withMate.mssSend))

theorem State.Inv.testBack {frame : List Byte} (h : s.Inv) : (s.testBack frame).Inv := h.ifThen (·.withMate.setFlag.healthRefresh)

theorem execSelfTestTimeout_ends : Ends s (execSelfTestTimeout s) := by
  refine .next (fun h => ?_)
  split
  · exact h.ifThen (·.withMate.setFlag.healthRefresh)
  · exact h


/-! ### Host -/

theorem State.Inv.setRing {inj : Bool} {r : Nat} {x : Machine.Ring} (h : s.Inv) : (s.setRing inj r x).Inv := h.ite (·.withHif) (·.withHif)

theorem State.Inv.sendVec {v : Nat} (h : s.Inv) : (s.sendVec v).Inv := h.ite (·.withHif) (·.setFlag)

theorem State.Inv.flushPba (h : s.Inv) : s.flushPba.Inv := h.foldl (·.ifThen (·.setFlag.sendVec))

theorem State.Inv.irq (h : s.Inv) : s.irq.Inv := (h.foldl (·.ifThen (·.setFlag.sendVec))).withHif

theorem execVectorEoi_ends {v : Fin 64} : Ends s (execVectorEoi v s) := .next (·.setFlag.irq)

theorem execMsixUnmask_ends {v : Fin 64} : Ends s (execMsixUnmask v s) := .next (·.setFlag.flushPba.irq)

theorem execModerationTimer_ends {inj : Bool} {r : Fin 64} : Ends s (execModerationTimer inj r s) := .next (·.ifThen (·.irq))

theorem State.Inv.ackWritten {inj : Bool} {r : Nat} (h : s.Inv) : (s.ackWritten inj r).Inv := h.ifThen (·.setRing)

theorem State.Inv.headNext {inj : Bool} {r : Nat} (h : s.Inv) : (s.headNext inj r).Inv := h.setReg.ifThen (·.setRing)

theorem State.Inv.resetRing {inj : Bool} {r : Nat} (h : s.Inv) : (s.resetRing inj r).Inv :=
  ((h.withBus.foldl (·.closeSample)).foldl (·.setReg)).setRing

/-- Registers that read their reset values again. -/
theorem State.Inv.filterRegs {p : Nat × Word → Bool} (h : s.Inv) :
    ({ s with bus := { s.bus with regs := s.bus.regs.filter p } } : State).Inv :=
  ⟨Tab.filter_wf regReset p s.bus.regs 0 h.regs, h.sec, h.ns, h.frac, h.queue⟩

theorem State.Inv.hostReset (h : s.Inv) : s.hostReset.Inv := by
  unfold State.hostReset
  extract_lets s1 clear s2 _ s3 _ _ s4
  have h1 : s1.Inv := h.foldl (·.resetRing.resetRing)
  have h2 : s2.Inv := h1.filterRegs.filterRegs.filterRegs
  have h3 : s3.Inv := h2.withBus
  have h4 : s4.Inv := h3.others
  exact h4.irq

theorem execPerstNAssert_ends : Ends s (execPerstNAssert s) := .next (fun h => (h.withHif.ifThen (·.raise)).setReg.hostReset.tellFirmware)

theorem execPerstNRelease_ends : Ends s (execPerstNRelease s) := .next (·.withHif)

theorem execPcieLinkUp_ends {speed width : Fin 16} {bme : Bool} : Ends s (execPcieLinkUp speed width bme s) :=
  .either (.next id) (.next (·.setReg.flushPba))

theorem execHotReset_ends {linkDown : Bool} : Ends s (execHotReset linkDown s) := .next (fun h => (h.ifThen (·.raise)).setReg.hostReset.tellFirmware)

theorem execFunctionLevelReset_ends : Ends s (execFunctionLevelReset s) := .next (·.raise.setFlag.setFlag.hostReset.tellFirmware)

theorem execD3hotEntry_ends : Ends s (execD3hotEntry s) := .next (·.setFlag.tellFirmware)

theorem execD0Return_ends : Ends s (execD0Return s) := .next (·.setFlag.flushPba)

theorem execBusMasterEnableClear_ends : Ends s (execBusMasterEnableClear s) := .next (·.setFlag)

theorem execHostReadTimeout_ends {addr : BitVec 28} : Ends s (execHostReadTimeout addr s) := .next (·.bumpReg.report.withBus)

theorem execRingEnable_ends {inj : Bool} {r : Fin 64} {v : Word} : Ends s (execRingEnable inj r v s) :=
  .either (.next id) (.either (.next (·.raise)) (.next (fun h => (h.foldl (·.closeSample)).setReg.setReg.setReg.setReg.setFlag.setRing)))

theorem execRingDisable_ends {inj : Bool} {r : Fin 64} {v : Word} : Ends s (execRingDisable inj r v s) :=
  .either (.next id) (.next (fun h => (h.ifThen (·.raise)).setFlag.setFlag.ifThen (·.setRing)))

theorem execDescriptorFetch_ends {inj : Bool} {r : Fin 64} {ok : Bool} {w0 w1 w2 w3 : Dword} : Ends s (execDescriptorFetch inj r ok w0 w1 w2 w3 s) :=
  by
  refine .either (.next id) (.either (.next (·.count.setRing)) (.next (fun h => ?_)))
  split
  · exact h.count.raise.count.closeSample.setRing
  · exact h.count.raise

theorem State.Inv.puntRefuse {r why : Nat} (h : s.Inv) : (s.puntRefuse r why).Inv := h.bumpReg.raise.ifThen (·.raise)

theorem State.Inv.puntOffer {r : Nat} {p : Punt} (h : s.Inv) : (s.puntOffer r p).1.Inv := by
  unfold State.puntOffer
  extract_lets x
  split
  · exact h.puntRefuse (r := r) (why := 1)
  · split
    · exact h.puntRefuse (r := r) (why := 2)
    · exact h.setRing (inj := false) (r := r)

theorem State.Inv.dmaWrite {mss : Bool} {a : Nat} {bs : List Byte} (h : s.Inv) : (s.dmaWrite mss a bs).Inv := h.withHif

theorem State.Inv.puntBack {r : Nat} {d : RingDesc} {p : Punt} (h : s.Inv) : (s.puntBack r d p).Inv :=
  ((h.ifThen (·.dmaWrite)).dmaWrite.dmaWrite.ifThen (·.testBack)).setRing.headNext.ite (fun h => (h.ifThen (·.raise)).count.closeSample)
    (·.raise.count.closeSample)

theorem State.Inv.ringTurn {inj : Bool} {can : Nat → Bool} {n : Nat} {t : State} (h : s.Inv) (e : s.ringTurn inj can = some (n, t)) : t.Inv := by
  unfold State.ringTurn at e
  dsimp only at e
  split at e
  · cases e
    exact h.withHif
  · cases e
    exact h.withHif
  · cases e

theorem State.Inv.puntTime {n : Nat} (h : s.Inv) : (s.puntTime n).Inv := h.withHif

theorem execPuntWrite_ends : Ends s (execPuntWrite s) := by
  refine .either (.next id) ?_
  split
  · exact .next id
  · split
    · exact .next fun h => (h.ringTurn ‹_›).puntBack.puntTime.irq
    · exact .next fun h => h.ringTurn ‹_›

theorem State.Inv.injectFlush {r n : Nat} (h : s.Inv) : (s.injectFlush r n).Inv := by
  fun_induction State.injectFlush s r n with
  | case1 s => exact h
  | case2 s n x st rest e s1 s2 ih => exact ih h.dmaWrite.setRing.headNext.count
  | case3 s n x e => exact h

theorem State.Inv.injectDone {inj : Option (Nat × Nat)} {st : Nat} (h : s.Inv) : (s.injectDone inj st).Inv := by
  unfold State.injectDone
  split
  · exact h
  · exact h.ifElse (·.setRing.injectFlush)

theorem execInjectRead_ends {ok : Bool} {bytes : List Byte} : Ends s (execInjectRead ok bytes s) := by
  unfold execInjectRead
  split
  · exact .next id
  next turn =>
    extract_lets x k
    split
    · exact .next id
    · extract_lets w n t r
      have kept (h : s.Inv) : t.Inv := (h.ringTurn turn).setRing
      clear_value t
      split
      · exact .next fun h => (kept h).raise.injectDone.irq
      · exact .either (.next fun h => (kept h).injectDone.irq) (.either (.next id) (.next fun h => (kept h).others))

theorem State.Inv.injectBudget (h : s.Inv) : s.injectBudget.Inv := h.withHif

theorem State.Inv.mbxClear {m : Nat} (h : s.Inv) : (s.mbxClear m).Inv := h.setFlag.setRegs

theorem State.Inv.mbxPut {m lo hi tag : Nat} (h : s.Inv) : (s.mbxPut m lo hi tag).Inv := h.setRegs.setFlag

theorem State.Inv.setMbxNow {m : Nat} {x : MbxNow} (h : s.Inv) : (s.setMbxNow m x).Inv := h.withHif

theorem execMailboxPost_ends {r : Requester} {m : Fin 32} {tag : Word} : Ends s (execMailboxPost r m tag s) :=
  .next (·.ite (·.raise) (·.ite (·.setMbxNow.raise) (·.mbxPut.irq)))

theorem State.Inv.mbxPop {m : Nat} (h : s.Inv) : (s.mbxPop m).Inv := by
  refine h.ite (·.setMbxNow.raise.raise.irq) (·.ifThen (fun h => ?_))
  extract_lets
  split
  · exact h.setMbxNow.mbxClear.raise.mbxPut.setFlag.irq
  · exact h.setMbxNow.mbxClear.raise.irq

theorem execPop_ends {r : Requester} {m : Fin 32} : Ends s (execPop r m s) := .next (·.ite (·.raise) (·.mbxPop))

theorem execWithdraw_ends {r : Requester} {m : Fin 32} : Ends s (execWithdraw r m s) :=
  .next (·.ite (·.raise) (·.ite (·.raise) (·.setMbxNow.mbxClear)))


/-! ### Slots -/

theorem State.Inv.setArmed {k : SlotId} {x : Option Armed} (h : s.Inv) : (s.setArmed k x).Inv := h.withBus.setFlag

theorem State.Inv.slotArm {k : SlotId} (h : s.Inv) : (s.slotArm k).Inv := h.ite (·.raise) (·.setArmed)

theorem execArm_ends {k : SlotId} {cancelToo : Bool} : Ends s (execArm k cancelToo s) := .next (·.ite (·.slotArm.setArmed) (·.slotArm))

theorem execCancel_ends {k : SlotId} : Ends s (execCancel k s) := .next (·.ifThen (·.setArmed))

theorem State.Inv.slotApplied {k : SlotId} (h : s.Inv) : (s.slotApplied k).Inv := h.setArmed.raise.ifThen (·.raise.raise.bumpReg.count)

theorem State.Inv.slotsJudged (h : s.Inv) : s.slotsJudged.Inv := by
  refine h.foldl (fun h => ?_)
  split
  · exact h.setArmed
  · exact h

theorem State.Inv.setBeat {n : Nat} (h : s.Inv) : (s.setBeat n).Inv := h.withBus

theorem execEpochLoad_ends : Ends s (execEpochLoad s) := .next (·.ifElse (·.setBeat.raise.slotsJudged))

theorem State.Inv.realign (h : s.Inv) : s.realign.Inv := h.setFlag

theorem execRealign_ends : Ends s (execRealign s) := .next (·.realign)

theorem execRealignLoad_ends : Ends s (execRealignLoad s) := .next (·.ifThen (·.setBeat.setFlag.raise.slotsJudged))

theorem State.Inv.alignBoundary (h : s.Inv) : s.alignBoundary.Inv := h.ifElse (·.setReg.setReg.setFlag.ifThen (·.raise.ifThen (·.report)))

theorem State.Inv.pmuSnapshot {b : Nat} (h : s.Inv) : (s.pmuSnapshot b).Inv := h.withPmu.setReg.setReg64


/-! ### Scr -/

theorem State.Inv.setScrSt {k : ScrId} {x : ScrSt} (h : s.Inv) : (s.setScrSt k x).Inv := h.withBus

theorem State.Inv.scrReject {k : ScrId} {why : Nat} (h : s.Inv) : (s.scrReject k why).Inv := h.raise.setFld

theorem State.Inv.scrAccept {k : ScrId} {cmd : Nat} (h : s.Inv) : (s.scrAccept k cmd).Inv := h.setScrSt

theorem State.Inv.startCmd {k : ScrId} (h : s.Inv) : (s.startCmd k).Inv :=
  h.ite (·.scrReject) (·.ite (·.scrReject) (·.ite (·.scrReject) (·.ite (·.scrReject) (·.ite (·.scrReject) (·.scrAccept)))))

theorem State.Inv.stopCmd {k : ScrId} (h : s.Inv) : (s.stopCmd k).Inv := h.ite (·.scrReject) (·.ite (·.scrReject) (·.ite (·.scrReject) (·.scrAccept)))

theorem execStart_ends {f : ScrId} : Ends s (execStart f s) := .next (·.startCmd)

theorem execStop_ends {f : ScrId} : Ends s (execStop f s) := .next (·.stopCmd)

theorem execInvalidCmd_ends {f : ScrId} : Ends s (execInvalidCmd f s) := .next (·.scrReject)

theorem State.Inv.laneRates {g : Nat} {on : Bool} (h : s.Inv) : (s.laneRates g on).Inv := h.foldl (·.setFld)

theorem State.Inv.startActs {k : ScrId} (h : s.Inv) : (s.startActs k).Inv := by
  unfold State.startActs
  split
  exacts [h.laneRates.pcsReset.refreshGroup, h.flxReset.applyCli.takeRxCli, h.lkpStart, h.tcmStart, h.bpmStart, h.aveStarts, h]

theorem State.Inv.aveDone {p : Nat} (h : s.Inv) : (s.aveDone p).Inv := by
  refine State.Inv.setFlag (State.Inv.startSupervisor ?_)
  split
  · exact h.clearAvenue
  · exact h.clearAvenue.copyCode.copyGraph.copySlice

theorem State.Inv.startDone {k : ScrId} (h : s.Inv) : (s.startDone k).Inv := by
  unfold State.startDone
  split
  exacts [h.refreshGroup, h.refreshGroup, h.fabStart, h]

theorem execStartSequenceComplete_ends {f : ScrId} {fault : BitVec 8} : Ends s (execStartSequenceComplete f fault s) := by
  refine .either (.next id) (.either (.next (·.setScrSt)) ?_)
  split
  exacts [.either (.next (·.aveDone.setScrSt)) (.next id), .next (·.chanStart.setScrSt), .next (·.setScrSt)]

theorem execStartTimeout_ends {f : ScrId} : Ends s (execStartTimeout f s) := .either (.next (·.setScrSt)) (.next id)

theorem execDrainComplete_ends {f : ScrId} : Ends s (execDrainComplete f s) := .either (.next (·.setScrSt)) (.next id)

theorem execDrainTimeout_ends {f : ScrId} : Ends s (execDrainTimeout f s) := .either (.next (·.setScrSt)) (.next id)

theorem State.Inv.stopActs {k : ScrId} (h : s.Inv) : (s.stopActs k).Inv := by
  unfold State.stopActs
  split
  exacts [h.refreshGroup, h.flxReset.foldl (·.refreshGroup), h.ifThen (·.dropTrace.dropTrace), h.tcmStop, h]

theorem State.Inv.stopDone {k : ScrId} (h : s.Inv) : (s.stopDone k).Inv := by
  unfold State.stopDone
  split
  · exact h.laneRates.refreshGroup
  · exact h

theorem State.Inv.faultActs {k : ScrId} {code : BitVec 8} (h : s.Inv) : (s.faultActs k code).Inv := by
  unfold State.faultActs
  split
  exacts [h.ifThen (·.fabDiscard), h.report, h.refreshGroup, h.refreshGroup, h]

theorem State.Inv.scrEnter {k : ScrId} {st : Nat} (h : s.Inv) : (s.scrEnter k st).Inv := h.setFld.setScrSt

theorem State.Inv.scrStep {k : ScrId} (h : s.Inv) : (s.scrStep k).Inv := by
  refine h.ite (·.setFld.scrEnter.startActs) fun h => h.ite (fun h => h.ite (·.scrEnter.stopDone) (·.scrEnter.stopActs)) fun h => ?_
  split
  · exact h.scrEnter.startDone
  · exact h.setFld.scrEnter.faultActs
  · exact h.scrEnter.stopDone
  · exact h.ifThen (·.scrEnter.stopDone)

theorem State.Inv.scrBoundary (h : s.Inv) : s.scrBoundary.Inv := h.ifElse (·.foldl (·.ifElse (·.scrStep)))


/-! ### Time -/

theorem State.Inv.setTimSt {v : Nat} (h : s.Inv) : (s.setTimSt v).Inv := h.ifElse (·.withTim.setFld.raise)

theorem State.Inv.setTime {n : Int} (h : s.Inv) : (s.setTime n).Inv := by
  unfold State.setTime
  extract_lets m ns
  have hm : m < 2 ^ 48 * 1000000000 * 65536 := by omega
  exact ⟨h.regs, by show m / 65536000000000 < 2 ^ 48; omega, by show ns < 1000000000; omega, by show m % 65536 < 65536; omega, h.queue⟩

theorem State.Inv.timeTick (h : s.Inv) : s.timeTick.Inv := h.setTime.withTim

theorem State.Inv.trgNext {t : Nat} (h : s.Inv) : (s.trgNext t).Inv := h.setReg.setReg.setFld

theorem State.Inv.trgAct {t : Nat} (h : s.Inv) : (s.trgAct t).Inv := by
  unfold State.trgAct
  split
  exacts [h.withTim, h.ite (·.raise) (·.setReg.ite (·.slotArm.raise) (·.slotArm)), h.withTim, h.ifElse (·.realign), h]

theorem State.Inv.trgFire {t : Nat} {late : Bool} (h : s.Inv) : (s.trgFire t late).Inv :=
  ((h.trgAct.raise.count.ifThen (·.raise)).ifThen (·.raise)).ite (·.setFlag) (·.trgNext)

theorem execTriggerEnable_ends {t : Fin 8} {v : Word} : Ends s (execTriggerEnable t v s) :=
  .either (.next id) (.next fun h => h.setReg.setFld.withTim)

theorem execTriggerFire_ends {t : Fin 8} : Ends s (execTriggerFire t s) := .next (·.ifThen (·.trgFire))

theorem State.Inv.trgStepped {before : List Nat} (h : s.Inv) : (s.trgStepped before).Inv :=
  h.foldl (·.ifElse (·.ite (·.trgNext) (·.ifThen (·.trgFire))))

theorem State.Inv.timeStep {n : Int} (h : s.Inv) : (s.timeStep n).Inv := (h.setTime.raise.count.logOpen.ifThen (·.setTimSt)).trgStepped

theorem State.Inv.timeSet {mode : Nat} (h : s.Inv) : (s.timeSet mode).Inv := h.ite (·.raise) (·.withTim.setFlag)

theorem execTimeSet_ends : Ends s (execTimeSet s) := .next (·.timeSet)

theorem execTimeAdd_ends : Ends s (execTimeAdd s) := .next (·.timeSet)

theorem execTimeNsRead_ends {r : Requester} : Ends s (execTimeNsRead r s) := .next (·.withTim.answer)

theorem State.Inv.capture {src : Nat} {rising : Bool} (h : s.Inv) : (s.capture src rising).Inv :=
  h.withTim.ifElse (·.ite (·.raise) (·.withTim.raise.count.writtenAny))

theorem execTevtEdge_ends {i : Fin 4} {rising : Bool} : Ends s (execTevtEdge i rising s) := .next (·.ifThen (·.capture))

theorem State.Inv.txRecord {sec ns w2 w3 : Nat} (h : s.Inv) : (s.txRecord sec ns w2 w3).Inv := h.ite (·.raise) (·.withTim.raise.count)

theorem execQueueFirstWordRead_ends {r : Requester} {tx : Bool} : Ends s (execQueueFirstWordRead r tx s) := by
  unfold execQueueFirstWordRead
  split <;> exact .next (·.withTim.answer)

theorem execQueueLastWordRead_ends {r : Requester} {tx : Bool} : Ends s (execQueueLastWordRead r tx s) := by
  unfold execQueueLastWordRead
  split <;> exact .next (·.withTim.answer)

theorem State.Inv.measure {n : Nat} {o : Int} (h : s.Inv) : (s.measure n o).Inv := h.withTim.setReg.setFlag

theorem execReferencePpsEdge_ends {n : Fin 3} : Ends s (execReferencePpsEdge n s) := .either (.next id) (.next (·.measure.capture))

theorem State.Inv.commitHigh {lo v : Nat} (h : s.Inv) : (s.commitHigh lo v).Inv := h.setReg.setReg

theorem execReferenceOffsetSubmit_ends {n : Fin 3} {v : Word} : Ends s (execReferenceOffsetSubmit n v s) := .next (·.commitHigh.ifThen (·.measure))

theorem execReferenceEdgeMissing_ends {n : Fin 3} : Ends s (execReferenceEdgeMissing n s) := .next (·.ifThen (·.setFlag.raise))

theorem State.Inv.markDis {n : Nat} {dis : Bool} (h : s.Inv) : (s.markDis n dis).Inv := h.setFlag.ifThen (·.raise.bumpReg.raise.count)

theorem State.Inv.setFreq {f : Int} (h : s.Inv) : (s.setFreq f).Inv := h.setReg

theorem State.Inv.servo {v : Int} (h : s.Inv) : (s.servo v).Inv := h.ite (·.timeStep) (fun h => (h.ifThen (·.raise)).setFreq.withFresh)

theorem State.Inv.voteState {v : Option Int} (h : s.Inv) : (s.voteState v).Inv := by
  unfold State.voteState
  split
  · exact h.ite (fun h => (h.withTim.ifThen (·.setFreq)).setTimSt) (·.ifThen (·.setTimSt))
  · extract_lets
    split
    exacts [h.withTim.ifThen (·.setTimSt), h.withTim.ifThen (·.setTimSt), h.setTimSt]

theorem State.Inv.keepF (h : s.Inv) : s.keepF.Inv := h.withTim.withTim

theorem State.Inv.vote (h : s.Inv) : s.vote.Inv := by
  unfold State.vote
  extract_lets _ s1 ms r s2 s3 s4 s5 s6
  have h1 : s1.Inv := h.withTim
  have h3 : s3.Inv := (h1.foldl (·.setFlag.markDis)).count.setFlag
  have h4 : s4.Inv := by
    unfold s4
    split
    · exact h3.setReg
    · exact h3
  have h6 : s6.Inv := by
    unfold s6
    split
    · exact h4.voteState.ifThen (·.servo)
    · exact h4.voteState
  exact h6.ifThen (·.keepF)

theorem execVote_ends : Ends s (execVote s) := .next (·.ifThen (·.vote))

theorem State.Inv.refExpire {n : Nat} (h : s.Inv) : (s.refExpire n).Inv := h.ifElse (·.setFlag.ifThen (·.raise))

theorem State.Inv.tickEnd (h : s.Inv) : s.tickEnd.Inv := ((h.foldl (·.refExpire)).ifThen (·.vote)).foldl (·.ifThen (·.trgFire))

theorem execTimeTick_ends : Ends s (execTimeTick s) := by
  unfold execTimeTick
  exact .either (.next (·.tickEnd.timeTick)) (.next fun h => State.Inv.timeStep h.tickEnd.timeTick.setFlag.withTim)


/-! ### Cross -/

theorem State.Inv.recircEnter {l : Nat} {x : Exit} (h : s.Inv) : (s.recircEnter l x).Inv :=
  h.ite (·.dropPkt) (·.ite (·.raise.dropPkt) (·.setPkt.withLine))

theorem State.Inv.recircExit {l : Nat} {x : Exit} {e : Exits} (h : s.Inv) : (s.recircExit l x e).1.Inv := by
  unfold State.recircExit
  dsimp only
  split
  · split
    · exact h.raise
    · exact h.raise.dropPkt
  · split
    · split
      · exact h.raise
      · exact h.raise.dropPkt
    · exact h.setFld.recircEnter

theorem State.Inv.exitOne {l : Nat} {x : Exit} {e : Exits} (h : s.Inv) : (s.exitOne l x e).1.Inv := by
  unfold State.exitOne
  extract_lets pk b s1 s2
  have h2 : s2.Inv := by
    unfold s2
    split
    · exact h.modSample.ifElse (·.lrnOffer)
    · exact h.modSample
  split
  · exact h2.dropPkt
  · split
    · exact h2
    · exact h2
    · exact h2
    · exact h2.recircExit
    · split
      · exact h2.count.closeSample.forget
      · exact h2.dropPkt

theorem State.Inv.exitAll {b : Nat} (h : s.Inv) : (s.exitAll b).1.Inv := by
  unfold State.exitAll
  refine .foldlFst h fun {a l} ha => ?_
  exact .foldlFst (State.Inv.foldlFst (a := (a.1, [])) ha (·.takeExits)) (·.exitOne)

theorem State.Inv.puntDrop {l ring pkt why unit code : Nat} (h : s.Inv) : (s.puntDrop l ring pkt why unit code).Inv := h.ite (·.dropPkt) (·.dropPkt)

theorem State.Inv.puntOfPkt {ring pkt : Nat} {p : Punt} (h : s.Inv) : (s.puntOfPkt ring pkt p).1.Inv := by
  unfold State.puntOfPkt
  split
  · exact h.puntRefuse (r := ring) (why := 1)
  · exact h.puntOffer

theorem State.Inv.puntsOf {r : Nat} {es : List (Nat × Exits)} {egress firmware : List (Nat × Punt)} (h : s.Inv) :
    (s.puntsOf r es egress firmware).Inv := by
  refine h.ite (·.foldl fun h => h.foldl fun {s x} h => ?_) (·.foldl fun {s x} h => ?_)
  · have offered : (s.puntOfPkt x.1 x.2.1 x.2.2.1).1.Inv := h.puntOfPkt
    dsimp only
    split
    next e =>
      rw [e] at offered
      exact offered.forget
    next e =>
      rw [e] at offered
      exact offered.puntDrop
  · have offered : (s.puntOffer x.1 x.2).1.Inv := h.puntOffer
    split
    next e =>
      rw [e] at offered
      exact offered
    next e =>
      rw [e] at offered
      exact offered.count.closeSample

theorem State.Inv.puntAll {b : Nat} {es : List (Nat × Exits)} {egress : List (Nat × Punt)} (h : s.Inv) : (s.puntAll b es egress).Inv :=
  h.withHif.foldl (·.puntsOf)

theorem State.Inv.markFlit {pos : Nat} {r : XRec} (h : s.Inv) : (s.markFlit pos r).Inv := h.ifThen (·.withCross)

theorem State.Inv.handed {r : XRec} (h : s.Inv) : (s.handed r).Inv := (h.ifElse (·.patCopy.forget)).injectDone

theorem State.Inv.recDrop {r : XRec} {unit code st : Nat} (h : s.Inv) : (s.recDrop r unit code st).Inv := (h.closeSample.ifElse (·.forget)).injectDone

theorem placeTm_inv {b req : Nat} {spilled : Bool} {w : Placing XRec} {rs : List XRec} (h : w.s.Inv) : (placeTm b req spilled w rs).s.Inv := by
  fun_induction placeTm b req spilled w rs with
  | case1 w => exact h
  | case2 w r rest fits s' e ih => exact ih (h.spendGrant e).handed.markFlit
  | case3 w r rest fits e ih => exact ih h.qmDrop.recDrop
  | case4 w r rest full spilt => exact .foldl h (·.count.raise.recDrop)
  | case5 w r rest full spilt => exact h.withCross

theorem State.Inv.placeAllTm {b : Nat} {es : List (Nat × Exits)} (h : s.Inv) : (s.placeAllTm b es).Inv := by
  unfold State.placeAllTm
  extract_lets spill offer _ s1 order w1 new w2 _ _ s2
  have h1 : s1.Inv := h.withCross
  have hw1 : w1.s.Inv := foldl_keeps (fun w : Placing XRec => w.s.Inv) _ (fun _ _ => placeTm_inv) _ _ h1
  have hw2 : w2.s.Inv := foldl_keeps (fun w : Placing XRec => w.s.Inv) _ (fun _ _ => placeTm_inv) _ _ hw1
  have h2 : s2.Inv := hw2.withCross
  exact h2.ifElse (·.written')

theorem placeFe_inv {req : Nat} {spilled : Bool} {w : Placing ERec} {rs : List ERec} (h : w.s.Inv) : (placeFe req spilled w rs).s.Inv := by
  fun_induction placeFe req spilled w rs with
  | case1 w => exact h
  | case2 w r rest fits s' ih => exact ih (h.ifElse (·.closeSample)).freePd
  | case3 w r rest full spilt => exact .foldl h (·.count.raise.closeSample.freePd)
  | case4 w r rest full spilt => exact h.withCross

theorem State.Inv.placeAllFe {b : Nat} (h : s.Inv) : (s.placeAllFe b).Inv := by
  unfold State.placeAllFe
  extract_lets spill out _ _ s1 order w1 w2 _ _ s2
  have h1 : s1.Inv := h.others
  have hw1 : w1.s.Inv := foldl_keeps (fun w : Placing ERec => w.s.Inv) _ (fun _ _ => placeFe_inv) _ _ h1
  have hw2 : w2.s.Inv := foldl_keeps (fun w : Placing ERec => w.s.Inv) _ (fun _ _ => placeFe_inv) _ _ hw1
  have h2 : s2.Inv := hw2.withCross
  exact h2.ifElse (·.written')

theorem State.Inv.checkFlits {toTm : Bool} {badData : List Nat} {badCtl : Bool} (h : s.Inv) : (s.checkFlits toTm badData badCtl).Inv := by
  unfold State.checkFlits
  extract_lets dir bad s1 c1 _ s2 flyTm _ s3 flyFe s4
  have h1 : s1.Inv := h.foldl fun h => h.ite (·.reportTm) (·.report)
  have hc : c1.Inv := State.Inv.raise (h1.ite (·.reportTm) (·.report))
  have h2 : s2.Inv := .ifThen h1 fun _ => hc.ifElse fun h => State.Inv.loseGrants h.withCross
  have h3 : s3.Inv := h2.withCross
  have h4 : s4.Inv := h2.withCross
  exact .either (h3.foldl fun h => h.ite (·.count.raise.closeSample) (·.withCross)) (h4.foldl fun h => h.ite (·.count.raise.closeSample)
    (·.withCross))

theorem execCrossingDelivery_ends {toTm : Bool} {badData : List Nat} {badCtl : Bool} : Ends s (execCrossingDelivery toTm badData badCtl s) :=
  .next (·.checkFlits)

theorem State.Inv.deliver (h : s.Inv) : s.deliver.1.Inv := (h.ifElse (·.checkFlits)).withErr.others.foldl (·.errEnter)

theorem State.Inv.sendFrame {m : Nat} {f : List Byte} (h : s.Inv) : (s.sendFrame m f).Inv := by
  unfold State.sendFrame
  extract_lets t cfg
  split
  next s1 f1 e =>
  have h1 : s1.Inv := by
    split at e
    · split at e
      · cases e
        exact h.ifThen (·.txRecord)
      · cases e
        exact h
    · cases e
      exact h
  clear e
  exact h1.macCount.macCount.withLine

theorem execEgressFrameTransmit_ends : Ends s (execEgressFrameTransmit s) := by
  unfold execEgressFrameTransmit
  split
  · exact .next id
  · exact .either (.next (·.withLine.count)) (.either (.next (·.withLine.count)) (.either (.next (·.withLine.count)) (.next
        (·.withLine.sendFrame.irq))))


/-! ### DramView -/

theorem State.Inv.slotWrite {a : Nat} {v : Byte} (h : s.Inv) : (s.slotWrite a v).Inv := by
  unfold State.slotWrite
  split
  · exact h
  · split
    · exact h
    · exact h.setHandle

theorem State.Inv.setDramLine {tm : Bool} {a : Nat} {l : Line} (h : s.Inv) : (s.setDramLine tm a l).Inv :=
  h.ite (·.ite (·.setPd.setPd) (·.ite (·.foldl (·.setHandle)) (·.foldl (·.slotWrite)))) (·.ite (·.setRaw) (·.ifThen (·.withTbl)))


/-! ### Hbm -/

theorem State.Inv.setDramChan {c : Nat} {x : DramChan} (h : s.Inv) : (s.setDramChan c x).Inv := h.withHbm

theorem State.Inv.setBank {pc b : Nat} {x : DramBank} (h : s.Inv) : (s.setBank pc b x).Inv := h.withHbm

theorem State.Inv.hbmReport {tm : Bool} {code cls inst detail : Nat} (h : s.Inv) : (s.hbmReport tm code cls inst detail).Inv :=
  h.ite (·.reportTm) (·.report)

theorem State.Inv.dramReply {agent a : Nat} {d : Line} {err : Bool} (h : s.Inv) : (s.dramReply agent a d err).Inv := h.withHbm

theorem State.Inv.refCarry (h : s.Inv) : s.refCarry.Inv := h.withHbm

theorem State.Inv.bankRefresh {pc bank : Nat} (h : s.Inv) : (s.bankRefresh pc bank).Inv := h.setBank

theorem State.Inv.refreshIdle {c pc bank : Nat} (h : s.Inv) : (s.refreshIdle c pc bank).Inv := h.ifElse (·.ifThen (·.setBank))

theorem State.Inv.refreshClock (h : s.Inv) : s.refreshClock.Inv := h.foldl (·.foldl (·.ifThen (·.count.bankRefresh)))

theorem State.Inv.dramRefuse {b : Burst} (h : s.Inv) : (s.dramRefuse b).Inv := h.raise.hbmReport.ifElse (·.dramReply)

theorem State.Inv.dramEnter {b : Burst} (h : s.Inv) : (s.dramEnter b).Inv := by
  unfold State.dramEnter
  extract_lets
  split
  exacts [h.refreshIdle.withHbm, h.refreshIdle.withHbm.setDramChan, h.refreshIdle.withHbm.setDramChan, h.refreshIdle.withHbm]

theorem State.Inv.dramOffer {b : Burst} (h : s.Inv) : (s.dramOffer b).Inv :=
  h.ite (·.dramRefuse) (·.ite (·.dramRefuse) (·.ite (·.dramEnter) (·.withHbm)))

theorem execDramRequest_ends {tm : Bool} {agent : Fin 8} {addr : BitVec 37} {len : BitVec 16} {data : Option (List Byte)} :
    Ends s (execDramRequest tm agent addr len data s) :=
  .next (·.foldl (·.dramOffer))

theorem execDramQueueEntry_ends {c : Fin 128} {p : Fin 2} {write : Bool} : Ends s (execDramQueueEntry c p write s) := by
  unfold execDramQueueEntry
  split
  · exact .next id
  · split
    · exact .next id
    · exact .either (.next id) (.next (fun h => State.Inv.either h.withHbm.dramRefuse (State.Inv.either h.withHbm.dramEnter h)))

theorem State.Inv.dramErr {c a err : Nat} (h : s.Inv) : (s.dramErr c a err).Inv := by
  unfold State.dramErr
  extract_lets
  split
  exacts [h, h.bumpReg.raise.hbmReport, h.raise.setReg.setReg.hbmReport]

theorem State.Inv.putBurst {key : Nat} {d : Line} {flaw : Nat} (h : s.Inv) : (s.putBurst key d flaw).Inv := h.withHbm

theorem State.Inv.storeBurst {b : Burst} {key : Nat} {d : Line} {flaw : Nat} (h : s.Inv) : (s.storeBurst b key d flaw).Inv := h.setDramLine.putBurst

theorem State.Inv.dramWrite {b : Burst} {key err : Nat} (h : s.Inv) : (s.dramWrite b key err).Inv := by
  unfold State.dramWrite
  extract_lets
  split
  · exact (h.dramErr.injectionFor ‹_›).storeBurst
  · exact h.dramErr.storeBurst

theorem State.Inv.dramRead {b : Burst} {key err : Nat} (h : s.Inv) : (s.dramRead b key err).Inv :=
  h.dramErr.ite (·.withFresh.dramReply) (fun h => (h.ifElse (·.putBurst)).dramReply)

theorem execBurstService_ends {c : Fin 128} {p : Fin 2} {err : Fin 3} : Ends s (execBurstService c p err s) := by
  unfold execBurstService
  extract_lets
  split
  · exact .next id
  · exact .next (fun h => (((h.setBank.setDramChan.count.ifThen (·.count)).ifThen (·.count.raise)).ite (·.dramWrite) (·.dramRead)).withHbm)

theorem execOpenRowTimeout_ends {c : Fin 128} {p : Fin 2} {bank : Fin 16} : Ends s (execOpenRowTimeout c p bank s) := .next (·.setBank)

theorem execBankRefresh_ends {c : Fin 128} {p : Fin 2} {bank : Fin 16} : Ends s (execBankRefresh c p bank s) :=
  .next (·.ifElse (·.ite (·.ite (·.count.bankRefresh) (·.ifThen (·.count))) (·.ifThen (·.bankRefresh))))

theorem State.Inv.precharge {c : Nat} (h : s.Inv) : (s.precharge c).Inv := h.foldl (·.setBank)

theorem execSelfRefreshEntry_ends {c : Fin 128} : Ends s (execSelfRefreshEntry c s) := .next (·.ifThen (·.precharge.setDramChan))

theorem execSelfRefreshEntryCommand_ends {c : Fin 128} : Ends s (execSelfRefreshEntryCommand c s) := by
  unfold execSelfRefreshEntryCommand
  extract_lets
  split
  · exact .either (.next (·.setDramChan.count)) (.next id)
  · exact .next id

theorem execSelfRefreshExitComplete_ends {c : Fin 128} : Ends s (execSelfRefreshExitComplete c s) := by
  unfold execSelfRefreshExitComplete
  extract_lets
  split
  · exact .either (.next (fun h => (h.bumpReg.bumpReg.count.foldl (·.setBank)).setDramChan)) (.next id)
  · exact .next id

theorem State.Inv.thermalPark {k : Nat} (h : s.Inv) : (s.thermalPark k).Inv := h.ifElse (·.setFlag.raise.reportTm.foldl (·.setDramChan))

theorem execStackTemperatureSample_ends {k : Fin 4} {temp : Byte} : Ends s (execStackTemperatureSample k temp s) :=
  .next (·.refCarry.setFld.ite (·.thermalPark) (·.ifThen (·.setFlag)))

theorem execDramScrubRead_ends {c : Fin 128} {p : Fin 2} {bank : Fin 16} {row : Fin 24576} {col : Fin 16} {err : Fin 3} :
    Ends s (execDramScrubRead c p bank row col err s) :=
  .either (.next id) (.next (·.dramErr.ifThen (·.putBurst)))

theorem State.Inv.logRepair {code : Nat} (h : s.Inv) : (s.logRepair code).Inv := h.withFresh.ifThen (·.logEvent)

theorem execRemapDataWrite_ends {c : Fin 128} {v : Word} : Ends s (execRemapDataWrite c v s) :=
  .either (.next (·.setDramChan.withBoot)) (.either (.next (·.raise)) (.next (·.setDramChan.withBoot.logRepair)))

theorem execRemapCopyComplete_ends {c : Fin 128} {entry : Fin 64} {err : List (Fin 3)} : Ends s (execRemapCopyComplete c entry err s) := by
  unfold execRemapCopyComplete
  extract_lets
  split
  · exact .next id
  · split
    · exact .next id
    · exact .next (fun h => (h.foldl (·.dramErr.putBurst)).setDramChan)

theorem State.Inv.helperStart {c op pc pattern : Nat} (h : s.Inv) : (s.helperStart c op pc pattern).Inv :=
  h.ite (·.raise) (·.setFlag.setFld.setFlag.setDramChan.setRegs)

theorem execWriteThenCompare_ends {c : Fin 128} {pc : Fin 2} {pattern : BitVec 4} : Ends s (execWriteThenCompare c pc pattern s) :=
  .next (·.helperStart)

theorem execCompareOnly_ends {c : Fin 128} {pc : Fin 2} {pattern : BitVec 4} : Ends s (execCompareOnly c pc pattern s) := .next (·.helperStart)

theorem execWriteOnly_ends {c : Fin 128} {pc : Fin 2} {pattern : BitVec 4} : Ends s (execWriteOnly c pc pattern s) := .next (·.helperStart)

theorem execTrainingHelperComplete_ends {c : Fin 128} {lmask : Word} {spmask : BitVec 6} {ecnt : Word} :
    Ends s (execTrainingHelperComplete c lmask spmask ecnt s) :=
  .either (.next id) (.next (fun h => (h.setFlag.setDramChan.ifElse (·.withHbm)).ifElse (·.setRegs)))


/-! ### Pmu -/

theorem State.Inv.pmuWin {w res v : Nat} (h : s.Inv) : (s.pmuWin w res v).Inv := h.setReg.setReg64.setReg64

theorem State.Inv.pmuRead {r : Requester} {w : Fin 2} {t : Tab Nat} (h : s.Inv) : (s.pmuRead r w t).Inv :=
  h.ite (·.raise) (·.ite (·.pmuWin) (·.ite (·.pmuWin) (·.pmuWin)))

theorem execLiveValueRead_ends {r : Requester} {w : Fin 2} : Ends s (execLiveValueRead r w s) := .next (·.pmuRead)

theorem execSnapshotValueRead_ends {r : Requester} {w : Fin 2} : Ends s (execSnapshotValueRead r w s) := .next (·.pmuRead)

theorem State.Inv.pmuBoundary (h : s.Inv) : s.pmuBoundary.Inv := h.withPmu

theorem execSmpRec0Read_ends {r : Requester} : Ends s (execSmpRec0Read r s) := .either (.next (·.withPmu.answer)) (.next (·.raise.done))

theorem State.Inv.flowSample {rec' : List Byte} (h : s.Inv) : (s.flowSample rec').Inv := by
  unfold State.flowSample
  extract_lets
  split
  · exact h.withMss
  · exact h.ifElse (·.withMss)

theorem execSmpRec31Read_ends {r : Requester} : Ends s (execSmpRec31Read r s) := by
  unfold execSmpRec31Read
  extract_lets o s1
  have kept (h : s.Inv) : s1.Inv := by
    unfold s1
    clear_value o
    split
    · exact h.flowSample
    · exact h
  exact .either (.next fun h => State.Inv.answer (kept h).withPmu) (.next (·.raise.done))

theorem execTraceEnable_ends {l : Fin 16} {k : Fin 2} {v : Word} : Ends s (execTraceEnable l k v s) :=
  .either (.next (·.setReg.setReg.setTrace.setFlag)) (.next (·.setReg.endTrace))

theorem execTraceRead_ends {l : Fin 16} {k : Fin 2} {n : BitVec 12} : Ends s (execTraceRead l k n s) := by
  unfold execTraceRead
  extract_lets
  split
  · exact .next (·.setReg.setReg64.setReg64.setReg64)
  · exact .next (·.setReg.setReg64.setReg64.setReg64.raise)


/-! ### Mss -/

theorem execCommandTake_ends {ok : Bool} {c0 c3 : Dword} {payload : List Byte} : Ends s (execCommandTake ok c0 c3 payload s) := by
  refine .either (.next id) ?_
  split
  · exact .next id
  · exact .next (fun h => (h.ite (·.mbxPop) (·.mbxPop.count)).withMss.writtenAny)

theorem execAnswerPost_ends {m : Fin 16} {ok : Bool} : Ends s (execAnswerPost m ok s) := by
  unfold execAnswerPost
  split
  · exact .next id
  · split
    · exact .next id
    · split
      · exact .next id
      · exact .either (.next id) (.next (fun h => ((h.withMss.ifElse (·.dmaWrite)).ifElse (·.dmaWrite)).mbxPut.count.irq))

theorem State.Inv.setAns {i : Nat} {c : MssCmd} {st : Nat} {bs : List Byte} (h : s.Inv) : (s.setAns i c st bs).Inv := h.withMss

theorem State.Inv.answers {st : Nat} {bs : List Byte} (h : s.Inv) : Answers (some (s, st, bs)) := by
  intro x e
  cases e
  exact h

theorem State.Inv.no {st : Nat} (h : s.Inv) : Answers (s.no st) := h.answers

theorem Answers.waits : Answers none := fun _ e => (Option.some_ne_none _ e.symm).elim

theorem Answers.either {c : Prop} [Decidable c] {q r : CmdResult} (hq : Answers q) (hr : Answers r) : Answers (if c then q else r) := by
  split <;> assumption

theorem State.Inv.command {op : Nat} {f : List Byte → CmdResult} (h : s.Inv) (hf : ∀ p, Answers (f p)) : (s.command op f).Inv := by
  unfold State.command
  split
  · exact h
  · split
    · exact h
    · exact .either h.setAns (State.Inv.setAns (hf _ _ ‹_›))

theorem State.Inv.len {p : List Byte} {n : Nat} {r : CmdResult} (h : s.Inv) (hr : Answers r) : Answers (s.len p n r) := .either hr h.no

theorem Ends.command {op : Nat} {f : List Byte → CmdResult} (hf : s.Inv → ∀ {p}, Answers (f p)) : Ends s (.next (s.command op f)) :=
  .next fun h => h.command fun _ => hf h

theorem State.Inv.param {b : Bool} {r : CmdResult} (h : s.Inv) (hr : Answers r) : Answers (s.param b r) := .either hr h.no

theorem execGetInfo_ends : Ends s (execGetInfo s) := .command fun h => h.len h.answers

theorem execEcho_ends : Ends s (execEcho s) := .command fun h => h.answers

theorem execRouteDelta_ends : Ends s (execRouteDelta s) := .command fun h => .either h.no h.routeDelta.answers

theorem execRouteStat_ends : Ends s (execRouteStat s) := .command fun h => h.len h.answers

theorem execShadowCompare_ends {word : BitVec 28} {found : BitVec 512} : Ends s (execShadowCompare word found s) := by
  unfold execShadowCompare
  extract_lets
  split
  · exact .next id
  · exact .either (.next id) (.next (·.raise.report.logEvent.askRewrite))

theorem State.Inv.setSensor {n : Nat} {x : Sensor} (h : s.Inv) : (s.setSensor n x).Inv := h.withMss

theorem State.Inv.sampleSensor {n : Nat} {v : Int} (h : s.Inv) : (s.sampleSensor n v).Inv :=
  (h.setSensor.ite (·.logEvent) (·.ifThen (·.logEvent))).ifThen (·.report)

theorem execSensorSample_ends {vs : List Word} : Ends s (execSensorSample vs s) :=
  .next (fun h => ((h.foldl (·.sampleSensor)).setReg.setFlag.setFlag.ifThen (·.setReg)).setFld.setFld.irq)

theorem execSensorRead_ends : Ends s (execSensorRead s) := .command fun h => h.len (h.param h.answers)

theorem execSensorThr_ends : Ends s (execSensorThr s) := .command fun h => h.len (h.param h.setSensor.answers)

theorem execLogRead_ends : Ends s (execLogRead s) := .command fun h => h.len (h.param h.answers)

theorem State.Inv.setEeps {a : Nat} {bs : List Byte} (h : s.Inv) : (s.setEeps a bs).Inv := h.withMss

theorem execIdRead_ends : Ends s (execIdRead s) := .command fun h => h.len h.answers

theorem execTagRead_ends : Ends s (execTagRead s) := .command fun h => h.len (h.param h.answers)

theorem execTagWrite_ends : Ends s (execTagWrite s) := .command fun h => .either h.no (h.param h.setEeps.answers)

theorem State.Inv.keyCrc {k : Nat} (h : s.Inv) : (s.keyCrc k).Inv := h.setEeps

theorem execKeyEnrol_ends : Ends s (execKeyEnrol s) :=
  .command fun h => h.len (h.param (.either h.setEeps.setEeps.keyCrc.answers h.no))

theorem execKeyRevoke_ends : Ends s (execKeyRevoke s) :=
  .command fun h => h.len (.either h.no (.either h.setEeps.keyCrc.answers h.no))

theorem execKeyList_ends : Ends s (execKeyList s) := .command fun h => h.len h.answers

theorem execEvpnRead_ends : Ends s (execEvpnRead s) := .command fun h => h.len (h.param h.answers)

theorem execSupSend_ends {late : Bool} : Ends s (execSupSend late s) := by
  refine .command fun h => .either h.no ?_
  split
  · exact .either h.putMsg.answers (.either h.logOpen.answers .waits)
  · exact .either h.logOpen.answers .waits


/-! ### Beat -/

theorem State.Inv.clockEnd (h : s.Inv) : s.clockEnd.Inv := h.parseEnds.windowEnds.rcMerge.withBus

theorem State.Inv.clockStart (h : s.Inv) : s.clockStart.Inv :=
  h.commitWaiting.kerbClock.flxClock.statClock.bankClock.searchClock.polSlots.ovlFree.hashClock.rewriteClock.leafSample.fabClock.refreshClock.irq

theorem State.Inv.clockTick (h : s.Inv) : s.clockTick.Inv := h.clockEnd.clockStart

theorem State.Inv.clocks {n : Nat} (h : s.Inv) : (s.clocks n).Inv := by
  induction n generalizing s with
  | zero => exact h
  | succ n ih => exact ih h.clockTick

theorem State.Inv.overrun {x n : Nat} (h : s.Inv) : (s.overrun x n).Inv := h.raise.report.count

theorem State.Inv.overPd {req d : Nat} (h : s.Inv) : (s.overPd req d).Inv := h.setHandle.freePd

theorem State.Inv.endOfBeat {overs : List (Fin 10)} (h : s.Inv) : (s.endOfBeat overs).Inv :=
  (h.ifThen (·.overrun.withSq.foldl (·.closeSample))).landAll.ite (fun h => (h.overrun.others.foldl (·.overPd)).foldl (·.overPd)) (·.editAll)

theorem State.Inv.beginBeat (h : s.Inv) : s.beginBeat.Inv := h.withBus.others

theorem State.Inv.swapAll {b : Nat} {overs : List (Fin 10)} (h : s.Inv) : (s.swapAll b overs).Inv := by
  unfold State.swapAll
  split
  next s0 egress e0 =>
  have h0 : s0.Inv := .ofFst h.deliver e0
  extract_lets rs o1 _ s1 lost o8 _ s2 s3
  have h1 : s1.Inv := h0.ifThen fun h => State.Inv.foldl h.overrun.withCross (·.recDrop)
  have h2 : s2.Inv := h1.ifThen (·.overrun.withSq)
  split
  next s4 es e4 =>
  have h4 : s4.Inv := .ofFst h2.placeAllFe.exitAll e4
  extract_lets s5 s6 s7 o5 _ s8
  have h6 : s6.Inv := h4.puntAll.placeAllTm
  have h8 : s8.Inv := (h6.ifThen (·.overrun)).ifThen (·.overrun.withTbl)
  exact h8.statBoundary

theorem State.Inv.afterReg {a : Nat} (h : s.Inv) : (s.afterReg a).Inv := h.ifThen (·.refreshCtx)

theorem State.Inv.applyReg {e : Nat × Nat × Nat} (h : s.Inv) : (s.applyReg e).Inv := h.withBus.setReg.afterReg

theorem State.Inv.forgetBefore (h : s.Inv) : s.forgetBefore.Inv := h.withBus

theorem State.Inv.consumeAll {b : Nat} {bad : List (BitVec 27 × Fin 3)} (h : s.Inv) : (s.consumeAll b bad).Inv := by
  unfold State.consumeAll
  exact h.fabReadErrors.fabTransmit.streamRelease.dramBoundary

theorem State.Inv.slotEffect {b : Nat} {k : SlotId} (h : s.Inv) : (s.slotEffect b k).Inv := by
  unfold State.slotEffect
  split
  exacts [h.calSwitchRequest, h.pgSwitch, h.psSwitch, h, h.patSwitch, h.setFlag, h.linkSetSwitch, h.pmuSnapshot]

theorem State.Inv.applyAll {b : Nat} (h : s.Inv) : (s.applyAll b).Inv := by
  unfold State.applyAll
  extract_lets due pend _ s1 s2 _ s3 ws
  have h1 : s1.Inv := .foldl h.withBus (·.applyReg)
  have h2 : s2.Inv := h1.foldl (·.slotApplied.slotEffect)
  have h3 : s3.Inv := h2.ifThen (·.withUpd)
  exact h3.fibBoundary.overlayBoundary.queueBoundary.nodeBoundary

theorem State.Inv.postponeAll {b : Nat} (h : s.Inv) : (s.postponeAll b).Inv := by
  unfold State.postponeAll
  extract_lets due s1 s2
  have h2 : s2.Inv := by
    refine .foldl h.overrun fun h => ?_
    split
    · exact h.setArmed
    · exact h
  exact h2.withSq

theorem State.Inv.remapStep {k : Nat} (h : s.Inv) : (s.remapStep k).Inv := by
  unfold State.remapStep
  extract_lets
  split
  · exact h.withErr
  · refine State.Inv.either h ?_
    split
    · exact h.withErr
    · exact h.withErr.withErr.remapEngine

theorem State.Inv.outClear (h : s.Inv) : s.outClear.Inv := h.ifElse (·.withErr)

theorem State.Inv.rehomeStep (h : s.Inv) : s.rehomeStep.Inv := by
  unfold State.rehomeStep
  split
  · exact h
  · exact h.ite (fun h => (State.Inv.dite (fun _ => h.stopCmd) (fun _ => h)).withErr) (·.ite (·.ite (fun h => (State.Inv.dite (fun _ =>
        h.setReg.setReg.setReg.startCmd) (fun _ => h.setReg.setReg.setReg)).withErr) (·.ifThen (·.withErr))) (·.ite (·.setReg.withErr) (·.ifThen
        (·.withErr))))

theorem State.Inv.bistMirror (h : s.Inv) : s.bistMirror.Inv := (h.foldl (·.setFlag)).passTested

theorem State.Inv.rcRefill {rate : Nat} (h : s.Inv) : (s.rcRefill rate).Inv := h.setFld

theorem State.Inv.beatBoundary {overs : List (Fin 10)} {bad : List (BitVec 27 × Fin 3)} (h : s.Inv) : (s.beatBoundary overs bad).Inv :=
  ((((h.endOfBeat.pmuBoundary.beginBeat.rcRefill.swapAll.forgetBefore.ite (·.postponeAll) (·.applyAll)).consumeAll.endOldProt.alignBoundary.ifThen
    (·.overrun)).refillAll.injectBudget.ifThen (·.overrun)).sampleBoundary.grantBoundary.creditBoundary.scrBoundary.fabricBudget.foldl
    (·.remapStep)).outClear.rehomeStep.bistMirror.irq

theorem execBeatBoundary_ends {overs : List (Fin 10)} {bad : List (BitVec 27 × Fin 3)} : Ends s (execBeatBoundary overs bad s) :=
  .next (·.clocks.clockEnd.beatBoundary.clockStart)


/-! ### View -/

theorem State.Inv.dbgWrite {p e v : Nat} (h : s.Inv) : (s.dbgWrite p e v).Inv :=
  h.ite (·.raise) (·.ite (·.setThread) (·.ite (·.setSreg) (·.ite (·.setThread) (·.setThread))))


/-! ### RegAccess -/

theorem State.Inv.unmapped {r : Requester} {a : Nat} (h : s.Inv) : (s.unmapped r a).Inv := h.bumpReg.done

theorem State.Inv.plainWrite {row : RegRow} {ix : List Nat} {a v : Nat} (h : s.Inv) : (s.plainWrite row ix a v).Inv :=
  ((h.ifElse (·.raise)).setReg.ifThen (·.writtenAny)).ifElse (·.withBus)

theorem State.Inv.keepLow {a v : Nat} (h : s.Inv) : (s.keepLow a v).Inv := h.withBus

theorem State.Inv.scrWrite {k : ScrId} {a v : Nat} (h : s.Inv) : (s.scrWrite k a v).Inv := by
  unfold State.scrWrite
  extract_lets
  split
  · exact (h.setReg.ifThen (·.setFld)).startCmd
  · exact (h.setReg.ifThen (·.setFld)).stopCmd
  · exact (h.setReg.ifThen (·.setFld)).scrReject
  · exact h.setReg.ifThen (·.setFld)

theorem State.Inv.actWrite {k : SlotId} {a v : Nat} (h : s.Inv) : (s.actWrite k a v).Inv :=
  h.setReg.ite (·.run execArm_ends) (·.ifThen (·.run execCancel_ends))

theorem State.Inv.lnCfgWrite {a v : Nat} (h : s.Inv) : (s.lnCfgWrite a v).Inv := h.ite (·.setReg) (·.setReg.raise)

theorem State.Inv.lrnCfgWrite {v : Nat} (h : s.Inv) : (s.lrnCfgWrite v).Inv := ((h.ifElse (·.raise)).ifThen (·.raise)).setReg

theorem State.Inv.ringWrite {r : Requester} {row : RegRow} {ix : List Nat} {a v : Nat} (h : s.Inv) : (s.ringWrite r row ix a v).Inv := by
  refine h.ite (·.raise) (fun h => ?_)
  split
  · exact h.ite (·.raise) (·.keepLow)
  · exact h.ite (·.raise) (·.commitHigh.setFld)
  · exact State.Inv.dite (fun _ => h.ite (·.run execRingEnable_ends) (·.ite (·.run execRingDisable_ends) (·.ite (fun h => (h.ifThen
        (·.raise)).setFlag) (·.plainWrite)))) (fun _ => h)
  · exact h.plainWrite.ackWritten
  · exact h.plainWrite

theorem State.Inv.mbxWrite {r : Requester} {row : RegRow} {ix : List Nat} {a v : Nat} (h : s.Inv) : (s.mbxWrite r row ix a v).Inv := by
  refine State.Inv.dite (fun _ => ?_) (fun _ => h.plainWrite)
  split
  · exact h.ite (·.keepLow) (·.raise)
  · exact h.ite (·.commitHigh) (·.raise)
  · exact h.run execMailboxPost_ends
  · exact (h.plainWrite.ifThen (·.run execPop_ends)).ifThen (·.run execWithdraw_ends)
  · exact h.plainWrite

theorem State.Inv.timWrite {row : RegRow} {ix : List Nat} {a v : Nat} (h : s.Inv) : (s.timWrite row ix a v).Inv :=
  h.ite (·.ite (·.timeSet) (·.ifThen (·.timeSet))) (·.ite (·.ite (·.raise) (·.setFreq)) (·.ite (fun h => State.Inv.dite (fun _ => h.run
    execReferenceOffsetSubmit_ends) (fun _ => h)) (·.ite (·.ite (fun h => State.Inv.dite (fun _ => h.run execTriggerEnable_ends) (fun _ => h)) (·.ite
    (·.raise) (·.plainWrite))) (·.plainWrite))))

theorem State.Inv.mateWrite {r : Requester} {row : RegRow} {ix : List Nat} {a v : Nat} (h : s.Inv) : (s.mateWrite r row ix a v).Inv :=
  h.ite (·.mateCfgWrite) (·.ite (fun h => ((h.ifThen (·.run execSync_ends)).ifThen (·.run execRelease_ends)).ifThen (·.run execForceTake_ends)) (·.ite
    (·.ifThen (·.run execMateKick_ends)) (·.ite (·.plainWrite.healthRefresh) (·.ite (·.plainWrite.wtrRefresh) (·.plainWrite)))))

theorem State.Inv.pmuWrite {r : Requester} {row : RegRow} {ix : List Nat} {a v : Nat} (h : s.Inv) : (s.pmuWrite r row ix a v).Inv :=
  h.ite (fun h => State.Inv.dite (fun _ => h.ite (·.pmuRead) (·.ifThen (·.pmuRead))) (fun _ => h)) (·.ite (fun h => State.Inv.dite (fun _ => h.ite
    (·.run execTraceEnable_ends) (·.ite (·.run execTraceRead_ends) (·.plainWrite))) (fun _ => h)) (·.plainWrite))

theorem State.Inv.injWrite {row : RegRow} {ix : List Nat} {v : Nat} (h : s.Inv) : (s.injWrite row ix v).Inv := h.plainWrite.ifThen (·.setFlag)

theorem State.Inv.lineWrite {row : RegRow} {ix : List Nat} {a v : Nat} (h : s.Inv) : (s.lineWrite row ix a v).Inv :=
  h.ite (·.lnCfgWrite) (·.ite (·.ite (·.plainWrite) (·.raise)) (·.ite (·.ite (·.raise) (·.plainWrite)) (·.ite (·.plainWrite.refreshGroup)
    (·.plainWrite))))

theorem State.Inv.graphPassed {o : Nat} (h : s.Inv) : (s.graphPassed o).Inv := h.withEng

theorem State.Inv.pgWrite {row : RegRow} {ix : List Nat} {a v : Nat} (h : s.Inv) : (s.pgWrite row ix a v).Inv :=
  h.ite (·.plainWrite.ifThen (·.run execPgCheck_ends)) (·.ite (fun h => State.Inv.either (h.ifElse (·.graphPassed)).plainWrite.pgTouched.writtenAny
    h.raise) (·.plainWrite))

theorem State.Inv.dbgCtlWrite {p : Fin 17} {e : Fin 35} {a v : Nat} (h : s.Inv) : (s.dbgCtlWrite p e a v).Inv :=
  (((h.setFlag.ifElse (·.run execIso_ends)).ifElse (·.run execHalt_ends)).ifElse (·.run execResume_ends)).ifElse (·.run execStep_ends)

theorem State.Inv.codeRegWrite {r : Requester} {row : RegRow} {ix : List Nat} {a v : Nat} (h : s.Inv) : (s.codeRegWrite r row ix a v).Inv :=
  h.ite (·.plainWrite.ifThen (·.run execPsCheck_ends)) (·.ite (·.ite (·.plainWrite.codeTouched) (·.raise)) (·.ite (·.run execCodeData3Write_ends)
    (·.plainWrite)))

theorem State.Inv.aveWrite {r : Requester} {row : RegRow} {ix : List Nat} {a v : Nat} (h : s.Inv) : (s.aveWrite r row ix a v).Inv := by
  refine h.ite (·.codeRegWrite) fun h => h.ite (·.plainWrite.bistMirror) fun h => h.ite (·.holdOld.plainWrite) fun h =>
    h.ite (·.ite (·.remapEngine) (·.ite (·.raise) (·.plainWrite))) fun h => h.ite (fun h => ?_) (·.plainWrite)
  refine .dite (fun hp => .dite (fun he => ?_) fun _ => h) fun _ => h
  split
  · exact h.dbgCtlWrite
  · exact h.dbgWrite
  · exact h.plainWrite

theorem State.Inv.tdWrite {row : RegRow} {ix : List Nat} {a v : Nat} (h : s.Inv) : (s.tdWrite row ix a v).Inv :=
  h.ifElse (·.ite (·.withBus.plainWrite) (·.plainWrite))

theorem State.Inv.lkpWrite {r : Requester} {row : RegRow} {ix : List Nat} {a v : Nat} (h : s.Inv) : (s.lkpWrite r row ix a v).Inv :=
  h.ite (·.ite (·.run execCommit_ends) (·.ifThen (·.run execDiscard_ends))) (·.ite (·.tdWrite) (·.ite (·.plainWrite.ite (·.run execWindowRead_ends)
    (·.ifThen (·.run execWindowWrite_ends))) (·.ite (·.commitHigh) (·.ite (·.hashWrite) (·.plainWrite)))))

theorem State.Inv.clsWrite {r : Requester} {row : RegRow} {ix : List Nat} {a v : Nat} (h : s.Inv) : (s.clsWrite r row ix a v).Inv :=
  h.ite (·.tcmCommand) (·.ite (·.ite (·.run execPolicerWindowRead_ends) (·.ifThen (·.run execPolicerWindowWrite_ends))) (·.ite (·.ite (·.raise)
    (·.plainWrite.patTouched)) (·.ite (·.ite (·.run execPatCheck_ends) (·.plainWrite)) (·.ite (·.run execPatWinWrite_ends) (·.plainWrite)))))

theorem State.Inv.lrnWrite {r : Requester} {row : RegRow} {ix : List Nat} {a v : Nat} (h : s.Inv) : (s.lrnWrite r row ix a v).Inv :=
  h.ite (·.lrnCfgWrite) (·.ite (·.ite (·.plainWrite.ifElse (·.withLrn)) (·.withLrn)) (·.ite (·.run execUnfreeze_ends) (·.plainWrite)))

theorem State.Inv.tmWrite {r : Requester} {row : RegRow} {ix : List Nat} {a v : Nat} (h : s.Inv) : (s.tmWrite r row ix a v).Inv :=
  h.ite (·.ite (·.run execQueueRead_ends) (·.ite (·.run execQueueWrite_ends) (·.ifThen (·.run execFlush_ends)))) (·.ite (·.run
    execQuarantineRelease_ends) (·.ite (·.plainWrite.ite (·.run execNodeRead_ends) (·.ifThen (·.run execNodeWrite_ends))) (·.ite (·.plainWrite.ifThen
    (·.run execSampleRead_ends)) (·.ite (·.raise) (·.plainWrite)))))

theorem State.Inv.keepSpare {c p : Nat} (h : s.Inv) : (s.keepSpare c p).Inv := h.withBoot.ifElse (·.logRepair)

theorem State.Inv.outWrite {row : RegRow} {ix : List Nat} {a v : Nat} (h : s.Inv) : (s.outWrite row ix a v).Inv := by
  refine h.ite (·.plainWrite.ifThen (·.setReg)) (·.ite (fun h => State.Inv.dite (fun _ => h.run execLaneEnable_ends) (fun _ => h)) (·.ite (·.ite
      (·.setFlag.raise) (·.plainWrite)) (·.ite (·.refCarry.plainWrite) (·.ite (fun h => State.Inv.dite (fun _ => ?_) (fun _ => h)) (·.plainWrite)))))
  split
  · exact h.run execRemapDataWrite_ends
  · exact h.ite (·.plainWrite) (·.helperStart)
  · exact h.commitHigh
  · exact h.ite (·.raise) (·.plainWrite.keepSpare)
  · exact h.ite (·.raise) (·.plainWrite.keepSpare)
  · exact h.plainWrite

theorem State.Inv.hifWrite {r : Requester} {row : RegRow} {ix : List Nat} {a v : Nat} (h : s.Inv) : (s.hifWrite r row ix a v).Inv :=
  h.ite (·.ringWrite) (·.ite (fun h => State.Inv.dite (fun _ => h.run execVectorEoi_ends) (fun _ => h)) (·.ite (fun h => State.Inv.dite (fun _ =>
    h.ite
    (·.setFlag) (·.run execMsixUnmask_ends)) (fun _ => h)) (·.plainWrite)))

theorem State.Inv.unitWrite {r : Requester} {row : RegRow} {ix : List Nat} {a v : Nat} (h : s.Inv) : (s.unitWrite r row ix a v).Inv := by
  unfold State.unitWrite
  refine h.ite (·.keepLow) fun h => ?_
  split
  · exact h.ite (·.plainWrite.ifThen (·.realign)) (·.plainWrite)
  · exact h.timWrite
  · exact h.mateWrite
  · exact h.ite (·.injWrite) (·.plainWrite)
  · exact h.pmuWrite
  · exact h.hifWrite
  · exact h.mbxWrite
  · exact h.plainWrite
  · exact h.plainWrite
  · exact h.ite (·.lineWrite) (·.ite (·.pgWrite) (·.ite (·.aveWrite) (·.ite (·.lkpWrite) (·.ite (·.clsWrite) (·.ite (·.lrnWrite)
      (·.ite (·.tmWrite) (·.outWrite)))))))

theorem State.Inv.defWrite {r : Requester} {row : RegRow} {ix : List Nat} {a v : Nat} (h : s.Inv) : (s.defWrite r row ix a v).Inv := by
  unfold State.defWrite
  split
  · exact h.actWrite
  · split
    · exact h.scrWrite
    · exact h.unitWrite

theorem State.Inv.busWrite {r : Requester} {a0 v : Nat} (h : s.Inv) : (s.busWrite r a0 v).Inv := by
  unfold State.busWrite
  extract_lets
  split
  · exact h.unmapped
  · refine h.ite (·.unmapped) (fun h => ?_)
    split
    · exact h.raise.done.irq
    · exact h.defWrite.done.irq

theorem State.Inv.busRead {r : Requester} {a0 : Nat} (h : s.Inv) : (s.busRead r a0).Inv := by
  unfold State.busRead
  extract_lets
  split
  · exact h.unmapped
  · refine h.ite (·.unmapped) (fun h => ?_)
    split
    · exact h.raise.done
    · split
      · exact h.raise.done
      · exact (((((h.ifThen (·.codeFetch)).ifThen (·.raise)).ifThen (·.withBus)).ifElse (·.setReg)).ifThen (·.nextCodeAddr)).answer.irq

theorem execUnsupportedRequestAccess_ends {r : Requester} {a : BitVec 28} {size : Nat} {wr : Bool} :
    Ends s (execUnsupportedRequestAccess r a size wr s) :=
  .either (.next id) (.next (·.bumpReg.report.withBus))

theorem execUnmappedAccess_ends {r : Requester} {a : BitVec 28} {wr : Bool} : Ends s (execUnmappedAccess r a wr s) :=
  .next (·.ifElse (·.ite (·.busWrite) (·.busRead)))

theorem execLatchingLowHalfRead_ends {r : Requester} {a : BitVec 28} : Ends s (execLatchingLowHalfRead r a s) := .next (·.ifThen (·.busRead))

theorem execHighHalfWrite_ends {r : Requester} {a : BitVec 28} {v : Word} : Ends s (execHighHalfWrite r a v s) := .next (·.ifThen (·.busWrite))

theorem execReadClearRead_ends {r : Requester} {a : BitVec 28} : Ends s (execReadClearRead r a s) := by
  refine .next (fun h => ?_)
  split
  · exact h.ifThen (·.busRead)
  · exact h


/-! ### Image -/

theorem State.Inv.putRec {r : BootRec} (h : s.Inv) : (s.putRec r).Inv := h.ite (·.withBoot) (·.withBoot)

theorem State.Inv.writeRec (h : s.Inv) : s.writeRec.Inv := h.putRec.writtenAny

theorem State.Inv.loadRec (h : s.Inv) : s.loadRec.Inv := h.setFld.setFlag.setFld.withBoot

theorem State.Inv.fwWrites {a : Nat} {vs : List Nat} (h : s.Inv) : (s.fwWrites a vs).Inv := h.foldl (·.busWrite)

theorem State.Inv.loadCode {b : Bool} {bs : List Byte} (h : s.Inv) : (s.loadCode b bs).Inv :=
  (h.busWrite.busWrite.busWrite.foldl (·.writeCode)).codeTouched

theorem State.Inv.loadGraph {b : Bool} {bs : List Byte} (h : s.Inv) : (s.loadGraph b bs).Inv := h.fwWrites.fwWrites.fwWrites.busWrite

theorem State.Inv.loadPattern {b : Bool} {bs : List Byte} {t : State} (h : s.Inv) (e : s.loadPattern b bs = some t) : t.Inv := by
  unfold State.loadPattern at e
  dsimp only at e
  split at e
  · cases e
  · cases e
    exact h.withTbl.patTouched

theorem State.Inv.loadTable {bs : List Byte} {t : State} (h : s.Inv) (e : s.loadTable bs = some t) : t.Inv := by
  unfold State.loadTable at e
  dsimp only at e
  split at e
  · cases e
    exact .shadowWords (.foldl h (·.setRaw))
  · cases e

theorem State.Inv.stageTable {bs : List Byte} {t : State} (h : s.Inv) (e : s.stageTable bs = some t) : t.Inv := by
  refine foldl_keeps (fun o => ∀ t, o = some t → t.Inv) _ (fun o i ho t e => ?_) _ (some s) (fun t e => ?_) t e
  · dsimp only at e
    split at e
    · cases e
    next s =>
      split at e
      · cases e
      · split at e
        · cases e
          exact (ho s rfl).stage
        · cases e
  · cases e
    exact h

theorem State.Inv.beatPasses (h : s.Inv) : s.beatPasses.Inv := h.run execBeatBoundary_ends

theorem State.Inv.tcmRun (h : s.Inv) : s.tcmRun.Inv :=
  (h.foldl (fun h => (h.foldl (·.run execTcamRowOperation_ends)).beatPasses)).run execTcamCommandComplete_ends

theorem State.Inv.loadTcamRec {r : List Byte} {t : State} (h : s.Inv) (e : s.loadTcamRec r = some t) : t.Inv := by
  unfold State.loadTcamRec at e
  dsimp only at e
  split at e
  · cases e
    exact h.setFld.setReg.setReg.setRegs.setRegs.tcmCommand.tcmRun
  · cases e

theorem State.Inv.loadTcam {bs : List Byte} {t : State} (h : s.Inv) (e : s.loadTcam bs = some t) : t.Inv := by
  refine foldl_keeps (fun o => ∀ t, o = some t → t.Inv) _ (fun o i ho t e => ?_) _ (some s) (fun t e => ?_) t e
  · obtain ⟨_, eo, e⟩ := Option.bind_eq_some_iff.mp e
    exact (ho _ eo).loadTcamRec e
  · cases e
    exact h

theorem State.Inv.loadRoutes {bs : List Byte} {t : State} (h : s.Inv) (e : s.loadRoutes bs = some t) : t.Inv := by
  unfold State.loadRoutes at e
  dsimp only at e
  split at e
  · cases e
    exact h.routeDelta
  · cases e

theorem State.Inv.psClean {b : Bool} (h : s.Inv) : (s.psClean b).1.Inv :=
  ((h.run execPsCheckComplete_ends).run execPsCheck_ends).run execPsCheckComplete_ends

theorem State.Inv.pgClean {b : Bool} (h : s.Inv) : (s.pgClean b).1.Inv :=
  ((h.run execPgCheckComplete_ends).run execPgCheck_ends).run execPgCheckComplete_ends

theorem State.Inv.patClean {b : Bool} (h : s.Inv) : (s.patClean b).1.Inv :=
  ((h.run execPatCheckComplete_ends).run execPatCheck_ends).run execPatCheckComplete_ends


/-! ### Boot -/

theorem State.Inv.bootFail {code step : Nat} (h : s.Inv) : (s.bootFail code step).Inv := by
  unfold State.bootFail
  exact (h.setFld.setFld.withBoot.ifElse (·.writeRec)).logEvent.withFresh.ifThen (·.withBoot)

theorem State.inv_restart {power : Bool} {cause : Nat} : (s.restart power cause).Inv := by
  unfold State.restart
  extract_lets b step boot mss elec _ t
  have ht : t.Inv := ⟨State.inv_reset.regs, State.inv_reset.sec, State.inv_reset.ns, State.inv_reset.frac, Nat.zero_le _⟩
  exact ht.ifElse (·.setReg.setReg)

theorem State.Inv.firmwareRestart {cause : Nat} (h : s.Inv) : (s.firmwareRestart cause).Inv := by
  unfold State.firmwareRestart
  extract_lets s1 _ s2 s3 code s4 _ s5 s6 s7
  have h1 : s1.Inv := h.setFld
  have h2 : s2.Inv := h1.others
  have h3 : s3.Inv := h2.setFld.setFld.setReg
  have h4 : s4.Inv := h3.bootFail
  have h5 : s5.Inv := h4.withBoot
  have h7 : s7.Inv := h3.setFld.setFlag.setReg
  clear_value s7
  exact .either h5.setFld.setFlag.setFld.setFlag.raise h7.withBoot

theorem State.Inv.resetOr {kind cause : Nat} (h : s.Inv) : (s.resetOr kind cause).Inv :=
  h.ifElse (·.ite (·.withBoot) (·.ite (fun _ => State.inv_restart) (·.firmwareRestart.irq)))

theorem State.inv_hardReset {power : Bool} {cause : Nat} : (s.hardReset power cause).Inv := State.inv_restart

theorem execPowerLoss_ends : Ends s (execPowerLoss s) := .next fun _ => State.inv_hardReset

theorem execResetN_ends : Ends s (execResetN s) := .next fun _ => State.inv_hardReset

theorem State.Inv.moduleReset {r : Requester} (h : s.Inv) : (s.moduleReset r).Inv := h.resetOr

theorem execModuleReset_ends {r : Requester} : Ends s (execModuleReset r s) := .next (·.moduleReset)

theorem execFwRestart_ends {r : Requester} : Ends s (execFwRestart r s) := .next (·.resetOr)

theorem State.Inv.confirmStart (h : s.Inv) : s.confirmStart.Inv := h.setFld.setFlag.withBoot.writeRec

theorem execConfirm_ends : Ends s (execConfirm s) := .next (·.confirmStart)

theorem execClrAttempts_ends : Ends s (execClrAttempts s) := .next (·.setFld.withBoot.writeRec)

theorem execKick_ends : Ends s (execKick s) := .next (·.withBoot)

theorem State.Inv.failHere {code : Nat} (h : s.Inv) : (s.failHere code).Inv := h.ifElse (·.bootFail)

theorem execWatchdogExpiry_ends : Ends s (execWatchdogExpiry s) := .either (.next id) (.either (.next (·.resetOr)) (.next (·.failHere.resetOr)))

theorem execBootTimeout_ends : Ends s (execBootTimeout s) := .either (.next id) (.next (·.failHere.resetOr))

theorem State.Inv.enterStep {n : Nat} (h : s.Inv) : (s.enterStep n).Inv := h.withFresh.setFld.setReg

def Start.Inv (r : Start) : Prop := r.state.Inv

theorem Start.Inv.on (h : s.Inv) : (Start.on s).Inv := h

theorem Start.Inv.ended (h : s.Inv) : (Start.ended s).Inv := h

theorem Start.Inv.andThen {r : Start} {f : State → Start} (h : r.Inv) (hf : ∀ {s}, s.Inv → (f s).Inv) : (r.andThen f).Inv := by
  cases r with
  | on s => exact hf h
  | ended s => exact h

theorem Start.Inv.either {c : Prop} [Decidable c] {q r : Start} (hq : q.Inv) (hr : r.Inv) : (if c then q else r).Inv := by
  split <;> assumption

theorem State.Inv.stepOr {hw : BootHw} {n : Nat} (h : s.Inv) : (s.stepOr hw n).Inv := by
  unfold State.stepOr
  exact .either (.ended h.enterStep) (.on h.enterStep)

theorem State.Inv.recovery {code step : Nat} (h : s.Inv) : (s.recovery code step).Inv := h.bootFail.withBoot.setFld.setFlag.enterStep.raise

theorem State.inv_startFails {code : Nat} : (s.startFails code).Inv := State.inv_restart

theorem State.Inv.bootRom {hw : BootHw} (h : s.Inv) : (s.bootRom hw).Inv := by
  unfold State.bootRom
  extract_lets s1 _ s2 s3 s4 mib s5
  have h1 : s1.Inv := h.ifThen (·.loadRec)
  have h2 : s2.Inv := h1.withBoot
  have h3 : s3.Inv := h2.setFlag.setFld.enterStep
  have h4 : s4.Inv := h3.ifElse (·.raise.logEvent)
  exact .either (.ended h4.setReg.recovery) (.either (.on h4.setReg) (.ended h4.setReg.recovery))

theorem State.Inv.bootCount {hw : BootHw} (h : s.Inv) : (s.bootCount hw).Inv := by
  unfold State.bootCount
  extract_lets s1 s2 s3
  have h1 : s1.Inv := h.enterStep
  have h2 : s2.Inv := h1.ifThen (·.bootFail)
  have h3 : s3.Inv := h2.setFld
  exact .either (.ended h1.recovery) (.either (.on h2) (.on h3.withBoot.writeRec))

theorem State.Inv.bootLaunch {hw : BootHw} {minimal : Bool} (h : s.Inv) : (s.bootLaunch minimal hw).Inv := by
  unfold State.bootLaunch
  refine h.stepOr.andThen fun {s} h => .either (.ended h.recovery) ?_
  extract_lets _ s1 s2 s3 _ s4
  have h4 : s4.Inv := h.setFld.setFlag.setReg64.setReg.setReg.withBoot
  exact .either (.ended h4.setFld.setFlag.enterStep.raise) (.on h4)

theorem State.Inv.loadSection {i : Nat} {t : State} (h : s.Inv) (e : s.loadSection i = some t) : t.Inv := by
  unfold State.loadSection at e
  split at e
  · cases e
  · dsimp only at e
    split at e
    · cases e
    · split at e
      · split at e
        · exact .ofSome h.loadCode.psClean e
        · cases e
      · split at e
        · exact .ofSome h.loadGraph.pgClean e
        · cases e
      · exact h.loadTable e
      · exact h.loadTcam e
      · obtain ⟨u, load, e⟩ := Option.bind_eq_some_iff.mp e
        split at e
        · exact .ofSome (h.loadPattern load).patClean e
        · cases e
      · exact h.loadRoutes e
      · cases e

theorem State.Inv.startEntry {a : Nat} {t : State} (h : s.Inv) (e : s.startEntry a = some t) : t.Inv := by
  unfold State.startEntry at e
  dsimp only at e
  split at e
  · cases e
  · split at e
    · cases e
    · split at e
      · cases e
      · split at e
        · cases e
          exact (h.startCmd.beatPasses.run execStartSequenceComplete_ends).beatPasses
        · cases e

theorem State.Inv.entry {b : BcrEntry} {t : State} (h : s.Inv) (e : s.entry b = some t) : t.Inv := by
  unfold State.entry at e
  dsimp only at e
  split at e
  · split at e
    · cases e
      exact h.busWrite.beatPasses
    · cases e
  · split at e
    · exact h.startEntry e
    · cases e
  · split at e
    · cases e
    · split at e
      · cases e
        exact h.busRead
      · split at e
        · cases e
          exact State.Inv.busRead (State.Inv.beatPasses (State.Inv.beatPasses (((h.run execPsCheckComplete_ends).run
            execPgCheckComplete_ends).run execPatCheckComplete_ends)))
        · cases e
  · obtain ⟨u, load, rfl⟩ := Option.map_eq_some_iff.mp e
    exact (h.loadSection load).beatPasses

theorem State.Inv.entries {hw : BootHw} {es : List BcrEntry} (h : s.Inv) : (s.entries hw es).Inv := by
  induction es generalizing s with
  | nil => exact .on h
  | cons e es ih =>
    have begun : (if e.phase = 3 && e.op ≠ 4 && s.bootStep = 6 then s.stepOr hw 7 else .on s : Start).Inv := .either h.stepOr (.on h)
    refine begun.andThen fun h => ?_
    split
    · exact ih (h.entry ‹_›)
    · exact .ended State.inv_startFails

theorem State.Inv.setRails {hw : BootHw} (h : s.Inv) : (s.setRails hw).Inv := by
  unfold State.setRails
  exact .either (.ended State.inv_startFails) (.on h.setFld.setFld.setFld)

theorem State.Inv.trainCrossing {hw : BootHw} (h : s.Inv) : (s.trainCrossing hw).Inv := by
  unfold State.trainCrossing
  exact .either (.ended State.inv_startFails) (.on h.setFlag.setFld.setFld)

theorem State.Inv.trainDram {hw : BootHw} (h : s.Inv) : (s.trainDram hw).Inv := by
  unfold State.trainDram
  refine .either (.ended State.inv_startFails) (.on ?_)
  exact .setFlag (.setFlag (.foldl (.foldl (.foldl h (·.setReg)) (·.setDramChan)) (·.setFlag)))

theorem State.Inv.forwarding (h : s.Inv) : s.forwarding.Inv := by
  unfold State.forwarding
  exact h.enterStep.raise.setFld.logOpen.ite (·.withBoot) (·.confirmStart)

theorem State.Inv.bootFirmware {hw : BootHw} (h : s.Inv) : (s.bootFirmware hw).Inv := by
  unfold State.bootFirmware
  refine h.stepOr.andThen fun h => ?_
  split
  · exact .ended State.inv_startFails
  · refine Start.Inv.andThen (Start.Inv.andThen (Start.Inv.andThen (Start.Inv.andThen (Start.Inv.andThen (Start.Inv.andThen
      (Start.Inv.andThen (Start.Inv.andThen h.setFlag.setReg.entries (·.setRails)) (·.stepOr)) (·.trainCrossing)) (·.stepOr))
      (·.trainDram)) (·.stepOr)) (·.entries)) fun h => ?_
    exact ((Start.Inv.either h.stepOr (.on h)).andThen (·.stepOr)).andThen (·.entries.andThen fun h => .on h.forwarding)

theorem execBootStart_ends {hw : BootHw} : Ends s (execBootStart hw s) := by
  unfold execBootStart
  exact .either (.next id) (.next fun h => State.Inv.irq
    (h.bootRom.andThen fun h => (h.bootCount.andThen (·.bootLaunch)).andThen (·.bootFirmware)))

theorem State.Inv.bootCtlWrite {r : Requester} {v : Word} (h : s.Inv) : (s.bootCtlWrite r v).Inv :=
  h.ite (·.unmapped) (fun h => ((h.done.ifThen (·.run execConfirm_ends)).ifThen (·.run execClrAttempts_ends)).ite (·.moduleReset) (·.ifThen (·.run
    execFwRestart_ends)))

theorem execRegisterWrite_ends {r : Requester} {a : BitVec 28} {v : Word} : Ends s (execRegisterWrite r a v s) :=
  .either (.next id) (.either (.next (·.bootCtlWrite)) (.either (.next (·.busWrite.run execKick_ends)) (.next (·.busWrite))))


/-! ### Update -/

theorem State.Inv.updAnswer {res : Nat} {ws : List Nat} (h : s.Inv) : Answers (s.updAnswer res ws) := h.setFld.irq.answers

theorem State.Inv.openWord (h : s.Inv) : s.openWord.2.Inv := h.withFresh

theorem State.Inv.updIdle (h : s.Inv) : s.updIdle.Inv := h.setFld.setFld.setReg.withUpd

theorem execUpdBegin_ends {flashOk : Bool} : Ends s (execUpdBegin flashOk s) := by
  refine .command fun h => h.len (.either h.updAnswer (.either h.updAnswer (.either h.updAnswer ?_)))
  extract_lets toFlash _ s1 s2
  have h1 : s1.Inv := h.ifThen (·.withBoot)
  have h2 : s2.Inv := h1.setFld.setFld.setReg
  exact .either h1.updAnswer (State.Inv.updAnswer h2.withUpd)

theorem execUpdData_ends {flashOk : Bool} : Ends s (execUpdData flashOk s) :=
  .command fun h => .either h.no (.either h.updAnswer (.either h.updAnswer (.either h.updAnswer (.either h.updAnswer
    (State.Inv.updAnswer h.setReg.withUpd)))))

theorem execUpdVerify_ends : Ends s (execUpdVerify s) := by
  refine .command fun h => h.len ?_
  have h1 := h.openWord
  refine .either h1.updAnswer (.either h1.updAnswer (.either h1.updIdle.updAnswer ?_))
  split
  · exact h1.updIdle.updAnswer
  · exact .either h1.updIdle.updAnswer h1.setFld.raise.updAnswer

theorem execUpdAbort_ends : Ends s (execUpdAbort s) := .command fun h => h.len (.either h.updAnswer (.either h.updAnswer h.updIdle.updAnswer))

theorem execUpdConfirm_ends : Ends s (execUpdConfirm s) :=
  .command fun h => h.len (.either h.updAnswer (State.Inv.updAnswer h.withBoot.setFlag.confirmStart))

theorem execUpdStatus_ends : Ends s (execUpdStatus s) := .command fun h => h.len h.updAnswer

theorem State.Inv.updLoad (h : s.Inv) : s.updLoad.1.Inv := by
  unfold State.updLoad
  extract_lets clean r r1 r2 r3
  have hr : r.1.Inv := h
  have h1 : r1.1.Inv := by
    unfold r1
    split
    · exact hr.loadCode.psClean
    · exact hr
  have h2 : r2.1.Inv := by
    unfold r2
    split
    · exact h1.loadGraph.pgClean
    · exact h1
  have h3 : r3.1.Inv := by
    unfold r3
    split
    · dsimp only [clean]
      split
      · exact (h2.loadPattern ‹_›).patClean
      · exact h2
    · exact h2
  split
  · dsimp only [clean]
    split
    · exact h3.stageTable ‹_›
    · exact h3.run execDiscard_ends
  · exact h3

theorem State.Inv.updArm {t u : Nat} (h : s.Inv) : (s.updArm t u).Inv := by
  refine State.Inv.slotArm ?_
  split
  · exact h.setReg.setFlag.setFlag.setFlag
  · exact h.setReg.setFlag.setFlag

theorem State.Inv.updEnd {res w : Nat} (h : s.Inv) : Answers (s.updEnd res w) := (h.updIdle.raise.ifThen (·.logOpen)).updAnswer

theorem State.Inv.updProgram (h : s.Inv) : Answers s.updProgram := by
  unfold State.updProgram
  extract_lets m bad late
  split
  · exact .either .waits h.updEnd
  · exact .either .waits (.either .waits h.setReg64.updEnd)

theorem State.Inv.updBack (h : s.Inv) : s.updBack.Inv := h.ifElse (·.withUpd.foldl (·.updArm))

theorem State.Inv.updStart {target : Nat} (h : s.Inv) : (s.updStart target).1.Inv := by
  unfold State.updStart
  dsimp only
  split
  · exact h.updLoad.run execDiscard_ends
  · exact .foldl h.updLoad.setFld.withUpd (·.updArm)

theorem State.Inv.flashStart (h : s.Inv) : s.flashStart.Inv := h.withBoot

theorem State.Inv.updImage (h : s.Inv) : s.updImage.Inv := h.setFld.others.flashStart

theorem State.Inv.updBcr {bs : List Byte} (h : s.Inv) : (s.updBcr bs).Inv := h.setFld.others.flashStart

theorem execUpdActivate_ends : Ends s (execUpdActivate s) := by
  unfold execUpdActivate
  split
  · exact .next id
  · refine .either (.next (·.setAns)) (.either (.next fun h => h.updBack.command fun _ => h.updBack.updProgram) (.either (.next id) ?_))
    have opened (h : s.Inv) := h.openWord
    generalize s.openWord = y at opened ⊢
    obtain ⟨w, s1⟩ := y
    have answered {q : CmdResult} (hq : s1.Inv → Answers q) : Ends s (.next (s1.command 0x103 fun _ => q)) :=
      .next fun h => (opened h).command fun _ => hq (opened h)
    refine .either (answered (·.updAnswer)) (.either (answered (·.updAnswer)) ?_)
    split
    · exact answered (·.updImage.updAnswer)
    · refine .either (.next opened) ?_
      split
      next t ok e =>
        have started (h : s.Inv) : t.Inv := .ofFst (opened h).updStart e
        exact .next fun h => .either (started h) ((started h).command fun _ => (started h).updEnd)
    · exact .either (.next fun h => (opened h).updBcr) (answered (·.updEnd))

theorem State.Inv.flashDone {res : Fin 3} (h : s.Inv) : (s.flashDone res).Inv := by
  unfold State.flashDone
  split
  · refine .either State.inv_restart (State.Inv.logOpen (State.Inv.setFld (State.Inv.updIdle ?_)))
    exact h.ifElse fun h => State.Inv.writeRec h.setFld.setFlag.withBoot
  · have h1 := h.openWord
    generalize s.openWord = y at h1 ⊢
    obtain ⟨w, s1⟩ := y
    refine .either (h1.command fun _ => h1.updEnd) ?_
    exact h1.withBoot.command fun _ => h1.withBoot.updEnd
  · exact h

theorem execFlashOperationEnd_ends {res : Fin 3} : Ends s (execFlashOperationEnd res s) := by
  unfold execFlashOperationEnd
  extract_lets _ s1
  have kept (h : s.Inv) : s1.Inv := State.Inv.flashDone h.withBoot
  clear_value s1
  refine .either (.next id) ?_
  split
  · exact .next fun h => (kept h).irq
  · exact .next fun h => State.Inv.resetOr (kept h).withBoot

theorem execTrialWarning_ends : Ends s (execTrialWarning s) := by
  refine .next (fun h => ?_)
  split
  · exact h.ifThen (·.raise.irq)
  · exact h

theorem execTrialExpiry_ends : Ends s (execTrialExpiry s) := by
  refine .next (fun h => ?_)
  split
  · exact h.ifThen (·.withBoot.bootFail.resetOr)
  · exact h


/-! ### Errors -/

theorem State.Inv.storeError {m block : Nat} (h : s.Inv) : (s.storeError m block).Inv := by
  unfold State.storeError
  extract_lets
  split
  · exact h
  · exact h.setPkt.withFresh

theorem State.Inv.recordGone {unit inst i : Nat} (h : s.Inv) : (s.recordGone unit inst i).Inv := by
  unfold State.recordGone
  split
  · exact h.withCls.raise
  · exact h.withLrn.raise
  · exact h.withLrn
  · exact h.withPmu.count.raise
  · exact h.withTim.raise
  · exact h.withTim.raise
  · exact h.setChan.withEng.raise
  · exact h

theorem State.Inv.reportActs {r : ErrReport} (h : s.Inv) : (s.reportActs r).Inv :=
  h.ite (·.resetOr) (·.ite (·.withMss.loadRec) (·.ite (·.recordGone) (·.ite (·.storeError) (·.ite (·.withTbl) (·.ifThen (·.withSq))))))

theorem execErrorReport_ends {rs : List (Byte × Byte × BitVec 12 × Dword)} : Ends s (execErrorReport rs s) :=
  .next (fun h => (h.foldl (fun h => (h.ite (·.reportTm) (·.errEnter)).reportActs)).irq)

theorem execFatalHoldExpiry_ends : Ends s (execFatalHoldExpiry s) := by
  refine .next (fun h => ?_)
  split
  · exact h
  · exact h.ifElse (·.withErr.failHere.resetOr)

theorem execErrRec0Read_ends {r : Requester} : Ends s (execErrRec0Read r s) := .either (.next (·.raise.answer)) (.next (·.withErr.answer))

theorem State.Inv.dropErr (h : s.Inv) : ({ s with err := { s.err with latched := none, queue := s.err.queue.drop 1 } } : State).Inv :=
  ⟨h.regs, h.sec, h.ns, h.frac, (List.length_drop ..).trans_le ((Nat.sub_le ..).trans h.queue)⟩

theorem execErrRec5Read_ends {r : Requester} : Ends s (execErrRec5Read r s) := by
  unfold execErrRec5Read
  refine .either (.next (·.raise.answer)) ?_
  split
  · exact .next (·.answer)
  · exact .next fun h => State.Inv.irq (State.Inv.answer (h.dropErr.ifThen (·.logEvent)))

theorem State.Inv.scrubFound {f : ScrubFind} (h : s.Inv) : (s.scrubFound f).Inv := by
  unfold State.scrubFound
  split
  · split
    · exact h.tableError
    · exact h
  · exact h.report.askFixes
  · exact h.badCopy
  · exact h.report
  · exact h.report
  · exact h.ite (·.report) (·.polError)
  · exact h.ite (·.reportTm) (·.report)
  · exact h.ifElse (·.report.reportActs)
  · exact h.ifElse (·.report.reportActs)
  · exact h.setFld.ifThen (·.raise)

theorem execOnDieScrub_ends {f : ScrubFind} : Ends s (execOnDieScrub f s) := .next (·.ifThen (·.scrubFound.irq))

theorem execInjectionArm_ends {r : Requester} {v : Word} : Ends s (execInjectionArm r v s) := .next (·.busWrite)

theorem State.Inv.railStep {d : Nat} (h : s.Inv) : (s.railStep d).Inv := by
  unfold State.railStep
  extract_lets mv _ s1 s2 s3 n
  have h1 : s1.Inv := h.withErr
  have h3 : s3.Inv := h1.setFld.setFld
  exact State.Inv.logEvent h3.withFresh

theorem execMarginLow_ends {mon : Fin 34} {margin : Byte} {pmbOk : Bool} : Ends s (execMarginLow mon margin pmbOk s) :=
  .either (.next id) (.next (fun h => (h.ite (·.railStep) (·.raise.logOpen)).report.irq))

theorem execMarginCrit_ends {mon : Fin 34} {margin : Byte} : Ends s (execMarginCrit mon margin s) := by
  refine .either (.next id) (.next (fun h => ?_))
  split
  · exact h.withFresh.report.ite (·.withErr.irq) (·.irq)
  · exact h.withFresh.report.irq

theorem execCrossingWireFlag_ends {dir : Fin 2} {link : Fin 64} {wire : BitVec 6} : Ends s (execCrossingWireFlag dir link wire s) :=
  .next (fun h => (h.setFlag.setFld.setFld.ifElse (·.withErr.logOpen)).report.irq)


/-! ### Lock -/

theorem execMarkerSearchFind_ends {k : LockId} {pos : Nat} : Ends s (execMarkerSearchFind k pos s) := .next (·.setLock)

theorem execMarkerPeriod_ends {k : LockId} {found laneOk deskewOk : Bool} : Ends s (execMarkerPeriod k found laneOk deskewOk s) := by
  refine .next (fun h => ?_)
  split
  · exact h.setLock.fabLock
  · exact h.setLock.lockDefects


/-! ### Electrical -/

theorem execRailOutOfTolerance_ends : Ends s (execRailOutOfTolerance s) := .next fun _ => State.inv_hardReset

theorem State.Inv.groupUnlock {g : Nat} (h : s.Inv) : (s.groupUnlock g).Inv := (h.unlock.foldl (·.setFlag)).refreshGroup

theorem execReferenceClockLoss_ends {c : RefClock} {back : Bool} : Ends s (execReferenceClockLoss c back s) := by
  refine .either (.next (·.withElec)) (.either (.next id) (.next fun h => ?_))
  split
  · exact State.inv_hardReset
  · exact State.Inv.irq (.foldl h.withElec (·.groupUnlock))
  · exact State.Inv.irq (.foldl h.withElec (·.ifThen (·.fabLock)))
  · exact h.withElec

theorem execBoundaryScanInstruction_ends {tm : Bool} {i : TapInstr} {resetHigh : Bool} : Ends s (execBoundaryScanInstruction tm i resetHigh s) :=
  .next (·.withElec)

theorem execThermalStop_ends : Ends s (execThermalStop s) :=
  .either (.next id) (.next (fun h => (h.setFlag.mateExpire.foldl (·.thermalPark)).others.logEvent.irq))

theorem execCrossingTrainingLoss_ends : Ends s (execCrossingTrainingLoss s) := .either (.next id) (.next (·.setFlag.report.irq))


/-! ### Services -/

theorem State.Inv.serviceSend {service queue : Nat} {frame : List Byte} (h : s.Inv) : (s.serviceSend service queue frame).Inv := h.mssSend.count

theorem execCmisRead_ends {ok : Bool} {data : List Byte} : Ends s (execCmisRead ok data s) :=
  .command fun h => h.len (h.param (.either h.answers h.logOpen.answers))

theorem execCmisWrite_ends {ok : Bool} : Ends s (execCmisWrite ok s) :=
  .command fun h => .either h.no (h.param (.either h.no h.logOpen.answers))

theorem State.Inv.opticsKeep {g : Nat} (h : s.Inv) : (s.opticsKeep g).Inv := h.foldl (·.withMss)

theorem execOpticsCfg_ends : Ends s (execOpticsCfg s) := .command fun h => h.len (h.param (State.Inv.answers h.withMss.opticsKeep))

theorem State.Inv.opticsEvent {port what val : Nat} (h : s.Inv) : (s.opticsEvent port what val).Inv := h.withMss.logEvent

theorem execOpticsPoll_ends {g : Fin 12} {evs : List (Fin 8 × BitVec 2 × Byte)} : Ends s (execOpticsPoll g evs s) :=
  .either (.next (fun h => (h.foldl (·.opticsEvent)).opticsKeep.irq)) (.next id)

theorem State.Inv.setBfd {i : Nat} {x : Option Bfd} (h : s.Inv) : (s.setBfd i x).Inv := h.withMss

theorem State.Inv.bfdMove {x : Bfd} {st diag : Nat} (h : s.Inv) : (s.bfdMove x st diag).Inv := h.setBfd.ifElse (·.logEvent.irq)

theorem execBfdSet_ends : Ends s (execBfdSet s) := by
  refine .command fun h => .either h.no (h.param ?_)
  split
  · exact h.setBfd.answers
  · exact (State.Inv.ite h (·.bfdMove) (·.ite (·.bfdMove) (·.setBfd))).answers

theorem execBfdDel_ends : Ends s (execBfdDel s) := .command fun h => h.len (.either h.setBfd.answers h.no)

theorem execBfdGet_ends : Ends s (execBfdGet s) := .command fun h => h.len (h.param h.answers)

theorem execBfdReceiveCheck_ends {l : Fin 16} {byAddr : Option (BitVec 15)} {st : BitVec 2} {poll fin : Bool} {mult : Byte}
    {my your tx rx echo : Word} : Ends s (execBfdReceiveCheck l byAddr st poll fin mult my your tx rx echo s) := by
  unfold execBfdReceiveCheck
  split
  · exact .either (.next id) (.either (.next (·.setBfd.putMsg.ifThen (·.putMsg))) (.next id))
  · exact .next id

theorem State.Inv.bfdMessage {m : List Dword} (h : s.Inv) : (s.bfdMessage m).Inv := by
  unfold State.bfdMessage
  extract_lets
  split
  · exact h
  · exact h.ite (·.bfdMove) (·.ifThen (·.setBfd))

theorem execSupervisorMessage_ends {l : Fin 16} : Ends s (execSupervisorMessage l s) := by
  refine .either (.next id) ?_
  split
  · exact .next id
  · split
    · exact .next id
    next taken =>
      extract_lets sv s1 sev
      have kept (h : s.Inv) : s1.Inv := (h.takeMsg taken).count
      exact .either (.next fun h => (kept h).bfdMessage) (.either (.next fun h => (kept h).logEvent.logEvent.irq) (.next kept))

theorem execBfdDetectionTimeout_ends {sess : BitVec 15} : Ends s (execBfdDetectionTimeout sess s) := by
  unfold execBfdDetectionTimeout
  split
  · exact .next id
  · exact .either (.next (·.bfdMove)) (.next id)

theorem execBfdTransmit_ends {sess : BitVec 15} {jitter : Fin 26} : Ends s (execBfdTransmit sess jitter s) := by
  unfold execBfdTransmit
  split
  · exact .next id
  · exact .either (.next (·.setBfd.serviceSend)) (.next id)

theorem execLacpSet_ends : Ends s (execLacpSet s) := .command fun h => h.len (h.param (.either h.no h.withMss.answers))

theorem execLacpGet_ends : Ends s (execLacpGet s) := by
  refine .command fun h => h.len (h.param ?_)
  split
  · exact h.no
  · exact h.answers

theorem State.Inv.setLport {k : Nat} {x : LacpPort} (h : s.Inv) : (s.setLport k x).Inv := h.withMss

theorem execLacpPeriodicTransmit_ends {port : Fin 96} {queue : BitVec 20} {frame : List Byte} :
    Ends s (execLacpPeriodicTransmit port queue frame s) := by
  unfold execLacpPeriodicTransmit
  split
  · exact .next id
  · exact .either (.next (·.setLport.serviceSend)) (.next id)

theorem execLacpduReceived_ends {port : Fin 96} {actor partner : Byte} {system : BitVec 64} {key pnum : BitVec 16} :
    Ends s (execLacpduReceived port actor partner system key pnum s) := by
  unfold execLacpduReceived
  split
  · exact .next id
  · exact .either (.either (.next (·.setLport)) (.next (·.setLport.logEvent.irq))) (.next id)

theorem execRespSet_ends : Ends s (execRespSet s) := by
  refine .command fun h => h.len ?_
  dsimp only
  split
  · exact h.no
  · exact h.withMss.answers

theorem execRespDel_ends : Ends s (execRespDel s) := .command fun h => h.len (.either h.withMss.answers h.no)

theorem execResponderRequest_ends {af : Bool} {vrf : BitVec 12} {addr : BitVec 128} {ctx : Byte} {queue : BitVec 20} {reply : List Byte}
    {ring : Fin 64} {frame : List Byte} : Ends s (execResponderRequest af vrf addr ctx queue reply ring frame s) :=
  .either (.next id) (.either (.either (.next (·.withMss.serviceSend)) (.next id)) (.next (·.withHif)))

theorem State.Inv.setMep {n : Nat} {x : Mep} (h : s.Inv) : (s.setMep n x).Inv := h.withMss

theorem execMepSet_ends : Ends s (execMepSet s) := .command fun h => h.len (h.param (.either h.no h.setMep.answers))

theorem execMepGet_ends : Ends s (execMepGet s) := by
  refine .command fun h => h.len ?_
  split
  · exact h.no
  · exact h.answers

theorem execCfmFrameReceived_ends {mep : BitVec 13} {op : Fin 4} {v : Dword} {queue : BitVec 20} {reply : List Byte} :
    Ends s (execCfmFrameReceived mep op v queue reply s) := by
  unfold execCfmFrameReceived
  split
  · exact .next id
  · refine .either (.next id) ?_
    split
    exacts [.next (·.setMep), .next (·.serviceSend), .next (·.setMep), .next (·.setMep)]

theorem execCcmTransmit_ends {mep : BitVec 13} {queue : BitVec 20} {frame : List Byte} : Ends s (execCcmTransmit mep queue frame s) := by
  unfold execCcmTransmit
  split
  · exact .next id
  · exact .either (.next (·.setMep.serviceSend)) (.next id)

theorem execIpfixSet_ends : Ends s (execIpfixSet s) := .command fun h => h.len (h.param h.withMss.answers)

theorem execIpfixExport_ends {c : Fin 4} {n : BitVec 20} {frame : List Byte} : Ends s (execIpfixExport c n frame s) := by
  unfold execIpfixExport
  split
  · exact .next id
  · exact .either (.either (.next (·.withMss.serviceSend)) (.next (·.withMss.withMss.count))) (.next id)


/-! ### Every command -/

/-- The one operand that a command is judged by as it is carried out: a frame's first bytes are 1 to 256 of them. -/
def Headed : Instr → Prop
  | .frameHeaderToKerb _ head => 0 < head.length ∧ head.length ≤ 256
  | _ => True

theorem headed_of_wf {c : Instr} (h : c.wf = true) : Headed c := by
  unfold Headed
  split
  · simp only [Instr.wf, Bool.and_eq_true, decide_eq_true_eq] at h
    exact ⟨List.length_pos_iff.mpr h.1, h.2⟩
  · trivial

theorem exec_ends : (c : Instr) → Headed c → Ends s (exec c s)
  | .registerWrite .., _ => execRegisterWrite_ends
  | .unsupportedRequestAccess _ _ _ wr, _ => execUnsupportedRequestAccess_ends (wr := wr)
  | .unmappedAccess .., _ => execUnmappedAccess_ends
  | .latchingLowHalfRead .., _ => execLatchingLowHalfRead_ends
  | .highHalfWrite .., _ => execHighHalfWrite_ends
  | .readClearRead .., _ => execReadClearRead_ends
  | .beatBoundary .., _ => execBeatBoundary_ends
  | .crossingDelivery .., _ => execCrossingDelivery_ends
  | .epochLoad, _ => execEpochLoad_ends
  | .realign, _ => execRealign_ends
  | .realignLoad, _ => execRealignLoad_ends
  | .arm .., _ => execArm_ends
  | .cancel .., _ => execCancel_ends
  | .start .., _ => execStart_ends
  | .stop .., _ => execStop_ends
  | .invalidCmd .., _ => execInvalidCmd_ends
  | .startSequenceComplete .., _ => execStartSequenceComplete_ends
  | .drainComplete .., _ => execDrainComplete_ends
  | .startTimeout .., _ => execStartTimeout_ends
  | .drainTimeout .., _ => execDrainTimeout_ends
  | .deadline .., _ => execDeadline_ends
  | .signalDetectLoss .., _ => execSignalDetectLoss_ends
  | .signalDetectReturn .., _ => execSignalDetectReturn_ends
  | .markerSearchFind .., _ => execMarkerSearchFind_ends
  | .markerPeriod .., _ => execMarkerPeriod_ends
  | .fecUncorrectable .., _ => execFecUncorrectable_ends
  | .serWindowEnd .., _ => execSerWindowEnd_ends
  | .localFaultReceived .., _ => execLocalFaultReceived_ends
  | .remoteFaultReceived .., _ => execRemoteFaultReceived_ends
  | .faultSequencesAbsent .., _ => execFaultSequencesAbsent_ends
  | .rdegReceived .., _ => execRdegReceived_ends
  | .frameHeaderToKerb .., ⟨lo, hi⟩ => execFrameHeaderToKerb_ends lo hi
  | .frameDataArrival .., _ => execFrameDataArrival_ends
  | .frameEnd .., _ => execFrameEnd_ends
  | .gatherFrameComplete .., _ => execGatherFrameComplete_ends
  | .avenueAdmission .., _ => execAvenueAdmission_ends
  | .egressFrameTransmit, _ => execEgressFrameTransmit_ends
  | .crReceived .., _ => execCrReceived_ends
  | .caReceived .., _ => execCaReceived_ends
  | .cBitFlipReceived .., _ => execCBitFlipReceived_ends
  | .caTimeout .., _ => execCaTimeout_ends
  | .flexeOverheadFrame .., _ => execFlexeOverheadFrame_ends
  | .otnCalendarSwitch .., _ => execOtnCalendarSwitch_ends
  | .otnMultiframeReceived .., _ => execOtnMultiframeReceived_ends
  | .otnSecond .., _ => execOtnSecond_ends
  | .headerVectorComplete .., _ => execHeaderVectorComplete_ends
  | .recirculationQueueTransfer .., _ => execRecirculationQueueTransfer_ends
  | .pgCheck .., _ => execPgCheck_ends
  | .pgCheckComplete, _ => execPgCheckComplete_ends
  | .dispatch .., _ => execDispatch_ends
  | .bundleIssue .., _ => execBundleIssue_ends
  | .nop .., _ => execNop_ends
  | .add .., _ => execAdd_ends
  | .sub .., _ => execSub_ends
  | .and .., _ => execAnd_ends
  | .or .., _ => execOr_ends
  | .xor .., _ => execXor_ends
  | .andn .., _ => execAndn_ends
  | .shl .., _ => execShl_ends
  | .shr .., _ => execShr_ends
  | .sar .., _ => execSar_ends
  | .rol .., _ => execRol_ends
  | .min .., _ => execMin_ends
  | .max .., _ => execMax_ends
  | .minu .., _ => execMinu_ends
  | .maxu .., _ => execMaxu_ends
  | .mul .., _ => execMul_ends
  | .mulhu .., _ => execMulhu_ends
  | .clz .., _ => execClz_ends
  | .popc .., _ => execPopc_ends
  | .bswap .., _ => execBswap_ends
  | .csadd .., _ => execCsadd_ends
  | .crc32 .., _ => execCrc32_ends
  | .addi .., _ => execAddi_ends
  | .andi .., _ => execAndi_ends
  | .ori .., _ => execOri_ends
  | .xori .., _ => execXori_ends
  | .shli .., _ => execShli_ends
  | .shri .., _ => execShri_ends
  | .sari .., _ => execSari_ends
  | .ext .., _ => execExt_ends
  | .ins .., _ => execIns_ends
  | .movi .., _ => execMovi_ends
  | .limm .., _ => execLimm_ends
  | .limmh .., _ => execLimmh_ends
  | .cmp .., _ => execCmp_ends
  | .cmpeqi .., _ => execCmpeqi_ends
  | .cmpnei .., _ => execCmpnei_ends
  | .cmplti .., _ => execCmplti_ends
  | .cmpgei .., _ => execCmpgei_ends
  | .cmpltui .., _ => execCmpltui_ends
  | .cmpgeui .., _ => execCmpgeui_ends
  | .tsti .., _ => execTsti_ends
  | .plog .., _ => execPlog_ends
  | .movp .., _ => execMovp_ends
  | .pmov .., _ => execPmov_ends
  | .rds .., _ => execRds_ends
  | .wrs .., _ => execWrs_ends
  | .fadds .., _ => execFadds_ends
  | .hld .., _ => execHld_ends
  | .hst .., _ => execHst_ends
  | .lld .., _ => execLld_ends
  | .lst .., _ => execLst_ends
  | .eput .., _ => execEput_ends
  | .eset .., _ => execEset_ends
  | .eclr .., _ => execEclr_ends
  | .lkp .., _ => execLkp_ends
  | .tcs .., _ => execTcs_ends
  | .pol .., _ => execPol_ends
  | .stat .., _ => execStat_ends
  | .waitr .., _ => execWaitr_ends
  | .send .., _ => execSend_ends
  | .recv .., _ => execRecv_ends
  | .recvt .., _ => execRecvt_ends
  | .abort .., _ => execAbort_ends
  | .brk .., _ => execBrk_ends
  | .br .., _ => execBr_ends
  | .call .., _ => execCall_ends
  | .loop .., _ => execLoop_ends
  | .jmp .., _ => execJmp_ends
  | .fwd .., _ => execFwd_ends
  | .repl .., _ => execRepl_ends
  | .punt .., _ => execPunt_ends
  | .recirc .., _ => execRecirc_ends
  | .drop .., _ => execDrop_ends
  | .lookupResponse .., _ => execLookupResponse_ends
  | .tcamSearchResponse .., _ => execTcamSearchResponse_ends
  | .policerResponse .., _ => execPolicerResponse_ends
  | .channelCommit .., _ => execChannelCommit_ends
  | .allThreadsBlocked .., _ => execAllThreadsBlocked_ends
  | .iso .., _ => execIso_ends
  | .halt .., _ => execHalt_ends
  | .resume .., _ => execResume_ends
  | .step .., _ => execStep_ends
  | .codeData3Write .., _ => execCodeData3Write_ends
  | .codeData0Read .., _ => execCodeData0Read_ends
  | .psCheck .., _ => execPsCheck_ends
  | .psCheckComplete .., _ => execPsCheckComplete_ends
  | .engineRemap .., _ => execEngineRemap_ends
  | .bistFail .., _ => execBistFail_ends
  | .editEnd, _ => execEditEnd_ends
  | .editDel .., _ => execEditDel_ends
  | .editIns .., _ => execEditIns_ends
  | .editOvr .., _ => execEditOvr_ends
  | .dec4 .., _ => execDec4_ends
  | .dec6 .., _ => execDec6_ends
  | .decm .., _ => execDecm_ends
  | .pcopy .., _ => execPcopy_ends
  | .bankQueueEntry .., _ => execBankQueueEntry_ends
  | .policerQueueEntry .., _ => execPolicerQueueEntry_ends
  | .insert .., _ => execInsert_ends
  | .replace .., _ => execReplace_ends
  | .delete .., _ => execDelete_ends
  | .find .., _ => execFind_ends
  | .windowRead .., _ => execWindowRead_ends
  | .windowWrite .., _ => execWindowWrite_ends
  | .commit .., _ => execCommit_ends
  | .discard .., _ => execDiscard_ends
  | .overlayDrain .., _ => execOverlayDrain_ends
  | .routeDelta, _ => execRouteDelta_ends
  | .shadowCompare .., _ => execShadowCompare_ends
  | .tcamQueueEntry .., _ => execTcamQueueEntry_ends
  | .tcamRowOperation .., _ => execTcamRowOperation_ends
  | .tcamWrite .., _ => execTcamWrite_ends
  | .tcamInsert .., _ => execTcamInsert_ends
  | .tcamDelete .., _ => execTcamDelete_ends
  | .tcamRead .., _ => execTcamRead_ends
  | .tcamClear .., _ => execTcamClear_ends
  | .tcamCommandComplete .., _ => execTcamCommandComplete_ends
  | .policerRefresh .., _ => execPolicerRefresh_ends
  | .policerWindowRead .., _ => execPolicerWindowRead_ends
  | .policerWindowWrite .., _ => execPolicerWindowWrite_ends
  | .patternScan .., _ => execPatternScan_ends
  | .patWinWrite .., _ => execPatWinWrite_ends
  | .patCheck .., _ => execPatCheck_ends
  | .patCheckComplete, _ => execPatCheckComplete_ends
  | .patOldProtEnd, _ => execPatOldProtEnd_ends
  | .patRec0Read .., _ => execPatRec0Read_ends
  | .patRec3Read .., _ => execPatRec3Read_ends
  | .learnExecute .., _ => execLearnExecute_ends
  | .freezeExpiry .., _ => execFreezeExpiry_ends
  | .unfreeze .., _ => execUnfreeze_ends
  | .epochAdvance, _ => execEpochAdvance_ends
  | .lrnRec0Read .., _ => execLrnRec0Read_ends
  | .lrnRec7Read .., _ => execLrnRec7Read_ends
  | .recordLanding, _ => execRecordLanding_ends
  | .queueRead .., _ => execQueueRead_ends
  | .queueWrite .., _ => execQueueWrite_ends
  | .flush .., _ => execFlush_ends
  | .move, _ => execMove_ends
  | .replicationEngine, _ => execReplicationEngine_ends
  | .free .., _ => execFree_ends
  | .quarantineRelease .., _ => execQuarantineRelease_ends
  | .egressEdit .., _ => execEgressEdit_ends
  | .schedulerDecision .., _ => execSchedulerDecision_ends
  | .sampleRead .., _ => execSampleRead_ends
  | .nodeRead .., _ => execNodeRead_ends
  | .nodeWrite .., _ => execNodeWrite_ends
  | .fabricFrameReceived .., _ => execFabricFrameReceived_ends
  | .cellReceived .., _ => execCellReceived_ends
  | .request .., _ => execRequest_ends
  | .grant .., _ => execGrant_ends
  | .heartbeat .., _ => execHeartbeat_ends
  | .status .., _ => execStatus_ends
  | .emptyMessage .., _ => execEmptyMessage_ends
  | .requestRepeat .., _ => execRequestRepeat_ends
  | .statusRefresh, _ => execStatusRefresh_ends
  | .statusTimeout .., _ => execStatusTimeout_ends
  | .laneEnable .., _ => execLaneEnable_ends
  | .laneFail .., _ => execLaneFail_ends
  | .laneDrainEnd .., _ => execLaneDrainEnd_ends
  | .laneReturn .., _ => execLaneReturn_ends
  | .dramRequest .., _ => execDramRequest_ends
  | .dramQueueEntry .., _ => execDramQueueEntry_ends
  | .burstService .., _ => execBurstService_ends
  | .openRowTimeout .., _ => execOpenRowTimeout_ends
  | .bankRefresh .., _ => execBankRefresh_ends
  | .selfRefreshEntry .., _ => execSelfRefreshEntry_ends
  | .selfRefreshEntryCommand .., _ => execSelfRefreshEntryCommand_ends
  | .selfRefreshExitComplete .., _ => execSelfRefreshExitComplete_ends
  | .stackTemperatureSample .., _ => execStackTemperatureSample_ends
  | .dramScrubRead .., _ => execDramScrubRead_ends
  | .remapDataWrite .., _ => execRemapDataWrite_ends
  | .remapCopyComplete .., _ => execRemapCopyComplete_ends
  | .writeThenCompare .., _ => execWriteThenCompare_ends
  | .compareOnly .., _ => execCompareOnly_ends
  | .writeOnly .., _ => execWriteOnly_ends
  | .trainingHelperComplete .., _ => execTrainingHelperComplete_ends
  | .perstNAssert, _ => execPerstNAssert_ends
  | .perstNRelease, _ => execPerstNRelease_ends
  | .hotReset .., _ => execHotReset_ends
  | .functionLevelReset, _ => execFunctionLevelReset_ends
  | .d3hotEntry, _ => execD3hotEntry_ends
  | .d0Return, _ => execD0Return_ends
  | .busMasterEnableClear, _ => execBusMasterEnableClear_ends
  | .hostReadTimeout .., _ => execHostReadTimeout_ends
  | .ringEnable .., _ => execRingEnable_ends
  | .ringDisable .., _ => execRingDisable_ends
  | .puntWrite, _ => execPuntWrite_ends
  | .descriptorFetch .., _ => execDescriptorFetch_ends
  | .injectRead .., _ => execInjectRead_ends
  | .moderationTimer .., _ => execModerationTimer_ends
  | .vectorEoi .., _ => execVectorEoi_ends
  | .msixUnmask .., _ => execMsixUnmask_ends
  | .mailboxPost .., _ => execMailboxPost_ends
  | .pop .., _ => execPop_ends
  | .withdraw .., _ => execWithdraw_ends
  | .commandTake .., _ => execCommandTake_ends
  | .answerPost .., _ => execAnswerPost_ends
  | .getInfo, _ => execGetInfo_ends
  | .echo, _ => execEcho_ends
  | .routeStat, _ => execRouteStat_ends
  | .cmisRead .., _ => execCmisRead_ends
  | .cmisWrite .., _ => execCmisWrite_ends
  | .opticsCfg, _ => execOpticsCfg_ends
  | .bfdSet, _ => execBfdSet_ends
  | .bfdDel, _ => execBfdDel_ends
  | .bfdGet, _ => execBfdGet_ends
  | .lacpSet, _ => execLacpSet_ends
  | .lacpGet, _ => execLacpGet_ends
  | .respSet, _ => execRespSet_ends
  | .respDel, _ => execRespDel_ends
  | .mepSet, _ => execMepSet_ends
  | .mepGet, _ => execMepGet_ends
  | .ipfixSet, _ => execIpfixSet_ends
  | .sensorRead, _ => execSensorRead_ends
  | .sensorThr, _ => execSensorThr_ends
  | .logRead, _ => execLogRead_ends
  | .idRead, _ => execIdRead_ends
  | .tagRead, _ => execTagRead_ends
  | .tagWrite, _ => execTagWrite_ends
  | .keyEnrol, _ => execKeyEnrol_ends
  | .keyRevoke, _ => execKeyRevoke_ends
  | .keyList, _ => execKeyList_ends
  | .evpnRead, _ => execEvpnRead_ends
  | .supSend .., _ => execSupSend_ends
  | .opticsPoll .., _ => execOpticsPoll_ends
  | .bfdReceiveCheck .., _ => execBfdReceiveCheck_ends
  | .supervisorMessage .., _ => execSupervisorMessage_ends
  | .bfdDetectionTimeout .., _ => execBfdDetectionTimeout_ends
  | .bfdTransmit .., _ => execBfdTransmit_ends
  | .lacpPeriodicTransmit .., _ => execLacpPeriodicTransmit_ends
  | .responderRequest .., _ => execResponderRequest_ends
  | .sensorSample .., _ => execSensorSample_ends
  | .powerLoss, _ => execPowerLoss_ends
  | .resetN, _ => execResetN_ends
  | .moduleReset .., _ => execModuleReset_ends
  | .fwRestart r, _ => execFwRestart_ends (r := r)
  | .bootStart .., _ => execBootStart_ends
  | .confirm, _ => execConfirm_ends
  | .clrAttempts, _ => execClrAttempts_ends
  | .kick, _ => execKick_ends
  | .watchdogExpiry, _ => execWatchdogExpiry_ends
  | .bootTimeout, _ => execBootTimeout_ends
  | .updBegin .., _ => execUpdBegin_ends
  | .updData .., _ => execUpdData_ends
  | .updVerify, _ => execUpdVerify_ends
  | .updActivate, _ => execUpdActivate_ends
  | .updAbort, _ => execUpdAbort_ends
  | .updConfirm, _ => execUpdConfirm_ends
  | .updStatus, _ => execUpdStatus_ends
  | .trialWarning, _ => execTrialWarning_ends
  | .trialExpiry, _ => execTrialExpiry_ends
  | .timeTick, _ => execTimeTick_ends
  | .timeNsRead .., _ => execTimeNsRead_ends
  | .timeSet, _ => execTimeSet_ends
  | .timeAdd, _ => execTimeAdd_ends
  | .referencePpsEdge .., _ => execReferencePpsEdge_ends
  | .referenceOffsetSubmit .., _ => execReferenceOffsetSubmit_ends
  | .referenceEdgeMissing .., _ => execReferenceEdgeMissing_ends
  | .vote, _ => execVote_ends
  | .triggerEnable .., _ => execTriggerEnable_ends
  | .triggerFire .., _ => execTriggerFire_ends
  | .tevtEdge .., _ => execTevtEdge_ends
  | .queueFirstWordRead .., _ => execQueueFirstWordRead_ends
  | .queueLastWordRead .., _ => execQueueLastWordRead_ends
  | .mateEnable .., _ => execMateEnable_ends
  | .sync, _ => execSync_ends
  | .release, _ => execRelease_ends
  | .forceTake, _ => execForceTake_ends
  | .mateKick .., _ => execMateKick_ends
  | .kickTimeout, _ => execKickTimeout_ends
  | .heartbeatSend, _ => execHeartbeatSend_ends
  | .directHeartbeat .., _ => execDirectHeartbeat_ends
  | .mateDeclaredFailed, _ => execMateDeclaredFailed_ends
  | .claim, _ => execClaim_ends
  | .claimHoldEnd, _ => execClaimHoldEnd_ends
  | .mateSeenLow, _ => execMateSeenLow_ends
  | .claimBackoffEnd, _ => execClaimBackoffEnd_ends
  | .releasingTimeout, _ => execReleasingTimeout_ends
  | .wtrExpiry, _ => execWtrExpiry_ends
  | .selfTestFrame .., _ => execSelfTestFrame_ends
  | .selfTestTimeout, _ => execSelfTestTimeout_ends
  | .liveValueRead .., _ => execLiveValueRead_ends
  | .snapshotValueRead .., _ => execSnapshotValueRead_ends
  | .smpRec0Read .., _ => execSmpRec0Read_ends
  | .smpRec31Read .., _ => execSmpRec31Read_ends
  | .traceEnable .., _ => execTraceEnable_ends
  | .traceRead .., _ => execTraceRead_ends
  | .errorReport .., _ => execErrorReport_ends
  | .fatalHoldExpiry, _ => execFatalHoldExpiry_ends
  | .errRec0Read .., _ => execErrRec0Read_ends
  | .errRec5Read .., _ => execErrRec5Read_ends
  | .onDieScrub .., _ => execOnDieScrub_ends
  | .injectionArm .., _ => execInjectionArm_ends
  | .marginLow .., _ => execMarginLow_ends
  | .marginCrit .., _ => execMarginCrit_ends
  | .crossingWireFlag .., _ => execCrossingWireFlag_ends
  | .railOutOfTolerance, _ => execRailOutOfTolerance_ends
  | .referenceClockLoss .., _ => execReferenceClockLoss_ends
  | .thermalStop, _ => execThermalStop_ends
  | .boundaryScanInstruction .., _ => execBoundaryScanInstruction_ends
  | .signalDetectGain .., _ => execSignalDetectGain_ends
  | .mateSeenHigh, _ => execMateSeenHigh_ends
  | .crossingTrainingLoss, _ => execCrossingTrainingLoss_ends
  | .pcieLinkUp .., _ => execPcieLinkUp_ends
  | .flashOperationEnd .., _ => execFlashOperationEnd_ends
  | .lacpduReceived .., _ => execLacpduReceived_ends
  | .cfmFrameReceived .., _ => execCfmFrameReceived_ends
  | .ccmTransmit .., _ => execCcmTransmit_ends
  | .ipfixExport .., _ => execIpfixExport_ends

theorem exec_fault_of_not_headed {c : Instr} (h : ¬ Headed c) : exec c s = .fault .illFormed := by
  unfold Headed at h
  split at h
  · refine if_pos ?_
    simp only [Bool.or_eq_true, decide_eq_true_eq]
    omega
  · exact absurd trivial h

theorem State.Inv.exec {c : Instr} {t : State} (h : s.Inv) (e : exec c s = .next t) : t.Inv := by
  by_cases hc : Headed c
  · obtain ⟨u, eu, hu⟩ := exec_ends (s := s) c hc
    rw [e] at eu
    cases eu
    exact hu h
  · rw [exec_fault_of_not_headed hc] at e
    cases e

/-! ### Every step -/

theorem State.Inv.idle (h : s.Inv) : s.idle.Inv :=
  .either h.clockEnd.beatBoundary.clockStart h.clockTick

theorem State.Inv.step {t : State} (h : s.Inv) (e : Machine.step s = .next t) : t.Inv := by
  unfold Machine.step at e
  split at e
  · cases e
    exact h.idle
  next c rest _ =>
    exact h.withPending.exec e

end
end Sys2Proof.Machine
end

section
open Sys2Proof Sys2Proof.Machine

/-- Settles O59: StateInv speaks of three parts of the state only; each update that a command or a clock is made of keeps what it says of them. -/
theorem invariantKeptByEveryStep : Obligations.InvariantKeptByEveryStep := by
  unfold Obligations.InvariantKeptByEveryStep
  intro s t h e
  rw [← State.inv_iff] at h ⊢
  exact h.step e

/-- Settles O60: each command ends in a next state; the one check that can fail, of the length of a frame's first bytes, is part of Instr.wf. -/
theorem wellFormedCommandsComplete : Obligations.WellFormedCommandsComplete := by
  unfold Obligations.WellFormedCommandsComplete
  intro c s wf
  obtain ⟨t, e, -⟩ := exec_ends (s := s) c (headed_of_wf wf)
  exact ⟨t, e⟩

/-- Settles O58: an empty register file is canonical, and the time and the queue start at nothing. -/
theorem invariantAtReset : Obligations.InvariantAtReset := by
  unfold Obligations.InvariantAtReset
  exact (State.inv_iff _).mp State.inv_reset

end

section
/-! SUPPORT. Accesses that are refused or fall on no register, and what a report of class 1 changes; the statement O5. -/

open Sys2Proof Sys2Proof.Machine
namespace Sys2Proof.Machine

/-! ### Accesses that fall on no register (R20) -/

/-- An offset at which a requester sees no register is hidden from it, or has no row. -/
theorem State.mapped_eq_false_iff (s : State) (r : Requester) (a : Nat) :
    s.mapped r a = false ↔ regLookup (canonAddr a) = none ∨ s.hidden r a = true := by
  unfold State.mapped
  cases regLookup (canonAddr a) <;> simp

/-- A write of an offset at which the requester sees no register is an unmapped access. -/
theorem State.busWrite_of_not_mapped (s : State) (r : Requester) (a v : Nat) (h : s.mapped r a = false) :
    s.busWrite r a v = s.unmapped r a := by
  unfold State.busWrite
  rcases (s.mapped_eq_false_iff r a).1 h with hnone | hhid
  · simp [hnone]
  · cases hl : regLookup (canonAddr a) <;> simp [hl, hhid]

/-- A read of an offset at which the requester sees no register is an unmapped access. -/
theorem State.busRead_of_not_mapped (s : State) (r : Requester) (a : Nat) (h : s.mapped r a = false) :
    s.busRead r a = s.unmapped r a := by
  unfold State.busRead
  rcases (s.mapped_eq_false_iff r a).1 h with hnone | hhid
  · simp [hnone]
  · cases hl : regLookup (canonAddr a) <;> simp [hl, hhid]

/-- An aligned access at which no register is defined is an unmapped access, whichever way it goes. -/
theorem execUnmappedAccess_of_not_mapped (r : Requester) (a : BitVec 28) (wr : Bool) (s : State) (h4 : a.toNat % 4 = 0)
    (h : s.mapped r a.toNat = false) : execUnmappedAccess r a wr s = .next (s.unmapped r a.toNat) := by
  unfold execUnmappedAccess
  cases wr <;> simp [h, h4, s.busWrite_of_not_mapped r _ _ h, s.busRead_of_not_mapped r _ h]

/-! ### Reports of class 1 (R521, R525) -/

/-- A report of class 1: counted, noted by unit and by class, and queued. -/
theorem State.report_class_one (s : State) (unit code inst detail : Nat) (hu : unit ≠ 0x30) :
    s.report unit code 1 inst detail =
      (((s.bumpReg 0x400014 1).raise (0x400020 + unit / 32 % 8 * 4) (unit % 32)).raise 0x400008 1).errQueue
        { unit, code, cls := 1, inst, detail } := by
  simp [State.report, State.errEnter, hu]

/-- A report that is queued touches no register but ERR_STAT, which notes a full queue. -/
theorem State.reg_errQueue_ne (s : State) (q : ErrReport) {a : Nat} (h : a ≠ 0x400000) : (s.errQueue q).reg a = s.reg a := by
  unfold State.errQueue
  split
  · rfl
  · exact State.reg_setFlag_ne _ _ _ h

/-- What neither registers nor the error record belong to, a report that is queued leaves. -/
theorem State.errQueue_part {γ : Type} (g : State → γ) (hr : ∀ (s : State) x, g { s with bus := { s.bus with regs := x } } = g s)
    (he : ∀ (s : State) x, g { s with err := x } = g s) (s : State) (q : ErrReport) : g (s.errQueue q) = g s := by
  unfold State.errQueue
  split
  · exact he s _
  · exact (hr _ _).trans (he s _)

/-- A report of class 1 touches no register but ERR_STAT, the class flags and its unit's word of unit flags. -/
theorem State.reg_report_class_one_ne (s : State) (unit code inst detail : Nat) (hu : unit ≠ 0x30) {a : Nat} (h0 : a ≠ 0x400000)
    (hc : a ≠ 0x400008) (hf : a ≠ 0x400020 + unit / 32 % 8 * 4) : (s.report unit code 1 inst detail).reg a = s.reg a := by
  rw [s.report_class_one _ _ _ _ hu, State.reg_errQueue_ne _ _ h0, State.raise, State.reg_setFlag_ne _ _ _ hc, State.raise,
    State.reg_setFlag_ne _ _ _ hf]
  rfl

/-- What neither registers, counts of events nor the error record belong to, a report of class 1 leaves. -/
theorem State.report_class_one_part {γ : Type} (g : State → γ) (hr : ∀ (s : State) x, g { s with bus := { s.bus with regs := x } } = g s)
    (hn : ∀ (s : State) x, g { s with bus := { s.bus with rcNow := x } } = g s) (he : ∀ (s : State) x, g { s with err := x } = g s)
    (s : State) (unit code inst detail : Nat) (hu : unit ≠ 0x30) : g (s.report unit code 1 inst detail) = g s := by
  rw [s.report_class_one _ _ _ _ hu]
  exact (State.errQueue_part g hr he _ _).trans ((hr _ _).trans ((hr _ _).trans (hn s _)))

/-- Of the events of a clock a report of class 1 adds only to its class's count. -/
theorem State.rcNow_report_class_one_ne (s : State) (unit code inst detail : Nat) (hu : unit ≠ 0x30) {b : Nat} (hb : b ≠ 0x400014) :
    Tab.get 0 (s.report unit code 1 inst detail).bus.rcNow b = Tab.get 0 s.bus.rcNow b := by
  rw [s.report_class_one _ _ _ _ hu,
    State.errQueue_part (fun t : State => Tab.get 0 t.bus.rcNow b) (fun _ _ => rfl) (fun _ _ => rfl)]
  exact (State.rcNow_bumpReg s 0x400014 b 1).trans (if_neg hb)

/-- The state in which an access that is not a naturally aligned 32-bit access ends, but for its completion. -/
def State.refusedAccess (s : State) (r : Requester) (a : Nat) : State :=
  (s.bumpReg 0x400044 1).report 0x06 3 1 (requesterNo r) a

theorem execUnsupportedRequestAccess_of_misaligned (r : Requester) (a : BitVec 28) (n : Nat) (wr : Bool) (s : State)
    (h : ¬ (n = 4 ∧ a.toNat % 4 = 0)) :
    execUnsupportedRequestAccess r a n wr s = .next { s.refusedAccess r a.toNat with
      bus := { (s.refusedAccess r a.toNat).bus with
        cpl := some { req := r, addr := a.toNat, data := 0, status := .unsupportedRequest } } } := by
  unfold execUnsupportedRequestAccess
  rw [if_neg (by simpa using h)]
  rfl

/-- What neither registers, counts of events nor the error record belong to, a refused access leaves. -/
theorem State.refusedAccess_part {γ : Type} (g : State → γ) (hr : ∀ (s : State) x, g { s with bus := { s.bus with regs := x } } = g s)
    (hn : ∀ (s : State) x, g { s with bus := { s.bus with rcNow := x } } = g s) (he : ∀ (s : State) x, g { s with err := x } = g s)
    (s : State) (r : Requester) (a : Nat) : g (s.refusedAccess r a) = g s :=
  (State.report_class_one_part g hr hn he _ _ _ _ _ (by decide)).trans (hn s _)

theorem State.reg_refusedAccess_ne (s : State) (r : Requester) (a : Nat) {b : Nat} (hb : b ∉ [0x400000, 0x400008, 0x400020]) :
    (s.refusedAccess r a).reg b = s.reg b := by
  simp only [List.mem_cons, List.not_mem_nil, or_false, not_or] at hb
  obtain ⟨h0, hc, hf⟩ := hb
  exact State.reg_report_class_one_ne _ _ _ _ _ (by decide) h0 hc hf

/-- A refused access counts one unsupported request. -/
theorem State.rcNow_refusedAccess (s : State) (r : Requester) (a : Nat) :
    Tab.get 0 (s.refusedAccess r a).bus.rcNow 0x400044 = Tab.get 0 s.bus.rcNow 0x400044 + 1 := by
  rw [State.refusedAccess, State.rcNow_report_class_one_ne _ _ _ _ _ (by decide) (by decide), State.rcNow_bumpReg, if_pos rfl]

end Sys2Proof.Machine

/-- Settles O5: a misaligned access is `State.refusedAccess`, whose report touches the error unit only; an access that the requester sees no
register at is `State.unmapped`. -/
theorem refusedAndUnmappedAccesses : Obligations.RefusedAndUnmappedAccesses := by
  constructor
  · intro r a n wr s h
    refine ⟨_, execUnsupportedRequestAccess_of_misaligned r a n wr s h, rfl, s.rcNow_refusedAccess r _, ?_, ?_⟩
    · intro b hb _
      exact s.reg_refusedAccess_ne r _ hb
    · exact ⟨s.refusedAccess_part (·.line) (fun _ _ => rfl) (fun _ _ => rfl) (fun _ _ => rfl) r _,
        s.refusedAccess_part (·.eng) (fun _ _ => rfl) (fun _ _ => rfl) (fun _ _ => rfl) r _,
        s.refusedAccess_part (·.tbl) (fun _ _ => rfl) (fun _ _ => rfl) (fun _ _ => rfl) r _,
        s.refusedAccess_part (·.pending) (fun _ _ => rfl) (fun _ _ => rfl) (fun _ _ => rfl) r _⟩
  · intro r a wr s h4 h
    refine ⟨_, execUnmappedAccess_of_not_mapped r a wr s h4 h, rfl, ?_, fun _ _ _ => rfl, ?_⟩
    · exact (State.rcNow_bumpReg s 0x400040 0x400040 1).trans (if_pos rfl)
    · unfold RestSame
      simp [State.unmapped]
end

section
/-! SUPPORT. The register bus: how a write reaches its register, and what an ordinary write changes bit by bit; the statement O4. -/

open Sys2Proof Sys2Proof.Machine
namespace Sys2Proof
namespace Machine

/-! ### Bits that a mask clears -/

/-- Taking the bits of a mask out of a number is taking them off it. -/
theorem sub_and_div_two (n m : Nat) : (n - (n &&& m)) / 2 = n / 2 - (n / 2 &&& m / 2) := by
  have hdiv : (n &&& m) / 2 = n / 2 &&& m / 2 := Nat.and_div_two
  have hodd : (n &&& m) % 2 = 1 ↔ n % 2 = 1 ∧ m % 2 = 1 := Nat.and_mod_two_eq_one
  rw [← hdiv]
  omega

/-- Clearing the bits of a mask. -/
theorem testBit_sub_and (n m i : Nat) : (n - (n &&& m)).testBit i = (n.testBit i && !m.testBit i) := by
  induction i generalizing n m with
  | zero =>
    have hle : n &&& m ≤ n := Nat.and_le_left
    have hodd : (n &&& m) % 2 = 1 ↔ n % 2 = 1 ∧ m % 2 = 1 := Nat.and_mod_two_eq_one
    rw [Bool.eq_iff_iff]
    simp only [Nat.testBit_zero, decide_eq_true_eq, Bool.and_eq_true, Bool.not_eq_true', decide_eq_false_iff_not]
    omega
  | succ i ih => rw [Nat.testBit_succ, sub_and_div_two, ih, Nat.testBit_succ, Nat.testBit_succ]

/-! ### Where a write goes -/

theorem scrAddr_ge (k : ScrId) : 0x1000000 ≤ scrAddr k := by
  cases k <;> simp only [scrAddr] <;> omega

theorem slotTgt_low_or_ge (k : SlotId) : slotTgt k = 0x500008 ∨ 0x1080048 ≤ slotTgt k := by
  cases k with
  | lkpUpd w => simp only [slotTgt]; omega
  | _ => simp [slotTgt]

/-- Below the line side's registers a write goes to its unit: but for PMU_SNAP_ACT_CTL there is no activation slot and no *_SCR register. -/
theorem State.defWrite_eq_unitWrite (s : State) (r : Requester) (row : RegRow) (ix : List Nat) {a : Nat} (v : Nat) (ha : a < 0x1000000)
    (hs : a ≠ 0x50000C) : s.defWrite r row ix a v = s.unitWrite r row ix a v := by
  have hslot : (allSlots.find? fun k => slotTgt k + 4 == a) = none := by
    refine List.find?_eq_none.2 fun k _ => ?_
    have := slotTgt_low_or_ge k
    simp only [beq_iff_eq]
    omega
  have hscr : (allScrs.find? fun k => scrAddr k == a) = none := by
    refine List.find?_eq_none.2 fun k _ => ?_
    have := scrAddr_ge k
    simp only [beq_iff_eq]
    omega
  simp only [State.defWrite, hslot, hscr]

/-- A write of a register that the requester sees, of no other's window, reaches it and completes. -/
theorem State.busWrite_of_row (s : State) (r : Requester) {a : Nat} (v : Nat) {row : RegRow} {ix : List Nat}
    (hl : regLookup (canonAddr a) = some (row, ix)) (hh : s.hidden r a = false) (hf : (row.fw && r == .host) = false)
    (hw : winForeign r (canonAddr a) = none) : s.busWrite r a v = ((s.defWrite r row ix (canonAddr a) v).done r a).irq := by
  simp [State.busWrite, hl, hh, hf, hw]

theorem canonAddr_beat {a : Nat} (ha : a / 0x100000 = 1) : canonAddr a = a := if_neg (by simp; omega)

theorem lowWritten_beat {a : Nat} (ha : a / 0x100000 = 1) : lowWritten a = false := by
  simp [lowWritten]
  omega

theorem winForeign_beat (r : Requester) {a : Nat} (ha : a / 0x100000 = 1) : winForeign r a = none := by
  have habove : ∀ n, 0x200000 ≤ n → ¬ n ≤ a := by omega
  simp [winForeign, winOf, habove]

/-- The registers of the beat are all hidden from a requester or all seen. -/
theorem State.hidden_beat (s : State) (r : Requester) {a b : Nat} (ha : a / 0x100000 = 1) (hb : b / 0x100000 = 1) :
    s.hidden r a = s.hidden r b := by
  have hout : ∀ {n : Nat}, n / 0x100000 = 1 →
      (n < 0x100000 || (0x400000 ≤ n && n < 0x500000) || (0x600000 ≤ n && n < 0x1000000) : Bool) = false := by
    intro n hn
    simp
    omega
  rw [State.hidden, State.hidden, hout ha, hout hb]

/-- The registers of the beat have no rule of their own but BEAT_CTRL. -/
theorem State.unitWrite_beat (s : State) (r : Requester) (row : RegRow) (ix : List Nat) {a : Nat} (v : Nat) (ha : a / 0x100000 = 1)
    (hc : a ≠ 0x100010) : s.unitWrite r row ix a v = s.plainWrite row ix a v := by
  simp [State.unitWrite, ha, hc, lowWritten_beat ha]

theorem State.busWrite_beat (s : State) (r : Requester) {a : Nat} (v : Nat) {row : RegRow} {ix : List Nat}
    (hl : regLookup a = some (row, ix)) (hh : s.hidden r a = false) (hf : row.fw = false) (ha : a / 0x100000 = 1) (hc : a ≠ 0x100010) :
    s.busWrite r a v = ((s.plainWrite row ix a v).done r a).irq := by
  rw [s.busWrite_of_row r v (by rwa [canonAddr_beat ha]) hh (by simp [hf]) (by rw [canonAddr_beat ha, winForeign_beat r ha]),
    canonAddr_beat ha, State.defWrite_eq_unitWrite _ _ _ _ _ (by omega) (by omega), State.unitWrite_beat _ _ _ _ _ ha hc]

/-! ### What an ordinary write changes (R7, R8, R31) -/

/-- The value of a register after a write that takes effect at once: read-write bits as written, written ones clear W1C bits. -/
def RegRow.writtenNow (row : RegRow) (old v : Nat) : Nat :=
  maskPut old row.rw v - (maskPut old row.rw v &&& (v &&& row.w1c))

/-- A write of a row without stopped-only or boundary bits replaces the register's value. -/
theorem State.plainWrite_now (s : State) (row : RegRow) (ix : List Nat) {a : Nat} (v : Nat) (hstp : row.stp = 0) (hbnd : row.bnd = 0)
    (ha : a < 0x1000000) : s.plainWrite row ix a v = s.setReg a (row.writtenNow (s.reg a) v) := by
  simp [State.plainWrite, RegRow.writtenNow, hstp, hbnd, ha]

/-- A change of a register queued for the boundary (R31). -/
def State.queueChange (s : State) (a mask v : Nat) : State :=
  { s with bus := { s.bus with pendRegs := s.bus.pendRegs ++ [(a, mask, v)] } }

/-- A write of a row whose read-write bits all take effect at a boundary leaves the register and queues the change. -/
theorem State.plainWrite_atBoundary (s : State) (row : RegRow) (ix : List Nat) {a : Nat} (v : Nat) (hstp : row.stp = 0)
    (hbnd : row.bnd = row.rw) (hrw : row.rw ≠ 0) (hw1c : row.w1c = 0) (ha : a < 0x1000000) :
    s.plainWrite row ix a v = (s.setReg a (s.reg a)).queueChange a row.rw v := by
  have hlow : ¬ 0x1000000 ≤ a := by omega
  simp only [State.plainWrite, hstp, hbnd, hw1c, hrw, hlow, maskPut, Nat.and_self, Nat.and_zero, Nat.sub_self, Nat.sub_zero, Nat.add_zero,
    ne_eq, not_true_eq_false, decide_false, Bool.false_and, Bool.false_eq_true, if_false, if_true]
  rfl

/-- A register written with its own value reads as before. -/
theorem State.reg_setReg_same (s : State) (a b : Nat) : (s.setReg a (s.reg a)).reg b = s.reg b := by
  rw [State.reg_setReg]
  split
  · next h => rw [h, Nat.mod_eq_of_lt (s.reg_lt a)]
  · rfl

/-- Clearing W1C bits: where nothing is read-write, each bit stays unless it is such a bit and is written with 1. -/
theorem RegRow.testBit_writtenNow_w1c (row : RegRow) (hrw : row.rw = 0) (old v i : Nat) :
    (row.writtenNow old v).testBit i = (old.testBit i && !(v.testBit i && row.w1c.testBit i)) := by
  simp [RegRow.writtenNow, maskPut, hrw, testBit_sub_and, Nat.testBit_and]

/-- A row of which nothing is written keeps its value. -/
theorem RegRow.writtenNow_readOnly (row : RegRow) (hrw : row.rw = 0) (hw1c : row.w1c = 0) (old v : Nat) :
    row.writtenNow old v = old := by
  simp [RegRow.writtenNow, maskPut, hrw, hw1c]

/-- A row whose low 16 bits are read-write takes them from the value written and keeps the bits above. -/
theorem RegRow.writtenNow_low16 (row : RegRow) (hrw : row.rw = 0xFFFF) (hw1c : row.w1c = 0) (old v : Nat) :
    row.writtenNow old v = old / 2 ^ 16 * 2 ^ 16 + v % 2 ^ 16 := by
  have hlow (n : Nat) : n &&& 0xFFFF = n % 2 ^ 16 := Nat.and_two_pow_sub_one_eq_mod n 16
  simp only [RegRow.writtenNow, maskPut, hrw, hw1c, hlow, Nat.and_zero, Nat.sub_zero]
  omega

end Machine

/-! ### Frames of an access -/

theorem RegsSame.refl (s : State) (but : List Nat) : RegsSame s s but := fun _ _ _ => rfl

theorem RegsSame.irq {s t : State} {but : List Nat} (h : RegsSame s t but) : RegsSame s t.irq but :=
  fun a hb hi => (t.irq_reg hi).trans (h a hb hi)

theorem RegsSame.answer {s t : State} {but : List Nat} (h : RegsSame s t but) (r : Requester) (a v : Nat) :
    RegsSame s (t.answer r a v) but := h

theorem RegsSame.queueChange {s t : State} {but : List Nat} (h : RegsSame s t but) (a mask v : Nat) :
    RegsSame s (t.queueChange a mask v) but := h

theorem RegsSame.setReg {s t : State} {but : List Nat} (h : RegsSame s t but) {a : Nat} (v : Nat) (ha : a ∈ but) :
    RegsSame s (t.setReg a v) but :=
  fun _ hb hi => (t.reg_setReg_ne v fun e => hb (by rwa [e])).trans (h _ hb hi)

theorem RegsSame.setReg_same (s : State) (a : Nat) (but : List Nat) : RegsSame s (s.setReg a (s.reg a)) but :=
  fun b _ _ => s.reg_setReg_same a b

theorem RestSame.refl (s : State) : RestSame s s := by simp [RestSame]

theorem RestSame.irq {s t : State} (h : RestSame s t) : RestSame s t.irq := by
  unfold RestSame at h ⊢
  simpa using h

theorem RestSame.answer {s t : State} (h : RestSame s t) (r : Requester) (a v : Nat) : RestSame s (t.answer r a v) := h

theorem RestSame.queueChange {s t : State} (h : RestSame s t) (a mask v : Nat) : RestSame s (t.queueChange a mask v) := h

theorem RestSame.setReg {s t : State} (h : RestSame s t) (a v : Nat) : RestSame s (t.setReg a v) := h

namespace Machine

/-! ### The rows of the registers named -/

theorem regLookup_beatNumLo : regLookup 0x100000 = some (mkReg "BEAT_NUM_LO" 0x100000 [] 0x0 0x0 0x0 0x0, []) := rfl
theorem regLookup_beatStat : regLookup 0x100014 = some (mkReg "BEAT_STAT" 0x100014 [] 0x0 0x0 0x74 0x0, []) := rfl
theorem regLookup_beatTaiDiff : regLookup 0x100018 = some (mkReg "BEAT_TAI_DIFF" 0x100018 [] 0x0 0x0 0x0 0x0, []) := rfl
theorem regLookup_beatAlignLim : regLookup 0x100020 = some (mkReg "BEAT_ALIGN_LIM" 0x100020 [] 0x14 0xFFFF 0x0 0x0, []) := rfl
theorem regLookup_beatDlCfg :
    regLookup 0x100030 = some ({ mkReg "BEAT_DL_CFG" 0x100030 [] 0x0 0x3FFFFF 0x0 0x0 with bnd := 0x3FFFFF }, []) := rfl
theorem regLookup_beatLateCnt : regLookup 0x100040 = some (mkReg "BEAT_LATE_CNT" 0x100040 [] 0x0 0x0 0x0 0xFFFFFFFF, []) := rfl
theorem regLookup_injBaseHi : (regLookup 0x602004).map (·.1.fw) = some false := by decide

/-! ### Register writes -/

theorem execRegisterWrite_eq (r : Requester) (a : BitVec 28) (v : Word) (s : State) (h4 : a.toNat % 4 = 0) (hctl : a.toNat ≠ 0x800008)
    (hkick : a.toNat ≠ 0x800040) : execRegisterWrite r a v s = .next (s.busWrite r a.toNat v.toNat) := by
  simp [execRegisterWrite, h4, hctl, hkick]

/-- A write of a register that the requester sees ends with its completion; a kick of the watchdog beside it leaves the completion. -/
theorem execRegisterWrite_completes (r : Requester) (a : BitVec 28) (v : Word) (s : State) {row : RegRow} {ix : List Nat}
    (h4 : a.toNat % 4 = 0) (hctl : a.toNat ≠ 0x800008) (hl : regLookup (canonAddr a.toNat) = some (row, ix))
    (hh : s.hidden r a.toNat = false) (hf : (row.fw && r == .host) = false) (hw : winForeign r (canonAddr a.toNat) = none) :
    Does (.registerWrite r a v) s fun t => t.bus.cpl = some { req := r, addr := a.toNat, data := 0, status := .ok } := by
  have hcpl : (s.busWrite r a.toNat v.toNat).bus.cpl = some { req := r, addr := a.toNat, data := 0, status := .ok } := by
    rw [s.busWrite_of_row r _ hl hh hf hw, State.irq_bus_cpl]
    rfl
  by_cases hkick : a.toNat = 0x800040 ∧ r = .mss ∧ bitOf v.toNat 30 = true
  · refine ⟨(s.busWrite r a.toNat v.toNat).run execKick, ?_, hcpl⟩
    obtain ⟨ha, hr, hb⟩ := hkick
    show execRegisterWrite r a v s = _
    simp [execRegisterWrite, ha, hr, hb]
  · refine ⟨s.busWrite r a.toNat v.toNat, ?_, hcpl⟩
    show execRegisterWrite r a v s = _
    simp only [execRegisterWrite]
    rw [if_neg (by simp [h4]), if_neg hctl, if_neg (by simpa [and_assoc] using hkick)]

/-- A write of an ordinary register of the beat, as one command. -/
theorem exec_registerWrite_beat (r : Requester) (a : BitVec 28) (v : Word) (s : State) {n : Nat} {row : RegRow} {ix : List Nat}
    (hn : a.toNat = n) (hl : regLookup n = some (row, ix)) (hh : s.hidden r 0x100020 = false) (hf : row.fw = false) (h4 : n % 4 = 0)
    (ha : n / 0x100000 = 1) (hc : n ≠ 0x100010) :
    exec (.registerWrite r a v) s = .next ((s.plainWrite row ix n v.toNat).done r n).irq := by
  subst hn
  show execRegisterWrite r a v s = _
  rw [execRegisterWrite_eq r a v s h4 (by omega) (by omega),
    s.busWrite_beat r _ hl ((s.hidden_beat r ha (by decide)).trans hh) hf ha hc]

/-- BEAT_ALIGN_LIM: LIMIT is written, the reserved bits above it stay. -/
theorem does_registerWrite_beatAlignLim (r : Requester) (v : Word) (s : State) (hh : s.hidden r 0x100020 = false) :
    Does (.registerWrite r 0x100020 v) s fun t => t.fld 0x100020 15 0 = v.toNat % 2 ^ 16 ∧ t.fld 0x100020 31 16 = s.fld 0x100020 31 16
      ∧ RegsSame s t [0x100020] ∧ RestSame s t ∧ t.bus.cpl = some { req := r, addr := 0x100020, data := 0, status := .ok } := by
  refine ⟨_, exec_registerWrite_beat r 0x100020 v s (n := 0x100020) rfl regLookup_beatAlignLim hh rfl (by decide) (by decide) (by decide), ?_⟩
  rw [State.plainWrite_now _ _ _ _ rfl rfl (by decide), RegRow.writtenNow_low16 _ rfl rfl]
  have hold := s.reg_lt 0x100020
  have hreg (w : Nat) : (((s.setReg 0x100020 w).done r 0x100020).irq).reg 0x100020 = w % 2 ^ 32 :=
    (State.irq_reg _ (by decide)).trans (s.reg_setReg_self 0x100020 w)
  refine ⟨?_, ?_, .irq (.answer (.setReg (.refl s _) _ (by simp)) _ _ _), .irq (.answer (.setReg (.refl s) _ _) _ _ _), ?_⟩
  · refine (congrArg (bits · 15 0) (hreg _)).trans ?_
    simp only [bits]
    omega
  · refine (congrArg (bits · 31 16) (hreg _)).trans ?_
    simp only [State.fld, bits]
    omega
  · rw [State.irq_bus_cpl]
    rfl

/-- BEAT_TAI_DIFF is read-only. -/
theorem does_registerWrite_beatTaiDiff (r : Requester) (v : Word) (s : State) (hh : s.hidden r 0x100020 = false) :
    Does (.registerWrite r 0x100018 v) s fun t => RegsSame s t [] ∧ RestSame s t := by
  refine ⟨_, exec_registerWrite_beat r 0x100018 v s (n := 0x100018) rfl regLookup_beatTaiDiff hh rfl (by decide) (by decide) (by decide), ?_⟩
  rw [State.plainWrite_now _ _ _ _ rfl rfl (by decide), RegRow.writtenNow_readOnly _ rfl rfl]
  exact ⟨.irq (.answer (.setReg_same s _ _) _ _ _), .irq (.answer (.setReg (.refl s) _ _) _ _ _)⟩

/-- BEAT_STAT: exactly the W1C bits written with 1 clear. -/
theorem does_registerWrite_beatStat (r : Requester) (v : Word) (s : State) (hh : s.hidden r 0x100020 = false) :
    Does (.registerWrite r 0x100014 v) s fun t =>
      (∀ i, i < 32 → t.flag 0x100014 i = (s.flag 0x100014 i && !(v.getLsbD i && bitOf 0x74 i))) ∧ RegsSame s t [0x100014] ∧ RestSame s t := by
  refine ⟨_, exec_registerWrite_beat r 0x100014 v s (n := 0x100014) rfl regLookup_beatStat hh rfl (by decide) (by decide) (by decide), ?_⟩
  rw [State.plainWrite_now _ _ _ _ rfl rfl (by decide)]
  refine ⟨fun i hi => ?_, .irq (.answer (.setReg (.refl s _) _ (by simp)) _ _ _), .irq (.answer (.setReg (.refl s) _ _) _ _ _)⟩
  have hreg (w : Nat) : (((s.setReg 0x100014 w).done r 0x100014).irq).reg 0x100014 = w % 2 ^ 32 :=
    (State.irq_reg _ (by decide)).trans (s.reg_setReg_self 0x100014 w)
  refine (congrArg (bitOf · i) (hreg _)).trans ?_
  rw [bitOf_mod32 _ (by omega), bitOf_eq, RegRow.testBit_writtenNow_w1c _ rfl, BitVec.testBit_toNat, State.flag, bitOf_eq, bitOf_eq]
  rfl

/-- BEAT_DL_CFG takes effect at a boundary. -/
theorem does_registerWrite_beatDlCfg (r : Requester) (v : Word) (s : State) (hh : s.hidden r 0x100020 = false) :
    Does (.registerWrite r 0x100030 v) s fun t => t.bus.pendRegs = s.bus.pendRegs ++ [(0x100030, 0x3FFFFF, v.toNat)]
      ∧ RegsSame s t [] ∧ RestSame s t := by
  refine ⟨_, exec_registerWrite_beat r 0x100030 v s (n := 0x100030) rfl regLookup_beatDlCfg hh rfl (by decide) (by decide) (by decide), ?_⟩
  rw [State.plainWrite_atBoundary _ _ _ _ rfl rfl (by decide) rfl (by decide)]
  refine ⟨?_, .irq (.answer (.queueChange (.setReg_same s _ _) _ _ _) _ _ _),
    .irq (.answer (.queueChange (.setReg (.refl s) _ _) _ _ _) _ _ _)⟩
  rw [State.irq_bus_pendRegs]
  rfl

end Machine
end Sys2Proof

/-- Settles O4: a write that reaches its register completes whatever the register; those of the beat are ordinary writes of their rows. -/
theorem registerWriteByAccessType : Obligations.RegisterWriteByAccessType := by
  unfold Obligations.RegisterWriteByAccessType
  refine ⟨fun r a v s row ix h4 hctl hl hh hf hw => execRegisterWrite_completes r a v s h4 hctl hl hh hf hw, fun r v s hh => ?_⟩
  exact ⟨does_registerWrite_beatAlignLim r v s hh, does_registerWrite_beatTaiDiff r v s hh, does_registerWrite_beatStat r v s hh,
    does_registerWrite_beatDlCfg r v s hh⟩

end

section
/-! SUPPORT. Reads of the registers of the beat, and a 64-bit value written by halves; the statement O6. -/

open Sys2Proof Sys2Proof.Machine
namespace Sys2Proof
namespace Machine

/-! ### Reads of the registers of the beat (R5, R8) -/

theorem State.recForeign_beat (s : State) (r : Requester) {a : Nat} (ha : a / 0x100000 = 1) : s.recForeign r a = none := by
  have habove : ∀ n, 0x200000 ≤ n → ¬ n ≤ a := by omega
  simp [State.recForeign, lrnRecWord, errRecWord, smpRecWord, habove]

/-- The high half of a 64-bit value, noted for a requester that reads its low half (R5). -/
def State.latchHigh (s : State) (r : Requester) (a : Nat) : State :=
  { s with bus := { s.bus with
      latch := Tab.set none s.bus.latch (requesterNo r * 2 ^ 28 + (a + 4)) (some (BitVec.ofNat 32 (s.view (a + 4)))) } }

/-- The bits of a register that its read clears, cleared (R8). -/
def State.readCleared (s : State) (row : RegRow) (a : Nat) : State :=
  if row.rc = 0 then s else s.setReg a (s.reg a - (s.reg a &&& row.rc))

/-- A read of a register of the beat that the requester sees: the high half of a 64-bit value is latched, bits that the read clears are
cleared, and the value read is answered. -/
theorem State.busRead_beat (s : State) (r : Requester) {a : Nat} {row : RegRow} {ix : List Nat} (hl : regLookup a = some (row, ix))
    (hh : s.hidden r a = false) (ha : a / 0x100000 = 1) :
    s.busRead r a = (((if lowRead a then s.latchHigh r a else s).readCleared row a).answer r a (s.readFor r a)).irq := by
  have hcode0 : a ≠ 0x30F0034 := by omega
  have hcode3 : a ≠ 0x30F0040 := by omega
  simp only [State.busRead, canonAddr_beat ha, hl, hh, winForeign_beat r ha, s.recForeign_beat r ha, lowWritten_beat ha, hcode0, hcode3,
    Bool.and_false, Bool.false_and, Bool.false_eq_true, if_false]
  rfl

/-- Of a register of the beat that is no high half, a requester reads what the register shows. -/
theorem State.readFor_beat (s : State) (r : Requester) {a : Nat} (ha : a / 0x100000 = 1) (hhigh : lowRead (a - 4) = false) :
    s.readFor r a = s.view a := by
  have h1 : a ≠ 0x200014 := by omega
  have h2 : a ≠ 0x200018 := by omega
  have h3 : a ≠ 0x20001C := by omega
  simp [State.readFor, h1, h2, h3, hhigh]

/-- A high half that is latched for a requester is what the requester reads. -/
theorem State.readFor_latched (u : State) (r : Requester) {a : Nat} {w : Word} (hlow : lowRead a = true) (ha : a + 4 < 0x200000)
    (hw : Tab.get none u.bus.latch (requesterNo r * 2 ^ 28 + (a + 4)) = some w) : u.readFor r (a + 4) = w.toNat := by
  have h1 : a + 4 ≠ 0x200014 := by omega
  have h2 : a + 4 ≠ 0x200018 := by omega
  have h3 : a + 4 ≠ 0x20001C := by omega
  have hge : decide (4 ≤ a + 4) = true := by simp
  simp only [State.readFor, h1, h2, h3, hge, Nat.add_sub_cancel, hlow, hw, Bool.and_self, if_false, if_true]

theorem State.latch_latchHigh (s : State) (r : Requester) (a : Nat) :
    Tab.get none (s.latchHigh r a).bus.latch (requesterNo r * 2 ^ 28 + (a + 4)) = some (BitVec.ofNat 32 (s.view (a + 4))) := by
  simp only [State.latchHigh, Tab.get_set_self]

theorem State.view_beatNumLo (s : State) : s.view 0x100000 = s.bus.beat.toNat % 2 ^ 32 := rfl
theorem State.view_beatNumHi (s : State) : s.view 0x100004 = s.bus.beat.toNat / 2 ^ 32 := rfl
theorem State.view_beatLateCnt (s : State) : s.view 0x100040 = s.regSeen 0x100040 := by
  simp [State.view, State.shown, graphBase, lowWritten]

/-- Clearing every bit of a register leaves 0. -/
theorem State.readCleared_all (s : State) (row : RegRow) (a : Nat) (hrc : row.rc = 0xFFFFFFFF) : s.readCleared row a = s.setReg a 0 := by
  have hand : s.reg a &&& 0xFFFFFFFF = s.reg a := (Nat.and_two_pow_sub_one_eq_mod _ 32).trans (Nat.mod_eq_of_lt (s.reg_lt a))
  simp [State.readCleared, hrc, hand]

theorem State.readCleared_none (s : State) (row : RegRow) (a : Nat) (hrc : row.rc = 0) : s.readCleared row a = s := if_pos hrc

/-! ### A 64-bit value written by halves (R6) -/

theorem State.hidden_injBaseHi (s : State) (r : Requester) : s.hidden r 0x602004 = false := by
  simp [State.hidden]

/-- A write of the high half of inject ring 0's base address, while the ring is off, completes the value; the address is a multiple of 64. -/
theorem State.unitWrite_injBaseHi (s : State) (r : Requester) (row : RegRow) (ix : List Nat) (v : Nat)
    (hoff : s.flag (ringReg true 0 8) 31 = false) :
    s.unitWrite r row ix 0x602004 v = (s.commitHigh 0x602000 v).setFld 0x602000 5 0 0 := by
  have hlow : lowWritten 0x602004 = false := by decide
  simp [State.unitWrite, State.hifWrite, State.ringWrite, hlow, hoff]

theorem State.busWrite_injBaseHi (s : State) (r : Requester) (v : Nat) (hoff : s.flag (ringReg true 0 8) 31 = false) :
    s.busWrite r 0x602004 v = (((s.commitHigh 0x602000 v).setFld 0x602000 5 0 0).done r 0x602004).irq := by
  obtain ⟨⟨row, ix⟩, hl, (hf : row.fw = false)⟩ := Option.map_eq_some_iff.1 regLookup_injBaseHi
  rw [s.busWrite_of_row r v (a := 0x602004) hl (s.hidden_injBaseHi r) (by simp [hf]) (by cases r <;> decide)]
  exact congrArg (fun t : State => (t.done r 0x602004).irq)
    ((State.defWrite_eq_unitWrite _ _ _ _ _ (by decide) (by decide)).trans (s.unitWrite_injBaseHi r row ix v hoff))

end Machine

open Machine

theorem RestSame.setFld {s t : State} (h : RestSame s t) (a hi lo v : Nat) : RestSame s (t.setFld a hi lo v) := h
theorem RestSame.commitHigh {s t : State} (h : RestSame s t) (lo v : Nat) : RestSame s (t.commitHigh lo v) := h
theorem RestSame.latchHigh {s t : State} (h : RestSame s t) (r : Requester) (a : Nat) : RestSame s (t.latchHigh r a) := h
theorem RegsSame.latchHigh {s t : State} {but : List Nat} (h : RegsSame s t but) (r : Requester) (a : Nat) :
    RegsSame s (t.latchHigh r a) but := h

namespace Machine

/-- The low half of the beat number: the high half is latched with it. -/
theorem does_latchingLowHalfRead_beatNum (r : Requester) (s : State) (hh : s.hidden r 0x100000 = false) :
    Does (.latchingLowHalfRead r 0x100000) s fun t =>
      t.bus.cpl = some { req := r, addr := 0x100000, data := s.bus.beat.setWidth 32, status := .ok }
      ∧ (∀ u : State, u.bus.latch = t.bus.latch → u.readFor r 0x100004 = s.bus.beat.toNat / 2 ^ 32)
      ∧ RegsSame s t [] ∧ RestSame s t := by
  have hread : s.busRead r 0x100000 = ((s.latchHigh r 0x100000).answer r 0x100000 (s.bus.beat.toNat % 2 ^ 32)).irq := by
    rw [s.busRead_beat r regLookup_beatNumLo hh (by decide), if_pos (by decide), State.readCleared_none _ _ _ rfl,
      s.readFor_beat r (by decide) (by decide), s.view_beatNumLo]
  refine ⟨_, congrArg Host.Outcome.next hread, ?_, ?_, .irq (.answer (.latchHigh (.refl s _) _ _) _ _ _),
    .irq (.answer (.latchHigh (.refl s) _ _) _ _ _)⟩
  · rw [State.irq_bus_cpl]
    have hdata : BitVec.ofNat 32 (s.bus.beat.toNat % 2 ^ 32) = s.bus.beat.setWidth 32 := by
      apply BitVec.eq_of_toNat_eq
      simp
    exact congrArg (fun d => (some { req := r, addr := 0x100000, data := d, status := .ok } : Option Completion)) hdata
  · intro u hu
    rw [State.irq_bus_latch, State.answer_bus_latch] at hu
    have hw := s.latch_latchHigh r 0x100000
    rw [← hu] at hw
    have hhigh := u.readFor_latched r (a := 0x100000) (by decide) (by decide) hw
    have hbeat := s.bus.beat.isLt
    refine hhigh.trans ?_
    rw [BitVec.toNat_ofNat, s.view_beatNumHi]
    omega

/-- BEAT_LATE_CNT: the read returns the count and clears it. -/
theorem does_readClearRead_beatLateCnt (r : Requester) (s : State) (hh : s.hidden r 0x100040 = false) :
    Does (.readClearRead r 0x100040) s fun t =>
      t.bus.cpl = some { req := r, addr := 0x100040, data := BitVec.ofNat 32 (s.regSeen 0x100040), status := .ok }
      ∧ t.reg 0x100040 = 0 ∧ RegsSame s t [0x100040] ∧ RestSame s t := by
  have hread : s.busRead r 0x100040 = ((s.setReg 0x100040 0).answer r 0x100040 (s.regSeen 0x100040)).irq := by
    rw [s.busRead_beat r regLookup_beatLateCnt hh (by decide), if_neg (by decide), State.readCleared_all _ _ _ rfl,
      s.readFor_beat r (by decide) (by decide), s.view_beatLateCnt]
  refine ⟨_, congrArg Host.Outcome.next hread, ?_, ?_, .irq (.answer (.setReg (.refl s _) _ (by simp)) _ _ _),
    .irq (.answer (.setReg (.refl s) _ _) _ _ _)⟩
  · rw [State.irq_bus_cpl]
    rfl
  · exact (State.irq_reg _ (by decide)).trans (s.reg_setReg_self 0x100040 0)

/-- Inject ring 0's base address: the write of its high half makes the whole value take effect. -/
theorem does_highHalfWrite_injBase (r : Requester) (v : Word) (s : State) (hoff : s.flag (ringReg true 0 8) 31 = false) :
    Does (.highHalfWrite r 0x602004 v) s fun t =>
      t.reg 0x602004 = v.toNat ∧ t.fld 0x602000 31 6 = bits (Tab.get 0 s.bus.lowHalf 0x602000).toNat 31 6
      ∧ RegsSame s t [0x602000, 0x602004] ∧ RestSame s t := by
  refine ⟨_, congrArg Host.Outcome.next (s.busWrite_injBaseHi r v.toNat hoff), ?_, ?_,
    .irq (.answer (.setReg (.setReg (.setReg (.refl s _) _ (by simp)) _ (by simp)) _ (by simp)) _ _ _),
    .irq (.answer (.setFld (.commitHigh (.refl s) _ _) _ _ _ _) _ _ _)⟩
  · rw [State.irq_reg _ (by decide)]
    refine (State.reg_setFld_ne (s.commitHigh 0x602000 v.toNat) 5 0 0 (by decide)).trans ?_
    exact (State.reg_setReg_self _ 0x602004 v.toNat).trans (Nat.mod_eq_of_lt v.isLt)
  · rw [State.irq_fld _ (by decide)]
    refine (State.fld_setFld_other (s.commitHigh 0x602000 v.toNat) 0x602000 0 (by decide) (by decide)).trans ?_
    refine (State.fld_setReg_ne _ v.toNat 31 6 (by decide)).trans ?_
    rw [State.fld, State.reg_setReg_self, bits_mod32 _ (by decide)]

end Machine
end Sys2Proof

/-- Settles O6: what is latched stays latched until the low half is read again; the low half written waits for the high half. -/
theorem halvesOf64BitValues : Obligations.HalvesOf64BitValues := by
  unfold Obligations.HalvesOf64BitValues
  exact ⟨does_latchingLowHalfRead_beatNum, does_highHalfWrite_injBase, does_readClearRead_beatLateCnt⟩

end

section
/-! SUPPORT. The registers after reset; the statement O3. -/

open Sys2Proof Sys2Proof.Machine
namespace Sys2Proof
namespace Machine

/-- After reset a register holds its reset value. -/
theorem State.reg_reset (a : Nat) : State.reset.reg a = (regReset a).toNat := rfl

theorem regReset_of_row {a : Nat} {row : RegRow} {ix : List Nat} (h : regLookup a = some (row, ix)) :
    regReset a = BitVec.ofNat 32 (row.reset + row.inc * ix.getLastD 0) := by
  simp only [regReset, h]

theorem regLookup_genId : regLookup 0x0 = some (mkReg "GEN_ID" 0x0 [] 0x56960001 0x0 0x0 0x0, []) := rfl

/-- The control register of every activation slot resets to 0. -/
theorem regReset_slotCtl (k : SlotId) : regReset (slotTgt k + 4) = 0 := by
  have hcal : ∀ f : Fin 12, regReset (slotTgt (.flxCal f) + 4) = 0 := by decide
  have hlkp : ∀ w : Fin 2, regReset (slotTgt (.lkpUpd w) + 4) = 0 := by decide
  cases k with
  | flxCal f => exact hcal f
  | lkpUpd w => exact hlkp w
  | pg => decide
  | avePs => decide
  | pat => decide
  | shp => decide
  | fabLset => decide
  | pmuSnap => decide

theorem State.slotPending_reset (k : SlotId) : State.reset.slotPending k = false := by
  rw [State.slotPending, State.flag, State.reg_reset, regReset_slotCtl]
  decide

end Machine
end Sys2Proof

/-- Settles O3: after reset the register file lists nothing, so every register holds its table's reset value. -/
theorem resetHoldsResetValues : Obligations.ResetHoldsResetValues := by
  unfold Obligations.ResetHoldsResetValues
  refine ⟨fun a row ix h => ?_, ?_, rfl, rfl, fun k => ⟨rfl, State.slotPending_reset k⟩, fun k => rfl, rfl⟩
  · rw [State.reg_reset, regReset_of_row h, BitVec.toNat_ofNat]
  · rw [State.reg_reset, regReset_of_row regLookup_genId]
    decide

end

section
/-! SUPPORT. The crossing's check of a beat's flits, record by record; the statements O1 and O13. -/

open Sys2Proof Sys2Proof.Machine

namespace Sys2Proof
namespace Machine

/-! ### What a report and the close of a sample leave -/

@[simp] theorem State.reportTm_cross (s : State) (unit code cls inst detail : Nat) :
    (s.reportTm unit code cls inst detail).cross = s.cross := by
  unfold State.reportTm
  split <;> rfl

@[simp] theorem State.closeSample_cross (s : State) (tag : Option Nat) (outcome dunit dreason : Nat) (pdrop : Bool) :
    (s.closeSample tag outcome dunit dreason pdrop).cross = s.cross := by
  unfold State.closeSample
  cases tag with
  | none => rfl
  | some k =>
    dsimp only
    split
    · rfl
    · split <;> rfl

/-! ### A record whose flits are checked (R18) -/

/-- No bytes of the size bytes from byte pos on lie in a data flit of bad. -/
def clearOf (bad : List Nat) (pos size : Nat) : Bool := !bad.any (inFlit pos size)

@[simp] theorem clearOf_nil (pos size : Nat) : clearOf [] pos size = true := rfl

/-- A record towards the TM whose flits are checked: kept for the boundary, or dropped with its count and its sample's close. -/
def State.landTm (bad : List Nat) (s : State) (e : Nat × XRec) : State :=
  if bad.any (inFlit e.1 e.2.size) then ((s.count 0x00 2 e.2.req 1).raise 0x40 2).closeSample e.2.tag 3 0 2 false
  else { s with cross := { s.cross with dueTm := s.cross.dueTm ++ [e.2] } }

/-- A record towards the FE whose flits are checked: kept for the boundary, or dropped with its count and its sample's close. -/
def State.landFe (bad : List Nat) (s : State) (e : Nat × ERec) : State :=
  if bad.any (inFlit e.1 e.2.size) then
    ((s.count 0x00 2 (32 + e.2.req) 1).raise 0x40 2).closeSample (if e.2.host then e.2.tag else none) 3 0 2 false
  else { s with cross := { s.cross with dueFe := s.cross.dueFe ++ [e.2] } }

theorem State.landTm_of_clear {bad : List Nat} {e : Nat × XRec} (s : State) (h : clearOf bad e.1 e.2.size = true) :
    s.landTm bad e = { s with cross := { s.cross with dueTm := s.cross.dueTm ++ [e.2] } } :=
  if_neg (by simpa [clearOf] using h)

theorem State.landFe_of_clear {bad : List Nat} {e : Nat × ERec} (s : State) (h : clearOf bad e.1 e.2.size = true) :
    s.landFe bad e = { s with cross := { s.cross with dueFe := s.cross.dueFe ++ [e.2] } } :=
  if_neg (by simpa [clearOf] using h)

/-- A record that is dropped leaves the crossing as it was. -/
theorem State.landTm_cross_of_not_clear {bad : List Nat} {e : Nat × XRec} (s : State) (h : clearOf bad e.1 e.2.size = false) :
    (s.landTm bad e).cross = s.cross := by
  rw [State.landTm, if_pos (by simpa [clearOf] using h)]
  simp

/-! ### The records of a beat, in their order -/

/-- Towards the TM, exactly the records clear of bad flits are kept, in their order. -/
theorem State.dueTm_foldl_landTm (bad : List Nat) (fly : List (Nat × XRec)) (s : State) :
    (fly.foldl (State.landTm bad) s).cross.dueTm = s.cross.dueTm ++ (fly.filter fun e => clearOf bad e.1 e.2.size).map (·.2) := by
  induction fly generalizing s with
  | nil => simp
  | cons e fly ih =>
    rw [List.foldl_cons, ih]
    cases h : clearOf bad e.1 e.2.size with
    | true => simp [s.landTm_of_clear h, h]
    | false => simp [s.landTm_cross_of_not_clear h, h]

/-- Towards the TM without bad flits, the records kept are all that changes. -/
theorem State.foldl_landTm_nil (fly : List (Nat × XRec)) (s : State) :
    fly.foldl (State.landTm []) s = { s with cross := { s.cross with dueTm := s.cross.dueTm ++ fly.map (·.2) } } := by
  induction fly generalizing s with
  | nil => simp
  | cons e fly ih => simp [ih, s.landTm_of_clear (clearOf_nil e.1 e.2.size)]

/-- Towards the FE without bad flits, the records kept are all that changes. -/
theorem State.foldl_landFe_nil (fly : List (Nat × ERec)) (s : State) :
    fly.foldl (State.landFe []) s = { s with cross := { s.cross with dueFe := s.cross.dueFe ++ fly.map (·.2) } } := by
  induction fly generalizing s with
  | nil => simp
  | cons e fly ih => simp [ih, s.landFe_of_clear (clearOf_nil e.1 e.2.size)]

/-! ### The check of a beat's flits -/

/-- The bad data flits of a beat towards the TM reported, in their order. -/
def State.reportFlitsTm (s : State) (bad : List Nat) : State := bad.foldl (fun s f => s.reportTm 0x00 1 1 0 f) s

@[simp] theorem State.reportFlitsTm_cross (s : State) (bad : List Nat) : (s.reportFlitsTm bad).cross = s.cross :=
  foldl_same (·.cross) _ (fun _ _ => State.reportTm_cross ..) bad s

/-- Towards the TM with no flit sent marked and the control flits good, the bad data flits are reported and then the records land. -/
theorem State.checkFlits_toTm (s : State) (bad : List Nat) (hm : s.cross.marked = []) :
    s.checkFlits true bad false =
      s.cross.flyTm.foldl (State.landTm bad) { s.reportFlitsTm bad with cross := { s.cross with flyTm := [], marked := [] } } := by
  have hcross := s.reportFlitsTm_cross bad
  unfold State.reportFlitsTm at hcross ⊢
  simp only [State.checkFlits, hm, List.filter_nil, if_true, List.append_nil, Bool.not_true, Bool.false_eq_true, if_false]
  rw [show b2n false = 0 from rfl, hcross]
  rfl

/-- Towards the FE with every flit good, the records land. -/
theorem State.checkFlits_toFe_good (s : State) :
    s.checkFlits false [] false = s.cross.flyFe.foldl (State.landFe []) { s with cross := { s.cross with flyFe := [] } } := rfl

/-- CROSSING_DELIVERY towards the TM, every flit good and none sent marked. -/
theorem does_crossingDelivery_toTm_good (s : State) (hm : s.cross.marked = []) : Does (.crossingDelivery true [] false) s fun t =>
    t.cross.dueTm = s.cross.dueTm ++ s.cross.flyTm.map (·.2) ∧ t.cross.flyTm = [] ∧ t.bus = s.bus ∧ t.pmu = s.pmu ∧ t.line = s.line := by
  refine ⟨_, rfl, ?_⟩
  rw [s.checkFlits_toTm [] hm, State.foldl_landTm_nil]
  exact ⟨rfl, rfl, rfl, rfl, rfl⟩

/-- CROSSING_DELIVERY towards the FE, every flit good. -/
theorem does_crossingDelivery_toFe_good (s : State) : Does (.crossingDelivery false [] false) s fun t =>
    t.cross.dueFe = s.cross.dueFe ++ s.cross.flyFe.map (·.2) ∧ t.cross.flyFe = [] ∧ t.bus = s.bus ∧ t.pmu = s.pmu ∧ t.line = s.line := by
  refine ⟨_, rfl, ?_⟩
  rw [s.checkFlits_toFe_good, State.foldl_landFe_nil]
  exact ⟨rfl, rfl, rfl, rfl, rfl⟩

/-- CROSSING_DELIVERY towards the TM with data flits in error. -/
theorem does_crossingDelivery_toTm_bad (bad : List Nat) (s : State) (hm : s.cross.marked = []) :
    Does (.crossingDelivery true bad false) s fun t =>
      t.cross.dueTm = s.cross.dueTm ++ (s.cross.flyTm.filter fun e => !bad.any (inFlit e.1 e.2.size)).map (·.2) := by
  refine ⟨_, rfl, ?_⟩
  rw [s.checkFlits_toTm bad hm]
  exact State.dueTm_foldl_landTm bad _ _

end Machine
end Sys2Proof

/-- Settles O13: the check takes the records one after another, keeps the clear ones at the end of the list and never touches it for a dropped one. -/
theorem crossingDeliversWholeRecords : Obligations.CrossingDeliversWholeRecords := by
  unfold Obligations.CrossingDeliversWholeRecords
  exact ⟨does_crossingDelivery_toTm_good, does_crossingDelivery_toFe_good, does_crossingDelivery_toTm_bad⟩

/-- Settles O1: with a command in the queue, `step` takes its arm for a queue that is not empty. -/
theorem stepTakesFrontCommand : Obligations.StepTakesFrontCommand := by
  unfold Obligations.StepTakesFrontCommand
  intro c rest s
  simp only [step]

end

section
/-! SUPPORT. The activation slots and the beat number's loads from TAI; the statements O7, O8 and O9. -/

open Sys2Proof Sys2Proof.Machine
namespace Sys2Proof

theorem RegsSame.flag {s t : State} {but : List Nat} (h : RegsSame s t but) {a : Nat} (hb : a ∉ but) (hi : ¬ irqReg a) (i : Nat) :
    t.flag a i = s.flag a i := congrArg (bitOf · i) (h a hb hi)

theorem RegsSame.setArmed {s t : State} {but : List Nat} (h : RegsSame s t but) {k : SlotId} (x : Option Armed) (hk : slotTgt k + 4 ∈ but) :
    RegsSame s (t.setArmed k x) but := RegsSame.setReg (t := { t with bus := { t.bus with armed := _ } }) h _ hk

theorem RestSame.setArmed {s t : State} (h : RestSame s t) (k : SlotId) (x : Option Armed) : RestSame s (t.setArmed k x) := h

namespace Machine

/-! ### A slot's change replaced -/

@[simp] theorem State.slotArmed_setArmed_self (s : State) (k : SlotId) (x : Option Armed) : (s.setArmed k x).slotArmed k = x :=
  Tab.get_set_self none s.bus.armed (slotTgt k) x

theorem State.slotArmed_setArmed (s : State) (k j : SlotId) (x : Option Armed) :
    (s.setArmed k x).slotArmed j = if slotTgt j = slotTgt k then x else s.slotArmed j :=
  Tab.get_set none s.bus.armed (slotTgt k) (slotTgt j) x

@[simp] theorem State.slotPending_setArmed_self (s : State) (k : SlotId) (x : Option Armed) : (s.setArmed k x).slotPending k = x.isSome :=
  State.flag_setFlag_self _ _ _ (by decide)

theorem State.flag_setArmed_other (s : State) (k : SlotId) (x : Option Armed) {i : Nat} (hi : i ≤ 31) (h4 : i ≠ 4) :
    (s.setArmed k x).flag (slotTgt k + 4) i = s.flag (slotTgt k + 4) i := State.flag_setFlag_other _ _ _ hi h4

/-! ### ARM and CANCEL (R37 to R39) -/

theorem State.slotArm_of_pending {s : State} {k : SlotId} (h : s.slotPending k = true) : s.slotArm k = s.raise (slotTgt k + 4) 7 := if_pos h

theorem State.slotArm_of_not_pending {s : State} {k : SlotId} (h : s.slotPending k = false) :
    s.slotArm k = s.setArmed k (some { target := BitVec.ofNat 32 (s.reg (slotTgt k)),
                                       late := decide (aheadBy (s.reg (slotTgt k)) s.beatN ≤ 0) }) := if_neg (by simp [h])

theorem execArm_alone (k : SlotId) (s : State) : execArm k false s = .next (s.slotArm k) := by
  simp [execArm]

theorem execArm_cancel_of_pending {s : State} {k : SlotId} (h : s.slotPending k = true) :
    execArm k true s = .next ((s.slotArm k).setArmed k none) := by
  simp [execArm, h]

theorem execCancel_of_pending {s : State} {k : SlotId} (h : s.slotPending k = true) : execCancel k s = .next (s.setArmed k none) :=
  congrArg Host.Outcome.next (if_pos h)

theorem does_arm_of_not_pending {s : State} {k : SlotId} (h : s.slotPending k = false) : Does (.arm k false) s fun t =>
    t.slotArmed k = some { target := BitVec.ofNat 32 (s.reg (slotTgt k)),
                           late := decide (signed32 ((s.reg (slotTgt k) + 2 ^ 32 - s.bus.beat.toNat % 2 ^ 32) % 2 ^ 32) ≤ 0) }
    ∧ t.slotPending k = true ∧ RegsSame s t [slotTgt k + 4] ∧ RestSame s t := by
  refine ⟨_, execArm_alone k s, ?_⟩
  rw [State.slotArm_of_not_pending h]
  exact ⟨State.slotArmed_setArmed_self .., State.slotPending_setArmed_self .., .setArmed (.refl s _) _ (by simp), .setArmed (.refl s) _ _⟩

theorem does_cancel_of_pending {s : State} {k : SlotId} (h : s.slotPending k = true) : Does (.cancel k) s fun t =>
    t.slotArmed k = none ∧ t.slotPending k = false ∧ RegsSame s t [slotTgt k + 4] ∧ RestSame s t :=
  ⟨_, execCancel_of_pending h, State.slotArmed_setArmed_self .., State.slotPending_setArmed_self .., .setArmed (.refl s _) _ (by simp),
    .setArmed (.refl s) _ _⟩

theorem does_arm_cancel_of_pending {s : State} {k : SlotId} (h : s.slotPending k = true) : Does (.arm k true) s fun t =>
    t.slotArmed k = none ∧ t.slotPending k = false ∧ t.flag (slotTgt k + 4) 7 = true ∧ RegsSame s t [slotTgt k + 4] ∧ RestSame s t := by
  refine ⟨_, execArm_cancel_of_pending h, State.slotArmed_setArmed_self .., State.slotPending_setArmed_self .., ?_⟩
  rw [State.slotArm_of_pending h]
  exact ⟨(State.flag_setArmed_other _ _ _ (by decide) (by decide)).trans (s.flag_raise_self _ (by decide)),
    .setArmed (.setReg (.refl s _) _ (by simp)) _ (by simp), .setArmed (.setReg (.refl s) _ _) _ _⟩

theorem does_arm_of_pending {s : State} {k : SlotId} (h : s.slotPending k = true) : Does (.arm k false) s fun t =>
    t.flag (slotTgt k + 4) 7 = true ∧ t.slotArmed k = s.slotArmed k ∧ t.slotPending k = true
    ∧ RegsSame s t [slotTgt k + 4] ∧ RestSame s t ∧ t.bus.armed = s.bus.armed ∧ t.bus.pendRegs = s.bus.pendRegs ∧ t.hif = s.hif := by
  refine ⟨_, execArm_alone k s, ?_⟩
  rw [State.slotArm_of_pending h]
  refine ⟨s.flag_raise_self _ (by decide), ?_, (s.flag_setFlag_other _ true (by decide) (by decide)).trans h, .setReg (.refl s _) _ (by simp),
    .setReg (.refl s) _ _, s.raise_bus_armed _ _, s.raise_bus_pendRegs _ _, s.raise_hif _ _⟩
  rw [State.slotArmed, State.raise_bus_armed, State.slotArmed]

/-! ### The slots judged against a new beat number (R28) -/

theorem mem_allSlots (k : SlotId) : k ∈ allSlots := by
  cases k with
  | lkpUpd w => revert w; decide
  | _ => simp [allSlots]

/-- One slot judged against the beat number. -/
def State.judgeSlot (s : State) (k : SlotId) : State :=
  match s.slotArmed k with
  | some a => s.setArmed k (some { a with late := aheadBy a.target.toNat s.beatN ≤ 0 })
  | none => s

theorem State.slotsJudged_eq (s : State) : s.slotsJudged = allSlots.foldl State.judgeSlot s := rfl

/-- What neither registers nor held changes belong to, a judgement leaves. -/
theorem State.slotsJudged_part {γ : Type} (g : State → γ)
    (h : ∀ (s : State) r x, g { s with bus := { s.bus with regs := r, armed := x } } = g s) (s : State) : g s.slotsJudged = g s := by
  rw [State.slotsJudged_eq]
  refine foldl_same g _ (fun t k => ?_) _ s
  unfold State.judgeSlot
  split
  · exact h t _ _
  · rfl

/-- A judgement keeps the target of every change held. -/
theorem State.target_judgeSlot (s : State) (k j : SlotId) :
    ((s.judgeSlot k).slotArmed j).map (·.target) = (s.slotArmed j).map (·.target) := by
  unfold State.judgeSlot
  split
  next a hk =>
    rw [State.slotArmed_setArmed]
    split
    next hj =>
      have hsame : s.slotArmed j = s.slotArmed k := congrArg (Tab.get none s.bus.armed) hj
      simp only [hsame, hk, Option.map_some]
    next => rfl
  next => rfl

theorem State.target_slotsJudged (s : State) (j : SlotId) : (s.slotsJudged.slotArmed j).map (·.target) = (s.slotArmed j).map (·.target) := by
  have hfold := foldl_same (fun t : State => (t.slotArmed j).map (·.target)) State.judgeSlot (fun t k => t.target_judgeSlot k j) allSlots s
  rw [State.slotsJudged_eq]
  exact hfold

end Machine

theorem RegsSame.slotsJudged {s t : State} {but : List Nat} (h : RegsSame s t but) (hk : ∀ k, slotTgt k + 4 ∈ but) :
    RegsSame s t.slotsJudged but := by
  rw [State.slotsJudged_eq]
  refine foldl_keeps (RegsSame s · but) _ (fun u k hu => ?_) _ t h
  unfold State.judgeSlot
  split
  · exact hu.setArmed _ (hk k)
  · exact hu

namespace Machine

theorem State.flag_slotsJudged_beatStat (s : State) (i : Nat) : s.slotsJudged.flag beatStat i = s.flag beatStat i := by
  have hregs : RegsSame s s.slotsJudged (allSlots.map fun k => slotTgt k + 4) :=
    (RegsSame.refl s _).slotsJudged fun k => List.mem_map_of_mem (mem_allSlots k)
  exact hregs.flag (by decide) (by decide) i

/-! ### Loads of the beat number (R25, R26, R28) -/

theorem State.setBeat_beat (s : State) (n : Nat) : (s.setBeat n).bus.beat = BitVec.ofNat 64 n := rfl

theorem State.taiBeat_eq (s : State) : s.taiBeat = s.tim.sec * 5859375 + s.tim.ns * 3 / 512 := rfl

/-- u is s with the beat number that TAI gives and another BEAT_STAT. -/
structure BeatLoaded (s u : State) : Prop where
  beat : u.bus.beat = BitVec.ofNat 64 s.taiBeat
  regs : RegsSame s u [beatStat]
  armed : u.bus.armed = s.bus.armed
  tim : u.tim = s.tim
  line : u.line = s.line
  pending : u.pending = s.pending

theorem BeatLoaded.setBeat {s : State} {n : Nat} (h : n = s.taiBeat) : BeatLoaded s (s.setBeat n) where
  beat := (s.setBeat_beat n).trans (congrArg _ h)
  regs := fun _ _ _ => rfl
  armed := rfl
  tim := rfl
  line := rfl
  pending := rfl

theorem BeatLoaded.setFlag {s u : State} (h : BeatLoaded s u) (i : Nat) (b : Bool) : BeatLoaded s (u.setFlag beatStat i b) where
  beat := h.beat
  regs := h.regs.setReg _ (List.mem_singleton_self _)
  armed := h.armed
  tim := h.tim
  line := h.line
  pending := h.pending

theorem BeatLoaded.raise {s u : State} (h : BeatLoaded s u) (i : Nat) : BeatLoaded s (u.raise beatStat i) := h.setFlag i true

/-- What a load leaves once the slots are judged against the new beat number. -/
theorem BeatLoaded.slotsJudged {s u : State} (h : BeatLoaded s u) :
    u.slotsJudged.bus.beat = BitVec.ofNat 64 (s.tim.sec * 5859375 + s.tim.ns * 3 / 512)
    ∧ RegsSame s u.slotsJudged (0x100014 :: allSlots.map fun k => slotTgt k + 4)
    ∧ (∀ k, (u.slotsJudged.slotArmed k).map (·.target) = (s.slotArmed k).map (·.target))
    ∧ u.slotsJudged.tim = s.tim ∧ u.slotsJudged.line = s.line ∧ u.slotsJudged.pending = s.pending := by
  have hregs : RegsSame s u (0x100014 :: allSlots.map fun k => slotTgt k + 4) := 
    fun a ha hi => h.regs a (fun hm => ha (List.mem_cons.2 (.inl (List.mem_singleton.1 hm)))) hi
  refine ⟨(State.slotsJudged_part (·.bus.beat) (fun _ _ _ => rfl) u).trans (h.beat.trans (congrArg _ s.taiBeat_eq)),
    hregs.slotsJudged fun k => List.mem_cons_of_mem _ (List.mem_map_of_mem (mem_allSlots k)), fun k => ?_,
    (State.slotsJudged_part (·.tim) (fun _ _ _ => rfl) u).trans h.tim, (State.slotsJudged_part (·.line) (fun _ _ _ => rfl) u).trans h.line,
    (State.slotsJudged_part (·.pending) (fun _ _ _ => rfl) u).trans h.pending⟩
  rw [State.target_slotsJudged, State.slotArmed, h.armed, State.slotArmed]

theorem does_epochLoad {s : State} (hset : s.flag 0x100014 1 = false) (hlock : s.tim.everLocked = true) : Does .epochLoad s fun t =>
    t.bus.beat = BitVec.ofNat 64 (s.tim.sec * 5859375 + s.tim.ns * 3 / 512) ∧ t.flag 0x100014 1 = true
    ∧ RegsSame s t (0x100014 :: allSlots.map fun k => slotTgt k + 4)
    ∧ (∀ k, (t.slotArmed k).map (·.target) = (s.slotArmed k).map (·.target)) ∧ t.tim = s.tim ∧ t.line = s.line
    ∧ t.pending = s.pending := by
  have hrun : execEpochLoad s = .next ((s.setBeat s.taiBeat).raise beatStat 1).slotsJudged := by
    simp [execEpochLoad, beatStat, hset, hlock]
  obtain ⟨hbeat, hrest⟩ := ((BeatLoaded.setBeat (s := s) rfl).raise 1).slotsJudged
  exact ⟨_, hrun, hbeat, (State.flag_slotsJudged_beatStat _ 1).trans (State.flag_raise_self _ _ (by decide)), hrest⟩

theorem does_realignLoad {s : State} (hreq : s.flag 0x100014 3 = true) : Does .realignLoad s fun t =>
    t.bus.beat = BitVec.ofNat 64 (s.tim.sec * 5859375 + s.tim.ns * 3 / 512) ∧ t.flag 0x100014 3 = false ∧ t.flag 0x100014 4 = true
    ∧ RegsSame s t (0x100014 :: allSlots.map fun k => slotTgt k + 4)
    ∧ (∀ k, (t.slotArmed k).map (·.target) = (s.slotArmed k).map (·.target)) ∧ t.tim = s.tim ∧ t.line = s.line
    ∧ t.pending = s.pending := by
  have hrun : execRealignLoad s = .next (((s.setBeat s.taiBeat).setFlag beatStat 3 false).raise beatStat 4).slotsJudged := by
    simp [execRealignLoad, beatStat, hreq]
  obtain ⟨hbeat, hrest⟩ := (((BeatLoaded.setBeat (s := s) rfl).setFlag 3 false).raise 4).slotsJudged
  refine ⟨_, hrun, hbeat, ?_, (State.flag_slotsJudged_beatStat _ 4).trans (State.flag_raise_self _ _ (by decide)), hrest⟩
  refine (State.flag_slotsJudged_beatStat _ 3).trans ?_
  exact (State.flag_setFlag_other _ _ true (by decide) (by decide)).trans (State.flag_setFlag_self _ _ false (by decide))

end Machine
end Sys2Proof

/-- Settles O7: a slot's change and PENDING are replaced together by `State.setArmed`. -/
theorem armedWhenNotPending : Obligations.ArmedWhenNotPending := by
  unfold Obligations.ArmedWhenNotPending
  exact fun k s => ⟨does_arm_of_not_pending, does_cancel_of_pending, does_arm_cancel_of_pending⟩

/-- Settles O8: a rejected ARM does nothing but raise ARM_REJECTED. -/
theorem armRejectedWhilePending : Obligations.ArmRejectedWhilePending := by
  unfold Obligations.ArmRejectedWhilePending
  exact fun k s => does_arm_of_pending

/-- Settles O9: the loads change BEAT_STAT and the beat number before the slots are judged, and a judgement keeps every target. -/
theorem beatNumberFromTai : Obligations.BeatNumberFromTai := by
  unfold Obligations.BeatNumberFromTai
  exact ⟨fun s => does_epochLoad, fun s => rfl, fun s => does_realignLoad⟩

end

section
/-! SUPPORT. Stop-change-restart: commands accepted or rejected, and the sequences that end; the statements O10 and O11. -/

open Sys2Proof Sys2Proof.Machine
namespace Sys2Proof
namespace Machine

/-! ### A function's record and its register -/

@[simp] theorem State.scrSt_setScrSt_self (s : State) (k : ScrId) (x : ScrSt) : (s.setScrSt k x).scrSt k = x :=
  Tab.get_set_self ({} : ScrSt) s.bus.scrs (scrAddr k) x

@[simp] theorem State.scrOf_setScrSt (s : State) (k j : ScrId) (x : ScrSt) : (s.setScrSt k x).scrOf j = s.scrOf j := rfl
@[simp] theorem State.regs_setScrSt (s : State) (k : ScrId) (x : ScrSt) : (s.setScrSt k x).bus.regs = s.bus.regs := rfl
@[simp] theorem State.hif_setScrSt (s : State) (k : ScrId) (x : ScrSt) : (s.setScrSt k x).hif = s.hif := rfl
@[simp] theorem State.flag_setScrSt (s : State) (k : ScrId) (x : ScrSt) (a i : Nat) : (s.setScrSt k x).flag a i = s.flag a i := rfl

end Machine

theorem RestSame.setScrSt {s t : State} (h : RestSame s t) (k : ScrId) (x : ScrSt) : RestSame s (t.setScrSt k x) := h

namespace Machine

/-! ### START and STOP (R43, R44) -/

/-- A command accepted waits for the boundary: nothing but the command kept changes. -/
theorem State.scrAccept_changes (s : State) (k : ScrId) (cmd : Nat) :
    ((s.scrAccept k cmd).scrSt k).cmd = cmd ∧ (s.scrAccept k cmd).scrOf k = s.scrOf k ∧ (s.scrAccept k cmd).bus.regs = s.bus.regs
    ∧ RestSame s (s.scrAccept k cmd) ∧ (s.scrAccept k cmd).hif = s.hif := by
  unfold State.scrAccept
  exact ⟨by simp, by simp, by simp, .setScrSt (.refl s) _ _, by simp⟩

theorem State.flag_scrReject_rejected (s : State) (k : ScrId) (why : Nat) : (s.scrReject k why).flag (scrAddr k) 8 = true :=
  (State.flag_setFld_other _ _ _ (by decide) (by decide)).trans (s.flag_raise_self _ (by decide))

theorem State.fld_scrReject_reason (s : State) (k : ScrId) {why : Nat} (h : why < 16) : (s.scrReject k why).fld (scrAddr k) 23 20 = why :=
  (State.fld_setFld_self _ _ _ (by decide)).trans (Nat.mod_eq_of_lt h)

@[simp] theorem State.scrOf_scrReject (s : State) (k : ScrId) (why : Nat) : (s.scrReject k why).scrOf k = s.scrOf k :=
  (State.fld_setFld_other _ _ _ (by decide) (by decide)).trans (s.fld_setFlag_other _ _ (by decide) (by decide))

@[simp] theorem State.scrs_scrReject (s : State) (k : ScrId) (why : Nat) : (s.scrReject k why).bus.scrs = s.bus.scrs :=
  (State.setFld_bus_scrs _ _ _ _ _).trans (State.raise_bus_scrs _ _ _)

end Machine

theorem RegsSame.scrReject (s : State) (k : ScrId) (why : Nat) : RegsSame s (s.scrReject k why) [scrAddr k] :=
  .setReg (.setReg (.refl s _) _ (by simp)) _ (by simp)

theorem RestSame.scrReject (s : State) (k : ScrId) (why : Nat) : RestSame s (s.scrReject k why) := .setFld (.setReg (.refl s) _ _) _ _ _ _

namespace Machine

theorem State.startCmd_accepted {s : State} {k : ScrId} (hst : s.scrOf k = 0) (hcmd : (s.scrSt k).cmd = 0) (hbad : s.scrBad k = false)
    (hdep : s.startDepends k = false) (hpow : s.poweredDown = false) : s.startCmd k = s.scrAccept k 1 := by
  simp [State.startCmd, hst, hcmd, hbad, hdep, hpow]

theorem State.stopCmd_accepted {s : State} {k : ScrId} (hst : s.scrOf k = 1 ∨ s.scrOf k = 2 ∨ s.scrOf k = 4) (hcmd : (s.scrSt k).cmd = 0)
    (hdep : s.stopDepends k = false) : s.stopCmd k = s.scrAccept k 2 := by
  have hstopped : s.scrOf k ≠ 0 ∧ s.scrOf k ≠ 3 := by omega
  simp [State.stopCmd, hstopped, hcmd, hdep]

/-- The reasons of R44's table for a START that is not accepted. -/
def State.startRefused (s : State) (k : ScrId) (why : Nat) : Prop :=
  (why = 1 ∧ ((s.scrSt k).cmd ≠ 0 ∨ s.scrOf k = 3))
  ∨ (why = 2 ∧ (s.scrSt k).cmd = 0 ∧ (s.scrOf k = 1 ∨ s.scrOf k = 2))
  ∨ (why = 3 ∧ (s.scrSt k).cmd = 0 ∧ s.scrOf k = 4)
  ∨ (why = 4 ∧ (s.scrSt k).cmd = 0 ∧ s.scrOf k = 0 ∧ s.startDepends k = false ∧ s.poweredDown = false ∧ s.scrBad k = true)
  ∨ (why = 5 ∧ (s.scrSt k).cmd = 0 ∧ s.scrOf k = 0 ∧ (s.startDepends k = true ∨ s.poweredDown = true))

/-- The reasons of R44's table for a STOP that is not accepted. -/
def State.stopRefused (s : State) (k : ScrId) (why : Nat) : Prop :=
  (why = 1 ∧ (s.scrSt k).cmd ≠ 0)
  ∨ (why = 2 ∧ (s.scrSt k).cmd = 0 ∧ (s.scrOf k = 0 ∨ s.scrOf k = 3))
  ∨ (why = 5 ∧ (s.scrSt k).cmd = 0 ∧ s.scrOf k ≠ 0 ∧ s.scrOf k ≠ 3 ∧ s.stopDepends k = true)

theorem State.startCmd_rejected {s : State} {k : ScrId} {why : Nat} (h : s.startRefused k why) : why < 16 ∧ s.startCmd k = s.scrReject k why := by
  obtain ⟨rfl, hbusy⟩ | ⟨rfl, hcmd, hst⟩ | ⟨rfl, hcmd, hst⟩ | ⟨rfl, hcmd, hst, hdep, hpow, hbad⟩ | ⟨rfl, hcmd, hst, hdep⟩ := h
  · simp [State.startCmd, hbusy]
  · obtain hst | hst := hst <;> simp [State.startCmd, hcmd, hst]
  · simp [State.startCmd, hcmd, hst]
  · simp [State.startCmd, hcmd, hst, hdep, hpow, hbad]
  · simp [State.startCmd, hcmd, hst, hdep.symm]

theorem State.stopCmd_rejected {s : State} {k : ScrId} {why : Nat} (h : s.stopRefused k why) : why < 16 ∧ s.stopCmd k = s.scrReject k why := by
  obtain ⟨rfl, hcmd⟩ | ⟨rfl, hcmd, hst⟩ | ⟨rfl, hcmd, hst0, hst3, hdep⟩ := h
  · simp [State.stopCmd, hcmd]
  · simp [State.stopCmd, hcmd, hst]
  · simp [State.stopCmd, hcmd, hst0, hst3, hdep]

theorem does_start_accepted {s : State} {k : ScrId} (hst : s.scrOf k = 0) (hcmd : (s.scrSt k).cmd = 0) (hbad : s.scrBad k = false)
    (hdep : s.startDepends k = false) (hpow : s.poweredDown = false) : Does (.start k) s fun t =>
      (t.scrSt k).cmd = 1 ∧ t.scrOf k = 0 ∧ t.bus.regs = s.bus.regs ∧ RestSame s t ∧ t.hif = s.hif :=
  ⟨_, congrArg Host.Outcome.next (State.startCmd_accepted hst hcmd hbad hdep hpow), hst ▸ s.scrAccept_changes k 1⟩

theorem does_stop_accepted {s : State} {k : ScrId} (hst : s.scrOf k = 1 ∨ s.scrOf k = 2 ∨ s.scrOf k = 4) (hcmd : (s.scrSt k).cmd = 0)
    (hdep : s.stopDepends k = false) : Does (.stop k) s fun t =>
      (t.scrSt k).cmd = 2 ∧ t.scrOf k = s.scrOf k ∧ t.bus.regs = s.bus.regs ∧ RestSame s t ∧ t.hif = s.hif :=
  ⟨_, congrArg Host.Outcome.next (State.stopCmd_accepted hst hcmd hdep), s.scrAccept_changes k 2⟩

/-- A command that ends in a rejection. -/
theorem does_of_scrReject {c : Instr} {s t : State} {k : ScrId} {why : Nat} (hwhy : why < 16) (hrun : exec c s = .next t)
    (ht : t = s.scrReject k why) : Does c s fun t =>
      t.flag (scrAddr k) 8 = true ∧ t.fld (scrAddr k) 23 20 = why ∧ t.scrOf k = s.scrOf k ∧ t.bus.scrs = s.bus.scrs
      ∧ RegsSame s t [scrAddr k] ∧ RestSame s t :=
  by
  subst ht
  exact ⟨_, hrun, s.flag_scrReject_rejected k why, s.fld_scrReject_reason k hwhy, s.scrOf_scrReject k why, s.scrs_scrReject k why,
    .scrReject s k why, .scrReject s k why⟩

/-! ### Sequences that end (R43) -/

/-- A function's event kept for the next boundary. -/
def State.keepEnd (s : State) (k : ScrId) (e : ScrEvent) : State := s.setScrSt k { (s.scrSt k) with ev := some e }

theorem State.keepEnd_changes (s : State) (k : ScrId) (e : ScrEvent) :
    (s.keepEnd k e).scrSt k = { (s.scrSt k) with ev := some e } ∧ (s.keepEnd k e).bus.regs = s.bus.regs ∧ RestSame s (s.keepEnd k e) :=
  ⟨s.scrSt_setScrSt_self k _, rfl, .setScrSt (.refl s) _ _⟩

theorem execDrainComplete_keeps {s : State} {k : ScrId} (hev : (s.scrSt k).ev = none) (hst : s.scrOf k = 3) (hdr : s.scrDrained k = true) :
    execDrainComplete k s = .next (s.keepEnd k .drainDone) := by
  simp [execDrainComplete, State.keepEnd, hev, hst, hdr]

theorem execDrainTimeout_keeps {s : State} {k : ScrId} (hev : (s.scrSt k).ev = none) (hst : s.scrOf k = 3)
    (hage : 1500000 ≤ s.bus.ticks + 1 - (s.scrSt k).since) : execDrainTimeout k s = .next (s.keepEnd k (.fault 0xFF)) := by
  simp [execDrainTimeout, State.keepEnd, State.scrAge, hev, hst, hage]

theorem execStartTimeout_keeps {s : State} {k : ScrId} (hev : (s.scrSt k).ev = none) (hst : s.scrOf k = 1)
    (hage : 75000000 ≤ s.bus.ticks + 1 - (s.scrSt k).since) : execStartTimeout k s = .next (s.keepEnd k (.fault 0xFE)) := by
  cases k <;> simp [execStartTimeout, State.keepEnd, State.scrAge, hev, hst, hage]

theorem State.scrSt_of_bus {s t : State} (h : t.bus = s.bus) (k : ScrId) : t.scrSt k = s.scrSt k := by
  rw [State.scrSt, h, State.scrSt]

theorem State.scrOf_of_bus {s t : State} (h : t.bus = s.bus) (k : ScrId) : t.scrOf k = s.scrOf k := by
  simp only [State.scrOf, State.scrState, State.fld, State.reg, h]

/-- The start of a channel touches the scheduler's memories only. -/
@[simp] theorem State.chanStart_bus (s : State) (c : Nat) : (s.chanStart c).bus = s.bus := by
  unfold State.chanStart
  extract_lets sub s1 s2 s3
  have h1 : s1.bus = s.bus := foldl_same State.bus _ (by intros; rfl) _ _
  have h2 : s2.bus = s1.bus := foldl_same State.bus _ (by intros; rfl) _ _
  have h3 : s3.bus = s2.bus := foldl_same State.bus _ (by intros; rfl) _ _
  have hs : s3.bus = s.bus := (h3.trans h2).trans h1
  split <;> exact hs

@[simp] theorem State.startSupervisor_bus (s : State) (p : Nat) : (s.startSupervisor p).bus = s.bus :=
  foldl_same State.bus _ (fun _ _ => State.setThread_bus ..) _ s

/-- The start of an avenue ends with SYNC_DONE; before that it touches no register and no record of the bus. -/
theorem State.aveDone_eq (s : State) (p : Nat) : ∃ u : State, u.bus = s.bus ∧ s.aveDone p = u.setFlag (aveStat p) 0 true := by
  unfold State.aveDone
  extract_lets s1 s2
  refine ⟨s2.startSupervisor p, (s2.startSupervisor_bus p).trans ?_, rfl⟩
  unfold s2
  split <;> rfl

theorem execStartSequenceComplete_plain {s : State} {k : ScrId} (hev : (s.scrSt k).ev = none) (hst : s.scrOf k = 1)
    (hclk : (∃ g, k = .line g) → s.elec.clkBad = []) (hnave : ∀ p, k ≠ .ave p) (hsch : ∀ c, k ≠ .sch c) :
    execStartSequenceComplete k 0 s = .next (s.keepEnd k .startDone) := by
  cases k with
  | line g => simp [execStartSequenceComplete, State.keepEnd, hev, hst, hclk ⟨g, rfl⟩]
  | ave p => exact absurd rfl (hnave p)
  | sch c => exact absurd rfl (hsch c)
  | _ => simp [execStartSequenceComplete, State.keepEnd, hev, hst]

theorem execStartSequenceComplete_sch {s : State} {c : Fin 512} (hev : (s.scrSt (.sch c)).ev = none) (hst : s.scrOf (.sch c) = 1) :
    execStartSequenceComplete (.sch c) 0 s = .next ((s.chanStart c).keepEnd (.sch c) .startDone) := by
  simp [execStartSequenceComplete, State.keepEnd, hev, hst]

theorem execStartSequenceComplete_ave {s : State} {p : Fin 17} (hev : (s.scrSt (.ave p)).ev = none) (hst : s.scrOf (.ave p) = 1)
    (huse : 32 ≤ s.usableEngines p) (hsup : s.engRetired p supEngine = false) (hsrc : Tab.get 0 s.eng.rebuild p.val = 0) :
    execStartSequenceComplete (.ave p) 0 s = .next ((s.aveDone p).keepEnd (.ave p) .startDone) := by
  simp [execStartSequenceComplete, State.keepEnd, State.sourceIdle, hev, hst, huse, hsup, hsrc]

theorem execStartSequenceComplete_ave_unfit {s : State} {p : Fin 17} (hev : (s.scrSt (.ave p)).ev = none) (hst : s.scrOf (.ave p) = 1)
    (huse : s.usableEngines p < 32) : execStartSequenceComplete (.ave p) 0 s = .next (s.keepEnd (.ave p) (.fault 1)) := by
  simp [execStartSequenceComplete, State.keepEnd, hev, hst, huse]

/-- The start of a function other than an avenue: what a channel's start touches is not on the bus. -/
theorem does_startSequenceComplete {s : State} {k : ScrId} (hev : (s.scrSt k).ev = none) (hst : s.scrOf k = 1) (hnave : ∀ p, k ≠ .ave p)
    (hclk : (∃ g, k = .line g) → s.elec.clkBad = []) : Does (.startSequenceComplete k 0) s fun t =>
      t.scrSt k = { (s.scrSt k) with ev := some .startDone } ∧ t.scrOf k = 1 := by
  by_cases hsch : ∃ c, k = .sch c
  · obtain ⟨c, rfl⟩ := hsch
    refine ⟨_, execStartSequenceComplete_sch hev hst, ?_, (State.scrOf_of_bus (s.chanStart_bus c) _).trans hst⟩
    rw [State.keepEnd, State.scrSt_setScrSt_self, State.scrSt_of_bus (s.chanStart_bus c)]
  · exact ⟨_, execStartSequenceComplete_plain hev hst hclk hnave fun c hc => hsch ⟨c, hc⟩, State.scrSt_setScrSt_self _ _ _, hst⟩

theorem does_startSequenceComplete_ave {s : State} {p : Fin 17} (hev : (s.scrSt (.ave p)).ev = none) (hst : s.scrOf (.ave p) = 1)
    (huse : 32 ≤ s.usableEngines p) (hsup : s.engRetired p supEngine = false) (hsrc : Tab.get 0 s.eng.rebuild p.val = 0) :
    Does (.startSequenceComplete (.ave p) 0) s fun t =>
      t.scrSt (.ave p) = { (s.scrSt (.ave p)) with ev := some .startDone } ∧ t.scrOf (.ave p) = 1 ∧ t.flag (aveStat p) 0 = true := by
  obtain ⟨u, hbus, hdone⟩ := s.aveDone_eq p
  have hrec : (s.aveDone p).scrSt (.ave p) = s.scrSt (.ave p) := by
    rw [hdone, State.scrSt, State.setFlag_bus_scrs, hbus, State.scrSt]
  have hne : scrAddr (.ave p) ≠ aveStat p := by
    simp only [scrAddr, aveStat]
    omega
  refine ⟨_, execStartSequenceComplete_ave hev hst huse hsup hsrc, ?_, ?_, ?_⟩
  · rw [State.keepEnd, State.scrSt_setScrSt_self, hrec]
  · rw [State.keepEnd, State.scrOf_setScrSt, hdone]
    exact (u.fld_setFlag_ne _ _ _ _ hne).trans ((State.scrOf_of_bus hbus _).trans hst)
  · rw [State.keepEnd, State.flag_setScrSt, hdone]
    exact u.flag_setFlag_self _ _ (by decide)

/-- A command that keeps the end of a sequence for the boundary and does nothing else. -/
theorem does_of_keepEnd {c : Instr} {s : State} {k : ScrId} {e : ScrEvent} (hrun : exec c s = .next (s.keepEnd k e)) : Does c s fun t =>
    t.scrSt k = { (s.scrSt k) with ev := some e } ∧ t.bus.regs = s.bus.regs ∧ RestSame s t :=
  ⟨_, hrun, s.keepEnd_changes k e⟩

end Machine
end Sys2Proof

/-- Settles O10: a command accepted is `State.scrAccept`, one rejected `State.scrReject` with the reason that `State.startCmd` and
`State.stopCmd` find first. -/
theorem scrCommandsAcceptedOrRejected : Obligations.ScrCommandsAcceptedOrRejected := by
  unfold Obligations.ScrCommandsAcceptedOrRejected
  intro k s
  refine ⟨does_start_accepted, does_stop_accepted, does_of_scrReject (by decide) rfl rfl, fun why h => ?_, fun why h => ?_⟩
  · obtain ⟨hwhy, hrej⟩ := State.startCmd_rejected h
    exact does_of_scrReject hwhy rfl hrej
  · obtain ⟨hwhy, hrej⟩ := State.stopCmd_rejected h
    exact does_of_scrReject hwhy rfl hrej

/-- Settles O11: but for an avenue and a channel, a sequence's end is an event kept, `State.keepEnd`; an avenue's start ends with SYNC_DONE
(`State.aveDone_eq`), and a channel's is off the bus (`State.chanStart_bus`). -/
theorem scrSequencesEnd : Obligations.ScrSequencesEnd := by
  unfold Obligations.ScrSequencesEnd
  intro k s hev
  refine ⟨does_startSequenceComplete hev, ?_, ?_, ?_, ?_, ?_, ?_⟩
  · rintro p rfl hst huse hsup hsrc
    exact does_startSequenceComplete_ave hev hst huse hsup hsrc
  · rintro p rfl hst huse
    exact does_of_keepEnd (execStartSequenceComplete_ave_unfit hev hst huse)
  · intro hst hline hnave hsch
    exact does_of_keepEnd (execStartSequenceComplete_plain hev hst (fun ⟨g, hg⟩ => absurd hg (hline g)) hnave hsch)
  · exact fun hst hage => does_of_keepEnd (execStartTimeout_keeps hev hst hage)
  · exact fun hst hdr => does_of_keepEnd (execDrainComplete_keeps hev hst hdr)
  · exact fun hst hage => does_of_keepEnd (execDrainTimeout_keeps hev hst hage)

end

section
/-! SUPPORT. What passes in a beat keeps its number, its clock and the commands that wait: registers, the line side and the avenues.

Only the end of a clock and the begin of a beat move the time. Every other update that a clock or a boundary is made of leaves the beat number, the
clock of the beat, the count of clocks and the queue of commands alone: State.SameClock. Below stands one lemma for
each such update, in the model's own order, put together from the rules for the forms that an update is written in and from the lemmas of what its
definition calls. -/

open Sys2Proof Sys2Proof.Machine
namespace Sys2Proof.Machine

/-- s stands at the clock of s₀, with the same commands waiting. -/
structure State.SameClock (s s₀ : State) : Prop where
  beat : s.bus.beat = s₀.bus.beat
  clk : s.bus.clk = s₀.bus.clk
  ticks : s.bus.ticks = s₀.bus.ticks
  pending : s.pending = s₀.pending

theorem State.SameClock.refl (s : State) : s.SameClock s := ⟨rfl, rfl, rfl, rfl⟩

theorem State.SameClock.trans {s t u : State} (h : s.SameClock t) (h' : t.SameClock u) : s.SameClock u :=
  ⟨h.beat.trans h'.beat, h.clk.trans h'.clk, h.ticks.trans h'.ticks, h.pending.trans h'.pending⟩

section
variable {s₀ s t u : State} {c : Prop} {dec : Decidable c}

/-! ### One rule for each form that an update is written in -/

/-- Units replaced. -/
theorem State.SameClock.withUnits {pmu : PmuState} {err : ErrState} {line : LineState} {eng : EngState} {tim : TimState} {tbl : TblState}
    {cls : ClsState} {lrn : LrnState} {cross : CrossState} {sq : SqState} {sch : SchState} {fab : FabState} {hbm : HbmState} {hif : HifState}
    {mate : MateState} {mss : MssState} {boot : BootState} {upd : UpdState} {elec : ElecState} {fresh : Nat} (h : s.SameClock s₀) :
    (⟨s.bus, pmu, err, line, eng, tim, tbl, cls, lrn, cross, sq, sch, fab, hbm, hif, mate, mss, boot, upd, elec, fresh,
      s.pending⟩ : State).SameClock s₀ :=
  ⟨h.beat, h.clk, h.ticks, h.pending⟩

/-- The register bus, the time aside. -/
theorem State.SameClock.withBus {regs : Tab Word} {pendRegs : List (Nat × Nat × Nat)} {latch : Tab (Option Word)} {lowHalf : Tab Word}
    {beats : Nat} {rcNow : Tab Nat} {late : Tab (Option Word)} {used : Tab Nat} {before : List (Nat × Nat × Word)} {scrs : Tab ScrSt}
    {armed : Tab (Option Armed)} {cpl : Option Completion} (h : s.SameClock s₀) :
    ({ s with bus := ⟨regs, pendRegs, latch, lowHalf, s.bus.beat, s.bus.clk, s.bus.ticks, beats, rcNow, late, used, before, scrs, armed,
      cpl⟩ } : State).SameClock s₀ :=
  ⟨h.beat, h.clk, h.ticks, h.pending⟩

theorem State.SameClock.either (ht : t.SameClock s₀) (hu : u.SameClock s₀) : (if c then t else u : State).SameClock s₀ := by
  split <;> assumption

theorem State.SameClock.ite (h : s.SameClock s₀) (ht : s.SameClock s₀ → t.SameClock s₀) (hu : s.SameClock s₀ → u.SameClock s₀) :
    (if c then t else u : State).SameClock s₀ := .either (ht h) (hu h)

theorem State.SameClock.ifThen (h : s.SameClock s₀) (ht : s.SameClock s₀ → t.SameClock s₀) : (if c then t else s : State).SameClock s₀ :=
  .either (ht h) h

theorem State.SameClock.ifElse (h : s.SameClock s₀) (hu : s.SameClock s₀ → u.SameClock s₀) : (if c then s else u : State).SameClock s₀ :=
  .either h (hu h)

theorem State.SameClock.dite {t : c → State} {u : ¬ c → State} (ht : ∀ x, (t x).SameClock s₀) (hu : ∀ x, (u x).SameClock s₀) :
    (if x : c then t x else u x : State).SameClock s₀ := by
  split
  · exact ht _
  · exact hu _

theorem State.SameClock.foldl {β : Type} {f : State → β → State} {l : List β} (h : s.SameClock s₀)
    (hf : ∀ {s x}, s.SameClock s₀ → (f s x).SameClock s₀) : (l.foldl f s).SameClock s₀ :=
  foldl_keeps (State.SameClock · s₀) f (fun _ _ => hf) l s h

/-- A fold that carries more than the state. -/
theorem State.SameClock.foldlFst {β γ : Type} {f : State × γ → β → State × γ} {a : State × γ} {l : List β} (h : a.1.SameClock s₀)
    (hf : ∀ {a x}, a.1.SameClock s₀ → (f a x).1.SameClock s₀) : (l.foldl f a).1.SameClock s₀ :=
  foldl_keeps (fun a => a.1.SameClock s₀) f (fun _ _ => hf) l a h

theorem State.SameClock.ofFst {γ : Type} {x : State × γ} {c : γ} (h : x.1.SameClock s₀) (e : x = (t, c)) : t.SameClock s₀ := by
  subst e
  exact h

end

section
variable {s₀ s : State} (h : s.SameClock s₀)
include h

/-! ### Registers, counts, reports and samples -/

theorem State.SameClock.setReg {a v : Nat} : (s.setReg a v).SameClock s₀ := h.withBus
theorem State.SameClock.setFld {a hi lo v : Nat} : (s.setFld a hi lo v).SameClock s₀ := h.setReg
theorem State.SameClock.setFlag {a i : Nat} {b : Bool} : (s.setFlag a i b).SameClock s₀ := h.setFld
theorem State.SameClock.raise {a i : Nat} : (s.raise a i).SameClock s₀ := h.setFlag
theorem State.SameClock.bumpReg {a n : Nat} : (s.bumpReg a n).SameClock s₀ := h.withBus
theorem State.SameClock.rcMerge : s.rcMerge.SameClock s₀ := h.withBus.foldl (·.setReg)

theorem State.SameClock.holdOld {a : Nat} : (s.holdOld a).SameClock s₀ := by
  unfold State.holdOld
  split
  exacts [h, h.withBus]

theorem State.SameClock.use {k : Use} : (s.use k).SameClock s₀ := h.withBus
theorem State.SameClock.setReg64 {a v : Nat} : (s.setReg64 a v).SameClock s₀ := h.setReg.setReg
theorem State.SameClock.count {unit ev inst n : Nat} : (s.count unit ev inst n).SameClock s₀ := h.withUnits
theorem State.SameClock.mateExpire : s.mateExpire.SameClock s₀ := h.ifElse (fun h => (h.ifElse (·.setFld.raise)).setFlag.withUnits)
theorem State.SameClock.fatal : s.fatal.SameClock s₀ := h.withUnits.raise.mateExpire

theorem State.SameClock.errQueue {r : ErrReport} : (s.errQueue r).SameClock s₀ := by
  unfold State.errQueue
  split
  exacts [h.withUnits, h.withUnits.raise]

theorem State.SameClock.errLimited {r : ErrReport} : (s.errLimited r).SameClock s₀ := h.ite (·.withUnits.raise) (·.withUnits.errQueue)
theorem State.SameClock.isoSet {p e : Nat} {on : Bool} : (s.isoSet p e on).SameClock s₀ := h.ite (·.raise) (·.holdOld.setFlag)
theorem State.SameClock.engineEcc {k : Nat} : (s.engineEcc k).SameClock s₀ := h.withUnits.ifThen (·.isoSet.ifThen (·.withUnits))

theorem State.SameClock.errEnter {r : ErrReport} : (s.errEnter r).SameClock s₀ :=
  ((h.ifThen (·.engineEcc)).bumpReg.raise.raise.ite (·.errLimited) (·.errQueue)).ifThen (·.fatal)

theorem State.SameClock.report {unit code cls inst detail : Nat} : (s.report unit code cls inst detail).SameClock s₀ := h.errEnter

theorem State.SameClock.reportTm {unit code cls inst detail : Nat} : (s.reportTm unit code cls inst detail).SameClock s₀ :=
  h.ite (·.withUnits) (·.withUnits.raise)

theorem State.SameClock.injectionFor {mem inst n : Nat} {t : State} (e : s.injectionFor mem inst = some (n, t)) : t.SameClock s₀ := by
  unfold State.injectionFor at e
  split at e
  · cases e
    exact h.setFlag.raise
  · cases e

theorem State.SameClock.written' {mem inst : Nat} : (s.written' mem inst).SameClock s₀ := by
  unfold State.written'
  split
  exacts [h.injectionFor ‹_›, h]

theorem State.SameClock.writtenAny {mem : Nat} : (s.writtenAny mem).SameClock s₀ := h.written'

theorem State.SameClock.modSample {tag : Option Nat} {f : Sample → Sample} : (s.modSample tag f).SameClock s₀ := by
  unfold State.modSample
  split
  exacts [h, h.withUnits]

theorem State.SameClock.closeSample {tag : Option Nat} {outcome dunit dreason : Nat} {pdrop : Bool} :
    (s.closeSample tag outcome dunit dreason pdrop).SameClock s₀ := by
  unfold State.closeSample
  split
  exacts [h, h.ifElse (·.withUnits.ite (·.withUnits) (·.count.raise))]

theorem State.SameClock.setPkt {n : Nat} {p : Pkt} : (s.setPkt n p).SameClock s₀ := h.withUnits
theorem State.SameClock.freeBlocks {n : Nat} : (s.freeBlocks n).SameClock s₀ := h.withUnits.setPkt
theorem State.SameClock.forget {n : Nat} : (s.forget n).SameClock s₀ := h.freeBlocks.withUnits
theorem State.SameClock.dropPkt {n unit code inst : Nat} : (s.dropPkt n unit code inst).SameClock s₀ := h.count.closeSample.forget

/-! ### Ports and port groups -/

theorem State.SameClock.setRx {m v : Nat} : (s.setRx m v).SameClock s₀ := h.withUnits
theorem State.SameClock.gatherClear {m : Nat} : (s.gatherClear m).SameClock s₀ := h.withUnits

theorem State.SameClock.loseReception {m code : Nat} : (s.loseReception m code).SameClock s₀ := by
  unfold State.loseReception
  split
  exacts [h.setPkt.setRx, h.ite (·.count.gatherClear.setRx) (·.ifThen (·.setRx))]

theorem State.SameClock.refreshCtx {m : Nat} : (s.refreshCtx m).SameClock s₀ := h.setReg.ifThen (·.loseReception)
theorem State.SameClock.refreshPort {p : Nat} : (s.refreshPort p).SameClock s₀ := (h.ifThen (·.raise)).setFlag
theorem State.SameClock.setDefect {live i : Nat} {on : Bool} : (s.setDefect live i on).SameClock s₀ := h.setFlag.ifThen (·.raise)
theorem State.SameClock.refreshFlx {f : Nat} : (s.refreshFlx f).SameClock s₀ := (h.setDefect.foldl (·.setDefect)).setReg.setDefect.setDefect

theorem State.SameClock.refreshGroup {g : Nat} : (s.refreshGroup g).SameClock s₀ :=
  (((h.foldl (·.refreshPort)).refreshFlx.ifElse (·.refreshFlx)).ifElse (·.foldl (·.refreshCtx))).foldl (·.ifThen (·.refreshCtx))

theorem State.SameClock.setKerbQueue {l : Nat} {q : List Nat} : (s.setKerbQueue l q).SameClock s₀ := h.withUnits

theorem State.SameClock.sampleTag {n : Nat} : (s.sampleTag n).SameClock s₀ :=
  h.ifThen (·.withUnits.ifThen (·.ite (·.withUnits.setPkt.count) (·.count.raise)))

theorem State.SameClock.kerbOverflow {n : Nat} : (s.kerbOverflow n).SameClock s₀ := h.raise.dropPkt
theorem State.SameClock.kerbPut {l n : Nat} : (s.kerbPut l n).SameClock s₀ := h.setPkt.ite (·.setKerbQueue) (·.setKerbQueue.kerbOverflow)

theorem State.SameClock.enterKerb {n : Nat} : (s.enterKerb n).SameClock s₀ := by
  unfold State.enterKerb
  extract_lets
  split
  exacts [h.dropPkt, (h.ifElse (·.sampleTag)).kerbPut]

theorem State.SameClock.reachKerb {n : Nat} : (s.reachKerb n).SameClock s₀ := h.ite (·.use.enterKerb) (·.withUnits)
theorem State.SameClock.kerbClock : s.kerbClock.SameClock s₀ := h.withUnits.foldl (·.reachKerb)
theorem State.SameClock.applyCli {f : Nat} : (s.applyCli f).SameClock s₀ := h.foldl (·.withUnits)
theorem State.SameClock.setCalFail {f mask : Nat} : (s.setCalFail f mask).SameClock s₀ := (h.withUnits.ifElse (·.raise)).refreshGroup

theorem State.SameClock.calSwitchRequest {f : Nat} : (s.calSwitchRequest f).SameClock s₀ :=
  h.ite (·.setCalFail.ite (·.withUnits) (·.withUnits)) (·.setCalFail.raise)

theorem State.SameClock.txSwitch {f : Nat} : (s.txSwitch f).SameClock s₀ := h.setFlag.withUnits.applyCli.refreshGroup
theorem State.SameClock.flxClock : s.flxClock.SameClock s₀ := h.foldl (·.txSwitch)
theorem State.SameClock.takeRxCli {f : Nat} : (s.takeRxCli f).SameClock s₀ := h.foldl (·.withUnits)
theorem State.SameClock.flxReset {f : Nat} : (s.flxReset f).SameClock s₀ := h.withUnits
theorem State.SameClock.setLock {k : LockId} {x : Lock} : (s.setLock k x).SameClock s₀ := h.withUnits
theorem State.SameClock.pcsReset {g : Nat} : (s.pcsReset g).SameClock s₀ := (h.withUnits.foldl (·.setFld)).setFld

/-! ### Header vectors -/

theorem State.SameClock.setSlot {p slot : Nat} {x : Option Slot} : (s.setSlot p slot x).SameClock s₀ := h.withUnits
theorem State.SameClock.graphRewrite {p o : Nat} : (s.graphRewrite p o).SameClock s₀ := h.withUnits
theorem State.SameClock.graphMemErr {p o : Nat} : (s.graphMemErr p o).SameClock s₀ := h.graphRewrite.report

theorem State.SameClock.parsed {p slot : Nat} {memErr : Option Nat} : (s.parsed p slot memErr).SameClock s₀ := by
  unfold State.parsed
  split
  exacts [h, (h.ifThen (·.graphMemErr)).setSlot]

theorem State.SameClock.parseEnds : s.parseEnds.SameClock s₀ := h.foldl (·.parsed)
theorem State.SameClock.pgSwitch : s.pgSwitch.SameClock s₀ := h.ite (·.setFlag) (·.raise)

/-! ### Threads and channels -/

theorem State.SameClock.setThread {p e t : Nat} {x : Thr} : (s.setThread p e t x).SameClock s₀ := h.withUnits.ifThen (·.withUnits)
theorem State.SameClock.setChan {p e c : Nat} {q : List (List Dword)} : (s.setChan p e c q).SameClock s₀ := h.withUnits

theorem State.SameClock.putMsg {p e c : Nat} {msg : List Dword} : (s.putMsg p e c msg).SameClock s₀ := by
  unfold State.putMsg
  split
  · extract_lets
    split
    exacts [h.setThread, h]
  · exact h.setChan

theorem State.SameClock.commitBlocked {p e t : Nat} : (s.commitBlocked p e t).SameClock s₀ := by
  unfold State.commitBlocked
  extract_lets
  split
  exacts [h, h.ifThen (·.setThread.putMsg)]

theorem State.SameClock.commitWaiting : s.commitWaiting.SameClock s₀ := h.foldl (·.commitBlocked)

/-! ### Turns at the lookup banks -/

theorem State.SameClock.modReq {key i : Nat} {f : Req → Req} : (s.modReq key i f).SameClock s₀ := by
  unfold State.modReq
  extract_lets
  split
  exacts [h, h.withUnits]

theorem State.SameClock.putTurn {r : TurnRef} : (s.putTurn r).SameClock s₀ := h.modReq

theorem State.SameClock.enterOne {who : Nat → Bool} {bank : Nat} : (s.enterOne who bank).SameClock s₀ := by
  refine h.ifElse (fun h => ?_)
  split
  exacts [h, h.putTurn]

theorem State.SameClock.enterBank {who : Nat → Bool} {bank : Nat} : (s.enterBank who bank).SameClock s₀ := h.foldl (·.enterOne)

theorem State.SameClock.addTurns {p e t i : Nat} {ts : List Turn} : (s.addTurns p e t i ts).SameClock s₀ := by
  unfold State.addTurns
  extract_lets
  split
  exacts [h, (h.setThread.foldl (·.enterBank)).ifThen (·.count)]

theorem State.SameClock.sendReq {p e t : Nat} {q : Req} : (s.sendReq p e t q).SameClock s₀ := by
  unfold State.sendReq
  extract_lets
  split
  exacts [h.withUnits.ite (·.setThread) (·.use), h.setThread.addTurns]

/-! ### Dispositions and trace units -/

theorem State.SameClock.sendFault {p : Nat} {r : List Dword} : (s.sendFault p r).SameClock s₀ :=
  h.ite (·.putMsg.withUnits.writtenAny) (·.withUnits.raise)

theorem State.SameClock.dispose {p slot : Nat} {d : Disp} {script : List Byte} : (s.dispose p slot d script).SameClock s₀ := by
  unfold State.dispose
  split
  exacts [h, h.setSlot]

theorem State.SameClock.setTrace {l k : Nat} {es : List (BitVec 64 × BitVec 64 × BitVec 64)} : (s.setTrace l k es).SameClock s₀ :=
  h.withUnits.setFld
theorem State.SameClock.endTrace {l k cause : Nat} : (s.endTrace l k cause).SameClock s₀ := h.ifThen (·.setFlag.setFlag.setFld)

/-! ### Avenues -/

theorem State.SameClock.deadlineSlot {p slot : Nat} : (s.deadlineSlot p slot).SameClock s₀ := by
  unfold State.deadlineSlot
  split
  · exact h
  next sl _ =>
    refine h.ifElse fun h => ?_
    extract_lets l s1 pass
    have h1 : s1.SameClock s₀ := h.count
    dsimp only
    split
    exacts [h1.setThread.dispose.ifThen (·.sendFault), h1.dispose.ifThen (·.sendFault)]

theorem State.SameClock.vacate {p slot : Nat} : (s.vacate p slot).SameClock s₀ := by
  unfold State.vacate
  extract_lets
  split
  exacts [h.deadlineSlot, h.deadlineSlot.setSlot.withUnits]

theorem State.SameClock.windowEnds : s.windowEnds.SameClock s₀ := h.foldl (·.vacate)
theorem State.SameClock.takeExits {p : Nat} : (s.takeExits p).1.SameClock s₀ := h.withUnits

theorem State.SameClock.woken {p e t : Nat} : (s.woken p e t).SameClock s₀ := by
  unfold State.woken
  refine h.ifElse fun h => ?_
  dsimp only
  split
  exacts [h.setThread.ifThen (·.sendReq), h.setThread]

theorem State.SameClock.startSupervisor {p : Nat} : (s.startSupervisor p).SameClock s₀ := h.foldl (·.setThread)
theorem State.SameClock.psSwitch : s.psSwitch.SameClock s₀ := h.ite (·.setFlag.setFlag.withUnits.foldl (·.ifThen (·.startSupervisor))) (·.raise)

theorem State.SameClock.endOldProt : s.endOldProt.SameClock s₀ := by
  unfold State.endOldProt
  split
  exacts [h.ifThen (·.withUnits.setFlag), h]

theorem State.SameClock.clearEngine {p e : Nat} : (s.clearEngine p e).SameClock s₀ := h.withUnits
theorem State.SameClock.dropTrace {l k : Nat} : (s.dropTrace l k).SameClock s₀ := h.ifThen (·.endTrace.setTrace)

theorem State.SameClock.remapEngine {p k phys : Nat} : (s.remapEngine p k phys).SameClock s₀ :=
  h.ite (·.holdOld.holdOld.setFld.setFlag.clearEngine.ifThen (·.dropTrace)) (·.raise)

theorem State.SameClock.aveStarts {p : Nat} : (s.aveStarts p).SameClock s₀ := h.withUnits.setFlag

end
end Sys2Proof.Machine
end

section
/-! SUPPORT. What passes in a beat keeps the time and the queue (State.SameClock): tables, packets, the scheduler and the fabric. -/

open Sys2Proof Sys2Proof.Machine
namespace Sys2Proof.Machine

section
variable {s₀ s : State} (h : s.SameClock s₀)
include h

/-! ### Statistics, lookup banks and the update overlay -/

theorem State.SameClock.statEnter {l : Nat} {u : StatUpdate} {t : State} (e : s.statEnter l u = some t) : t.SameClock s₀ := by
  unfold State.statEnter at e
  split at e
  · cases e
    exact h
  · dsimp only at e
    split at e
    · cases e
    · cases e
      exact h.setThread.woken.use

theorem State.SameClock.statEvict : s.statEvict.SameClock s₀ := by
  unfold State.statEvict
  split
  exacts [h, h.withUnits]

theorem State.SameClock.statTake {u : StatUpdate} : (s.statTake u).SameClock s₀ := (h.ifThen (·.statEvict)).withUnits.writtenAny

theorem State.SameClock.statEnterAll {l n : Nat} {us : List StatUpdate} : (s.statEnterAll l n us).1.SameClock s₀ := by
  fun_induction State.statEnterAll s l n us with
  | case1 s us => exact h
  | case2 s n => exact h
  | case3 s n u us e ih => exact ih h
  | case4 s n u us t e v vs er ih => rw [er] at ih; exact ih (h.statEnter e)

theorem State.SameClock.statStep {l : Nat} : (s.statStep l).SameClock s₀ := h.ifElse (fun h => (h.foldl (·.statTake)).statEnterAll.withUnits)
theorem State.SameClock.statClock : s.statClock.SameClock s₀ := h.ifElse (·.foldl (·.statStep))
theorem State.SameClock.statBoundary : s.statBoundary.SameClock s₀ := h.withUnits

theorem State.SameClock.takeShare {l : Nat} {t : State} (e : s.takeShare l = some t) : t.SameClock s₀ := by
  unfold State.takeShare at e
  dsimp only at e
  split at e
  · cases e
    exact h.withUnits
  · cases e

theorem State.SameClock.takeRemainder {t : State} (e : s.takeRemainder = some t) : t.SameClock s₀ := by
  unfold State.takeRemainder at e
  split at e
  · cases e
    exact h.withUnits
  · cases e

theorem State.SameClock.setDram {k : Nat × Nat} {st : Nat} : (s.setDram k st).SameClock s₀ := h.modReq

theorem State.SameClock.dramClock : s.dramClock.SameClock s₀ := by
  refine h.foldl fun h => h.foldl fun h => ?_
  split
  · exact (h.takeShare ‹_›).setDram
  · split
    exacts [(h.takeRemainder ‹_›).setDram, h.setDram.count.raise]

theorem State.SameClock.dramBoundary : s.dramBoundary.SameClock s₀ := by
  refine .foldl (.foldl h.withUnits fun h => h.foldl fun h => ?_) fun h => h.foldl fun h => ?_
  · split
    exacts [(h.takeShare ‹_›).setDram, h]
  · split
    exacts [(h.takeRemainder ‹_›).setDram, h]

theorem State.SameClock.serveRead {r : TurnRef} : (s.serveRead r).SameClock s₀ := by
  unfold State.serveRead
  extract_lets
  split
  · exact h.putTurn.count
  · refine h.putTurn.count.ifThen (fun h => ?_)
    split
    exacts [h.addTurns, h]

theorem State.SameClock.servePort {bank port : Nat} : (s.servePort bank port).SameClock s₀ := by
  unfold State.servePort
  split
  exacts [h, h.serveRead]

theorem State.SameClock.enterAll : s.enterAll.SameClock s₀ := h.foldl (·.enterBank)
theorem State.SameClock.bankClock : s.bankClock.SameClock s₀ := h.ifElse (fun h => (h.foldl (·.servePort.servePort)).dramClock.enterAll)
theorem State.SameClock.setOvl {o : List Ovl} : (s.setOvl o).SameClock s₀ := h.withUnits

theorem State.SameClock.stage {writer : Nat} {go : Bool} {w : Nat} {data : Line} {mask : BitVec 64} :
    (s.stage writer go w data mask).SameClock s₀ := by
  unfold State.stage
  split
  · split
    exacts [h.setOvl, h]
  · exact h.setOvl

theorem State.SameClock.shadowWords {ws : List Nat} : (s.shadowWords ws).SameClock s₀ := by
  refine h.foldl (fun h => ?_)
  split
  exacts [h.ifElse (·.withUnits), h]

theorem State.SameClock.commitOverlay {writers : List Nat} : (s.commitOverlay writers).SameClock s₀ := h.setOvl.shadowWords
theorem State.SameClock.overlayBoundary {extra : List Nat} : (s.overlayBoundary extra).SameClock s₀ := h.commitOverlay.setFlag.setFlag.withUnits
theorem State.SameClock.putSlot {n : Nat} {at' : Nat × Nat} {ws : List Nat} : (s.putSlot n at' ws).SameClock s₀ := h.stage
theorem State.SameClock.clearSlot {n : Nat} {at' : Nat × Nat} : (s.clearSlot n at').SameClock s₀ := h.stage

theorem State.SameClock.runChain {n : Nat} {l : List ((Nat × Nat) × (Nat × Nat))} : (s.runChain n l).SameClock s₀ := by
  induction l with
  | nil => exact h
  | cons m l ih => exact ih.putSlot.clearSlot

theorem State.SameClock.makeRoom {n : Nat} {key : List Nat} {p : Nat × Nat} {t : State} (e : s.makeRoom n key = some (t, p)) : t.SameClock s₀ := by
  unfold State.makeRoom at e
  dsimp only at e
  split at e
  · cases e
    exact h
  · split at e
    · cases e
    · cases e
      exact h.runChain

theorem State.SameClock.hashRun {c : HashCmd} : (s.hashRun c).1.SameClock s₀ := by
  unfold State.hashRun
  extract_lets
  split
  · exact h
  · split
    exacts [h, (h.makeRoom ‹_›).putSlot]
  · exact h
  · exact h.putSlot
  · exact h.clearSlot
  · exact h

theorem State.SameClock.hashReply {c : HashCmd} {res : Nat} {found : List Nat} : (s.hashReply c res found).SameClock s₀ :=
  h.ifElse (·.setFld.ifThen (·.setReg64.setReg64))

theorem State.SameClock.ovlFree : s.ovlFree.SameClock s₀ := h.ifThen (·.setOvl)
theorem State.SameClock.lkpStart : s.lkpStart.SameClock s₀ := h.withUnits
theorem State.SameClock.newRoots {kind : Nat} : (s.newRoots kind).SameClock s₀ := (h.foldl (·.setReg.setReg)).withUnits
theorem State.SameClock.newWords : s.newWords.SameClock s₀ := h.withUnits

theorem State.SameClock.fibBoundary {b : Nat} : (s.fibBoundary b).SameClock s₀ :=
  h.ifElse (·.ite (·.raise) (fun h => ((h.withUnits.ifThen (·.newRoots)).ifThen (·.newRoots)).newWords))

theorem State.SameClock.leafSample : s.leafSample.SameClock s₀ := h.ifElse (·.withUnits)
theorem State.SameClock.rewriteClock : s.rewriteClock.SameClock s₀ := h.ifElse (·.foldl (·.ifThen (·.withUnits.stage)))

/-! ### TCAM and policers -/

theorem State.SameClock.setSlice {p : Nat} {x : SliceProg} : (s.setSlice p x).SameClock s₀ := h.withUnits
theorem State.SameClock.slicePass {p : Nat} : (s.slicePass p).SameClock s₀ := h.setSlice
theorem State.SameClock.passTested : s.passTested.SameClock s₀ := h.foldl (·.ifThen (·.slicePass))
theorem State.SameClock.tcmStart : s.tcmStart.SameClock s₀ := h.withUnits
theorem State.SameClock.tcmStop : s.tcmStop.SameClock s₀ := (h.foldl (·.ifThen (·.setFlag.setFld))).withUnits

theorem State.SameClock.serveSearch {p t : Nat} : (s.serveSearch p t).SameClock s₀ := by
  refine h.ifElse (fun h => ?_)
  split
  exacts [h, h.putTurn.use.modReq]

theorem State.SameClock.searchClock : s.searchClock.SameClock s₀ := h.foldl (·.serveSearch)
theorem State.SameClock.setPolicer {x : Nat} {r : BitVec 128} : (s.setPolicer x r).SameClock s₀ := h.withUnits.written'
theorem State.SameClock.polStore {x : Nat} {v : BitVec 128} : (s.polStore x v).SameClock s₀ := h.setPolicer.use

theorem State.SameClock.polSlots : s.polSlots.SameClock s₀ := by
  unfold State.polSlots
  refine .foldlFst h fun {a w} ha => ?_
  dsimp only
  split
  exacts [ha, ha.withUnits.setFlag.polStore]

/-! ### Pattern sets -/

theorem State.SameClock.patCopy {n scan hdrEnd hash : Nat} : (s.patCopy n scan hdrEnd hash).SameClock s₀ := by
  refine h.ifElse (fun h => State.SameClock.either h.count.raise ?_)
  split
  exacts [h.count.raise, State.SameClock.either h.count.raise h.withUnits]

theorem State.SameClock.patSwitch : s.patSwitch.SameClock s₀ := h.ite (·.setFlag.setFlag) (·.raise)

/-! ### Learning and the hash unit -/

theorem State.SameClock.lrnOffer {c : Cand} : (s.lrnOffer c).SameClock s₀ := h.ifElse (·.ite (·.withUnits) (·.raise))

theorem State.SameClock.lrnRecord {ty key lave new old ctx : Nat} : (s.lrnRecord ty key lave new old ctx).SameClock s₀ :=
  h.count.ite (·.withUnits.writtenAny) (·.withUnits.raise)

theorem State.SameClock.macPut {p : Nat × Nat} {key w : Nat} : (s.macPut p key w).SameClock s₀ := h.putSlot
theorem State.SameClock.setTrack {x : Track} : (s.setTrack x).SameClock s₀ := h.withUnits

theorem State.SameClock.trackMove {key : Nat} : (s.trackMove key).1.SameClock s₀ := by
  unfold State.trackMove
  extract_lets
  split
  · split
    · exact h.setTrack
    · split
      exacts [h.setTrack.raise, h.setTrack]
  · split
    · exact h.setTrack
    · split
      exacts [h.withUnits.setTrack, h.raise]

theorem State.SameClock.learnNew {c : Cand} : (s.learnNew c).SameClock s₀ := by
  unfold State.learnNew
  extract_lets
  split
  · exact (h.makeRoom ‹_›).macPut.lrnRecord
  · split
    exacts [h.raise.lrnRecord, h.clearSlot.lrnRecord.macPut.lrnRecord]

theorem State.SameClock.learnRefresh {p : Nat × Nat} {key w : Nat} : (s.learnRefresh p key w).SameClock s₀ := h.ifElse (·.macPut.count)

theorem State.SameClock.learn {c : Cand} : (s.learn c).SameClock s₀ := by
  unfold State.learn
  split
  · exact h.learnNew
  · exact h.ite (·.ifElse (·.raise.ifThen (·.lrnRecord)))
      (·.ite (·.learnRefresh) (·.ifElse (·.trackMove.ite (·.lrnRecord) (·.macPut.lrnRecord))))

theorem State.SameClock.ageOut {key : Nat} : (s.ageOut key).SameClock s₀ := by
  unfold State.ageOut
  split
  exacts [h, h.ifElse (·.clearSlot.lrnRecord)]

theorem State.SameClock.lrnEffect {c : HashCmd} : (s.lrnEffect c).SameClock s₀ := by
  unfold State.lrnEffect
  split
  exacts [(h.ifThen (·.count.learn)).withUnits, h.ifThen (·.count.ageOut), h.stage, h]

theorem State.SameClock.hashTry {c : HashCmd} {t : State} (e : s.hashTry c = some t) : t.SameClock s₀ := by
  unfold State.hashTry at e
  dsimp only at e
  split at e
  · split at e
    · cases e
      exact h.lrnEffect
    · cases e
  · split at e
    · cases e
      exact h.hashReply
    · split at e
      · cases e
        exact h.hashRun.withUnits.hashReply
      · cases e

theorem State.SameClock.hashDrain {n : Nat} : (s.hashDrain n).SameClock s₀ := by
  fun_induction State.hashDrain s n with
  | case1 s => exact h
  | case2 s k e => exact h
  | case3 s k c q e now => exact h
  | case4 s k c q e now none => exact h
  | case5 s k c q e now t some ih => exact ih (h.hashTry some).withUnits

theorem State.SameClock.hashClock : s.hashClock.SameClock s₀ := h.hashDrain

/-! ### Handles, queues and landings -/

theorem State.SameClock.setHandle {hd : Nat} {x : Handle} : (s.setHandle hd x).SameClock s₀ := h.withUnits
theorem State.SameClock.setPd {d : Nat} {x : Pd} : (s.setPd d x).SameClock s₀ := h.withUnits
theorem State.SameClock.setQueue {q : Nat} {l : List Nat} : (s.setQueue q l).SameClock s₀ := h.withUnits

theorem State.SameClock.qmDrop {code req : Nat} : (s.qmDrop code req).SameClock s₀ := by
  unfold State.qmDrop
  extract_lets
  split
  exacts [h.count.raise, h.count.raise, h.count.raise, h.count.raise, h.count]

theorem State.SameClock.landDrop {code req : Nat} {tag : Option Nat} : (s.landDrop code req tag).SameClock s₀ := h.qmDrop.closeSample
theorem State.SameClock.releaseHandle {hd : Nat} : (s.releaseHandle hd).SameClock s₀ := h.closeSample.setReg.setHandle
theorem State.SameClock.endRead {d : Nat} : (s.endRead d).SameClock s₀ := h.withUnits
theorem State.SameClock.freeLog {kind pd owner req : Nat} : (s.freeLog kind pd owner req).SameClock s₀ := h.setReg.setReg
theorem State.SameClock.quarantine {hd : Nat} : (s.quarantine hd).SameClock s₀ := (h.ifElse (·.setReg)).setHandle.raise

theorem State.SameClock.freePd {req d : Nat} : (s.freePd req d).SameClock s₀ :=
  h.ite (·.freeLog.raise.reportTm) (·.ite (·.freeLog.raise.quarantine.setPd.reportTm) (·.setPd.setHandle.endRead.ifThen (·.releaseHandle)))

theorem State.SameClock.dropNote {d code : Nat} : (s.dropNote d code).SameClock s₀ := h.setHandle
theorem State.SameClock.ctlSend {m w : Nat} : (s.ctlSend m w).SameClock s₀ := h.ite (·.withUnits) (·.raise)
theorem State.SameClock.sendRequest {dest : Nat} {on : Bool} : (s.sendRequest dest on).SameClock s₀ := h.withUnits.ctlSend
theorem State.SameClock.checkRequest {dest : Nat} : (s.checkRequest dest).SameClock s₀ := h.ifElse (·.withUnits.ifThen (·.sendRequest))
theorem State.SameClock.addDemand {q d : Nat} {up : Bool} : (s.addDemand q d up).SameClock s₀ := h.ifElse (·.withUnits.checkRequest)

theorem State.SameClock.evict {hd : Nat} : (s.evict hd).SameClock s₀ :=
  ((h.foldl (fun h => (h.foldl (·.addDemand)).setQueue)).foldl (·.setPd)).withUnits.landDrop.releaseHandle

theorem State.SameClock.resettle {hs : List Nat} {got : List (Nat × Nat)} : (s.resettle hs got).SameClock s₀ :=
  (h.foldl (·.ifThen (·.evict))).foldl (·.foldl (·.ifThen (·.setHandle)))

theorem State.SameClock.claimClass {req len c : Nat} {t : State} (e : s.claimClass req len = some (t, c)) : t.SameClock s₀ := by
  unfold State.claimClass at e
  split at e
  · obtain ⟨_, -, e⟩ := Option.map_eq_some_iff.mp e
    cases e
    exact h
  · obtain ⟨_, -, e⟩ := Option.map_eq_some_iff.mp e
    cases e
    exact h.resettle

theorem State.SameClock.storePacket {req colour n : Nat} {script frame : List Byte} {tag : Option Nat} {t : State}
    (e : s.storePacket req colour script frame tag = .ok (t, n)) : t.SameClock s₀ := by
  unfold State.storePacket at e
  split at e
  · cases e
  · split at e
    · cases e
    · cases e
      exact (h.claimClass ‹_›).withUnits.setHandle.setReg

theorem State.SameClock.enqueue {hd q dest : Nat} {copy : Bool} {pcdata : List Byte} {t : State}
    (e : s.enqueue hd q dest copy pcdata = some t) : t.SameClock s₀ := by
  unfold State.enqueue at e
  split at e
  · cases e
  · cases e
    exact h.setHandle.setPd.setQueue.addDemand

theorem State.SameClock.landOne {req q dest colour : Nat} {fabric copy : Bool} {script frame pcdata : List Byte} {tag : Option Nat} :
    (s.landOne req q dest colour fabric copy script frame pcdata tag).SameClock s₀ := by
  unfold State.landOne
  split
  · exact h.landDrop
  · split
    · exact h.landDrop
    · split
      exacts [((h.storePacket ‹_›).enqueue ‹_›).writtenAny, h.landDrop]

theorem State.SameClock.replError {a : Nat} : (s.replError a).SameClock s₀ := h.reportTm

theorem State.SameClock.makeCopy {j : ReplJob} : (s.makeCopy j).SameClock s₀ := by
  unfold State.makeCopy
  dsimp only
  split
  · exact h.replError.qmDrop.setHandle
  · split
    · exact h.qmDrop.setHandle
    · split
      exacts [h.enqueue ‹_›, h.qmDrop.setHandle]

theorem State.SameClock.replRun {n : Nat} : (s.replRun n).SameClock s₀ := by
  fun_induction State.replRun s n with
  | case1 s => exact h
  | case2 s n e => exact h
  | case3 s n j rest e full => exact h
  | case4 s n j rest e full s' j' s'' ih => exact ih (h.makeCopy.withUnits.ifElse (·.freePd))

theorem State.SameClock.landRepl {r : XRec} : (s.landRepl r).SameClock s₀ := by
  unfold State.landRepl
  split
  · exact h.replError.landDrop
  · split
    · exact h.landDrop
    · split
      · exact h.landDrop
      · split
        · exact h.landDrop
        · split
          exacts [h.landDrop, (h.storePacket ‹_›).setHandle.setPd.withUnits.replRun]

theorem State.SameClock.land {r : XRec} : (s.land r).SameClock s₀ :=
  h.replRun.modSample.ite (·.landDrop) (·.ite (·.landRepl) (·.ite (·.landDrop) (·.landOne)))

theorem State.SameClock.landFabric {p : FabPkt} : (s.landFabric p).SameClock s₀ := by
  refine h.ite (·.count.raise) (·.ite (·.landDrop) (fun h => ?_))
  extract_lets
  split
  exacts [h.landDrop, h.ite (·.landDrop) (·.landOne)]

theorem State.SameClock.landAll : s.landAll.SameClock s₀ := by
  unfold State.landAll
  extract_lets rs _ s1 ps s2
  have h1 : s1.SameClock s₀ := .foldl h.withUnits (·.land)
  have h2 : s2.SameClock s₀ := h1.replRun
  exact .foldl h2.withUnits (·.landFabric)

theorem State.SameClock.grantBoundary : s.grantBoundary.SameClock s₀ := h.ifElse (·.withUnits.foldl (·.ifElse (·.withUnits)))
theorem State.SameClock.loseGrants : s.loseGrants.SameClock s₀ := h.raise.withUnits

theorem State.SameClock.spendGrant {req u : Nat} {t : State} (e : s.spendGrant req u = some t) : t.SameClock s₀ := by
  unfold State.spendGrant at e
  split at e
  · split at e
    · cases e
      exact h
    · cases e
  · split at e
    · cases e
    · split at e
      · cases e
      · cases e
        exact h.withUnits

theorem State.SameClock.setDeficit {k : Nat} {v : Int} : (s.setDeficit k v).SameClock s₀ := h.withUnits
theorem State.SameClock.settleNodes {ks : List Nat} : (s.settleNodes ks).SameClock s₀ := h.foldl (·.ifElse (·.setDeficit))
theorem State.SameClock.flushPd {d : Nat} : (s.flushPd d).SameClock s₀ := h.qmDrop.dropNote.freePd

theorem State.SameClock.queueBoundary : s.queueBoundary.SameClock s₀ := by
  unfold State.queueBoundary
  extract_lets _ s1 s2 s3
  have h1 : s1.SameClock s₀ := .foldl h.withUnits (·.flushPd)
  have h2 : s2.SameClock s₀ := h1.foldl fun h =>
    State.SameClock.ifElse (State.SameClock.setQueue (State.SameClock.withUnits (h.foldl (·.addDemand)))) (·.settleNodes)
  have h3 : s3.SameClock s₀ := .foldl h2 (·.withUnits)
  exact h3.withUnits

theorem State.SameClock.bpmStart : s.bpmStart.SameClock s₀ := by
  unfold State.bpmStart
  extract_lets s1 s2
  have h2 : s2.SameClock s₀ := (h.foldl (·.setReg)).setReg
  exact h2.withUnits

/-! ### The editor -/

theorem State.SameClock.takenDrop {req d code : Nat} : (s.takenDrop req d code).SameClock s₀ := h.qmDrop.dropNote.freePd

theorem State.SameClock.bufferError {req d what : Nat} : (s.bufferError req d what).SameClock s₀ :=
  h.ite (·.reportTm.takenDrop) (·.qmDrop.reportTm.setPd.quarantine.endRead)

theorem State.SameClock.editOne {t : Taken} : (s.editOne t).SameClock s₀ := by
  unfold State.editOne
  extract_lets p hd j f _ s1
  have h1 : s1.SameClock s₀ := h.withUnits
  refine .either h1.takenDrop ?_
  split
  next t' f' marked =>
    have h2 : t'.SameClock s₀ := by
      split at marked
      · split at marked <;> cases marked
        · exact h1
        · exact h1.count
      · cases marked
        exact h1
    exact h2.withUnits

theorem State.SameClock.editAll : s.editAll.SameClock s₀ := by
  refine h.foldl (fun h => ?_)
  split
  exacts [h.editOne, h]

/-! ### The scheduler -/

theorem State.SameClock.refill {full : Bool} {k : Nat} : (s.refill full k).SameClock s₀ := h.withUnits
theorem State.SameClock.setBudget {o : Nat} {v : Int} : (s.setBudget o v).SameClock s₀ := h.withUnits
theorem State.SameClock.raiseBudget {o rate : Nat} : (s.raiseBudget o rate).SameClock s₀ := h.setBudget
theorem State.SameClock.fabricBudget {fabBytes : Nat} : (s.fabricBudget fabBytes).SameClock s₀ := (h.ifThen (·.raise)).setBudget.setReg

theorem State.SameClock.refillAll {lose : Bool} : (s.refillAll lose).SameClock s₀ :=
  ((h.ifElse (·.foldl (·.refill))).foldl (·.ifThen (·.raiseBudget))).raiseBudget

theorem State.SameClock.nodeBoundary : s.nodeBoundary.SameClock s₀ := h.withUnits
theorem State.SameClock.sampleBoundary {lose : Bool} {b : Nat} : (s.sampleBoundary lose b).SameClock s₀ := h.withUnits

/-! ### The fabric -/

theorem State.SameClock.setFabLane {l : Nat} {x : FabLane} : (s.setFabLane l x).SameClock s₀ := h.withUnits
theorem State.SameClock.sendStatus : s.sendStatus.SameClock s₀ := h.foldl (·.ifElse (·.withUnits.ctlSend))
theorem State.SameClock.sendIfPlanes {before : Nat} : (s.sendIfPlanes before).SameClock s₀ := h.ifThen (·.sendStatus)
theorem State.SameClock.putLaneSt {l v : Nat} : (s.putLaneSt l v).SameClock s₀ := h.setFld
theorem State.SameClock.fabTrain {l : Nat} {rf : Bool} : (s.fabTrain l rf).SameClock s₀ := h.putLaneSt.setFabLane.setLock
theorem State.SameClock.fabClock : s.fabClock.SameClock s₀ := h.withUnits.foldl (·.ifThen (·.ite (·.fabTrain) (·.putLaneSt)))

theorem State.SameClock.linkSetSwitch : s.linkSetSwitch.SameClock s₀ :=
  ((h.foldl (·.ite (·.putLaneSt) (·.ifThen (·.putLaneSt.setFabLane)))).foldl (·.setReg)).sendIfPlanes

theorem State.SameClock.dropStream {ds : List Nat} : (s.dropStream ds).SameClock s₀ := h.foldl (·.setHandle.freePd)

theorem State.SameClock.placeStream {b m : Nat} {ds : List Nat} {slots : List (Nat × Nat)} : (s.placeStream b m ds slots).SameClock s₀ :=
  (h.withUnits.foldl (·.count)).foldl (·.closeSample.freePd)

theorem State.SameClock.sendStream {b m : Nat} {ds : List Nat} {free : List (Nat × Nat)} : (s.sendStream b m ds free).1.SameClock s₀ := by
  unfold State.sendStream
  extract_lets _ s1 reach mine n
  have h1 : s1.SameClock s₀ := h.withUnits
  split
  · exact h1.dropStream.count
  · split
    exacts [State.SameClock.raise (State.SameClock.count h1.withUnits), h1.placeStream]

theorem State.SameClock.sendData {b : Nat} : (s.sendData b).SameClock s₀ := by
  unfold State.sendData
  exact .foldlFst h.withUnits (·.sendStream)

theorem State.SameClock.sendControl {b : Nat} : (s.sendControl b).SameClock s₀ := by
  refine h.foldl (fun h => ?_)
  split
  exacts [h, h.withUnits.count]

theorem State.SameClock.fabReadErrors {errs : List (Nat × Nat)} : (s.fabReadErrors errs).SameClock s₀ :=
  h.foldl (·.ifThen (·.withUnits.bufferError))
theorem State.SameClock.fabTransmit {b : Nat} : (s.fabTransmit b).SameClock s₀ := (h.withUnits.ifThen (·.sendData)).ifThen (·.sendControl)

theorem State.SameClock.streamRelease {b : Nat} : (s.streamRelease b).SameClock s₀ := by
  refine h.withUnits.foldl (fun h => ?_)
  split
  exacts [h.count.raise, h.withUnits]

theorem State.SameClock.grantLoop {e g sent n : Nat} : (s.grantLoop e g sent n).1.SameClock s₀ := by
  fun_induction State.grantLoop s e g sent n with
  | case1 s sent => exact h
  | case2 s sent n b stop q idle => exact h
  | case3 s sent n b stop q idle none => exact h
  | case4 s sent n b stop q idle m some s' ih => exact ih h.withUnits.ctlSend.count

theorem State.SameClock.creditBoundary : s.creditBoundary.SameClock s₀ := by
  unfold State.creditBoundary
  split
  exacts [h, .foldlFst h (·.withUnits.grantLoop)]

theorem State.SameClock.fabStart : s.fabStart.SameClock s₀ := by
  unfold State.fabStart
  exact .sendStatus (.foldl (.withUnits (.foldl (h.foldl (·.setFlag)) (·.ifThen (·.putLaneSt)))) (·.withUnits.sendRequest))

theorem State.SameClock.fabDiscard : s.fabDiscard.SameClock s₀ := h.withUnits.dropStream

end
end Sys2Proof.Machine
end

section
/-! SUPPORT. What passes in a beat keeps the time and the queue (State.SameClock): interrupts, activations, the crossing and the boundary
itself; the statements O2 and O12. -/

open Sys2Proof Sys2Proof.Machine
namespace Sys2Proof.Machine

section
variable {s₀ s : State} (h : s.SameClock s₀)
include h

/-! ### Interrupts and rings -/

theorem State.SameClock.setRing {inj : Bool} {r : Nat} {x : Machine.Ring} : (s.setRing inj r x).SameClock s₀ := h.ite (·.withUnits) (·.withUnits)
theorem State.SameClock.sendVec {v : Nat} : (s.sendVec v).SameClock s₀ := h.ite (·.withUnits) (·.setFlag)
theorem State.SameClock.irq : s.irq.SameClock s₀ := (h.foldl (·.ifThen (·.setFlag.sendVec))).withUnits
theorem State.SameClock.headNext {inj : Bool} {r : Nat} : (s.headNext inj r).SameClock s₀ := h.setReg.ifThen (·.setRing)
theorem State.SameClock.puntRefuse {r why : Nat} : (s.puntRefuse r why).SameClock s₀ := h.bumpReg.raise.ifThen (·.raise)

theorem State.SameClock.puntOffer {r : Nat} {p : Punt} : (s.puntOffer r p).1.SameClock s₀ := by
  unfold State.puntOffer
  extract_lets x
  split
  · exact h.puntRefuse (r := r) (why := 1)
  · split
    exacts [h.puntRefuse (r := r) (why := 2), h.setRing (inj := false) (r := r)]

theorem State.SameClock.dmaWrite {mss : Bool} {a : Nat} {bs : List Byte} : (s.dmaWrite mss a bs).SameClock s₀ := h.withUnits

theorem State.SameClock.injectFlush {r n : Nat} : (s.injectFlush r n).SameClock s₀ := by
  fun_induction State.injectFlush s r n with
  | case1 s => exact h
  | case2 s n x st rest e s1 s2 ih => exact ih h.dmaWrite.setRing.headNext.count
  | case3 s n x e => exact h

theorem State.SameClock.injectDone {inj : Option (Nat × Nat)} {st : Nat} : (s.injectDone inj st).SameClock s₀ := by
  unfold State.injectDone
  split
  exacts [h, h.ifElse (·.setRing.injectFlush)]

theorem State.SameClock.injectBudget : s.injectBudget.SameClock s₀ := h.withUnits

/-! ### Activation slots -/

theorem State.SameClock.setArmed {k : SlotId} {x : Option Armed} : (s.setArmed k x).SameClock s₀ := h.withBus.setFlag
theorem State.SameClock.slotApplied {k : SlotId} : (s.slotApplied k).SameClock s₀ := h.setArmed.raise.ifThen (·.raise.raise.bumpReg.count)
theorem State.SameClock.alignBoundary : s.alignBoundary.SameClock s₀ := h.ifElse (·.setReg.setReg.setFlag.ifThen (·.raise.ifThen (·.report)))
theorem State.SameClock.pmuSnapshot {b : Nat} : (s.pmuSnapshot b).SameClock s₀ := h.withUnits.setReg.setReg64

/-! ### Stop-change-restart -/

theorem State.SameClock.setScrSt {k : ScrId} {x : ScrSt} : (s.setScrSt k x).SameClock s₀ := h.withBus
theorem State.SameClock.scrReject {k : ScrId} {why : Nat} : (s.scrReject k why).SameClock s₀ := h.raise.setFld
theorem State.SameClock.scrAccept {k : ScrId} {cmd : Nat} : (s.scrAccept k cmd).SameClock s₀ := h.setScrSt

theorem State.SameClock.startCmd {k : ScrId} : (s.startCmd k).SameClock s₀ :=
  h.ite (·.scrReject) (·.ite (·.scrReject) (·.ite (·.scrReject) (·.ite (·.scrReject) (·.ite (·.scrReject) (·.scrAccept)))))

theorem State.SameClock.stopCmd {k : ScrId} : (s.stopCmd k).SameClock s₀ :=
  h.ite (·.scrReject) (·.ite (·.scrReject) (·.ite (·.scrReject) (·.scrAccept)))

theorem State.SameClock.laneRates {g : Nat} {on : Bool} : (s.laneRates g on).SameClock s₀ := h.foldl (·.setFld)

theorem State.SameClock.startActs {k : ScrId} : (s.startActs k).SameClock s₀ := by
  unfold State.startActs
  split
  exacts [h.laneRates.pcsReset.refreshGroup, h.flxReset.applyCli.takeRxCli, h.lkpStart, h.tcmStart, h.bpmStart, h.aveStarts, h]

theorem State.SameClock.startDone {k : ScrId} : (s.startDone k).SameClock s₀ := by
  unfold State.startDone
  split
  exacts [h.refreshGroup, h.refreshGroup, h.fabStart, h]

theorem State.SameClock.stopActs {k : ScrId} : (s.stopActs k).SameClock s₀ := by
  unfold State.stopActs
  split
  exacts [h.refreshGroup, h.flxReset.foldl (·.refreshGroup), h.ifThen (·.dropTrace.dropTrace), h.tcmStop, h]

theorem State.SameClock.stopDone {k : ScrId} : (s.stopDone k).SameClock s₀ := by
  unfold State.stopDone
  split
  exacts [h.laneRates.refreshGroup, h]

theorem State.SameClock.faultActs {k : ScrId} {code : BitVec 8} : (s.faultActs k code).SameClock s₀ := by
  unfold State.faultActs
  split
  exacts [h.ifThen (·.fabDiscard), h.report, h.refreshGroup, h.refreshGroup, h]

theorem State.SameClock.scrEnter {k : ScrId} {st : Nat} : (s.scrEnter k st).SameClock s₀ := h.setFld.setScrSt

theorem State.SameClock.scrStep {k : ScrId} : (s.scrStep k).SameClock s₀ := by
  refine h.ite (·.setFld.scrEnter.startActs) fun h => h.ite (fun h => h.ite (·.scrEnter.stopDone) (·.scrEnter.stopActs)) fun h => ?_
  split
  exacts [h.scrEnter.startDone, h.setFld.scrEnter.faultActs, h.scrEnter.stopDone, h.ifThen (·.scrEnter.stopDone)]

theorem State.SameClock.scrBoundary : s.scrBoundary.SameClock s₀ := h.ifElse (·.foldl (·.ifElse (·.scrStep)))

/-! ### The crossing -/

theorem State.SameClock.recircEnter {l : Nat} {x : Exit} : (s.recircEnter l x).SameClock s₀ :=
  h.ite (·.dropPkt) (·.ite (·.raise.dropPkt) (·.setPkt.withUnits))

theorem State.SameClock.recircExit {l : Nat} {x : Exit} {e : Exits} : (s.recircExit l x e).1.SameClock s₀ := by
  unfold State.recircExit
  dsimp only
  split
  · split
    exacts [h.raise, h.raise.dropPkt]
  · split
    · split
      exacts [h.raise, h.raise.dropPkt]
    · exact h.setFld.recircEnter

theorem State.SameClock.exitOne {l : Nat} {x : Exit} {e : Exits} : (s.exitOne l x e).1.SameClock s₀ := by
  unfold State.exitOne
  extract_lets pk b s1 s2
  have h2 : s2.SameClock s₀ := by
    unfold s2
    split
    exacts [h.modSample.ifElse (·.lrnOffer), h.modSample]
  split
  · exact h2.dropPkt
  · split
    · exact h2
    · exact h2
    · exact h2
    · exact h2.recircExit
    · split
      exacts [h2.count.closeSample.forget, h2.dropPkt]

theorem State.SameClock.exitAll {b : Nat} : (s.exitAll b).1.SameClock s₀ := by
  unfold State.exitAll
  refine .foldlFst h fun {a l} ha => ?_
  exact .foldlFst (State.SameClock.foldlFst (a := (a.1, [])) ha (·.takeExits)) (·.exitOne)

theorem State.SameClock.puntDrop {l ring pkt why unit code : Nat} : (s.puntDrop l ring pkt why unit code).SameClock s₀ :=
  h.ite (·.dropPkt) (·.dropPkt)

theorem State.SameClock.puntOfPkt {ring pkt : Nat} {p : Punt} : (s.puntOfPkt ring pkt p).1.SameClock s₀ := by
  unfold State.puntOfPkt
  split
  exacts [h.puntRefuse (r := ring) (why := 1), h.puntOffer]

theorem State.SameClock.puntsOf {r : Nat} {es : List (Nat × Exits)} {egress firmware : List (Nat × Punt)} :
    (s.puntsOf r es egress firmware).SameClock s₀ := by
  refine h.ite (·.foldl fun h => h.foldl fun {s x} h => ?_) (·.foldl fun {s x} h => ?_)
  · have offered : (s.puntOfPkt x.1 x.2.1 x.2.2.1).1.SameClock s₀ := h.puntOfPkt
    dsimp only
    split
    next e =>
      rw [e] at offered
      exact offered.forget
    next e =>
      rw [e] at offered
      exact offered.puntDrop
  · have offered : (s.puntOffer x.1 x.2).1.SameClock s₀ := h.puntOffer
    split
    next e =>
      rw [e] at offered
      exact offered
    next e =>
      rw [e] at offered
      exact offered.count.closeSample

theorem State.SameClock.puntAll {b : Nat} {es : List (Nat × Exits)} {egress : List (Nat × Punt)} : (s.puntAll b es egress).SameClock s₀ :=
  h.withUnits.foldl (·.puntsOf)

theorem State.SameClock.markFlit {pos : Nat} {r : XRec} : (s.markFlit pos r).SameClock s₀ := h.ifThen (·.withUnits)
theorem State.SameClock.handed {r : XRec} : (s.handed r).SameClock s₀ := (h.ifElse (·.patCopy.forget)).injectDone

theorem State.SameClock.recDrop {r : XRec} {unit code st : Nat} : (s.recDrop r unit code st).SameClock s₀ :=
  (h.closeSample.ifElse (·.forget)).injectDone

omit h in
theorem placeTm_sameClock {b req : Nat} {spilled : Bool} {w : Placing XRec} {rs : List XRec} (h : w.s.SameClock s₀) :
    (placeTm b req spilled w rs).s.SameClock s₀ := by
  fun_induction placeTm b req spilled w rs with
  | case1 w => exact h
  | case2 w r rest fits s' e ih => exact ih (h.spendGrant e).handed.markFlit
  | case3 w r rest fits e ih => exact ih h.qmDrop.recDrop
  | case4 w r rest full spilt => exact .foldl h (·.count.raise.recDrop)
  | case5 w r rest full spilt => exact h.withUnits

theorem State.SameClock.placeAllTm {b : Nat} {es : List (Nat × Exits)} : (s.placeAllTm b es).SameClock s₀ := by
  unfold State.placeAllTm
  extract_lets spill offer _ s1 order w1 new w2 _ _ s2
  have h1 : s1.SameClock s₀ := h.withUnits
  have hw1 : w1.s.SameClock s₀ := foldl_keeps (fun w : Placing XRec => w.s.SameClock s₀) _ (fun _ _ => placeTm_sameClock) _ _ h1
  have hw2 : w2.s.SameClock s₀ := foldl_keeps (fun w : Placing XRec => w.s.SameClock s₀) _ (fun _ _ => placeTm_sameClock) _ _ hw1
  have h2 : s2.SameClock s₀ := hw2.withUnits
  exact h2.ifElse (·.written')

omit h in
theorem placeFe_sameClock {req : Nat} {spilled : Bool} {w : Placing ERec} {rs : List ERec} (h : w.s.SameClock s₀) :
    (placeFe req spilled w rs).s.SameClock s₀ := by
  fun_induction placeFe req spilled w rs with
  | case1 w => exact h
  | case2 w r rest fits s' ih => exact ih (h.ifElse (·.closeSample)).freePd
  | case3 w r rest full spilt => exact .foldl h (·.count.raise.closeSample.freePd)
  | case4 w r rest full spilt => exact h.withUnits

theorem State.SameClock.placeAllFe {b : Nat} : (s.placeAllFe b).SameClock s₀ := by
  unfold State.placeAllFe
  extract_lets spill out _ _ s1 order w1 w2 _ _ s2
  have h1 : s1.SameClock s₀ := h.withUnits
  have hw1 : w1.s.SameClock s₀ := foldl_keeps (fun w : Placing ERec => w.s.SameClock s₀) _ (fun _ _ => placeFe_sameClock) _ _ h1
  have hw2 : w2.s.SameClock s₀ := foldl_keeps (fun w : Placing ERec => w.s.SameClock s₀) _ (fun _ _ => placeFe_sameClock) _ _ hw1
  have h2 : s2.SameClock s₀ := hw2.withUnits
  exact h2.ifElse (·.written')

theorem State.SameClock.checkFlits {toTm : Bool} {badData : List Nat} {badCtl : Bool} : (s.checkFlits toTm badData badCtl).SameClock s₀ := by
  unfold State.checkFlits
  extract_lets dir bad s1 c1 _ s2 flyTm _ s3 flyFe s4
  have h1 : s1.SameClock s₀ := h.foldl fun h => h.ite (·.reportTm) (·.report)
  have hc : c1.SameClock s₀ := State.SameClock.raise (h1.ite (·.reportTm) (·.report))
  have h2 : s2.SameClock s₀ := .ifThen h1 fun _ => hc.ifElse fun h => State.SameClock.loseGrants h.withUnits
  have h3 : s3.SameClock s₀ := h2.withUnits
  have h4 : s4.SameClock s₀ := h2.withUnits
  exact .either (h3.foldl fun h => h.ite (·.count.raise.closeSample) (·.withUnits)) (h4.foldl fun h => h.ite (·.count.raise.closeSample)
    (·.withUnits))

theorem State.SameClock.deliver : s.deliver.1.SameClock s₀ := (h.ifElse (·.checkFlits)).withUnits.withUnits.foldl (·.errEnter)

/-! ### Refreshes of the stacked DRAM -/

theorem State.SameClock.setBank {pc b : Nat} {x : DramBank} : (s.setBank pc b x).SameClock s₀ := h.withUnits
theorem State.SameClock.bankRefresh {pc bank : Nat} : (s.bankRefresh pc bank).SameClock s₀ := h.setBank
theorem State.SameClock.refreshClock : s.refreshClock.SameClock s₀ := h.foldl (·.foldl (·.ifThen (·.count.bankRefresh)))

/-! ### Clocks and boundaries -/

theorem State.SameClock.pmuBoundary : s.pmuBoundary.SameClock s₀ := h.withUnits

theorem State.SameClock.clockStart : s.clockStart.SameClock s₀ :=
  h.commitWaiting.kerbClock.flxClock.statClock.bankClock.searchClock.polSlots.ovlFree.hashClock.rewriteClock.leafSample.fabClock.refreshClock.irq

theorem State.SameClock.overrun {x n : Nat} : (s.overrun x n).SameClock s₀ := h.raise.report.count
theorem State.SameClock.overPd {req d : Nat} : (s.overPd req d).SameClock s₀ := h.setHandle.freePd

theorem State.SameClock.endOfBeat {overs : List (Fin 10)} : (s.endOfBeat overs).SameClock s₀ :=
  (h.ifThen (·.overrun.withUnits.foldl (·.closeSample))).landAll.ite
    (fun h => (h.overrun.withUnits.foldl (·.overPd)).foldl (·.overPd)) (·.editAll)

theorem State.SameClock.swapAll {b : Nat} {overs : List (Fin 10)} : (s.swapAll b overs).SameClock s₀ := by
  unfold State.swapAll
  split
  next s0 egress e0 =>
  have h0 : s0.SameClock s₀ := .ofFst h.deliver e0
  extract_lets rs o1 _ s1 lost o8 _ s2 s3
  have h1 : s1.SameClock s₀ := h0.ifThen fun h => State.SameClock.foldl h.overrun.withUnits (·.recDrop)
  have h2 : s2.SameClock s₀ := h1.ifThen (·.overrun.withUnits)
  split
  next s4 es e4 =>
  have h4 : s4.SameClock s₀ := .ofFst h2.placeAllFe.exitAll e4
  extract_lets s5 s6 s7 o5 _ s8
  have h6 : s6.SameClock s₀ := h4.puntAll.placeAllTm
  have h8 : s8.SameClock s₀ := (h6.ifThen (·.overrun)).ifThen (·.overrun.withUnits)
  exact h8.statBoundary

theorem State.SameClock.afterReg {a : Nat} : (s.afterReg a).SameClock s₀ := h.ifThen (·.refreshCtx)
theorem State.SameClock.applyReg {e : Nat × Nat × Nat} : (s.applyReg e).SameClock s₀ := h.withBus.setReg.afterReg
theorem State.SameClock.forgetBefore : s.forgetBefore.SameClock s₀ := h.withBus

theorem State.SameClock.consumeAll {b : Nat} {bad : List (BitVec 27 × Fin 3)} : (s.consumeAll b bad).SameClock s₀ := by
  unfold State.consumeAll
  exact h.fabReadErrors.fabTransmit.streamRelease.dramBoundary

theorem State.SameClock.slotEffect {b : Nat} {k : SlotId} : (s.slotEffect b k).SameClock s₀ := by
  unfold State.slotEffect
  split
  exacts [h.calSwitchRequest, h.pgSwitch, h.psSwitch, h, h.patSwitch, h.setFlag, h.linkSetSwitch, h.pmuSnapshot]

theorem State.SameClock.applyAll {b : Nat} : (s.applyAll b).SameClock s₀ := by
  unfold State.applyAll
  extract_lets due pend _ s1 s2 _ s3 ws
  have h1 : s1.SameClock s₀ := .foldl h.withBus (·.applyReg)
  have h2 : s2.SameClock s₀ := h1.foldl (·.slotApplied.slotEffect)
  have h3 : s3.SameClock s₀ := h2.ifThen (·.withUnits)
  exact h3.fibBoundary.overlayBoundary.queueBoundary.nodeBoundary

theorem State.SameClock.postponeAll {b : Nat} : (s.postponeAll b).SameClock s₀ := by
  unfold State.postponeAll
  extract_lets due s1 s2
  have h2 : s2.SameClock s₀ := by
    refine .foldl h.overrun fun h => ?_
    split
    exacts [h.setArmed, h]
  exact h2.withUnits

theorem State.SameClock.remapStep {k : Nat} : (s.remapStep k).SameClock s₀ := by
  unfold State.remapStep
  extract_lets
  split
  · exact h.withUnits
  · refine State.SameClock.either h ?_
    split
    exacts [h.withUnits, h.withUnits.withUnits.remapEngine]

theorem State.SameClock.outClear : s.outClear.SameClock s₀ := h.ifElse (·.withUnits)

theorem State.SameClock.rehomeStep : s.rehomeStep.SameClock s₀ := by
  unfold State.rehomeStep
  split
  · exact h
  · refine h.ite (fun h => ?_) fun h => h.ite (fun h => h.ite (fun h => ?_) fun h => ?_) fun h => ?_
    · exact .withUnits (.dite (fun _ => h.stopCmd) fun _ => h)
    · exact .withUnits (.dite (fun _ => h.setReg.setReg.setReg.startCmd) fun _ => h.setReg.setReg.setReg)
    · exact h.ifThen (·.withUnits)
    · exact h.ite (·.setReg.withUnits) (·.ifThen (·.withUnits))

theorem State.SameClock.bistMirror : s.bistMirror.SameClock s₀ := (h.foldl (·.setFlag)).passTested
theorem State.SameClock.rcRefill {rate : Nat} : (s.rcRefill rate).SameClock s₀ := h.setFld

end

section
variable {s₀ s : State}

/-! ### The time itself -/

/-- s with n clocks passed. -/
def State.passed (s : State) (n : Nat) : State :=
  { s with bus := { s.bus with clk := s.bus.clk + BitVec.ofNat 8 n, ticks := s.bus.ticks + n } }

/-- s at clock 0 of the next beat. -/
def State.nextBeat (s : State) : State := { s with bus := { s.bus with beat := s.bus.beat + 1, clk := 0 } }

theorem State.passed_passed (s : State) (m n : Nat) : (s.passed m).passed n = s.passed (m + n) := by
  simp [State.passed, BitVec.add_assoc, BitVec.ofNat_add, Nat.add_assoc]

/-- A clock counted. -/
theorem State.SameClock.tick {late : Tab (Option Word)} {used : Tab Nat} (h : s.SameClock s₀) :
    ({ s with bus := { s.bus with ticks := s.bus.ticks + 1, clk := s.bus.clk + 1, used := used, late := late } } : State).SameClock (s₀.passed 1) :=
  ⟨h.beat, congrArg (· + _) h.clk, congrArg (· + _) h.ticks, h.pending⟩

theorem State.SameClock.beginBeat (h : s.SameClock s₀) : s.beginBeat.SameClock s₀.nextBeat :=
  ⟨congrArg (· + _) h.beat, rfl, h.ticks, h.pending⟩

/-- A clock ends: the count of clocks and the clock of the beat are one higher. -/
theorem State.SameClock.clockEnd (h : s.SameClock s₀) : s.clockEnd.SameClock (s₀.passed 1) := h.parseEnds.windowEnds.rcMerge.tick

theorem State.SameClock.clockTick (h : s.SameClock s₀) : s.clockTick.SameClock (s₀.passed 1) := h.clockEnd.clockStart

theorem State.clocks_succ (s : State) (n : Nat) : s.clocks (n + 1) = s.clockTick.clocks n := by
  rw [State.clocks]

theorem State.SameClock.clocks {n : Nat} (h : s.SameClock s₀) : (s.clocks n).SameClock (s₀.passed n) := by
  induction n generalizing s s₀ with
  | zero => exact h.trans ⟨rfl, by simp [State.passed], rfl, rfl⟩
  | succ n ih =>
    rw [State.clocks_succ, Nat.add_comm, ← State.passed_passed]
    exact ih h.clockTick

/-- A boundary: whatever overran, it begins the next beat and then leaves the time alone. -/
theorem State.SameClock.beatBoundary {overs : List (Fin 10)} {bad : List (BitVec 27 × Fin 3)} (h : s.SameClock s₀) :
    (s.beatBoundary overs bad).SameClock s₀.nextBeat :=
  ((((h.endOfBeat.pmuBoundary.beginBeat.rcRefill.swapAll.forgetBefore.ite (·.postponeAll) (·.applyAll)).consumeAll.endOldProt.alignBoundary.ifThen
    (·.overrun)).refillAll.injectBudget.ifThen (·.overrun)).sampleBoundary.grantBoundary.creditBoundary.scrBoundary.fabricBudget.foldl
    (·.remapStep)).outClear.rehomeStep.bistMirror.irq

end

/-- An idle step inside a beat is one clock. -/
theorem State.idle_of_inside {s : State} (h : s.bus.clk ≠ 255) : s.idle = s.clockTick := if_neg h

end Sys2Proof.Machine

/-- Settles O2: inside a beat an idle step is a clock, `State.clockTick`, which ends by counting and leaves the time alone as the next begins. -/
theorem idleStepPassesOneClock : Obligations.IdleStepPassesOneClock := by
  unfold Obligations.IdleStepPassesOneClock
  intro s hempty hclk
  have hrun : step s = .next s.clockTick := by
    simp only [step, hempty]
    rw [State.idle_of_inside hclk]
  have htick := (State.SameClock.refl s).clockTick
  exact ⟨_, hrun, htick.ticks, htick.clk, htick.beat, htick.pending.trans hempty⟩

/-- Settles O12: the rest of the beat passes, its last clock ends, and the boundary begins the next beat; nothing else of it moves the time. -/
theorem beatBoundaryBeginsNextBeat : Obligations.BeatBoundaryBeginsNextBeat := by
  unfold Obligations.BeatBoundaryBeginsNextBeat
  intro overs bad s
  have hlast := ((State.SameClock.refl s).clocks (n := 255 - s.bus.clk.toNat)).clockEnd
  have hnext := (hlast.beatBoundary (overs := overs) (bad := bad)).clockStart
  rw [State.passed_passed] at hnext
  have hlt : s.bus.clk.toNat < 256 := s.bus.clk.isLt
  refine ⟨_, rfl, hnext.beat, hnext.clk, ?_, hnext.pending⟩
  rw [hnext.ticks]
  simp only [State.nextBeat, State.passed]
  omega

end

section
/-! SUPPORT. What a defect bit and the refresh of a port group change, and what they leave. -/

open Sys2Proof Sys2Proof.Machine
namespace Sys2Proof
namespace Machine

/-! ### Folds over a list with a bound on its members -/

/-- What each step of a fold keeps for the members of its list, the fold keeps. -/
theorem foldl_keeps_of_mem {σ β : Type} (P : σ → Prop) (f : σ → β → σ) :
    ∀ (l : List β) (s : σ), (∀ s, ∀ x ∈ l, P s → P (f s x)) → P s → P (l.foldl f s)
  | [], _, _, h => h
  | x :: l, s, hf, h =>
    foldl_keeps_of_mem P f l (f s x) (fun s y hy => hf s y (List.mem_cons_of_mem x hy)) (hf s x List.mem_cons_self h)

/-! ### A defect bit (R58, R71, R75) -/

/-- A flag written leaves every flag of another place, in whatever register. -/
theorem State.flag_setFlag_of_ne (s : State) (a c : Nat) {i j : Nat} (b : Bool) (hj : j ≤ 31) (h : j ≠ i) :
    (s.setFlag c i b).flag a j = s.flag a j := by
  by_cases hac : a = c
  · rw [hac, s.flag_setFlag_other c b hj h]
  · exact s.flag_setFlag_ne i j b hac

theorem State.reg_setDefect_ne (s : State) {live i a : Nat} (on : Bool) (h : a ≠ live) (h4 : a ≠ live + 4) :
    (s.setDefect live i on).reg a = s.reg a := by
  cases on
  · exact s.reg_setFlag_ne i false h
  · exact (State.reg_setFlag_ne _ i true h4).trans (s.reg_setFlag_ne i true h)

/-- A defect's live bit follows what it is set to. -/
theorem State.flag_setDefect_live (s : State) (live : Nat) {i : Nat} (on : Bool) (hi : i ≤ 31) : (s.setDefect live i on).flag live i = on := by
  cases on
  · exact s.flag_setFlag_self live false hi
  · exact (State.flag_setFlag_ne _ i i true (by omega)).trans (s.flag_setFlag_self live true hi)

/-- A defect that is set is latched. -/
theorem State.flag_setDefect_latch (s : State) (live : Nat) {i : Nat} (hi : i ≤ 31) : (s.setDefect live i true).flag (live + 4) i = true :=
  State.flag_raise_self _ _ hi

/-- A defect that is cleared stays latched as it was. -/
theorem State.flag_setDefect_off_latch (s : State) (live i j : Nat) : (s.setDefect live i false).flag (live + 4) j = s.flag (live + 4) j :=
  s.flag_setFlag_ne i j false (by omega)

/-- A defect leaves every flag of another place, in whatever register. -/
theorem State.flag_setDefect_of_ne (s : State) (live a : Nat) {i j : Nat} (on : Bool) (hj : j ≤ 31) (h : j ≠ i) :
    (s.setDefect live i on).flag a j = s.flag a j := by
  cases on
  · exact s.flag_setFlag_of_ne a live false hj h
  · exact (State.flag_setFlag_of_ne _ a (live + 4) true hj h).trans (s.flag_setFlag_of_ne a live true hj h)

/-- A flag that is set stays set when a defect is set or cleared whose live register is another. -/
theorem State.flag_setDefect_of_set {s : State} {live a i j : Nat} (on : Bool) (hj : j ≤ 31) (h : a ≠ live) (hs : s.flag a j = true) :
    (s.setDefect live i on).flag a j = true := by
  by_cases hji : j = i
  · subst hji
    have hlive (b : Bool) : (s.setFlag live j b).flag a j = true := (s.flag_setFlag_ne j j b h).trans hs
    cases on
    · exact hlive false
    · by_cases ha : a = live + 4
      · subst ha
        exact s.flag_setDefect_latch live hj
      · exact (State.flag_setFlag_ne _ j j true ha).trans (hlive true)
  · exact (s.flag_setDefect_of_ne live a on hj hji).trans hs

/-- What registers do not belong to, a defect leaves. -/
theorem State.setDefect_part {γ : Type} (q : State → γ) (hr : ∀ (s : State) x, q { s with bus := { s.bus with regs := x } } = q s)
    (s : State) (live i : Nat) (on : Bool) : q (s.setDefect live i on) = q s := by
  cases on
  · exact hr s _
  · exact (hr _ _).trans (hr s _)

@[simp] theorem State.setDefect_line (s : State) (live i : Nat) (on : Bool) : (s.setDefect live i on).line = s.line :=
  s.setDefect_part (·.line) (fun _ _ => rfl) live i on

/-! ### What a reception that is lost changes (R59) -/

/-- What neither the counters nor the frames in reception belong to, a reception that is lost leaves. -/
theorem State.loseReception_part {γ : Type} (q : State → γ) (hp : ∀ (s : State) x, q { s with pmu := x } = q s)
    (hl : ∀ (s : State) rx pkts g gf gs,
      q { s with line := { s.line with rx := rx, pkts := pkts, gather := g, gatherFec := gf, gatherFcs := gs } } = q s)
    (s : State) (m code : Nat) : q (s.loseReception m code) = q s := by
  have hrx (t : State) (v : Nat) : q (t.setRx m v) = q t := hl t (Tab.set 0 t.line.rx m v) _ _ _ _
  unfold State.loseReception
  split
  · next n _ => exact (hrx _ 2).trans (hl s _ (Tab.set {} s.line.pkts n _) _ _ _)
  · split
    · exact (hrx _ 2).trans ((hl (s.count 0x10 code m 1) _ _ _ _ _).trans (hp s _))
    · split
      · exact hrx s 2
      · rfl

/-! ### What the refresh of a port group keeps -/

/-- The registers that a refresh of a port group may write: the defects of ports and FlexE groups and LINE_MAC_STAT. -/
def refreshedReg (a : Nat) : Prop :=
  (0x1020000 ≤ a ∧ a < 0x1030000 ∧ a % 0x40 < 8) ∨ (0x1030000 ≤ a ∧ a < 0x1080000 ∧ a % 0x40 = 4)
    ∨ (0x1080000 ≤ a ∧ a < 0x10C0000 ∧ 0x50 ≤ a % 0x1000 ∧ a % 0x1000 ≤ 0x58)

/-- P is kept by each of the writes that a refresh of a port group is made of. -/
structure RefreshKeeps (P : State → Prop) : Prop where
  up : ∀ {s : State} {p : Nat} (b : Bool), p < 96 → P s → P (s.setFlag (defLive p) 8 b)
  downLatch : ∀ {s : State} {p : Nat}, p < 96 → P s → P (s.raise (defLive p + 4) 8)
  flxDefect : ∀ {s : State} {f : Nat} (i : Nat) (on : Bool), f < 12 → P s → P (s.setDefect (flxBase f + 0x50) i on)
  flxSkew : ∀ {s : State} {f : Nat} (v : Nat), f < 12 → P s → P (s.setReg (flxBase f + 0x58) v)
  macStat : ∀ {s : State} {m : Nat} (v : Nat), m < 192 → P s → P (s.setReg (macStat m) v)
  lose : ∀ {s : State} (m code : Nat), P s → P (s.loseReception m code)

section
variable {P : State → Prop} (h : RefreshKeeps P) {s : State}
include h

theorem RefreshKeeps.refreshPort {p : Nat} (hp : p < 96) (hs : P s) : P (s.refreshPort p) := by
  unfold State.refreshPort
  refine h.up _ hp ?_
  split
  · exact h.downLatch hp hs
  · exact hs

theorem RefreshKeeps.refreshFlx {f : Nat} (hf : f < 12) (hs : P s) : P (s.refreshFlx f) :=
  h.flxDefect _ _ hf (h.flxDefect _ _ hf (h.flxSkew _ hf (foldl_keeps P _ (fun _ i => h.flxDefect i _ hf) _ _ (h.flxDefect _ _ hf hs))))

theorem RefreshKeeps.refreshCtx {m : Nat} (hm : m < 192) (hs : P s) : P (s.refreshCtx m) := by
  unfold State.refreshCtx
  extract_lets
  split
  · exact h.lose _ _ (h.macStat _ hm hs)
  · exact h.macStat _ hm hs

/-- The contexts of a port group, and of the one before it, refreshed. -/
theorem RefreshKeeps.refreshCtxs {g : Nat} (hg : g < 12) (hs : P s) :
    P ((List.range 32).foldl (fun s i => if 16 * g + i < 192 then s.refreshCtx (16 * g + i) else s)
      (if g = 0 then s else (List.range 16).foldl (fun s i => s.refreshCtx (16 * (g - 1) + i)) s)) := by
  refine foldl_keeps P _ (fun t i ht => ?_) _ _ ?_
  · split
    · next hm => exact h.refreshCtx hm ht
    · exact ht
  · split
    · exact hs
    · refine foldl_keeps_of_mem P _ _ _ (fun t i hi ht => h.refreshCtx ?_ ht) hs
      have := List.mem_range.1 hi
      omega

/-- The ports of a group refreshed. -/
theorem RefreshKeeps.refreshPorts {g : Nat} (hg : g < 12) (hs : P s) : P ((List.range 8).foldl (fun s i => s.refreshPort (8 * g + i)) s) := by
  refine foldl_keeps_of_mem P _ _ _ (fun t i hi ht => h.refreshPort ?_ ht) hs
  have := List.mem_range.1 hi
  omega

theorem RefreshKeeps.refreshGroup {g : Nat} (hg : g < 12) (hs : P s) : P (s.refreshGroup g) := by
  refine h.refreshCtxs hg ?_
  have hflx := h.refreshFlx hg (h.refreshPorts hg hs)
  split
  · exact hflx
  · exact h.refreshFlx (by omega) hflx

end

/-- A quantity that neither registers, counters nor frames in reception belong to. -/
theorem RefreshKeeps.part {γ : Type} (q : State → γ) (hr : ∀ (s : State) x, q { s with bus := { s.bus with regs := x } } = q s)
    (hp : ∀ (s : State) x, q { s with pmu := x } = q s)
    (hl : ∀ (s : State) rx pkts g gf gs,
      q { s with line := { s.line with rx := rx, pkts := pkts, gather := g, gatherFec := gf, gatherFcs := gs } } = q s)
    (c : γ) : RefreshKeeps fun s => q s = c where
  up _ _ hs := (hr _ _).trans hs
  downLatch _ hs := (hr _ _).trans hs
  flxDefect _ _ _ hs := (State.setDefect_part q hr _ _ _ _).trans hs
  flxSkew _ _ hs := (hr _ _).trans hs
  macStat _ _ hs := (hr _ _).trans hs
  lose _ _ hs := (State.loseReception_part q hp hl _ _ _).trans hs

theorem State.reg_loseReception (s : State) (m code a : Nat) : (s.loseReception m code).reg a = s.reg a :=
  State.loseReception_part (fun t : State => t.reg a) (fun _ _ => rfl) (fun _ _ _ _ _ _ => rfl) s m code

theorem RefreshKeeps.reg {a : Nat} (h : ¬ refreshedReg a) (v : Nat) : RefreshKeeps fun s => s.reg a = v where
  up _ hp hs := (State.reg_setFlag_ne _ _ _ (by unfold refreshedReg at h; unfold defLive; omega)).trans hs
  downLatch hp hs := (State.reg_setFlag_ne _ _ _ (by unfold refreshedReg at h; unfold defLive; omega)).trans hs
  flxDefect _ _ hf hs := (State.reg_setDefect_ne _ _ (by unfold refreshedReg at h; unfold flxBase; omega)
    (by unfold refreshedReg at h; unfold flxBase; omega)).trans hs
  flxSkew _ hf hs := (State.reg_setReg_ne _ _ (by unfold refreshedReg at h; unfold flxBase; omega)).trans hs
  macStat _ hm hs := (State.reg_setReg_ne _ _ (by unfold refreshedReg at h; unfold Machine.macStat; omega)).trans hs
  lose _ _ hs := (State.reg_loseReception _ _ _ _).trans hs

/-- Of the defects of ports a refresh changes only the bit that says whether the port is up. -/
theorem RefreshKeeps.portFlag {a i : Nat} (hlo : 0x1020000 ≤ a) (hhi : a < 0x1030000) (hi : i ≤ 31) (h8 : i ≠ 8) (b : Bool) :
    RefreshKeeps fun s => s.flag a i = b where
  up _ _ hs := (State.flag_setFlag_of_ne _ _ _ _ hi h8).trans hs
  downLatch _ hs := (State.flag_setFlag_of_ne _ _ _ _ hi h8).trans hs
  flxDefect _ _ _ hs := (congrArg (bitOf · i) (State.reg_setDefect_ne _ _ (by unfold flxBase; omega) (by unfold flxBase; omega))).trans hs
  flxSkew _ _ hs := (State.flag_setReg_ne _ _ _ (by unfold flxBase; omega)).trans hs
  macStat _ _ hs := (State.flag_setReg_ne _ _ _ (by unfold Machine.macStat; omega)).trans hs
  lose _ _ hs := (congrArg (bitOf · i) (State.reg_loseReception _ _ _ _)).trans hs

theorem State.refreshGroup_part {γ : Type} (q : State → γ) (hr : ∀ (s : State) x, q { s with bus := { s.bus with regs := x } } = q s)
    (hp : ∀ (s : State) x, q { s with pmu := x } = q s)
    (hl : ∀ (s : State) rx pkts g gf gs,
      q { s with line := { s.line with rx := rx, pkts := pkts, gather := g, gatherFec := gf, gatherFcs := gs } } = q s)
    (s : State) {g : Nat} (hg : g < 12) : q (s.refreshGroup g) = q s := (RefreshKeeps.part q hr hp hl (q s)).refreshGroup hg rfl

theorem State.reg_refreshGroup (s : State) {g a : Nat} (hg : g < 12) (h : ¬ refreshedReg a) : (s.refreshGroup g).reg a = s.reg a :=
  (RefreshKeeps.reg h (s.reg a)).refreshGroup hg rfl

theorem State.fld_refreshGroup (s : State) {g a : Nat} (hg : g < 12) (h : ¬ refreshedReg a) (hi lo : Nat) :
    (s.refreshGroup g).fld a hi lo = s.fld a hi lo := congrArg (bits · hi lo) (s.reg_refreshGroup hg h)

theorem State.flag_refreshGroup (s : State) {g a : Nat} (hg : g < 12) (h : ¬ refreshedReg a) (i : Nat) :
    (s.refreshGroup g).flag a i = s.flag a i := congrArg (bitOf · i) (s.reg_refreshGroup hg h)

theorem State.flag_refreshGroup_live (s : State) {g p i : Nat} (hg : g < 12) (hp : p < 96) (hi : i ≤ 7) :
    (s.refreshGroup g).flag (defLive p) i = s.flag (defLive p) i :=
  (RefreshKeeps.portFlag (by unfold defLive; omega) (by unfold defLive; omega) (by omega) (by omega) _).refreshGroup hg rfl

theorem State.flag_refreshGroup_latch (s : State) {g p i : Nat} (hg : g < 12) (hp : p < 96) (hi : i ≤ 7) :
    (s.refreshGroup g).flag (defLive p + 4) i = s.flag (defLive p + 4) i :=
  (RefreshKeeps.portFlag (by unfold defLive; omega) (by unfold defLive; omega) (by omega) (by omega) _).refreshGroup hg rfl

end Machine
end Sys2Proof
end

section
/-! SUPPORT. Signal detect and the defects of a port; the statement O14. -/

open Sys2Proof Sys2Proof.Machine
namespace Sys2Proof

theorem RestSame.setDefect {s t : State} (h : RestSame s t) (live i : Nat) (on : Bool) : RestSame s (t.setDefect live i on) := by
  cases on
  · exact h.setFld _ _ _ _
  · exact (h.setFld _ _ _ _).setFld _ _ _ _

namespace Machine

/-! ### Lanes and their ports (R48) -/

theorem State.lanePort_lt (s : State) {l : Nat} (hl : l < 96) : s.lanePort l < 96 := by
  have hmul := Nat.div_mul_le_self (l % 8) (max (portLanes (s.pgMode (l / 8))) 1)
  unfold State.lanePort
  dsimp only
  omega

/-- The lane's own status is no part of what says to which port it belongs. -/
theorem State.pgMode_setFld_lnStat (s : State) (l hi lo v g : Nat) (hg : g < 12) : (s.setFld (lnStat l) hi lo v).pgMode g = s.pgMode g :=
  s.fld_setFld_ne _ _ _ _ _ (by unfold pgModeAddr lnStat; omega)

theorem State.lanePort_setFld_lnStat (s : State) {l : Nat} (hi lo v : Nat) (hl : l < 96) :
    (s.setFld (lnStat l) hi lo v).lanePort l = s.lanePort l := by
  unfold State.lanePort
  rw [s.pgMode_setFld_lnStat _ _ _ _ _ (by omega)]

theorem not_refreshedReg_lnStat {l : Nat} (hl : l < 96) : ¬ refreshedReg (lnStat l) := by
  unfold refreshedReg lnStat
  omega

/-! ### Signal detect (R55, R58) -/

theorem does_signalDetectLoss (l : Fin 96) (s : State) : Does (.signalDetectLoss l) s fun t =>
    t.flag (defLive (s.lanePort l)) 0 = true ∧ t.flag (defLive (s.lanePort l) + 4) 0 = true ∧ t.fld (lnStat l) 1 0 = 0
    ∧ t.flag (lnStat l) 3 = true := by
  have hg : l.val / 8 < 12 := by omega
  have hp := s.lanePort_lt l.isLt
  have hport : ((s.setFld (lnStat l) 1 0 0).raise (lnStat l) 3).lanePort l = s.lanePort l :=
    (State.lanePort_setFld_lnStat _ _ _ _ l.isLt).trans (s.lanePort_setFld_lnStat _ _ _ l.isLt)
  have hstat {t : State} : (t.setDefect (defLive (s.lanePort l)) 0 true).reg (lnStat l) = t.reg (lnStat l) :=
    t.reg_setDefect_ne true (by unfold lnStat defLive; omega) (by unfold lnStat defLive; omega)
  have hrun : exec (.signalDetectLoss l) s = .next
      ((((s.setFld (lnStat l) 1 0 0).raise (lnStat l) 3).setDefect (defLive (s.lanePort l)) 0 true).refreshGroup (l.val / 8)) := by
    show execSignalDetectLoss l s = _
    rw [← hport]
    rfl
  refine ⟨_, hrun, ?_, ?_, ?_, ?_⟩
  · rw [State.flag_refreshGroup_live _ hg hp (by decide), State.flag_setDefect_live _ _ _ (by decide)]
  · rw [State.flag_refreshGroup_latch _ hg hp (by decide), State.flag_setDefect_latch _ _ (by decide)]
  · rw [State.fld_refreshGroup _ hg (not_refreshedReg_lnStat l.isLt), State.fld, hstat]
    exact (State.fld_setFlag_other _ _ true (by decide) (by decide)).trans (s.fld_setFld_self _ _ (by decide))
  · rw [State.flag_refreshGroup _ hg (not_refreshedReg_lnStat l.isLt), State.flag, hstat]
    exact State.flag_raise_self _ _ (by decide)

/-- A table without the keys of a test reads its default there and as before elsewhere. -/
theorem Tab.get_filter_not {α : Type} (x : α) (p : Nat → Bool) (t : Tab α) (k : Nat) :
    Tab.get x (t.filter fun e => !p e.1) k = if p k then x else Tab.get x t k := by
  induction t with
  | nil => simp
  | cons e t ih =>
    obtain ⟨j, v⟩ := e
    unfold Tab.get at ih ⊢
    by_cases hj : k = j
    · subst hj
      by_cases hp : p k <;> simp [hp, Tab.at, ih]
    · by_cases hp : p j <;> simp [hp, Tab.at, hj, ih]

/-- The defect that a lock machine shows when its lock is lost (R58, R71, R75). -/
def State.lostLock (s : State) (e : Nat × Lock) : State :=
  if e.1 < 3072 then s.setDefect (defLive (e.1 / 32)) 1 true
  else if e.1 < 2000000 then s.setDefect (flxBase ((e.1 - 1000000) / 8) + 0x50) 0 true
  else s.setDefect (0x10C0010 + (e.1 - 2000000) / 16 * 0x1000) 0 true

/-- Lock machines that are put back to search show their defects, one after another. -/
theorem State.unlock_eq (s : State) (which : Nat → Bool) :
    s.unlock which = (s.line.locks.filter fun e => which e.1 && e.2.st == .locked).foldl State.lostLock
      { s with line := { s.line with locks := s.line.locks.filter fun e => !which e.1 } } := rfl

/-- Below the line's defects no register shows a lost lock. -/
theorem State.reg_lostLock_low (s : State) (e : Nat × Lock) {a : Nat} (h : a < 0x1020000) : (s.lostLock e).reg a = s.reg a := by
  unfold State.lostLock
  split
  · exact s.reg_setDefect_ne true (by unfold defLive; omega) (by unfold defLive; omega)
  · split
    · exact s.reg_setDefect_ne true (by unfold flxBase; omega) (by unfold flxBase; omega)
    · exact s.reg_setDefect_ne true (by omega) (by omega)

theorem State.lostLock_line (s : State) (e : Nat × Lock) : (s.lostLock e).line = s.line := by
  unfold State.lostLock
  split
  · exact s.setDefect_line _ _ _
  · split <;> exact s.setDefect_line _ _ _

theorem State.reg_unlock_low (s : State) (which : Nat → Bool) {a : Nat} (h : a < 0x1020000) : (s.unlock which).reg a = s.reg a := by
  rw [State.unlock_eq]
  exact foldl_same (fun t : State => t.reg a) State.lostLock (fun t e => t.reg_lostLock_low e h) _ _

/-- The lock machines named search, the others stand where they stood. -/
theorem State.locks_unlock (s : State) (which : Nat → Bool) (k : Nat) :
    Tab.get {} (s.unlock which).line.locks k = if which k then {} else Tab.get {} s.line.locks k := by
  have hline : (s.unlock which).line.locks = s.line.locks.filter fun e => !which e.1 :=
    (congrArg (fun t : State => t.line.locks) (s.unlock_eq which)).trans
      (congrArg LineState.locks (foldl_same (fun t : State => t.line) State.lostLock (fun t e => t.lostLock_line e) _ _))
  rw [hline, Tab.get_filter_not]

/-- Which lock machines a lane feeds does not hang on the lane's own status. -/
theorem State.laneLock_setFld_lnStat (s : State) {l : Nat} (hi lo v : Nat) (hl : l < 96) (k : Nat) :
    (s.setFld (lnStat l) hi lo v).laneLock l k = s.laneLock l k := by
  have hphy : (s.setFld (lnStat l) hi lo v).flxPhyPort ((k - 1000000) / 8) (k % 8) = s.flxPhyPort ((k - 1000000) / 8) (k % 8) :=
    s.fld_setFld_ne _ _ _ _ _ (by unfold flxBase lnStat; omega)
  unfold State.laneLock
  rw [hphy, s.lanePort_setFld_lnStat _ _ _ hl, s.pgMode_setFld_lnStat _ _ _ _ _ (by omega)]

/-- The port groups that a lane's signal bears on, refreshed. -/
def State.refreshLane (s : State) (l : Nat) : State :=
  (List.range 12).foldl (fun s g =>
    if g = l / 8 || (s.flxPhys g).any (fun k => s.flxPhyPort g k / 8 == l / 8) then s.refreshGroup g else s) s

theorem RefreshKeeps.refreshLane {P : State → Prop} (h : RefreshKeeps P) {s : State} (l : Nat) (hs : P s) : P (s.refreshLane l) := by
  refine foldl_keeps_of_mem P _ _ _ (fun t g hg ht => ?_) hs
  split
  · exact h.refreshGroup (List.mem_range.1 hg) ht
  · exact ht

/-- The clock noted in which a lane's signal is back. -/
def State.noteSignal (s : State) (l : Nat) : State := { s with line := { s.line with sigAt := Tab.set 0 s.line.sigAt l (s.bus.ticks + 1) } }

theorem State.reg_noteSignal (s : State) (l a : Nat) : (s.noteSignal l).reg a = s.reg a := rfl
theorem State.laneLock_noteSignal (s : State) (l k : Nat) : (s.noteSignal l).laneLock l k = s.laneLock l k := rfl
theorem State.locks_noteSignal (s : State) (l : Nat) : (s.noteSignal l).line.locks = s.line.locks := rfl

theorem does_signalDetectGain (l : Fin 96) (s : State) : Does (.signalDetectGain l) s fun t =>
    t.fld (lnStat l) 1 0 = 3 ∧ ∀ k, Tab.get {} t.line.locks k = if s.laneLock l k then {} else Tab.get {} s.line.locks k := by
  let u : State := (s.setFld (lnStat l) 1 0 3).noteSignal l
  refine ⟨(u.unlock (u.laneLock l)).refreshLane l, rfl, ?_, fun k => ?_⟩
  · have hreg : ((u.unlock (u.laneLock l)).refreshLane l).reg (lnStat l) = (s.setFld (lnStat l) 1 0 3).reg (lnStat l) := by
      refine (RefreshKeeps.reg (not_refreshedReg_lnStat l.isLt) _).refreshLane l ?_
      rw [State.reg_unlock_low _ _ (by unfold lnStat; omega), State.reg_noteSignal]
    rw [State.fld, hreg]
    exact s.fld_setFld_self (lnStat l) 3 (by decide)
  · have hlocks : ((u.unlock (u.laneLock l)).refreshLane l).line.locks = (u.unlock (u.laneLock l)).line.locks :=
      (RefreshKeeps.part (·.line.locks) (fun _ _ => rfl) (fun _ _ => rfl) (fun _ _ _ _ _ _ => rfl) _).refreshLane l rfl
    rw [hlocks, State.locks_unlock, State.laneLock_noteSignal, s.laneLock_setFld_lnStat _ _ _ l.isLt, State.locks_noteSignal, State.setFld_line]

/-! ### Defects of a port that one command sets or clears (R58) -/

/-- A defect of a port set, and the port group refreshed: it shows, and is latched. -/
theorem State.portDefect_set (s : State) (p : Fin 96) {i : Nat} (hi : i ≤ 7) :
    ((s.setDefect (defLive p) i true).refreshGroup (p / 8)).flag (defLive p) i = true
    ∧ ((s.setDefect (defLive p) i true).refreshGroup (p / 8)).flag (defLive p + 4) i = true := by
  constructor
  · rw [State.flag_refreshGroup_live _ (by omega) p.isLt hi, State.flag_setDefect_live _ _ _ (by omega)]
  · rw [State.flag_refreshGroup_latch _ (by omega) p.isLt hi, State.flag_setDefect_latch _ _ (by omega)]

/-- A defect of a port cleared, and the port group refreshed: it no longer shows, and its latch stays. -/
theorem State.portDefect_clear (s : State) (p : Fin 96) {i : Nat} (hi : i ≤ 7) :
    ((s.setDefect (defLive p) i false).refreshGroup (p / 8)).flag (defLive p) i = false
    ∧ ((s.setDefect (defLive p) i false).refreshGroup (p / 8)).flag (defLive p + 4) i = s.flag (defLive p + 4) i := by
  constructor
  · rw [State.flag_refreshGroup_live _ (by omega) p.isLt hi, State.flag_setDefect_live _ _ _ (by omega)]
  · rw [State.flag_refreshGroup_latch _ (by omega) p.isLt hi, State.flag_setDefect_off_latch]

theorem execSignalDetectReturn_of_back {p : Fin 96} {s : State} (h : s.signalBack p = true) :
    exec (.signalDetectReturn p) s = .next ((s.setDefect (defLive p) 0 false).refreshGroup (p / 8)) :=
  congrArg Host.Outcome.next (if_pos h)

theorem execSignalDetectReturn_of_not_back {p : Fin 96} {s : State} (h : s.signalBack p = false) :
    exec (.signalDetectReturn p) s = .next s := congrArg Host.Outcome.next (if_neg (by simp [h]))

theorem does_rdegReceived (p : Fin 96) (b : Bool) (s : State) : Does (.rdegReceived p b) s fun t =>
    t.flag (defLive p) 7 = b ∧ (b = true → t.flag (defLive p + 4) 7 = true) ∧ RegsSame s t [defLive p, defLive p + 4] ∧ RestSame s t := by
  refine ⟨_, rfl, s.flag_setDefect_live _ _ (by decide), ?_, fun a ha _ => ?_, ?_⟩
  · rintro rfl
    exact s.flag_setDefect_latch _ (by decide)
  · simp only [List.mem_cons, List.not_mem_nil, or_false, not_or] at ha
    exact s.reg_setDefect_ne b ha.1 ha.2
  · exact (RestSame.refl s).setDefect _ _ b

end Machine
end Sys2Proof

/-- Settles O14: each command sets or clears a defect bit of a port and refreshes its port group, which touches no such bit but the port's own state. -/
theorem lineDefectsSetAndCleared : Obligations.LineDefectsSetAndCleared := by
  unfold Obligations.LineDefectsSetAndCleared
  refine ⟨does_signalDetectLoss, does_signalDetectGain, fun p s h => ?_, fun p s h => execSignalDetectReturn_of_not_back h, fun p s => ?_,
    fun p s => ?_, fun p b s => ?_, does_rdegReceived⟩
  · exact ⟨_, execSignalDetectReturn_of_back h, s.portDefect_clear p (by decide)⟩
  · exact ⟨_, rfl, s.portDefect_set p (by decide)⟩
  · exact ⟨_, rfl, s.portDefect_set p (by decide)⟩
  · exact ⟨_, rfl, s.portDefect_clear p (by split <;> decide)⟩
end

section
/-! SUPPORT. The marker-lock machines: the commands that move one, and what their defects leave; the statement O15. -/

open Sys2Proof Sys2Proof.Machine
namespace Sys2Proof
namespace Machine

/-! ### One lock machine -/

@[simp] theorem State.lock_setLock_self (s : State) (k : LockId) (x : Lock) : (s.setLock k x).lock k = x :=
  Tab.get_set_self ({} : Lock) s.line.locks (lockKey k) x

theorem State.lock_congr {s t : State} (h : t.line.locks = s.line.locks) (k : LockId) : t.lock k = s.lock k :=
  congrArg (Tab.get ({} : Lock) · (lockKey k)) h

/-- A machine that is LOCKED and leaves that state searches (R57). -/
theorem Lock.search_of_period_ne_locked {x : Lock} (h : x.st = .locked) (found laneOk : Bool) (hy : (x.period found laneOk).st ≠ .locked) :
    (x.period found laneOk).st = .search := by
  unfold Lock.period at hy ⊢
  simp only [h] at hy ⊢
  cases found with
  | true => exact absurd rfl hy
  | false =>
    by_cases hm : 5 ≤ x.misses + 1
    · simp [hm]
    · simp [hm] at hy

/-! ### What a change of a lock shows as (R58, R71, R75, R346, R348) -/

theorem RefreshKeeps.locks (c : Tab Lock) : RefreshKeeps fun s => s.line.locks = c :=
  .part (·.line.locks) (fun _ _ => rfl) (fun _ _ => rfl) (fun _ _ _ _ _ _ => rfl) c

/-- A lock defect judged: set when lock is lost, cleared when all machines are locked. -/
theorem State.lockDefect_locks (s : State) (live i : Nat) (lost all : Bool) :
    (if lost then s.setDefect live i true else if all then s.setDefect live i false else s).line.locks = s.line.locks := by
  split
  · rw [State.setDefect_line]
  · split
    · rw [State.setDefect_line]
    · rfl

theorem State.ifDefect_locks (s : State) (c : Bool) (live i : Nat) (on : Bool) :
    (if c then s.setDefect live i on else s).line.locks = s.line.locks := by
  split
  · rw [State.setDefect_line]
  · rfl

/-- The defects that follow the lock machines leave the machines. -/
theorem State.locks_lockDefects (s : State) (k : LockId) (lost deskewOk : Bool) :
    (s.lockDefects k lost deskewOk).line.locks = s.line.locks := by
  unfold State.lockDefects
  cases k with
  | pcs p l =>
    exact (RefreshKeeps.locks _).refreshGroup (by omega) ((State.ifDefect_locks _ _ _ _ _).trans (s.lockDefect_locks _ _ _ _))
  | phy f k => exact (RefreshKeeps.locks _).refreshGroup f.isLt (s.lockDefect_locks _ _ _ _)
  | flexo g i => exact (RefreshKeeps.locks _).refreshGroup g.isLt (s.lockDefect_locks _ _ _ _)
  | fab l => rfl

theorem State.ctlSend_line (s : State) (m w : Nat) : (s.ctlSend m w).line = s.line := by
  unfold State.ctlSend
  dsimp only
  split
  · rfl
  · exact s.raise_line _ _

theorem State.sendStatus_line (s : State) : s.sendStatus.line = s.line := by
  unfold State.sendStatus
  refine foldl_same (fun t : State => t.line) _ (fun t m => ?_) _ s
  split
  · rfl
  · exact State.ctlSend_line _ _ _

theorem State.sendIfPlanes_line (s : State) (before : Nat) : (s.sendIfPlanes before).line = s.line := by
  unfold State.sendIfPlanes
  split
  · exact s.sendStatus_line
  · rfl

theorem State.reportTm_line (s : State) (unit code cls inst detail : Nat) : (s.reportTm unit code cls inst detail).line = s.line := by
  unfold State.reportTm
  split
  · rfl
  · exact State.raise_line _ _ _

/-- A lane's failure noted in its own register and in FAB_STAT. -/
def State.fabMarked (s : State) (l cause : Nat) : State :=
  (((s.putLaneSt l 6).setFld (fabLaneReg l) 26 24 cause).raise (fabLaneReg l) 6).raise fabStat 7

theorem State.fabMarked_line (s : State) (l cause : Nat) : (s.fabMarked l cause).line = s.line :=
  (State.raise_line _ _ _).trans ((State.raise_line _ _ _).trans ((State.setFld_line _ _ _ _ _).trans (s.setFld_line _ _ _ _)))

/-- What a lane's failure takes with it in the fabric unit. -/
def State.fabLost (s : State) (l : Nat) : State :=
  { s with fab := { s.fab with failed := s.fab.failed ++ [l], tx := s.fab.tx.filter fun c => c.lane != l } }

theorem State.fabLost_line (s : State) (l : Nat) : (s.fabLost l).line = s.line := rfl

theorem State.fabFail_eq (s : State) (l cause : Nat) :
    s.fabFail l cause = if s.fabLaneSt l = 3 || s.fabLaneSt l = 4 || s.fabLaneSt l = 5 then
      (((s.fabMarked l cause).fabLost l).reportTm 0xE0 1 2 l cause).sendIfPlanes s.fabPlanes else s := rfl

theorem State.fabFail_line (s : State) (l cause : Nat) : (s.fabFail l cause).line = s.line := by
  rw [State.fabFail_eq]
  split
  · rw [State.sendIfPlanes_line, State.reportTm_line, State.fabLost_line, State.fabMarked_line]
  · rfl

/-- A fabric lane that trains begins its marker search again. -/
theorem State.lock_fabTrain (s : State) (l : Fin 128) (rf : Bool) : (s.fabTrain l rf).lock (.fab l) = {} := by
  have hkey : (⟨l.val % 128, Nat.mod_lt _ (by decide)⟩ : Fin 128) = l := Fin.ext (Nat.mod_eq_of_lt l.isLt)
  unfold State.fabTrain
  rw [hkey, State.lock_setLock_self]

/-- A lane's lock that moved leaves the machine as it moved, but that a lost lock may begin the search anew. -/
theorem State.lock_fabLock (s : State) (l : Fin 128) (locked lost : Bool) :
    (s.fabLock l locked lost).lock (.fab l) = s.lock (.fab l) ∨ lost = true ∧ (s.fabLock l locked lost).lock (.fab l) = {} := by
  unfold State.fabLock
  split
  · exact .inl rfl
  · split
    · next hlost =>
      split
      · exact .inr ⟨hlost, s.lock_fabTrain l _⟩
      · exact .inl (State.lock_congr (congrArg LineState.locks (s.fabFail_line l 2)) _)
    · exact .inl rfl

/-! ### The commands (R55 to R57) -/

theorem does_markerSearchFind (k : LockId) (n : Nat) (s : State) (h : (s.lock k).st = .search) : Does (.markerSearchFind k n) s fun t =>
    (t.lock k).st = .confirm ∧ (t.lock k).pos = n ∧ (t.lock k).finds = 1 ∧ (t.lock k).misses = 0 ∧ t.bus = s.bus := by
  refine ⟨s.setLock k ((s.lock k).find n), rfl, ?_⟩
  simp [Lock.find, h]

/-- A marker period moves the machine as Lock.period says; one that loses its lock searches in any case. -/
theorem does_markerPeriod (k : LockId) (found laneOk deskewOk : Bool) (s : State) : Does (.markerPeriod k found laneOk deskewOk) s fun t =>
    t.lock k = (s.lock k).period found laneOk
    ∨ ((s.lock k).st = .locked ∧ ((s.lock k).period found laneOk).st = .search) ∧ (t.lock k).st = .search := by
  refine ⟨_, rfl, ?_⟩
  cases k with
  | fab l =>
    refine (State.lock_fabLock _ l _ _).imp (·.trans (s.lock_setLock_self _ _)) fun ⟨hlost, hsearch⟩ => ?_
    simp only [Bool.and_eq_true, beq_iff_eq, bne_iff_ne] at hlost
    exact ⟨⟨hlost.1, Lock.search_of_period_ne_locked hlost.1 _ _ hlost.2⟩, congrArg Lock.st hsearch⟩
  | pcs p l => exact .inl ((State.lock_congr (State.locks_lockDefects _ _ _ _) _).trans (s.lock_setLock_self _ _))
  | phy f k => exact .inl ((State.lock_congr (State.locks_lockDefects _ _ _ _) _).trans (s.lock_setLock_self _ _))
  | flexo g i => exact .inl ((State.lock_congr (State.locks_lockDefects _ _ _ _) _).trans (s.lock_setLock_self _ _))

/-- A marker period that does not end a lock leaves the machine as Lock.period says. -/
theorem does_markerPeriod_of_kept {k : LockId} (found laneOk deskewOk : Bool) {s : State}
    (h : (s.lock k).st ≠ .locked ∨ ((s.lock k).period found laneOk).st ≠ .search) :
    Does (.markerPeriod k found laneOk deskewOk) s fun t => t.lock k = (s.lock k).period found laneOk := by
  obtain ⟨t, hrun, hkeep | ⟨⟨hlocked, hsearch⟩, -⟩⟩ := does_markerPeriod k found laneOk deskewOk s
  · exact ⟨t, hrun, hkeep⟩
  · exact absurd hsearch (h.resolve_left (· hlocked))

theorem does_markerPeriod_find_of_confirm (k : LockId) (laneOk deskewOk : Bool) (s : State) (h : (s.lock k).st = .confirm) :
    Does (.markerPeriod k true laneOk deskewOk) s fun t =>
      if 3 ≤ (s.lock k).finds then (t.lock k).st = .locked ∧ (t.lock k).pos = (s.lock k).pos
      else (t.lock k).st = .confirm ∧ (t.lock k).finds = (s.lock k).finds + 1 := by
  obtain ⟨t, hrun, hlock⟩ := does_markerPeriod_of_kept true laneOk deskewOk (s := s) (k := k) (.inl (by simp [h]))
  refine ⟨t, hrun, ?_⟩
  by_cases hfinds : 3 ≤ (s.lock k).finds
  · simp [hlock, Lock.period, h, hfinds]
  · simp [hlock, Lock.period, h, hfinds]

theorem does_markerPeriod_miss_of_confirm (k : LockId) (laneOk deskewOk : Bool) (s : State) (h : (s.lock k).st = .confirm) :
    Does (.markerPeriod k false laneOk deskewOk) s fun t => (t.lock k).st = .search := by
  obtain ⟨t, hrun, hlock⟩ := does_markerPeriod_of_kept false laneOk deskewOk (s := s) (k := k) (.inl (by simp [h]))
  exact ⟨t, hrun, by simp [hlock, Lock.period, h]⟩

theorem does_markerPeriod_find_of_locked (k : LockId) (deskewOk : Bool) (s : State) (h : (s.lock k).st = .locked) :
    Does (.markerPeriod k true true deskewOk) s fun t => (t.lock k).st = .locked ∧ (t.lock k).misses = 0 := by
  obtain ⟨t, hrun, hlock⟩ := does_markerPeriod_of_kept true true deskewOk (s := s) (k := k) (.inr (by simp [Lock.period, h]))
  exact ⟨t, hrun, by simp [hlock, Lock.period, h]⟩

theorem does_markerPeriod_miss_of_locked (k : LockId) (deskewOk : Bool) (s : State) (h : (s.lock k).st = .locked) :
    Does (.markerPeriod k false true deskewOk) s fun t =>
      if 4 ≤ (s.lock k).misses then (t.lock k).st = .search
      else (t.lock k).st = .locked ∧ (t.lock k).misses = (s.lock k).misses + 1 := by
  obtain ⟨t, hrun, hmoved⟩ := does_markerPeriod k false true deskewOk s
  refine ⟨t, hrun, ?_⟩
  by_cases hfive : 4 ≤ (s.lock k).misses
  · simp only [if_pos hfive]
    rcases hmoved with hlock | ⟨-, hsearch⟩
    · simp [hlock, Lock.period, h, hfive]
    · exact hsearch
  · have hlock := hmoved.resolve_right fun hlost => by simp [Lock.period, h, hfive] at hlost
    simp [hlock, Lock.period, h, hfive]

end Machine
end Sys2Proof

/-- Settles O15: a command moves the machine as `Lock.find` or `Lock.period` says, and the defects that follow leave it there. -/
theorem markerLock : Obligations.MarkerLock := by
  unfold Obligations.MarkerLock
  exact ⟨does_markerSearchFind, does_markerPeriod_find_of_confirm, does_markerPeriod_miss_of_confirm, does_markerPeriod_find_of_locked,
    does_markerPeriod_miss_of_locked⟩
end

section
/-! SUPPORT. The 64-bit counters, the uncorrectable codewords and the codeword window; the statement O16. -/

open Sys2Proof Sys2Proof.Machine
namespace Sys2Proof
namespace Machine

/-! ### 64-bit counters (R6, R58, R555) -/

theorem State.reg_setReg64_ne (s : State) {a b : Nat} (v : Nat) (h : b ≠ a) (h4 : b ≠ a + 4) : (s.setReg64 a v).reg b = s.reg b :=
  (State.reg_setReg_ne _ _ h4).trans (s.reg_setReg_ne _ h)

/-- A 64-bit counter just written reads as the value written, wrapped at 2^64. -/
theorem State.reg64_setReg64_self (s : State) (a v : Nat) : (s.setReg64 a v).reg64 a = v % 2 ^ 64 := by
  have hlo : (s.setReg64 a v).reg a = v % 2 ^ 32 % 2 ^ 32 := (State.reg_setReg_ne _ _ (by omega)).trans (s.reg_setReg_self a _)
  have hhi : (s.setReg64 a v).reg (a + 4) = v / 2 ^ 32 % 2 ^ 32 % 2 ^ 32 := State.reg_setReg_self _ _ _
  rw [State.reg64, hlo, hhi]
  omega

theorem State.reg64_congr {s t : State} {a : Nat} (h : t.reg a = s.reg a) (h4 : t.reg (a + 4) = s.reg (a + 4)) : t.reg64 a = s.reg64 a := by
  rw [State.reg64, h, h4, State.reg64]

/-! ### Uncorrectable codewords (R51, R58, R75) -/

/-- A codeword that overlaps the frame in reception of a context marks it. -/
theorem State.fec_markFec (s : State) (m : Nat) (h : 3 ≤ s.rxOf m) : ((s.markFec m).pkt (s.rxOf m - 2)).fec = true := by
  have hpkt : s.rxPkt m = some (s.rxOf m - 2) := if_pos h
  unfold State.markFec
  rw [hpkt]
  by_cases hfec : (s.pkt (s.rxOf m - 2)).fec = true
  · simp only [if_pos hfec]
    exact hfec
  · simp only [if_neg hfec, State.pkt_setPkt_self]

/-- What the line side does not belong to, a codeword's mark leaves. -/
theorem State.markFec_part {γ : Type} (q : State → γ) (hl : ∀ (s : State) x, q { s with line := x } = q s) (s : State) (m : Nat) :
    q (s.markFec m) = q s := by
  unfold State.markFec
  split
  · split
    · exact hl s _
    · exact hl s _
  · split
    · exact hl s _
    · exact hl s _

/-- One more uncorrectable codeword in the window of a port. -/
def State.bumpUnc (s : State) (p : Nat) : State :=
  { s with line := { s.line with uncWin := Tab.set 0 s.line.uncWin p (Tab.get 0 s.line.uncWin p + 1) } }

/-- An uncorrectable codeword counted at its port. -/
def State.countFec (s : State) (p : Nat) : State := (s.setReg64 (fecUnc p) (s.reg64 (fecUnc p) + 1)).bumpUnc p

theorem State.bumpUnc_pmu (s : State) (p : Nat) : (s.bumpUnc p).pmu = s.pmu := rfl
theorem State.bumpUnc_err (s : State) (p : Nat) : (s.bumpUnc p).err = s.err := rfl
theorem State.bumpUnc_reg (s : State) (p a : Nat) : (s.bumpUnc p).reg a = s.reg a := rfl
theorem State.bumpUnc_reg64 (s : State) (p a : Nat) : (s.bumpUnc p).reg64 a = s.reg64 a := rfl
theorem State.bumpUnc_rxOf (s : State) (p m : Nat) : (s.bumpUnc p).rxOf m = s.rxOf m := rfl

theorem does_fecUncorrectable_port (p : Fin 96) (m : Fin 192) (s : State) (h : 3 ≤ s.rxOf m) : Does (.fecUncorrectable (.port p) [m]) s fun t =>
    t.reg64 (fecUnc p) = (s.reg64 (fecUnc p) + 1) % 2 ^ 64 ∧ (t.pkt (s.rxOf m - 2)).fec = true
    ∧ RegsSame s t [fecUnc p, fecUnc p + 4] ∧ t.pmu = s.pmu ∧ t.err = s.err := by
  have hrx : (s.countFec p).rxOf m = s.rxOf m :=
    (State.bumpUnc_rxOf _ p m).trans (congrArg (fun l : LineState => Tab.get 0 l.rx m) (s.setReg64_line _ _))
  refine ⟨(s.countFec p).markFec m, rfl, ?_, ?_, fun a ha _ => ?_, ?_, ?_⟩
  · rw [State.markFec_part (fun t : State => t.reg64 (fecUnc p)) (fun _ _ => rfl), State.countFec, State.bumpUnc_reg64,
      State.reg64_setReg64_self]
  · exact hrx ▸ State.fec_markFec (s.countFec p) m (h.trans_eq hrx.symm)
  · simp only [List.mem_cons, List.not_mem_nil, or_false, not_or] at ha
    rw [State.markFec_part (fun t : State => t.reg a) (fun _ _ => rfl), State.countFec, State.bumpUnc_reg, s.reg_setReg64_ne _ ha.1 ha.2]
  · rw [State.markFec_part (fun t : State => t.pmu) (fun _ _ => rfl), State.countFec, State.bumpUnc_pmu, State.setReg64_pmu]
  · rw [State.markFec_part (fun t : State => t.err) (fun _ _ => rfl), State.countFec, State.bumpUnc_err, State.setReg64_err]

/-- One more uncorrectable codeword in the second of an OTUCn. -/
def State.bumpFecSec (s : State) (g : Nat) : State :=
  { s with line := { s.line with fecSec := Tab.set 0 s.line.fecSec g (Tab.get 0 s.line.fecSec g + 1) } }

theorem State.bumpFecSec_reg (s : State) (g a : Nat) : (s.bumpFecSec g).reg a = s.reg a := rfl
theorem State.bumpFecSec_flag (s : State) (g a i : Nat) : (s.bumpFecSec g).flag a i = s.flag a i := rfl
theorem State.bumpFecSec_rx (s : State) (g : Nat) : (s.bumpFecSec g).line.rx = s.line.rx := rfl
theorem State.bumpFecSec_pkts (s : State) (g : Nat) : (s.bumpFecSec g).line.pkts = s.line.pkts := rfl
theorem State.fecSec_bumpFecSec (s : State) (g : Nat) : Tab.get 0 (s.bumpFecSec g).line.fecSec g = Tab.get 0 s.line.fecSec g + 1 :=
  Tab.get_set_self 0 s.line.fecSec g (Tab.get 0 s.line.fecSec g + 1)

theorem does_fecUncorrectable_flexo (g : Fin 12) (s : State) : Does (.fecUncorrectable (.flexo g) []) s fun t =>
    t.flag (otnBase g + 0x10) 9 = true ∧ t.flag (otnBase g + 0x14) 9 = true ∧ Tab.get 0 t.line.fecSec g = Tab.get 0 s.line.fecSec g + 1
    ∧ RegsSame s t [otnBase g + 0x10, otnBase g + 0x14] ∧ t.line.rx = s.line.rx ∧ t.line.pkts = s.line.pkts := by
  have hlive : 0x10C0010 + g.val * 0x1000 = otnBase g + 0x10 := by unfold otnBase; omega
  have hrun : exec (.fecUncorrectable (.flexo g) []) s = .next ((s.setDefect (0x10C0010 + g.val * 0x1000) 9 true).bumpFecSec g) := rfl
  rw [hlive] at hrun
  refine ⟨_, hrun, ?_, ?_, ?_, fun a ha _ => ?_, ?_, ?_⟩
  · rw [State.bumpFecSec_flag, State.flag_setDefect_live _ _ _ (by decide)]
  · rw [State.bumpFecSec_flag]
    exact s.flag_setDefect_latch (otnBase g + 0x10) (by decide)
  · rw [State.fecSec_bumpFecSec, State.setDefect_line]
  · simp only [List.mem_cons, List.not_mem_nil, or_false, not_or] at ha
    rw [State.bumpFecSec_reg, s.reg_setDefect_ne true ha.1 ha.2]
  · rw [State.bumpFecSec_rx, State.setDefect_line]
  · rw [State.bumpFecSec_pkts, State.setDefect_line]

/-! ### The codeword window (R58) -/

/-- A defect judged at a window's end: set, cleared after good windows, or left. -/
def State.judgeDefect (s : State) (live i : Nat) (bad good : Prop) [Decidable bad] [Decidable good] : State :=
  if bad then s.setDefect live i true else if good then s.setDefect live i false else s

section
variable (s : State) (live i : Nat) (bad good : Prop) [Decidable bad] [Decidable good]

theorem State.judgeDefect_part {γ : Type} (q : State → γ) (hr : ∀ (s : State) x, q { s with bus := { s.bus with regs := x } } = q s) :
    q (s.judgeDefect live i bad good) = q s := by
  unfold State.judgeDefect
  split
  · exact State.setDefect_part q hr _ _ _ _
  · split
    · exact State.setDefect_part q hr _ _ _ _
    · rfl

theorem State.reg_judgeDefect_ne {a : Nat} (h : a ≠ live) (h4 : a ≠ live + 4) : (s.judgeDefect live i bad good).reg a = s.reg a := by
  unfold State.judgeDefect
  split
  · exact s.reg_setDefect_ne _ h h4
  · split
    · exact s.reg_setDefect_ne _ h h4
    · rfl

theorem State.flag_judgeDefect_of_ne (a : Nat) {j : Nat} (hj : j ≤ 31) (h : j ≠ i) : (s.judgeDefect live i bad good).flag a j = s.flag a j := by
  unfold State.judgeDefect
  split
  · exact s.flag_setDefect_of_ne _ _ _ hj h
  · split
    · exact s.flag_setDefect_of_ne _ _ _ hj h
    · rfl

variable {i bad} in
theorem State.flag_judgeDefect_of_bad (hi : i ≤ 31) (h : bad) :
    (s.judgeDefect live i bad good).flag live i = true ∧ (s.judgeDefect live i bad good).flag (live + 4) i = true := by
  rw [State.judgeDefect, if_pos h]
  exact ⟨s.flag_setDefect_live _ _ hi, s.flag_setDefect_latch _ hi⟩

end

/-- A codeword window ended: its uncorrectable codewords forgotten, the good windows in a row noted. -/
def State.endWindow (s : State) (p hi dg : Nat) : State :=
  let line := { s.line with uncWin := Tab.set 0 s.line.uncWin p 0, hiGood := Tab.set 0 s.line.hiGood p hi }
  { s with line := { line with degGood := Tab.set 0 s.line.degGood p dg } }

theorem State.endWindow_reg (s : State) (p hi dg a : Nat) : (s.endWindow p hi dg).reg a = s.reg a := rfl
theorem State.uncWin_endWindow (s : State) (p hi dg : Nat) : Tab.get 0 (s.endWindow p hi dg).line.uncWin p = 0 :=
  Tab.get_set_self 0 s.line.uncWin p 0

theorem execSerWindowEnd_eq (p : Fin 96) (c : Nat) (s : State) : ∃ hi dg : Nat, exec (.serWindowEnd p c) s =
    .next (((((s.setReg64 (fecCorr p) (s.reg64 (fecCorr p) + c)).endWindow p hi dg).judgeDefect (defLive p) 3
      (s.fld (0x102000C + p.val * 0x40) 9 0 < Tab.get 0 s.line.uncWin p) (hi = 8)).judgeDefect (defLive p) 4
      (s.fld (0x1020008 + p.val * 0x40) 31 16 < c) (dg = 8)).refreshGroup (p.val / 8)) :=
  ⟨_, _, rfl⟩

theorem does_serWindowEnd (p : Fin 96) (c : Nat) (s : State) : Does (.serWindowEnd p c) s fun t =>
    (s.fld (0x102000C + p.val * 0x40) 9 0 < Tab.get 0 s.line.uncWin p → t.flag (defLive p) 3 = true ∧ t.flag (defLive p + 4) 3 = true)
    ∧ (s.fld (0x1020008 + p.val * 0x40) 31 16 < c → t.flag (defLive p) 4 = true ∧ t.flag (defLive p + 4) 4 = true)
    ∧ t.reg64 (fecCorr p) = (s.reg64 (fecCorr p) + c) % 2 ^ 64 ∧ Tab.get 0 t.line.uncWin p = 0 := by
  have hg : p.val / 8 < 12 := by omega
  obtain ⟨hi, dg, hrun⟩ := execSerWindowEnd_eq p c s
  refine ⟨_, hrun, fun hunc => ?_, fun hdeg => ?_, ?_, ?_⟩
  · rw [State.flag_refreshGroup_live _ hg p.isLt (by decide), State.flag_refreshGroup_latch _ hg p.isLt (by decide),
      State.flag_judgeDefect_of_ne (i := 4) _ _ _ _ _ (by decide) (by decide),
      State.flag_judgeDefect_of_ne (i := 4) _ _ _ _ _ (by decide) (by decide)]
    exact State.flag_judgeDefect_of_bad _ _ _ (by decide) hunc
  · rw [State.flag_refreshGroup_live _ hg p.isLt (by decide), State.flag_refreshGroup_latch _ hg p.isLt (by decide)]
    exact State.flag_judgeDefect_of_bad _ _ _ (by decide) hdeg
  · rw [← s.reg64_setReg64_self (fecCorr p) (s.reg64 (fecCorr p) + c)]
    have hkeep {a : Nat} (ha : a = fecCorr p ∨ a = fecCorr p + 4) : a ≠ defLive p ∧ a ≠ defLive p + 4 ∧ ¬ refreshedReg a := by
      unfold fecCorr at ha
      unfold refreshedReg defLive
      omega
    refine State.reg64_congr ?_ ?_
    · obtain ⟨hlive, hlatch, hfree⟩ := hkeep (.inl rfl)
      rw [State.reg_refreshGroup _ hg hfree, State.reg_judgeDefect_ne _ _ _ _ _ hlive hlatch, State.reg_judgeDefect_ne _ _ _ _ _ hlive hlatch,
        State.endWindow_reg]
    · obtain ⟨hlive, hlatch, hfree⟩ := hkeep (.inr rfl)
      rw [State.reg_refreshGroup _ hg hfree, State.reg_judgeDefect_ne _ _ _ _ _ hlive hlatch, State.reg_judgeDefect_ne _ _ _ _ _ hlive hlatch,
        State.endWindow_reg]
  · rw [State.refreshGroup_part (fun t : State => t.line.uncWin) (fun _ _ => rfl) (fun _ _ => rfl) (fun _ _ _ _ _ _ => rfl) _ hg,
      State.judgeDefect_part _ _ _ _ _ (fun t : State => t.line.uncWin) (fun _ _ => rfl),
      State.judgeDefect_part _ _ _ _ _ (fun t : State => t.line.uncWin) (fun _ _ => rfl), State.uncWin_endWindow]

end Machine
end Sys2Proof

/-- Settles O16: the counts are 64-bit counters of their own, and the defects judged at a window's end stand when the port group is refreshed. -/
theorem fecAndSer : Obligations.FecAndSer := by
  unfold Obligations.FecAndSer
  exact ⟨does_fecUncorrectable_port, does_fecUncorrectable_flexo, does_serWindowEnd⟩
end

section
/-! SUPPORT. The transmit MAC: which records it sends, and which it drops; the statement O19. -/

open Sys2Proof Sys2Proof.Machine
namespace Sys2Proof
namespace Machine

/-! ### Counters of a MAC context (R555) -/

theorem State.macCount_line (s : State) (m i n : Nat) : (s.macCount m i n).line = s.line := s.setReg64_line _ _
theorem State.macCount_pmu (s : State) (m i n : Nat) : (s.macCount m i n).pmu = s.pmu := s.setReg64_pmu _ _

theorem State.reg64_macCount_self (s : State) (m i n : Nat) : (s.macCount m i n).reg64 (macCnt m i) = (s.reg64 (macCnt m i) + n) % 2 ^ 64 :=
  s.reg64_setReg64_self _ _

theorem State.reg_macCount_ne (s : State) {m i a : Nat} (n : Nat) (h : a ≠ macCnt m i) (h4 : a ≠ macCnt m i + 4) :
    (s.macCount m i n).reg a = s.reg a := s.reg_setReg64_ne _ h h4

theorem State.reg64_macCount_ne (s : State) (m n : Nat) {i j : Nat} (h : i ≠ j) : (s.macCount m j n).reg64 (macCnt m i) = s.reg64 (macCnt m i) :=
  State.reg64_congr (s.reg_macCount_ne n (by unfold macCnt; omega) (by unfold macCnt; omega))
    (s.reg_macCount_ne n (by unfold macCnt; omega) (by unfold macCnt; omega))

/-! ### A frame sent (R60, R555) -/

/-- A frame as the MAC sends it, padded to 60 bytes. -/
def paddedFrame (f : List Byte) : List Byte := f ++ List.replicate (60 - f.length) 0

/-- A frame noted as sent. -/
def State.noteSent (s : State) (f : SentFrame) : State := { s with line := { s.line with sent := f :: s.line.sent } }

theorem State.noteSent_reg64 (s : State) (f : SentFrame) (a : Nat) : (s.noteSent f).reg64 a = s.reg64 a := rfl
theorem State.noteSent_pmu (s : State) (f : SentFrame) : (s.noteSent f).pmu = s.pmu := rfl
theorem State.noteSent_egress (s : State) (f : SentFrame) : (s.noteSent f).line.egress = s.line.egress := rfl
theorem State.noteSent_sent (s : State) (f : SentFrame) : (s.noteSent f).line.sent = f :: s.line.sent := rfl

/-- A frame that is no event message is counted and sent as it is, padded. -/
theorem State.sendFrame_of_plain (s : State) (m : Nat) {f : List Byte} (h : ptpAt f = none) : ∃ sec ns : Nat,
    s.sendFrame m f = ((s.macCount m 3 1).macCount m 4 ((paddedFrame f).length + 4)).noteSent { ctx := m, bytes := paddedFrame f, sec := sec, ns := ns } := by
  unfold State.sendFrame
  rw [h]
  exact ⟨_, _, rfl⟩

/-! ### The oldest record (R60, R78) -/

/-- The oldest egress record taken from the queue. -/
def State.takeEgress (s : State) (rest : List EgressRec) : State := { s with line := { s.line with egress := rest } }

/-- A record that is dropped is taken, and counted under its reason. -/
theorem does_egressFrameTransmit_of_count {r : EgressRec} {rest : List EgressRec} {s : State} {code : Nat}
    (hrun : execEgressFrameTransmit s = .next ((s.takeEgress rest).count 0x10 code r.target 1)) : Does .egressFrameTransmit s fun t =>
    t.line.egress = rest ∧ t.line.sent = s.line.sent ∧ t.bus = s.bus
    ∧ Tab.get 0 t.pmu.now (pmuId 0x10 code r.target) = min (Tab.get 0 s.pmu.now (pmuId 0x10 code r.target) + 1) (2 ^ 32 - 1) :=
  ⟨_, hrun, rfl, rfl, rfl, Tab.get_set_self 0 s.pmu.now _ _⟩

section
variable {r : EgressRec} {rest : List EgressRec} {s : State} (hq : s.line.egress = r :: rest)
include hq

theorem execEgressFrameTransmit_of_stopped (hm : r.target < 192) (hscr : s.ctxScr r.target ≠ 2) (howner : s.ctxOwner r.target ≠ .none) :
    execEgressFrameTransmit s = .next ((s.takeEgress rest).count 0x10 6 r.target 1) := by
  have hdrain : (decide (r.target < 192) && (s.takeEgress rest).ctxScr r.target != 2 && (s.takeEgress rest).ctxOwner r.target != .none) = true := by
    simp only [Bool.and_eq_true, decide_eq_true_eq, bne_iff_ne]
    exact ⟨⟨hm, hscr⟩, howner⟩
  unfold execEgressFrameTransmit
  rw [hq]
  exact if_pos hdrain

/-- A record of a port that runs is neither that of a stopped nor that of a draining port. -/
theorem execEgressFrameTransmit_of_running (hscr : s.ctxScr r.target = 2) : execEgressFrameTransmit s =
    if 192 ≤ r.target || !s.txUp r.target || !s.rxUp r.target || s.flag 0x400000 0 || s.flag 0x50 8
    then .next ((s.takeEgress rest).count 0x10 5 r.target 1)
    else if s.standby then .next ((s.takeEgress rest).count 0x10 9 r.target 1)
    else .next ((s.takeEgress rest).sendFrame r.target r.frame).irq := by
  have hdrain : ¬ (decide (r.target < 192) && (s.takeEgress rest).ctxScr r.target != 2 && (s.takeEgress rest).ctxOwner r.target != .none) = true := by
    simp only [Bool.and_eq_true, decide_eq_true_eq, bne_iff_ne]
    exact fun ⟨⟨_, hrun⟩, _⟩ => hrun hscr
  unfold execEgressFrameTransmit
  rw [hq]
  exact if_neg hdrain

theorem does_egressFrameTransmit_sent (hm : r.target < 192) (hscr : s.ctxScr r.target = 2) (htx : s.txUp r.target = true) (hrx : s.rxUp r.target = true)
    (hfatal : s.flag 0x400000 0 = false) (hhot : s.flag 0x50 8 = false) (hstandby : s.standby = false) (hptp : ptpAt r.frame = none) :
    Does .egressFrameTransmit s fun t => t.line.egress = rest
      ∧ (t.line.sent.head?.map fun f => (f.ctx, f.bytes)) = some (r.target, r.frame ++ List.replicate (60 - r.frame.length) 0)
      ∧ t.reg64 (macCnt r.target 3) = (s.reg64 (macCnt r.target 3) + 1) % 2 ^ 64 ∧ t.pmu = s.pmu := by
  have hrun : execEgressFrameTransmit s = .next ((s.takeEgress rest).sendFrame r.target r.frame).irq := by
    rw [execEgressFrameTransmit_of_running hq hscr, if_neg (by simpa [htx, hrx, hfatal, hhot] using hm), if_neg (by simp [hstandby])]
  obtain ⟨sec, ns, hsend⟩ := (s.takeEgress rest).sendFrame_of_plain r.target hptp
  rw [hsend] at hrun
  have hfree : ¬ irqReg (macCnt r.target 3) ∧ ¬ irqReg (macCnt r.target 3 + 4) := by unfold irqReg macCnt; omega
  refine ⟨_, hrun, ?_, ?_, ?_, ?_⟩
  · rw [State.irq_line, State.noteSent_egress, State.macCount_line, State.macCount_line]
    rfl
  · rw [State.irq_line, State.noteSent_sent]
    rfl
  · rw [State.reg64_congr (State.irq_reg _ hfree.1) (State.irq_reg _ hfree.2), State.noteSent_reg64,
      State.reg64_macCount_ne _ _ _ (by decide), State.reg64_macCount_self]
    rfl
  · rw [State.irq_pmu, State.noteSent_pmu, State.macCount_pmu, State.macCount_pmu]
    rfl

end

end Machine
end Sys2Proof

/-- Settles O19: a record whose context is up is sent; of the others the port's state decides under which reason it is counted. -/
theorem egressFrames : Obligations.EgressFrames := by
  unfold Obligations.EgressFrames
  refine ⟨fun r rest s hq hm => does_egressFrameTransmit_sent hq hm, fun r rest s hq hm hscr hrx => ?_, fun r rest s hq hm hscr howner => ?_⟩
  · have hrun := execEgressFrameTransmit_of_running hq hscr
    rw [if_pos (by simp [hrx])] at hrun
    exact does_egressFrameTransmit_of_count hrun
  · exact does_egressFrameTransmit_of_count (execEgressFrameTransmit_of_stopped hq hm hscr howner)
end

section
/-! SUPPORT. Frames on their way to the kerb: what the MAC discards, what is gathered and what is stored; the statement O17. -/

open Sys2Proof Sys2Proof.Machine
namespace Sys2Proof
namespace Machine

/-! ### The receive state of a context (R52, R53) -/

theorem State.rxPkt_of_le (s : State) {m : Nat} (h : 3 ≤ s.rxOf m) : s.rxPkt m = some (s.rxOf m - 2) := if_pos h

theorem State.rxPkt_of_rxOf {s : State} {m n : Nat} (hn : 1 ≤ n) (h : s.rxOf m = n + 2) : s.rxPkt m = some n := by
  rw [s.rxPkt_of_le (by omega), h, Nat.add_sub_cancel]

theorem State.rxPkt_of_zero {s : State} {m : Nat} (h : s.rxOf m = 0) : s.rxPkt m = none := if_neg (by omega)

/-- A context that is receive up belongs to a port or client that runs (R58, R60). -/
theorem State.ctxScr_of_rxUp {s : State} {m : Nat} (h : s.rxUp m = true) : s.ctxScr m = 2 := by
  unfold State.rxUp at h
  unfold State.ctxScr
  cases ho : s.ctxOwner m with
  | none => simp [ho] at h
  | eth p =>
    simp only [ho, Bool.and_eq_true, beq_iff_eq] at h
    exact h.1
  | client f c =>
    simp only [ho, Bool.and_eq_true, beq_iff_eq] at h
    obtain ⟨⟨⟨⟨hrun, -⟩, -⟩, -⟩, -⟩ := h
    exact hrun

/-- A write into a memory leaves what registers do not belong to. -/
theorem State.writtenAny_part {γ : Type} (q : State → γ) (hr : ∀ (s : State) x, q { s with bus := { s.bus with regs := x } } = q s)
    (s : State) (mem : Nat) : q (s.writtenAny mem) = q s := by
  unfold State.writtenAny State.written' State.injectionFor
  by_cases hinj : (s.flag 0x400090 30 && s.fld 0x400090 7 0 = mem && s.fld 0x400090 23 12 = s.fld 0x400090 23 12) = true
  · rw [if_pos hinj]
    exact (hr _ _).trans (hr s _)
  · rw [if_neg hinj]

@[simp] theorem State.writtenAny_line (s : State) (mem : Nat) : (s.writtenAny mem).line = s.line :=
  s.writtenAny_part (fun t : State => t.line) (fun _ _ => rfl) mem

@[simp] theorem State.writtenAny_pmu (s : State) (mem : Nat) : (s.writtenAny mem).pmu = s.pmu :=
  s.writtenAny_part (fun t : State => t.pmu) (fun _ _ => rfl) mem

/-! ### A frame's first bytes (R50, R52, R78) -/

/-- A frame's first bytes that do not come to a gather buffer begin a frame at the kerb. -/
theorem execFrameHeaderToKerb_of_start {m : Fin 192} {head : List Byte} {s : State} (hlo : 1 ≤ head.length) (hhi : head.length ≤ 256)
    (h : s.gathers m = false ∨ s.rxUp m = false) : execFrameHeaderToKerb m head s =
      .next (((s.fecStart m).1.frameStart m head (s.fecStart m).2).writtenAny 8) := by
  have hlen : ¬ (head.length = 0 || 256 < head.length : Bool) = true := by
    simp only [Bool.or_eq_true, decide_eq_true_eq]
    omega
  have hgather : ¬ (s.gathers m && s.rxUp m && s.rxOf m = 0 : Bool) = true := by
    rcases h with h | h <;> simp [h]
  unfold execFrameHeaderToKerb
  rw [if_neg hlen, if_neg hgather]

theorem State.frameStart_of_stopped (s : State) {m : Nat} (head : List Byte) (fec : Bool) (h : s.ctxScr m ≠ 2) :
    s.frameStart m head fec = (s.count 0x10 6 m 1).setRx m 2 := if_pos h

theorem State.frameStart_of_pause {s : State} {m : Nat} {head : List Byte} (fec : Bool) (hscr : s.ctxScr m = 2) (hrx : s.rxUp m = true)
    (hhot : s.flag 0x50 8 = false) (hlen : 60 ≤ head.length) (hpause : isPauseFrame head = true) : s.frameStart m head fec = s.setRx m 1 := by
  unfold State.frameStart
  rw [if_neg (not_not.2 hscr), if_neg (by simp [hrx, hhot]), if_neg (by omega), if_pos hpause]

theorem does_frameHeaderToKerb_stopped (m : Fin 192) (head : List Byte) (s : State) (hlo : 1 ≤ head.length) (hhi : head.length ≤ 256)
    (hscr : s.ctxScr m ≠ 2) : Does (.frameHeaderToKerb m head) s fun t =>
      t.rxOf m = 2 ∧ Tab.get 0 t.pmu.now (pmuId 0x10 6 m) = min (Tab.get 0 s.pmu.now (pmuId 0x10 6 m) + 1) (2 ^ 32 - 1)
      ∧ t.line.pkts = s.line.pkts ∧ t.line.used = s.line.used := by
  have hdown : s.rxUp m = false := Bool.eq_false_iff.2 fun hup => hscr (State.ctxScr_of_rxUp hup)
  have hrun := execFrameHeaderToKerb_of_start hlo hhi (.inr hdown)
  rw [State.frameStart_of_stopped (s.fecStart m).1 _ _ hscr] at hrun
  refine ⟨_, hrun, ?_, ?_, ?_, ?_⟩
  · rw [State.rxOf, State.writtenAny_line]
    exact State.rxOf_setRx_self _ _ _
  · rw [State.writtenAny_pmu]
    exact Tab.get_set_self 0 s.pmu.now _ _
  · rw [State.writtenAny_line]
    rfl
  · rw [State.writtenAny_line]
    rfl

theorem does_frameHeaderToKerb_pause (m : Fin 192) (head : List Byte) (s : State) (hlo : 60 ≤ head.length) (hhi : head.length ≤ 256)
    (hscr : s.ctxScr m = 2) (hrx : s.rxUp m = true) (hgather : s.gathers m = false) (hhot : s.flag 0x50 8 = false)
    (hpause : isPauseFrame head = true) : Does (.frameHeaderToKerb m head) s fun t =>
      t.rxOf m = 1 ∧ t.line.pkts = s.line.pkts ∧ t.line.used = s.line.used ∧ t.pmu = s.pmu := by
  have hrun := execFrameHeaderToKerb_of_start (by omega) hhi (.inl hgather)
  rw [State.frameStart_of_pause (s := (s.fecStart m).1) _ hscr hrx hhot hlo hpause] at hrun
  refine ⟨_, hrun, ?_, ?_, ?_, ?_⟩
  · rw [State.rxOf, State.writtenAny_line]
    exact State.rxOf_setRx_self _ _ _
  · rw [State.writtenAny_line]
    rfl
  · rw [State.writtenAny_line]
    rfl
  · rw [State.writtenAny_pmu]
    rfl

theorem exec_frameHeaderToKerb_illFormed (m : Fin 192) (head : List Byte) (s : State) (h : head.length = 0 ∨ 256 < head.length) :
    exec (.frameHeaderToKerb m head) s = .fault .illFormed := by
  show execFrameHeaderToKerb m head s = _
  exact if_pos (by simpa only [Bool.or_eq_true, decide_eq_true_eq] using h)

/-! ### Further bytes (R52, R53, R84) -/

/-- Bytes that come to a gather buffer: they are appended, and nothing outside the line side changes. -/
theorem State.gatherMore_gather (s : State) (m : Nat) (d : List Byte) :
    Tab.get [] (s.gatherMore m d).line.gather m = Tab.get [] s.line.gather m ++ d ∧ (s.gatherMore m d).bus = s.bus
    ∧ (s.gatherMore m d).pmu = s.pmu := by
  unfold State.gatherMore
  extract_lets old
  by_cases hempty : old = []
  · rw [if_pos hempty]
    exact ⟨Tab.get_set_self [] s.line.gather m (old ++ d), rfl, rfl⟩
  · rw [if_neg hempty]
    exact ⟨Tab.get_set_self [] s.line.gather m (old ++ d), rfl, rfl⟩

theorem does_frameDataArrival_gathered (m : Fin 192) (d : List Byte) (s : State) (hrx : s.rxOf m = 0) (hgather : s.gathers m = true)
    (hup : s.rxUp m = true) : Does (.frameDataArrival m d) s fun t =>
      Tab.get [] t.line.gather m = Tab.get [] s.line.gather m ++ d ∧ t.bus = s.bus ∧ t.pmu = s.pmu := by
  have hrun : execFrameDataArrival m d s = .next (s.gatherMore m d) := by
    unfold execFrameDataArrival
    rw [State.rxPkt_of_zero hrx]
    exact if_pos (by simp [hrx, hgather, hup])
  exact ⟨_, hrun, s.gatherMore_gather m d⟩

/-- A packet with more bytes of its frame, for which its blocks are enough (R52, R84). -/
def Pkt.grown (p : Pkt) (d : List Byte) : Pkt :=
  { p with len := p.len + d.length, data := (p.data ++ d).take p.maxFrame,
           bad := if p.maxFrame < p.len + d.length + 4 ∧ p.bad = 0 then 3 else p.bad }

/-- Bytes for which a stored packet's blocks are enough are stored, and no block is taken. -/
theorem State.growFrame_of_blocks (s : State) {n : Nat} (d : List Byte) (hstored : (s.pkt n).stored = true)
    (hblocks : ceilDiv (min ((s.pkt n).data.length + d.length) (s.pkt n).maxFrame) 256 ≤ (s.pkt n).blocks) :
    s.growFrame n d = s.setPkt n ((s.pkt n).grown d) := by
  have hnone : ceilDiv ((s.pkt n).data ++ d |>.take (s.pkt n).maxFrame).length 256 - (s.pkt n).blocks = 0 := by
    rw [List.length_take, List.length_append, Nat.min_comm]
    omega
  unfold State.growFrame
  simp only [hstored, if_true, hnone, State.takeBlocks]
  simp [Pkt.grown, hstored]

theorem does_frameDataArrival_stored (m : Fin 192) (d : List Byte) (n : Nat) (s : State) (hrx : s.rxPkt m = some n)
    (hstored : (s.pkt n).stored = true)
    (hblocks : ceilDiv (min ((s.pkt n).data.length + d.length) (s.pkt n).maxFrame) 256 ≤ (s.pkt n).blocks) :
    Does (.frameDataArrival m d) s fun t => t.pkt n = (s.pkt n).grown d
      ∧ t.bus = s.bus ∧ t.pmu = s.pmu ∧ t.line.used = s.line.used ∧ t.line.kerbQ = s.line.kerbQ := by
  have hrun : execFrameDataArrival m d s = .next (s.growFrame n d) := by
    unfold execFrameDataArrival
    rw [hrx]
  rw [s.growFrame_of_blocks d hstored hblocks] at hrun
  exact ⟨_, hrun, s.pkt_setPkt_self n _, rfl, rfl, rfl, rfl⟩

/-! ### The end of a frame (R51, R52, R53) -/

theorem State.countRx_line (s : State) (m len : Nat) : (s.countRx m len).line = s.line := by
  unfold State.countRx
  split
  · exact (State.macCount_line _ _ _ _).trans (s.macCount_line _ _ _)
  · rfl

/-- A frame with good FCS, no codeword that could not be corrected and no earlier reason is good. -/
theorem State.judge_good (s : State) {n : Nat} (hbad : (s.pkt n).bad = 0) (hfec : (s.pkt n).fec = false) :
    s.judge n true = s.setPkt n { s.pkt n with ended := true, bad := 0 } := by
  unfold State.judge
  simp [hbad, hfec]

theorem does_frameEnd_good (m : Fin 192) (len : Nat) (s : State) (hrx : 3 ≤ s.rxOf m) (hbad : (s.pkt (s.rxOf m - 2)).bad = 0)
    (hfec : (s.pkt (s.rxOf m - 2)).fec = false) : Does (.frameEnd m len true) s fun t =>
      t.rxOf m = 0 ∧ (t.pkt (s.rxOf m - 2)).ended = true ∧ (t.pkt (s.rxOf m - 2)).bad = 0 := by
  have hpkt : (s.countRx m len).pkt (s.rxOf m - 2) = s.pkt (s.rxOf m - 2) :=
    congrArg (fun l : LineState => Tab.get ({} : Pkt) l.pkts (s.rxOf m - 2)) (s.countRx_line m len)
  have hrun : execFrameEnd m len true s = .next (((s.countRx m len).judge (s.rxOf m - 2) true).setRx m 0) := by
    unfold execFrameEnd
    rw [if_neg (by simp; omega), s.rxPkt_of_le hrx]
  rw [State.judge_good _ (by rw [hpkt]; exact hbad) (by rw [hpkt]; exact hfec)] at hrun
  refine ⟨_, hrun, State.rxOf_setRx_self _ _ _, ?_, ?_⟩
  · exact congrArg Pkt.ended (State.pkt_setPkt_self _ _ _)
  · exact congrArg Pkt.bad (State.pkt_setPkt_self _ _ _)

theorem does_gatherFrameComplete_down (m : Fin 192) (ok : Bool) (s : State) (hrx : s.rxOf m = 0) (hscr : s.ctxScr m = 2)
    (hdown : s.rxUp m = false) : Does (.gatherFrameComplete m ok) s fun t =>
      Tab.get 0 t.pmu.now (pmuId 0x10 5 m) = min (Tab.get 0 s.pmu.now (pmuId 0x10 5 m) + 1) (2 ^ 32 - 1) ∧ Tab.get [] t.line.gather m = []
      ∧ t.line.pkts = s.line.pkts ∧ t.bus = s.bus := by
  have hrx' : ¬ (s.gatherClear m).rxOf m ≠ 0 := not_not.2 hrx
  have hscr' : ¬ (s.gatherClear m).ctxScr m ≠ 2 := not_not.2 hscr
  have hdown' : (!(s.gatherClear m).rxUp m) = true := by
    show (!s.rxUp m) = true
    rw [hdown]
    rfl
  have hrun : execGatherFrameComplete m ok s = .next ((s.gatherClear m).count 0x10 5 m 1) := by
    unfold execGatherFrameComplete
    rw [if_neg hrx', if_neg hscr', if_pos hdown']
  exact ⟨_, hrun, Tab.get_set_self 0 s.pmu.now _ _, Tab.get_set_self [] s.line.gather m [], rfl, rfl⟩

end Machine
end Sys2Proof

/-- Settles O17: what the MAC discards touches no packet, gathered bytes touch one buffer, and stored bytes and a frame's end touch one packet. -/
theorem framesReachTheKerb : Obligations.FramesReachTheKerb := by
  unfold Obligations.FramesReachTheKerb
  exact ⟨does_frameHeaderToKerb_stopped, does_frameHeaderToKerb_pause, exec_frameHeaderToKerb_illFormed, does_frameDataArrival_gathered,
    does_frameDataArrival_stored, does_frameEnd_good, does_gatherFrameComplete_down⟩
end

section
/-! SUPPORT. A frame's header stored, steered and queued at the kerb; for the statement O18. -/

open Sys2Proof Sys2Proof.Machine
namespace Sys2Proof
namespace Machine

/-! ### The kerb queue (R83) -/

/-- A header comes behind those of earlier clocks. -/
theorem State.kerbInsert_eq_append (s : State) (n : Nat) :
    ∀ q : List Nat, (∀ x ∈ q, x ≠ n → (s.pkt x).kerbTick ≠ s.bus.ticks) → s.kerbInsert n q = q ++ [n]
  | [], _ => rfl
  | x :: q, h => by
    have hbehind : ¬ ((s.pkt x).kerbTick = s.bus.ticks && s.kerbRank n < s.kerbRank x : Bool) = true := by
      simp only [Bool.and_eq_true, decide_eq_true_eq, not_and]
      intro htick
      by_cases hx : x = n
      · rw [hx]
        exact Nat.lt_irrefl _
      · exact absurd htick (h x List.mem_cons_self hx)
    rw [State.kerbInsert, if_neg hbehind, s.kerbInsert_eq_append n q fun y hy => h y (List.mem_cons_of_mem x hy), List.cons_append]

/-- With the sampler off no header is tagged (R509). -/
theorem State.sampleTag_of_off (s : State) (n : Nat) (h : s.flag 0x500100 31 = false) : s.sampleTag n = s := by
  unfold State.sampleTag
  exact if_neg (by simp [h])

/-- The clock noted in which a header comes to its kerb queue. -/
def State.stampPkt (s : State) (n : Nat) : State := s.setPkt n { s.pkt n with kerbTick := s.bus.ticks }

theorem State.pkt_stampPkt_self (s : State) (n : Nat) : (s.stampPkt n).pkt n = { s.pkt n with kerbTick := s.bus.ticks } :=
  s.pkt_setPkt_self n _
theorem State.rxOf_stampPkt (s : State) (n m : Nat) : (s.stampPkt n).rxOf m = s.rxOf m := rfl
theorem State.pkt_use (s : State) (k : Use) (n : Nat) : (s.use k).pkt n = s.pkt n := rfl
theorem State.rxOf_use (s : State) (k : Use) (m : Nat) : (s.use k).rxOf m = s.rxOf m := rfl
theorem State.pkt_setKerbQueue (s : State) (l : Nat) (q : List Nat) (n : Nat) : (s.setKerbQueue l q).pkt n = s.pkt n := rfl
theorem State.rxOf_setKerbQueue (s : State) (l : Nat) (q : List Nat) (m : Nat) : (s.setKerbQueue l q).rxOf m = s.rxOf m := rfl
theorem State.pkt_setRx (s : State) (m v n : Nat) : (s.setRx m v).pkt n = s.pkt n := rfl
theorem State.kerbQueue_setRx (s : State) (m v l : Nat) : (s.setRx m v).kerbQueue l = s.kerbQueue l := rfl
theorem State.kerbQueue_setPkt (s : State) (n : Nat) (p : Pkt) (l : Nat) : (s.setPkt n p).kerbQueue l = s.kerbQueue l := rfl
theorem State.rxOf_setPkt (s : State) (n : Nat) (p : Pkt) (m : Nat) : (s.setPkt n p).rxOf m = s.rxOf m := rfl
theorem State.gather_setPkt (s : State) (n : Nat) (p : Pkt) : (s.setPkt n p).line.gather = s.line.gather := rfl
theorem State.gather_setRx (s : State) (m v : Nat) : (s.setRx m v).line.gather = s.line.gather := rfl
theorem State.gather_stampPkt (s : State) (n : Nat) : (s.stampPkt n).line.gather = s.line.gather := rfl
theorem State.gather_use (s : State) (k : Use) : (s.use k).line.gather = s.line.gather := rfl
theorem State.gather_setKerbQueue (s : State) (l : Nat) (q : List Nat) : (s.setKerbQueue l q).line.gather = s.line.gather := rfl
theorem State.kerbQueue_setKerbQueue_self (s : State) (l : Nat) (q : List Nat) : (s.setKerbQueue l q).kerbQueue l = q :=
  Tab.get_set_self [] s.line.kerbQ l q

/-- A header put behind those of earlier clocks into a queue with room. -/
theorem State.kerbPut_of_room (s : State) (l n : Nat) (hroom : (s.kerbQueue l).length < 512)
    (hearly : ∀ x ∈ s.kerbQueue l, x ≠ n → (s.pkt x).kerbTick ≠ s.bus.ticks) :
    s.kerbPut l n = (s.stampPkt n).setKerbQueue l (s.kerbQueue l ++ [n]) := by
  have hinsert : (s.stampPkt n).kerbInsert n (s.kerbQueue l) = s.kerbQueue l ++ [n] := by
    refine State.kerbInsert_eq_append _ n _ fun x hx hne => ?_
    rw [State.stampPkt, State.pkt_setPkt_ne _ _ hne]
    exact hearly x hx hne
  have hlen : (s.kerbQueue l ++ [n]).length ≤ 512 := by
    rw [List.length_append, List.length_singleton]
    omega
  show (if ((s.stampPkt n).kerbInsert n (s.kerbQueue l)).length ≤ 512
    then (s.stampPkt n).setKerbQueue l ((s.stampPkt n).kerbInsert n (s.kerbQueue l)) else _) = _
  rw [hinsert, if_pos hlen]

/-- A header whose avenue is served is put into its queue (R83, R152). -/
theorem State.enterKerb_of_served (s : State) (n : Nat) (hserved : ∃ p, s.servingAve (s.pkt n).lave = some p)
    (hoff : s.flag 0x500100 31 = false) : s.enterKerb n = s.kerbPut (s.pkt n).lave n := by
  obtain ⟨p, hp⟩ := hserved
  simp only [State.enterKerb, hp, s.sampleTag_of_off n hoff, ite_self]

/-- A header delivered to the queue of a served avenue: it is the last there. -/
theorem State.reachKerb_of_room (s : State) (n : Nat) (huses : s.uses (.kerb ((s.pkt n).ctx / 16)) < 2)
    (hserved : ∃ p, s.servingAve (s.pkt n).lave = some p) (hoff : s.flag 0x500100 31 = false)
    (hroom : (s.kerbQueue (s.pkt n).lave).length < 512)
    (hearly : ∀ x ∈ s.kerbQueue (s.pkt n).lave, x ≠ n → (s.pkt x).kerbTick ≠ s.bus.ticks) :
    s.reachKerb n = ((s.use (.kerb ((s.pkt n).ctx / 16))).stampPkt n).setKerbQueue (s.pkt n).lave (s.kerbQueue (s.pkt n).lave ++ [n]) := by
  unfold State.reachKerb
  rw [if_pos huses, State.enterKerb_of_served (s.use (.kerb ((s.pkt n).ctx / 16))) _ hserved hoff]
  exact State.kerbPut_of_room _ _ _ hroom hearly

/-! ### A packet's first block (R84) -/

theorem State.takeBlocks_one (s : State) (n : Nat) (h : s.kerbRoom ((s.pkt n).ctx / 16) = true) : s.takeBlocks n 1 = (s.takeBlock n, true) := by
  rw [State.takeBlocks, if_pos h, State.takeBlocks]

/-- What neither the packets nor the counts of blocks belong to, the taking of a block leaves. -/
theorem State.takeBlock_part {γ : Type} (q : State → γ)
    (hl : ∀ (s : State) used now pkts, q { s with line := { s.line with used := used, blkNow := now, pkts := pkts } } = q s) (s : State) (n : Nat) :
    q (s.takeBlock n) = q s := by
  unfold State.takeBlock
  dsimp only
  split
  · exact hl s _ _ _
  · exact hl s _ _ _

theorem State.pkt_takeBlock_self (s : State) (n : Nat) : (s.takeBlock n).pkt n = { s.pkt n with blocks := (s.pkt n).blocks + 1 } :=
  State.pkt_setPkt_self _ _ _

theorem State.pkt_takeBlock_ne (s : State) {n x : Nat} (h : x ≠ n) : (s.takeBlock n).pkt x = s.pkt x := by
  unfold State.takeBlock
  dsimp only
  rw [State.pkt_setPkt_ne _ _ h]
  split <;> rfl

/-! ### A header that is taken (R52, R81, R83, R84) -/

/-- What the first bytes of a frame meet that are stored, steered and queued at once. -/
structure State.Admits (s : State) (m : Nat) (head : List Byte) : Prop where
  long : 60 ≤ head.length
  window : head.length ≤ 256
  running : s.ctxScr m = 2
  up : s.rxUp m = true
  cool : s.flag 0x50 8 = false
  active : s.standby = false
  frame : isPauseFrame head = false
  block : s.kerbRoom (m / 16) = true
  fits : head.length + 4 ≤ s.maxFrame m
  turn : s.uses (.kerb (m / 16)) < 2
  early : ∀ x, x ∈ s.kerbQueue (s.steer m (s.steerHash head)) → (s.pkt x).kerbTick ≠ s.bus.ticks
  served : ∃ p, s.servingAve (s.steer m (s.steerHash head)) = some p
  room : (s.kerbQueue (s.steer m (s.steerHash head))).length < 512
  unsampled : s.flag 0x500100 31 = false

/-- The packet of a frame as its first bytes come. -/
def State.newPkt (s : State) (m : Nat) (head : List Byte) (fec : Bool) : Pkt :=
  { ctx := m, hash := s.steerHash head, lave := s.steer m (s.steerHash head), tsSec := s.rxTime m / 1000000000, tsNs := s.rxTime m % 1000000000,
    fec := fec, firstTick := s.bus.ticks, maxFrame := s.maxFrame m }

/-- The packet of a frame with its first bytes stored in one block. -/
def State.storedPkt (s : State) (m : Nat) (head : List Byte) (fec : Bool) : Pkt :=
  Pkt.grown { s.newPkt m head fec with blocks := 1 } head

/-- The state with a number given to a new packet. -/
def State.addPkt (s : State) (p : Pkt) : State := ({ s with line := { s.line with nextPkt := s.line.nextPkt + 1 } } : State).setPkt s.line.nextPkt p

/-- The state with the first bytes of a frame stored. -/
def State.storeHead (s : State) (m : Nat) (head : List Byte) (fec : Bool) : State :=
  (((s.addPkt (s.newPkt m head fec)).takeBlock s.line.nextPkt).setRx m (s.line.nextPkt + 2)).setPkt s.line.nextPkt (s.storedPkt m head fec)

section
variable {s : State} {m : Nat} {head : List Byte} (fec : Bool)

/-- The first bytes that fit into a frame are stored whole. -/
theorem State.Admits.storedPkt_eq (h : s.Admits m head) :
    s.storedPkt m head fec = { s.newPkt m head fec with blocks := 1, len := head.length, data := head } := by
  have htake : head.take (s.maxFrame m) = head := List.take_of_length_le (by have := h.fits; omega)
  have hfits : ¬ s.maxFrame m < head.length + 4 := by have := h.fits; omega
  simp only [State.storedPkt, Pkt.grown, State.newPkt, List.nil_append, htake, hfits, false_and, if_false, Nat.zero_add]

theorem State.pkt_storeHead_self : (s.storeHead m head fec).pkt s.line.nextPkt = s.storedPkt m head fec := State.pkt_setPkt_self _ _ _

theorem State.pkt_storeHead_ne {x : Nat} (h : x ≠ s.line.nextPkt) : (s.storeHead m head fec).pkt x = s.pkt x := by
  rw [State.storeHead, State.pkt_setPkt_ne _ _ h]
  exact (State.pkt_takeBlock_ne _ h).trans (State.pkt_setPkt_ne _ _ h)

theorem State.kerbQueue_storeHead (l : Nat) : (s.storeHead m head fec).kerbQueue l = s.kerbQueue l := by
  rw [State.storeHead, State.kerbQueue_setPkt, State.kerbQueue_setRx, State.takeBlock_part (fun t : State => t.kerbQueue l) (fun _ _ _ _ => rfl),
    State.addPkt, State.kerbQueue_setPkt]
  rfl

theorem State.gather_storeHead : (s.storeHead m head fec).line.gather = s.line.gather := by
  rw [State.storeHead, State.gather_setPkt, State.gather_setRx, State.takeBlock_part (fun t : State => t.line.gather) (fun _ _ _ _ => rfl),
    State.addPkt, State.gather_setPkt]

theorem State.rxOf_storeHead : (s.storeHead m head fec).rxOf m = s.line.nextPkt + 2 := by
  rw [State.storeHead, State.rxOf_setPkt, State.rxOf_setRx_self]

/-- The first bytes of a frame that is admitted are stored, and its header is delivered. -/
theorem State.frameStart_of_admits (h : s.Admits m head) : s.frameStart m head fec = (s.storeHead m head fec).reachKerb s.line.nextPkt := by
  have ⟨hlong, hwindow, hrun, hup, hcool, hactive, hframe, hblock, _, _, _, _, _, _⟩ := h
  let u := (s.addPkt (s.newPkt m head fec)).takeBlock s.line.nextPkt
  have hnew : (s.addPkt (s.newPkt m head fec)).pkt s.line.nextPkt = s.newPkt m head fec := State.pkt_setPkt_self _ _ _
  have htake : (s.addPkt (s.newPkt m head fec)).takeBlocks s.line.nextPkt 1 = (u, true) :=
    State.takeBlocks_one _ _ (by rw [hnew]; exact hblock)
  have hpkt : (u.setRx m (s.line.nextPkt + 2)).pkt s.line.nextPkt = { s.newPkt m head fec with blocks := 1 } :=
    (State.pkt_takeBlock_self _ _).trans (by rw [hnew]; rfl)
  have hgrow : (u.setRx m (s.line.nextPkt + 2)).growFrame s.line.nextPkt head = s.storeHead m head fec := by
    rw [State.growFrame_of_blocks _ _ (by rw [hpkt]; rfl), hpkt]
    · rfl
    · rw [hpkt]
      simp only [State.newPkt, List.length_nil, Nat.zero_add, ceilDiv]
      omega
  have hsome : ¬ (s.storeHead m head fec).pkt s.line.nextPkt = {} := by
    rw [State.pkt_storeHead_self, h.storedPkt_eq]
    intro hnil
    have hempty : head = [] := congrArg Pkt.data hnil
    rw [hempty] at hlong
    exact absurd hlong (by decide)
  unfold State.frameStart
  rw [if_neg (not_not.2 hrun), if_neg (by simp [hup, hcool]), if_neg (by omega), if_neg (by simp [hframe]), if_neg (by simp [hactive])]
  extract_lets n hash at' p _ s1
  have htake' : s1.takeBlocks n 1 = (u, true) := htake
  rw [htake']
  dsimp only
  rw [if_pos rfl, hgrow, if_neg hsome]

end

/-- In t the header of a frame that came to s is the last of its kerb queue, and its packet is in reception. -/
structure State.Queued (s t : State) (m : Nat) (head : List Byte) (fec : Bool) : Prop where
  rx : t.rxOf m = s.line.nextPkt + 2
  pkt : t.pkt s.line.nextPkt =
    { s.newPkt m head fec with blocks := 1, len := head.length, data := head, kerbTick := s.bus.ticks }
  queue : t.kerbQueue (s.steer m (s.steerHash head)) = s.kerbQueue (s.steer m (s.steerHash head)) ++ [s.line.nextPkt]
  gather : t.line.gather = s.line.gather

theorem State.Queued.of_line {s t u : State} {m : Nat} {head : List Byte} {fec : Bool} (h : s.Queued t m head fec) (hl : u.line = t.line) :
    s.Queued u m head fec :=
  ⟨(congrArg (fun l : LineState => Tab.get 0 l.rx m) hl).trans h.rx,
    (congrArg (fun l : LineState => Tab.get ({} : Pkt) l.pkts s.line.nextPkt) hl).trans h.pkt,
    (congrArg (fun l : LineState => Tab.get [] l.kerbQ (s.steer m (s.steerHash head))) hl).trans h.queue,
    (congrArg LineState.gather hl).trans h.gather⟩

theorem State.Admits.queued {s : State} {m : Nat} {head : List Byte} (fec : Bool) (h : s.Admits m head) :
    s.Queued (s.frameStart m head fec) m head fec := by
  let n := s.line.nextPkt
  let t := s.storeHead m head fec
  have hpkt : t.pkt n = { s.newPkt m head fec with blocks := 1, len := head.length, data := head } :=
    (State.pkt_storeHead_self fec).trans (h.storedPkt_eq fec)
  have hlave : (t.pkt n).lave = s.steer m (s.steerHash head) := by rw [hpkt]; rfl
  have hctx : (t.pkt n).ctx = m := by rw [hpkt]; rfl
  have hqueue : t.kerbQueue (s.steer m (s.steerHash head)) = s.kerbQueue (s.steer m (s.steerHash head)) := State.kerbQueue_storeHead fec _
  have hreach : s.frameStart m head fec =
      ((t.use (.kerb ((t.pkt n).ctx / 16))).stampPkt n).setKerbQueue (t.pkt n).lave (t.kerbQueue (t.pkt n).lave ++ [n]) := by
    rw [State.frameStart_of_admits fec h]
    refine State.reachKerb_of_room t n ?_ ?_ h.unsampled ?_ ?_
    · rw [hctx]
      exact h.turn
    · rw [hlave]
      exact h.served
    · rw [hlave, hqueue]
      exact h.room
    · rw [hlave, hqueue]
      intro x hx hne
      rw [State.pkt_storeHead_ne fec hne]
      exact h.early x hx
  rw [hreach, hlave, hctx, hqueue]
  refine ⟨?_, ?_, State.kerbQueue_setKerbQueue_self _ _ _, ?_⟩
  · rw [State.rxOf_setKerbQueue, State.rxOf_stampPkt, State.rxOf_use, State.rxOf_storeHead]
  · rw [State.pkt_setKerbQueue, State.pkt_stampPkt_self, State.pkt_use, hpkt]
    rfl
  · rw [State.gather_setKerbQueue, State.gather_stampPkt, State.gather_use, State.gather_storeHead]

/-- What GoodFrameIsQueued says of a header that is queued. -/
theorem State.Queued.shown {s t : State} {m : Nat} {head : List Byte} {fec : Bool} (h : s.Queued t m head fec) :
    (t.pkt s.line.nextPkt).data = head ∧ (t.pkt s.line.nextPkt).hash = s.steerHash head
    ∧ (t.pkt s.line.nextPkt).lave = s.steer m (s.steerHash head)
    ∧ t.kerbQueue (s.steer m (s.steerHash head)) = s.kerbQueue (s.steer m (s.steerHash head)) ++ [s.line.nextPkt] := by
  rw [h.pkt]
  exact ⟨rfl, rfl, rfl, h.queue⟩

end Machine
end Sys2Proof
end

section
/-! SUPPORT. A frame of the gather buffer that is complete goes to the kerb whole; the statement O18. -/

open Sys2Proof Sys2Proof.Machine
namespace Sys2Proof
namespace Machine

/-! ### What the counting of a frame leaves (R555) -/

/-- t is s with the counters of a MAC context higher. -/
structure State.MacCounted (s t : State) : Prop where
  reg : ∀ a, a < 0x1030000 ∨ 0x1033000 ≤ a ∨ a % 0x40 < 0x10 → t.reg a = s.reg a
  line : t.line = s.line
  used : t.bus.used = s.bus.used
  ticks : t.bus.ticks = s.bus.ticks

theorem State.MacCounted.refl (s : State) : s.MacCounted s := ⟨fun _ _ => rfl, rfl, rfl, rfl⟩

theorem State.MacCounted.macCount {s t : State} (h : s.MacCounted t) {m i : Nat} (n : Nat) (hm : m < 192) (hi : i < 5) :
    s.MacCounted (t.macCount m i n) where
  reg a ha := (t.reg_macCount_ne n (by unfold macCnt; omega) (by unfold macCnt; omega)).trans (h.reg a ha)
  line := (t.macCount_line m i n).trans h.line
  used := (t.setReg64_bus_used _ _).trans h.used
  ticks := (t.setReg64_bus_ticks _ _).trans h.ticks

theorem State.macCounted_countRx (s : State) {m : Nat} (len : Nat) (hm : m < 192) : s.MacCounted (s.countRx m len) := by
  unfold State.countRx
  split
  · exact ((State.MacCounted.refl s).macCount 1 hm (by decide)).macCount len hm (by decide)
  · exact .refl s

section
variable {s t : State} (h : s.MacCounted t)
include h

theorem State.MacCounted.flag {a : Nat} (i : Nat) (ha : a < 0x1030000 ∨ 0x1033000 ≤ a ∨ a % 0x40 < 0x10) : t.flag a i = s.flag a i :=
  congrArg (bitOf · i) (h.reg a ha)

theorem State.MacCounted.fld {a : Nat} (hi lo : Nat) (ha : a < 0x1030000 ∨ 0x1033000 ≤ a ∨ a % 0x40 < 0x10) : t.fld a hi lo = s.fld a hi lo :=
  congrArg (bits · hi lo) (h.reg a ha)

theorem State.MacCounted.cliEn (f c : Nat) : t.cliEn f c = s.cliEn f c := by rw [State.cliEn, State.cliWord, h.line, State.cliEn, State.cliWord]

theorem State.MacCounted.pgMode (g : Nat) : t.pgMode g = s.pgMode g := h.fld _ _ (by unfold pgModeAddr; omega)

theorem State.MacCounted.flxSpan (f : Nat) : t.flxSpan f = s.flxSpan f := h.flag _ (by unfold flxBase; omega)

theorem State.MacCounted.ctxOwner (m : Nat) : t.ctxOwner m = s.ctxOwner m := by
  have hsig : t.flag (pgModeAddr (m / 16)) 16 = s.flag (pgModeAddr (m / 16)) 16 := h.flag _ (by unfold pgModeAddr; omega)
  simp only [State.ctxOwner, h.pgMode, hsig, h.flxSpan, h.cliEn]

theorem State.MacCounted.scrState {a : Nat} (ha : a % 0x40 < 0x10) : t.scrState a = s.scrState a := h.fld _ _ (.inr (.inr ha))

theorem State.MacCounted.ctxScr (m : Nat) : t.ctxScr m = s.ctxScr m := by
  unfold State.ctxScr
  rw [h.ctxOwner]
  cases s.ctxOwner m with
  | none => rfl
  | eth p => exact h.scrState (by omega)
  | client f c => exact h.scrState (by unfold flxBase; omega)

theorem State.MacCounted.portDown (p : Nat) : t.portDown p = s.portDown p := by
  rw [State.portDown, h.reg _ (by unfold defLive; omega), State.portDown]

theorem State.MacCounted.flxAllDown (f : Nat) : t.flxAllDown f = s.flxAllDown f := by
  rw [State.flxAllDown, h.reg _ (by unfold flxBase; omega), State.flxAllDown]

theorem State.MacCounted.signalFail (f : Nat) : t.signalFail f = s.signalFail f := by
  unfold State.signalFail
  dsimp only
  rw [h.reg _ (by omega), h.flag 0 (by omega), h.flag 1 (by omega)]

theorem State.MacCounted.rxUp (m : Nat) : t.rxUp m = s.rxUp m := by
  unfold State.rxUp
  rw [h.ctxOwner]
  cases s.ctxOwner m with
  | none => rfl
  | eth p =>
    dsimp only
    rw [h.scrState (by omega), h.portDown]
  | client f c =>
    have hcar : t.flxCarrier f = s.flxCarrier f := h.flag _ (by unfold flxBase; omega)
    dsimp only
    rw [h.scrState (by unfold flxBase; omega), h.flxAllDown, h.line, hcar, h.signalFail]

theorem State.MacCounted.steerHash (w : List Byte) : t.steerHash w = s.steerHash w := by
  rw [State.steerHash, h.reg _ (by omega), State.steerHash]

theorem State.MacCounted.steer (m k : Nat) : t.steer m k = s.steer m k := by
  unfold State.steer State.steerEntry
  rw [h.flag _ (by unfold macCfg; omega), h.fld _ _ (by unfold macCfg; omega), h.fld _ _ (by omega)]

theorem State.MacCounted.maxFrame (m : Nat) : t.maxFrame m = s.maxFrame m := by
  rw [State.maxFrame, h.fld _ _ (by unfold macCfg; omega), State.maxFrame]

theorem State.MacCounted.kerbRoom (g : Nat) : t.kerbRoom g = s.kerbRoom g := by
  have hrsv : t.kerbRsv = s.kerbRsv := by rw [State.kerbRsv, h.fld _ _ (by omega), State.kerbRsv]
  have hused : t.kerbUsedOf = s.kerbUsedOf := by
    funext i
    rw [State.kerbUsedOf, h.line, State.kerbUsedOf]
  rw [State.kerbRoom, State.kerbShared, hrsv, hused, State.kerbRoom, State.kerbShared]

theorem State.MacCounted.servingAve (l : Nat) : t.servingAve l = s.servingAve l := by
  unfold State.servingAve
  congr 1
  funext p
  rw [h.scrState (by omega), h.flag _ (by omega), h.fld _ _ (by omega)]

theorem State.MacCounted.standby : t.standby = s.standby := by
  rw [State.standby, h.flag _ (by omega), h.fld _ _ (by omega), State.standby]

theorem State.MacCounted.kerbQueue (l : Nat) : t.kerbQueue l = s.kerbQueue l := by rw [State.kerbQueue, h.line, State.kerbQueue]

/-- A frame that is admitted is so after the counting of a frame. -/
theorem State.MacCounted.admits {m : Nat} {head : List Byte} (ha : s.Admits m head) : t.Admits m head where
  long := ha.long
  window := ha.window
  running := (h.ctxScr m).trans ha.running
  up := (h.rxUp m).trans ha.up
  cool := (h.flag 8 (by omega)).trans ha.cool
  active := h.standby.trans ha.active
  frame := ha.frame
  block := (h.kerbRoom _).trans ha.block
  fits := by
    rw [h.maxFrame]
    exact ha.fits
  turn := by
    rw [State.uses, h.used]
    exact ha.turn
  early := by
    rw [h.steerHash, h.steer, h.kerbQueue]
    intro x hx
    rw [State.pkt, h.line, h.ticks]
    exact ha.early x hx
  served := by
    rw [h.steerHash, h.steer, h.servingAve]
    exact ha.served
  room := by
    rw [h.steerHash, h.steer, h.kerbQueue]
    exact ha.room
  unsampled := (h.flag 31 (by omega)).trans ha.unsampled

end

/-! ### The commands (R52, R53) -/

section
variable {s : State} {m : Fin 192} {head : List Byte} (h : s.Admits m head)
include h

theorem does_frameHeaderToKerb_queued (hgather : s.gathers m = false) : Does (.frameHeaderToKerb m head) s fun t =>
    t.rxOf m = s.line.nextPkt + 2
    ∧ (t.pkt s.line.nextPkt).data = head ∧ (t.pkt s.line.nextPkt).hash = s.steerHash head
    ∧ (t.pkt s.line.nextPkt).lave = s.steer m (s.steerHash head)
    ∧ t.kerbQueue (s.steer m (s.steerHash head)) = s.kerbQueue (s.steer m (s.steerHash head)) ++ [s.line.nextPkt] := by
  have hlong := h.long
  have hstart : (s.fecStart m).1.Admits m head :=
    ⟨h.long, h.window, h.running, h.up, h.cool, h.active, h.frame, h.block, h.fits, h.turn, h.early, h.served, h.room, h.unsampled⟩
  have hqueued := (hstart.queued (s.fecStart m).2).of_line (State.writtenAny_line _ 8)
  exact ⟨_, execFrameHeaderToKerb_of_start (by omega) h.window (.inl hgather), hqueued.rx, hqueued.shown⟩

/-- A header queued, whose frame is complete with its first bytes: the packet is good, and stays where it is. -/
theorem State.Admits.completed {t : State} (hq : s.Queued t m head false) :
    (t.growFrame s.line.nextPkt []).judge s.line.nextPkt true =
      (t.setPkt s.line.nextPkt (t.pkt s.line.nextPkt)).setPkt s.line.nextPkt { t.pkt s.line.nextPkt with ended := true, bad := 0 } := by
  have hfits := h.fits
  have hwindow := h.window
  have hgrown : (t.pkt s.line.nextPkt).grown [] = t.pkt s.line.nextPkt := by
    have hroom : ¬ s.maxFrame m < head.length + 4 := by omega
    have htake : head.take (s.maxFrame m) = head := List.take_of_length_le (by omega)
    simp only [hq.pkt, Pkt.grown, State.newPkt, List.append_nil, List.length_nil, Nat.add_zero, htake, hroom, false_and, if_false]
  have hgrow : t.growFrame s.line.nextPkt [] = t.setPkt s.line.nextPkt (t.pkt s.line.nextPkt) := by
    rw [State.growFrame_of_blocks, hgrown]
    · rw [hq.pkt]
      rfl
    · rw [hq.pkt]
      simp only [List.length_nil, Nat.add_zero, ceilDiv]
      omega
  have hself : (t.setPkt s.line.nextPkt (t.pkt s.line.nextPkt)).pkt s.line.nextPkt = t.pkt s.line.nextPkt := State.pkt_setPkt_self _ _ _
  rw [hgrow, State.judge_good _ (by rw [hself, hq.pkt]; rfl) (by rw [hself, hq.pkt]; rfl), hself]

omit h in
theorem State.nextPkt_gatherClear : (s.gatherClear m).line.nextPkt = s.line.nextPkt := rfl

omit h in
theorem State.gather_gatherClear : Tab.get [] (s.gatherClear m).line.gather m = [] := Tab.get_set_self [] s.line.gather m []

/-- The state in which a frame of the gather buffer is counted, its buffer emptied. -/
def State.gathered (s : State) (m len : Nat) : State := (s.gatherClear m).countRx m len

omit h in
theorem State.macCounted_gathered (len : Nat) : (s.gatherClear m).MacCounted (s.gathered m len) := State.macCounted_countRx _ len m.isLt

theorem State.Admits.gathered (len : Nat) : (s.gathered m len).Admits m head :=
  (State.macCounted_gathered len).admits
    ⟨h.long, h.window, h.running, h.up, h.cool, h.active, h.frame, h.block, h.fits, h.turn, h.early, h.served, h.room, h.unsampled⟩

/-- A frame of the gather buffer that is complete and good goes to the kerb whole. -/
theorem execGatherFrameComplete_of_good (hrx : s.rxOf m = 0) (hnext : 1 ≤ s.line.nextPkt) (hgather : Tab.get [] s.line.gather m = head)
    (hfec : Tab.get false s.line.gatherFec m = false) (hfcs : Tab.get false s.line.gatherFcs m = false) :
    execGatherFrameComplete m true s = .next (((((s.gathered m (head.length + 4)).frameStart m head false).growFrame
      (s.gathered m (head.length + 4)).line.nextPkt []).judge (s.gathered m (head.length + 4)).line.nextPkt true).setRx m 0) := by
  have hcount := State.macCounted_gathered (s := s) (m := m) (head.length + 4)
  have hnext' : 1 ≤ (s.gathered m (head.length + 4)).line.nextPkt := by
    rw [hcount.line]
    exact hnext
  have hpkt := State.rxPkt_of_rxOf hnext' ((h.gathered (head.length + 4)).queued false).rx
  have hfits : ¬ (s.gathered m (head.length + 4)).maxFrame m < head.length + 4 := by
    rw [hcount.maxFrame]
    exact Nat.not_lt.2 h.fits
  have hlong := h.long
  have hclear : (s.gatherClear m).rxOf m = 0 := hrx
  have hrun : (s.gatherClear m).ctxScr m = 2 := h.running
  have hup : (s.gatherClear m).rxUp m = true := h.up
  unfold execGatherFrameComplete
  rw [hgather, hfec, hfcs]
  dsimp only
  rw [List.take_of_length_le h.window, List.drop_eq_nil_of_le h.window, if_neg (not_not.2 hclear), if_neg (not_not.2 hrun),
    if_neg (by simp [hup])]
  rw [State.gathered] at hpkt hfits ⊢
  rw [if_neg hfits, if_neg (by decide), if_neg (by decide), if_neg (by omega), hpkt]

theorem does_gatherFrameComplete_queued (hnext : 1 ≤ s.line.nextPkt) (hrx : s.rxOf m = 0) (hgather : Tab.get [] s.line.gather m = head)
    (hfec : Tab.get false s.line.gatherFec m = false) (hfcs : Tab.get false s.line.gatherFcs m = false) :
    Does (.gatherFrameComplete m true) s fun t => t.rxOf m = 0 ∧ Tab.get [] t.line.gather m = []
      ∧ (t.pkt s.line.nextPkt).ended = true ∧ (t.pkt s.line.nextPkt).bad = 0
      ∧ (t.pkt s.line.nextPkt).data = head ∧ (t.pkt s.line.nextPkt).hash = s.steerHash head
      ∧ (t.pkt s.line.nextPkt).lave = s.steer m (s.steerHash head)
      ∧ t.kerbQueue (s.steer m (s.steerHash head)) = s.kerbQueue (s.steer m (s.steerHash head)) ++ [s.line.nextPkt] := by
  have hrun := execGatherFrameComplete_of_good h hrx hnext hgather hfec hfcs
  have hcount := State.macCounted_gathered (s := s) (m := m) (head.length + 4)
  have hadmits := h.gathered (head.length + 4)
  generalize s.gathered m (head.length + 4) = u at hrun hcount hadmits
  have hqueued := hadmits.queued false
  rw [hadmits.completed hqueued] at hrun
  have hnum : u.line.nextPkt = s.line.nextPkt := (congrArg LineState.nextPkt hcount.line).trans State.nextPkt_gatherClear
  obtain ⟨hdata, hhash, hlave, hqueue⟩ := hqueued.shown
  rw [hcount.steerHash, hcount.steer, hcount.kerbQueue] at hqueue
  rw [hcount.steerHash] at hhash
  rw [hcount.steerHash, hcount.steer] at hlave
  rw [hnum] at hrun hdata hhash hlave hqueue
  refine ⟨_, hrun, State.rxOf_setRx_self _ _ _, ?_, ?_⟩
  · rw [State.gather_setRx, State.gather_setPkt, State.gather_setPkt, hqueued.gather, hcount.line, State.gather_gatherClear]
  · rw [State.pkt_setRx, State.pkt_setPkt_self, State.kerbQueue_setRx, State.kerbQueue_setPkt, State.kerbQueue_setPkt]
    exact ⟨rfl, rfl, hdata, hhash, hlave, hqueue⟩

end

end Machine
end Sys2Proof

/-- Settles O18: a frame that the kerb admits is stored, steered and queued, whether its header comes at once or from the gather buffer; counting it
on the way changes nothing that the kerb goes by. -/
theorem goodFrameIsQueued : Obligations.GoodFrameIsQueued := by
  unfold Obligations.GoodFrameIsQueued
  intro m head s hlong hwindow hrun hup hcool hactive hframe hblock hfits hturn hearly hserved hroom hoff
  have h : s.Admits m head := ⟨hlong, hwindow, hrun, hup, hcool, hactive, hframe, hblock, hfits, hturn, hearly, hserved, hroom, hoff⟩
  exact ⟨does_frameHeaderToKerb_queued h, does_gatherFrameComplete_queued h⟩
end

section
/-! SUPPORT. FlexE: calendar requests and switches, and what an overhead frame shows; for the statement O20. -/

open Sys2Proof Sys2Proof.Machine
namespace Sys2Proof
namespace Machine

/-- What the frames in reception do not belong to, of the line side, a refresh leaves. -/
theorem State.refreshGroup_line {γ : Type} (q : LineState → γ)
    (hl : ∀ (l : LineState) rx pkts g gf gs, q { l with rx := rx, pkts := pkts, gather := g, gatherFec := gf, gatherFcs := gs } = q l)
    (s : State) {g : Nat} (hg : g < 12) : q (s.refreshGroup g).line = q s.line :=
  s.refreshGroup_part (fun t : State => q t.line) (fun _ _ => rfl) (fun _ _ => rfl) (fun t => hl t.line) hg

theorem not_refreshedReg_flx {f n : Nat} (hf : f < 12) (hn : n < 0x50) : ¬ refreshedReg (flxBase f + n) := by
  unfold refreshedReg flxBase
  omega

/-! ### Calendar requests (R69) -/

/-- A calendar fails no client exactly when every client agrees with it. -/
theorem State.calFailing_eq_zero_iff (s : State) (f : Nat) (calB : Bool) :
    s.calFailing f calB = 0 ↔ ∀ c, c < 32 → s.cliAgrees f calB c = true := by
  have hterm (c : Nat) : b2n (!s.cliAgrees f calB c) * 2 ^ c = 0 ↔ s.cliAgrees f calB c = true := by
    cases s.cliAgrees f calB c <;> simp [b2n]
  simp only [State.calFailing, List.sum_eq_zero_iff, List.forall_mem_map, hterm, List.mem_range]

/-- CA sent, or withheld. -/
def State.setCaSent (s : State) (f n : Nat) : State := { s with line := { s.line with caSent := Tab.set 0 s.line.caSent f n } }

theorem State.caSent_setCaSent (s : State) (f n : Nat) : Tab.get 0 (s.setCaSent f n).line.caSent f = n := Tab.get_set_self 0 s.line.caSent f n

theorem execCrReceived_of_agree {f : Fin 12} {b : Bool} {s : State} (hcar : s.flxCarrier f = false) (h : s.calFailing f b = 0) :
    execCrReceived f b s = .next ((s.setCaSent f (if b then 2 else 1)).setCalFail f 0) := by
  unfold execCrReceived
  rw [if_neg (by simp [hcar]), if_pos h]
  rfl

theorem execCrReceived_of_disagree {f : Fin 12} {b : Bool} {s : State} (hcar : s.flxCarrier f = false) (h : s.calFailing f b ≠ 0) :
    execCrReceived f b s = .next ((s.setCaSent f 0).setCalFail f (s.calFailing f b)) := by
  unfold execCrReceived
  rw [if_neg (by simp [hcar]), if_neg h]
  rfl

/-- The clients noted that a calendar fails. -/
def State.noteCalFail (s : State) (f mask : Nat) : State := { s with line := { s.line with calFail := Tab.set 0 s.line.calFail f mask } }

theorem State.caSent_noteCalFail (s : State) (f mask : Nat) : (s.noteCalFail f mask).line.caSent = s.line.caSent := rfl
theorem State.calFail_noteCalFail (s : State) (f mask : Nat) : Tab.get 0 (s.noteCalFail f mask).line.calFail f = mask :=
  Tab.get_set_self 0 s.line.calFail f mask

theorem State.setCalFail_zero (s : State) (f : Nat) : s.setCalFail f 0 = (s.noteCalFail f 0).refreshGroup f := rfl

theorem State.setCalFail_of_ne_zero (s : State) (f : Nat) {mask : Nat} (h : mask ≠ 0) :
    s.setCalFail f mask = ((s.noteCalFail f mask).raise (flxBase f + 0x54) 4).refreshGroup f :=
  congrArg (fun t : State => t.refreshGroup f) (if_neg h)

/-- A latched defect of a FlexE group stays latched as a port group is refreshed. -/
theorem RefreshKeeps.flxLatch (f : Nat) {i : Nat} (hi : i ≤ 31) : RefreshKeeps fun s => s.flag (flxBase f + 0x54) i = true where
  up _ _ hs := (State.flag_setFlag_ne _ _ _ _ (by unfold flxBase defLive; omega)).trans hs
  downLatch _ hs := (State.flag_setFlag_ne _ _ _ _ (by unfold flxBase defLive; omega)).trans hs
  flxDefect _ on _ hs := State.flag_setDefect_of_set on hi (by unfold flxBase; omega) hs
  flxSkew _ _ hs := (State.flag_setReg_ne _ _ _ (by unfold flxBase; omega)).trans hs
  macStat _ _ hs := (State.flag_setReg_ne _ _ _ (by unfold flxBase Machine.macStat; omega)).trans hs
  lose _ _ hs := (congrArg (bitOf · i) (State.reg_loseReception _ _ _ _)).trans hs

theorem does_crReceived_of_agree (f : Fin 12) (b : Bool) (s : State) (hcar : s.flxCarrier f = false)
    (h : ∀ c, c < 32 → s.cliAgrees f b c = true) : Does (.crReceived f b) s fun t =>
      Tab.get 0 t.line.caSent f = (if b then 2 else 1) ∧ Tab.get 0 t.line.calFail f = 0 := by
  refine ⟨_, execCrReceived_of_agree hcar ((s.calFailing_eq_zero_iff f b).2 h), ?_, ?_⟩
  · rw [State.setCalFail_zero, State.refreshGroup_line (·.caSent) (fun _ _ _ _ _ _ => rfl) _ f.isLt, State.caSent_noteCalFail,
      State.caSent_setCaSent]
  · rw [State.setCalFail_zero, State.refreshGroup_line (·.calFail) (fun _ _ _ _ _ _ => rfl) _ f.isLt, State.calFail_noteCalFail]

theorem does_crReceived_of_disagree (f : Fin 12) (b : Bool) (c : Fin 32) (s : State) (hcar : s.flxCarrier f = false)
    (h : s.cliAgrees f b c = false) : Does (.crReceived f b) s fun t =>
      t.flag (flxBase f + 0x54) 4 = true ∧ Tab.get 0 t.line.caSent f = 0 ∧ Tab.get 0 t.line.calFail f = s.calFailing f b := by
  have hfail : s.calFailing f b ≠ 0 := by
    rw [Ne, State.calFailing_eq_zero_iff]
    exact fun hall => by simp [hall c c.isLt] at h
  refine ⟨_, execCrReceived_of_disagree hcar hfail, ?_, ?_, ?_⟩
  · rw [State.setCalFail_of_ne_zero _ _ hfail]
    exact (RefreshKeeps.flxLatch f (by decide)).refreshGroup f.isLt (State.flag_raise_self _ _ (by decide))
  · rw [State.setCalFail_of_ne_zero _ _ hfail, State.refreshGroup_line (·.caSent) (fun _ _ _ _ _ _ => rfl) _ f.isLt, State.raise_line,
      State.caSent_noteCalFail, State.caSent_setCaSent]
  · rw [State.setCalFail_of_ne_zero _ _ hfail, State.refreshGroup_line (·.calFail) (fun _ _ _ _ _ _ => rfl) _ f.isLt, State.raise_line,
      State.calFail_noteCalFail]

theorem exec_crReceived_of_carrier (f : Fin 12) (b : Bool) (s : State) (h : s.flxCarrier f = true) : exec (.crReceived f b) s = .next s :=
  if_pos h

/-! ### CA and its timeout (R68) -/

/-- A bit set with number k in it. -/
def withBit (mask k : Nat) : Nat := if bitOf mask k then mask else mask + 2 ^ k

theorem bitOf_withBit (mask k : Nat) : bitOf (withBit mask k) k = true := by
  unfold withBit
  split
  · assumption
  · next h =>
    rw [bitOf_eq] at h ⊢
    rw [Nat.add_comm, Nat.testBit_two_pow_add_eq]
    simpa using h

/-- The last awaited CA noted, and the overhead multiframe boundary fixed at which transmit switches. -/
def State.awaitSwitch (s : State) (f mask : Nat) : State :=
  let s := { s with line := { s.line with caMask := Tab.set 0 s.line.caMask f mask } }
  { s with fresh := s.fresh + 1, line := { s.line with txAt := Tab.set 0 s.line.txAt f (s.bus.ticks + 1 + Config.multiframeWait s.fresh) } }

theorem does_caReceived_last (f : Fin 12) (k : Fin 8) (b : Bool) (s : State) (hcr : Tab.get 0 s.line.crSent f = (if b then 2 else 1))
    (htx : Tab.get 0 s.line.txAt f = 0) (hphys : s.flxPhys f = [k.val]) : Does (.caReceived f k b) s fun t =>
      Tab.get 0 t.line.txAt f = s.bus.ticks + 1 + Config.multiframeWait s.fresh ∧ t.fresh = s.fresh + 1
      ∧ t.txCalB f = s.txCalB f ∧ t.bus = s.bus := by
  let mask := withBit (Tab.get 0 s.line.caMask f) k
  let u : State := { s with line := { s.line with caMask := Tab.set 0 s.line.caMask f mask } }
  have hall : ((u.flxPhys f).all fun j => bitOf mask j) = true := by
    have hu : u.flxPhys f = [k.val] := hphys
    rw [hu, List.all_cons, bitOf_withBit, List.all_nil]
    rfl
  have hrun : execCaReceived f k b s = .next (s.awaitSwitch f mask) := by
    unfold execCaReceived
    rw [if_pos (by simp [hcr, htx])]
    exact if_pos hall
  exact ⟨_, hrun, Tab.get_set_self 0 s.line.txAt f _, rfl, rfl, rfl⟩

/-- A calendar request withdrawn. -/
def State.withdrawCr (s : State) (f : Nat) : State :=
  { s with line := { s.line with crSent := Tab.set 0 s.line.crSent f 0, caMask := Tab.set 0 s.line.caMask f 0 } }

theorem does_caTimeout_late (f : Fin 12) (s : State) (hcar : s.flxCarrier f = false) (hcr : Tab.get 0 s.line.crSent f ≠ 0)
    (htx : Tab.get 0 s.line.txAt f = 0) (hlate : Tab.get 0 s.line.crAt f + max (s.fld (flxBase f + 0x44) 15 0) 1 * 1500000 ≤ s.bus.ticks) :
    Does (.caTimeout f) s fun t => Tab.get 0 t.line.crSent f = 0 ∧ t.flag (flxBase f + 0x40) 3 = true ∧ t.txCalB f = s.txCalB f
      ∧ RegsSame s t [flxBase f + 0x40] := by
  have hrun : execCaTimeout f s = .next ((s.withdrawCr f).raise (flxBase f + 0x40) 3) := by
    unfold execCaTimeout
    exact if_neg (by simpa [hcar, hcr, htx] using hlate)
  refine ⟨_, hrun, ?_, State.flag_raise_self _ _ (by decide), ?_, fun a ha _ => ?_⟩
  · rw [State.raise_line]
    exact Tab.get_set_self 0 s.line.crSent f 0
  · exact (s.withdrawCr f).flag_setFlag_other (flxBase f + 0x40) true (by decide) (by decide)
  · exact (s.withdrawCr f).reg_setFlag_ne 3 true (fun h => ha (by simp [h]))

/-! ### Switches of the calendars (R68, R70, R74) -/

/-- A frame lost in flight touches no register but the context's count of FCS errors. -/
theorem State.reg_loseInFlight_ne (s : State) {m a : Nat} (h : a ≠ macCnt m 2) (h4 : a ≠ macCnt m 2 + 4) : (s.loseInFlight m).reg a = s.reg a := by
  unfold State.loseInFlight
  split
  · next n _ =>
    dsimp only
    split
    · exact State.reg_macCount_ne _ 1 h h4
    · rfl
  · split <;> rfl

theorem State.reg_takeRxCli (s : State) (f a : Nat) : (s.takeRxCli f).reg a = s.reg a := by
  unfold State.takeRxCli
  refine foldl_same (fun t : State => t.reg a) _ (fun t c => ?_) _ s
  rfl

/-- The receive calendar switches: its bit of FLX_CAL_STAT flips, and nothing else of that register changes. -/
theorem State.reg_rxSwitch_calStat (s : State) {f : Nat} (_hf : f < 12) :
    (s.rxSwitch f).reg (flxBase f + 0x40) = (s.setFlag (flxBase f + 0x40) 1 (!s.flag (flxBase f + 0x40) 1)).reg (flxBase f + 0x40) := by
  have hclients (t : State) : t.flxClients f ≤ 32 := by
    unfold State.flxClients
    split <;> decide
  unfold State.rxSwitch
  rw [State.reg_takeRxCli]
  refine foldl_keeps_of_mem (fun t : State => t.reg (flxBase f + 0x40) = _) _ _ _ (fun t c hc ht => ?_) rfl
  have hc32 := Nat.lt_of_lt_of_le (List.mem_range.1 hc) (hclients _)
  split
  · exact (t.reg_loseInFlight_ne (by unfold flxBase macCnt clientCtx; omega) (by unfold flxBase macCnt clientCtx; omega)).trans ht
  · exact ht

theorem State.flag_rxSwitch_rxCal (s : State) {f : Nat} (hf : f < 12) :
    (s.rxSwitch f).flag (flxBase f + 0x40) 1 = !s.flag (flxBase f + 0x40) 1 := by
  rw [State.flag, s.reg_rxSwitch_calStat hf]
  exact s.flag_setFlag_self _ _ (by decide)

theorem State.txCalB_rxSwitch (s : State) {f : Nat} (hf : f < 12) : (s.rxSwitch f).txCalB f = s.txCalB f := by
  rw [State.txCalB, State.flag, s.reg_rxSwitch_calStat hf]
  exact s.flag_setFlag_other _ _ (by decide) (by decide)

theorem does_cBitFlipReceived (f : Fin 12) (s : State) (hcar : s.flxCarrier f = false) : Does (.cBitFlipReceived f) s fun t =>
    t.flag (flxBase f + 0x40) 1 = !s.flag (flxBase f + 0x40) 1 ∧ t.txCalB f = s.txCalB f :=
  ⟨_, if_neg (by simp [hcar]), s.flag_rxSwitch_rxCal f.isLt, s.txCalB_rxSwitch f.isLt⟩

/-- Client settings that take effect touch no register, and of the line side only those settings. -/
theorem State.applyCli_part {γ : Type} (q : State → γ) (hl : ∀ (s : State) x, q { s with line := { s.line with cli := x } } = q s)
    (s : State) (f : Nat) : q (s.applyCli f) = q s := foldl_same q _ (fun t _ => hl t _) _ s

/-- The notes of a calendar switch that has taken place. -/
def State.switched (s : State) (f : Nat) : State :=
  let line := { s.line with crSent := Tab.set 0 s.line.crSent f 0, caMask := Tab.set 0 s.line.caMask f 0, txAt := Tab.set 0 s.line.txAt f 0 }
  { s with line := { line with cBit := Tab.set false s.line.cBit f (!Tab.get false s.line.cBit f) } }

theorem State.switched_flag (s : State) (f a i : Nat) : (s.switched f).flag a i = s.flag a i := rfl
theorem State.switched_otnSw (s : State) (f : Nat) : (s.switched f).line.otnSw = s.line.otnSw := rfl

theorem State.txSwitch_eq (s : State) (f : Nat) :
    s.txSwitch f = (((s.setFlag (flxBase f + 0x40) 0 (!s.txCalB f)).switched f).applyCli f).refreshGroup f := rfl

theorem State.txCalB_txSwitch (s : State) {f : Nat} (hf : f < 12) : (s.txSwitch f).txCalB f = !s.txCalB f := by
  rw [State.txSwitch_eq, State.txCalB, State.flag_refreshGroup _ hf (not_refreshedReg_flx hf (by decide)),
    State.applyCli_part (fun t : State => t.flag (flxBase f + 0x40) 0) (fun _ _ => rfl), State.switched_flag]
  exact s.flag_setFlag_self _ _ (by decide)

theorem State.otnSw_txSwitch (s : State) {f : Nat} (hf : f < 12) : (s.txSwitch f).line.otnSw = s.line.otnSw := by
  rw [State.txSwitch_eq, State.refreshGroup_line (·.otnSw) (fun _ _ _ _ _ _ => rfl) _ hf,
    State.applyCli_part (fun t : State => t.line.otnSw) (fun _ _ => rfl), State.switched_otnSw, State.setFlag_line]

/-- A switch at the next OPUCn multiframe no longer awaited. -/
def State.clearOtnSw (s : State) (g : Nat) : State := { s with line := { s.line with otnSw := Tab.set false s.line.otnSw g false } }

theorem State.clearOtnSw_txCalB (s : State) (g f : Nat) : (s.clearOtnSw g).txCalB f = s.txCalB f := rfl
theorem State.otnSw_clearOtnSw (s : State) (g : Nat) : Tab.get false (s.clearOtnSw g).line.otnSw g = false :=
  Tab.get_set_self false s.line.otnSw g false

theorem does_otnCalendarSwitch_transmit (g : Fin 12) (s : State) (hcar : s.flxCarrier g = true) (hsw : Tab.get false s.line.otnSw g = true) :
    Does (.otnCalendarSwitch g true) s fun t => t.txCalB g = !s.txCalB g ∧ Tab.get false t.line.otnSw g = false := by
  have hrun : execOtnCalendarSwitch g true s = .next ((s.clearOtnSw g).txSwitch g) := by
    unfold execOtnCalendarSwitch
    rw [if_pos rfl]
    exact if_pos (by simp [hsw, hcar])
  refine ⟨_, hrun, ?_, ?_⟩
  · rw [State.txCalB_txSwitch _ g.isLt, State.clearOtnSw_txCalB]
  · rw [State.otnSw_txSwitch _ g.isLt, State.otnSw_clearOtnSw]

theorem does_otnCalendarSwitch_receive (g : Fin 12) (s : State) (hcar : s.flxCarrier g = true) :
    Does (.otnCalendarSwitch g false) s fun t => t.flag (flxBase g + 0x40) 1 = !s.flag (flxBase g + 0x40) 1 :=
  ⟨_, if_pos hcar, s.flag_rxSwitch_rxCal g.isLt⟩

end Machine
end Sys2Proof
end

section
/-! SUPPORT. The skew and the defects that a FlexE group shows, and overhead frames; for the statement O20. -/

open Sys2Proof Sys2Proof.Machine
namespace Sys2Proof
namespace Machine

/-! ### The skew that a FlexE group shows (R66) -/

/-- A group's skew depends on which of its PHYs are enabled and on their skews alone. -/
theorem State.flxSkew_congr {s t : State} {f : Nat} (hr : ∀ k, k < 8 → t.reg (flxBase f + 0x10 + k * 4) = s.reg (flxBase f + 0x10 + k * 4))
    (hl : t.line.skew = s.line.skew) : t.flxSkew f = s.flxSkew f := by
  have hphys : t.flxPhys f = s.flxPhys f := List.filter_congr fun k hk => congrArg (bitOf · 31) (hr k (List.mem_range.1 hk))
  unfold State.flxSkew
  rw [hphys, hl]

theorem State.flxSkew_setDefect (s : State) (f i : Nat) (on : Bool) : (s.setDefect (flxBase f + 0x50) i on).flxSkew f = s.flxSkew f :=
  State.flxSkew_congr (fun k hk => s.reg_setDefect_ne on (by omega) (by omega)) (by rw [State.setDefect_line])

/-- PHY_DOWN and the per-PHY overhead defects of a FlexE group brought up to date. -/
def State.showOverhead (s : State) (f : Nat) : State :=
  let live := flxBase f + 0x50
  let s := s.setDefect live 7 ((s.flxPhys f).any fun k => s.portDown (s.flxPhyPort f k))
  [1, 2, 3, 6].foldl (fun s i =>
    s.setDefect live i ((s.flxPhys f).any fun k => bitOf (Tab.get 0 s.line.flxDef (f * 8 + k)) i)) s

/-- The skew of a FlexE group, and its deskew defect, brought up to date. -/
def State.showSkew (s : State) (f : Nat) : State :=
  (s.setReg (flxBase f + 0x58) (min (s.flxSkew f) 0xFFFF)).setDefect (flxBase f + 0x50) 5 (decide (1000 < s.flxSkew f))

theorem State.refreshFlx_eq (s : State) (f : Nat) : ∃ on, s.refreshFlx f = ((s.showOverhead f).showSkew f).setDefect (flxBase f + 0x50) 4 on :=
  ⟨_, rfl⟩

theorem State.flxSkew_showOverhead (s : State) (f : Nat) : (s.showOverhead f).flxSkew f = s.flxSkew f :=
  foldl_keeps (fun t : State => t.flxSkew f = s.flxSkew f) _ (fun t i ht => (t.flxSkew_setDefect f i _).trans ht) _ _ (s.flxSkew_setDefect f 7 _)

theorem State.reg_refreshFlx_skew (s : State) (f : Nat) : (s.refreshFlx f).reg (flxBase f + 0x58) = min (s.flxSkew f) 0xFFFF := by
  obtain ⟨on, heq⟩ := s.refreshFlx_eq f
  rw [heq, State.reg_setDefect_ne _ _ (by omega) (by omega), State.showSkew, State.reg_setDefect_ne _ _ (by omega) (by omega),
    State.reg_setReg_self, State.flxSkew_showOverhead]
  omega

theorem State.flag_refreshFlx_deskew (s : State) (f : Nat) : (s.refreshFlx f).flag (flxBase f + 0x50) 5 = decide (1000 < s.flxSkew f) := by
  obtain ⟨on, heq⟩ := s.refreshFlx_eq f
  rw [heq, State.flag_setDefect_of_ne _ _ _ _ (by decide) (by decide), State.showSkew, State.flag_setDefect_live _ _ _ (by decide),
    State.flxSkew_showOverhead]

/-- A FlexE group brought up to date writes its own defects and skew alone. -/
theorem State.reg_refreshFlx_ne (s : State) {f a : Nat} (h : a < flxBase f + 0x50 ∨ flxBase f + 0x58 < a) : (s.refreshFlx f).reg a = s.reg a := by
  have hdefect (t : State) (i : Nat) (on : Bool) : (t.setDefect (flxBase f + 0x50) i on).reg a = t.reg a :=
    t.reg_setDefect_ne on (by omega) (by omega)
  have hoverhead : (s.showOverhead f).reg a = s.reg a :=
    foldl_keeps (fun t : State => t.reg a = s.reg a) _ (fun t i ht => (hdefect t i _).trans ht) _ _ (hdefect s 7 _)
  obtain ⟨on, heq⟩ := s.refreshFlx_eq f
  rw [heq, hdefect, State.showSkew, hdefect, State.reg_setReg_ne _ _ (by omega), hoverhead]

/-- A context brought up to date writes its LINE_MAC_STAT alone. -/
theorem State.reg_refreshCtx_ne (s : State) {m a : Nat} (h : a ≠ macStat m) : (s.refreshCtx m).reg a = s.reg a := by
  unfold State.refreshCtx
  extract_lets
  split
  · exact (State.reg_loseReception _ _ _ _).trans (s.reg_setReg_ne _ h)
  · exact s.reg_setReg_ne _ h

/-- The ports of a group brought up to date. -/
def State.refreshPorts (s : State) (g : Nat) : State := (List.range 8).foldl (fun s i => s.refreshPort (8 * g + i)) s

/-- What a FlexE group shows after a refresh is what it showed after its ports and itself were brought up to date. -/
theorem State.reg_refreshGroup_flx (s : State) {g a : Nat} (hg : g < 12) (hlo : flxBase g ≤ a) (_hhi : a < flxBase g + 0x1000) :
    (s.refreshGroup g).reg a = ((s.refreshPorts g).refreshFlx g).reg a := by
  have hctx (t : State) {m : Nat} (hm : m < 192) : (t.refreshCtx m).reg a = t.reg a :=
    t.reg_refreshCtx_ne (by unfold flxBase at hlo; unfold macStat; omega)
  have hctxs (t : State) : ((List.range 32).foldl (fun s i => if 16 * g + i < 192 then s.refreshCtx (16 * g + i) else s) t).reg a = t.reg a := by
    refine foldl_same (fun t : State => t.reg a) _ (fun t i => ?_) _ t
    split
    · next hm => exact hctx t hm
    · rfl
  refine (hctxs _).trans ?_
  by_cases h0 : g = 0
  · rw [if_pos h0, if_pos h0]
    rfl
  · rw [if_neg h0, if_neg h0]
    refine foldl_keeps_of_mem (fun t : State => t.reg a = _) _ _ _ (fun t i hi ht => ?_) ?_
    · have := List.mem_range.1 hi
      exact (hctx t (by omega)).trans ht
    · exact State.reg_refreshFlx_ne _ (by unfold flxBase at hlo ⊢; omega)

/-- A group's skew is not a thing that a refresh changes. -/
theorem RefreshKeeps.skew {f : Nat} (_hf : f < 12) (n : Nat) : RefreshKeeps fun s => s.flxSkew f = n where
  up _ hp hs := (State.flxSkew_congr (fun _ _ => State.reg_setFlag_ne _ _ _ (by unfold flxBase defLive; omega)) (by rw [State.setFlag_line])).trans hs
  downLatch hp hs :=
    (State.flxSkew_congr (fun _ _ => State.reg_setFlag_ne _ _ _ (by unfold flxBase defLive; omega)) (by rw [State.setFlag_line])).trans hs
  flxDefect _ _ _ hs := (State.flxSkew_congr (fun _ _ => State.reg_setDefect_ne _ _ (by unfold flxBase; omega) (by unfold flxBase; omega))
    (by rw [State.setDefect_line])).trans hs
  flxSkew _ _ hs := (State.flxSkew_congr (fun _ _ => State.reg_setReg_ne _ _ (by unfold flxBase; omega)) rfl).trans hs
  macStat _ _ hs := (State.flxSkew_congr (fun _ _ => State.reg_setReg_ne _ _ (by unfold flxBase Machine.macStat; omega)) rfl).trans hs
  lose _ _ hs := (State.flxSkew_congr (fun _ _ => State.reg_loseReception _ _ _ _)
    (State.loseReception_part (fun t : State => t.line.skew) (fun _ _ => rfl) (fun _ _ _ _ _ _ => rfl) _ _ _)).trans hs

theorem State.flxSkew_refreshGroup (s : State) {f : Nat} (hf : f < 12) : (s.refreshGroup f).flxSkew f = s.flxSkew f :=
  (RefreshKeeps.skew hf (s.flxSkew f)).refreshGroup hf rfl

theorem State.flxSkew_refreshPorts (s : State) {f : Nat} (hf : f < 12) : (s.refreshPorts f).flxSkew f = s.flxSkew f :=
  (RefreshKeeps.skew hf (s.flxSkew f)).refreshPorts hf rfl

theorem State.reg_refreshGroup_skew (s : State) {f : Nat} (hf : f < 12) :
    (s.refreshGroup f).reg (flxBase f + 0x58) = min ((s.refreshGroup f).flxSkew f) 0xFFFF := by
  rw [s.reg_refreshGroup_flx hf (by omega) (by omega), State.reg_refreshFlx_skew, s.flxSkew_refreshPorts hf, s.flxSkew_refreshGroup hf]

theorem State.flag_refreshGroup_deskew (s : State) {f : Nat} (hf : f < 12) :
    (s.refreshGroup f).flag (flxBase f + 0x50) 5 = decide (1000 < (s.refreshGroup f).flxSkew f) := by
  rw [State.flag, s.reg_refreshGroup_flx hf (by omega) (by omega), s.flxSkew_refreshGroup hf, ← s.flxSkew_refreshPorts hf]
  exact (s.refreshPorts f).flag_refreshFlx_deskew f

/-! ### An overhead frame (R66, R71) -/

/-- The defects that an overhead frame shows, as FLX_DEF numbers them. -/
def State.overheadDefects (s : State) (f : Nat) (group : BitVec 20) (phyMap : BitVec 256) (mfOk rpf : Bool) : Nat :=
  2 * b2n (!mfOk) + 4 * b2n (group.toNat != s.fld (flxBase f + 4) 31 12) + 8 * b2n (phyMap.toNat != s.phyMap f) + 64 * b2n rpf

/-- What an overhead frame shows of PHY k, noted. -/
def State.noteOverhead (s : State) (f k d n : Nat) (cal : List (BitVec 16)) : State :=
  let l := { s.line with flxDef := Tab.set 0 s.line.flxDef (f * 8 + k) d, skew := Tab.set 0 s.line.skew (f * 8 + k) n }
  { s with line := { l with rxCal := Tab.set [] l.rxCal (f * 8 + k) cal } }

theorem execFlexeOverheadFrame_eq (f : Fin 12) (k : Fin 8) (group : BitVec 20) (phyMap : BitVec 256) (mfOk rpf : Bool) (n : Nat)
    (cal : List (BitVec 16)) (s : State) : execFlexeOverheadFrame f k group phyMap mfOk rpf n cal s
      = .next (((s.noteOverhead f k (s.overheadDefects f group phyMap mfOk rpf) n cal).judgeCal f).refreshGroup f) := rfl

theorem State.phyMap_lt (s : State) (f : Nat) : s.phyMap f < 2 ^ 256 :=
  foldl_keeps (fun n : Nat => n < 2 ^ 256) _ (fun _ _ hn => Nat.or_lt_two_pow hn (Nat.pow_lt_pow_right (by decide) (bits_lt _ 7 0))) _ _
    (Nat.two_pow_pos 256)

/-- A frame of the group's own number and PHY map, aligned and without remote fault, shows no defect. -/
theorem State.overheadDefects_eq_zero (s : State) (f : Nat) :
    s.overheadDefects f (BitVec.ofNat 20 (s.fld (flxBase f + 4) 31 12)) (BitVec.ofNat 256 (s.phyMap f)) true false = 0 := by
  have hgroup : (BitVec.ofNat 20 (s.fld (flxBase f + 4) 31 12)).toNat = s.fld (flxBase f + 4) 31 12 := Nat.mod_eq_of_lt (bits_lt _ 31 12)
  have hmap : (BitVec.ofNat 256 (s.phyMap f)).toNat = s.phyMap f := Nat.mod_eq_of_lt (s.phyMap_lt f)
  rw [State.overheadDefects, hgroup, hmap, bne_self_eq_false, bne_self_eq_false]
  rfl

/-- What is judged of a received calendar is kept in two tables of the line side. -/
theorem State.judgeCal_line {γ : Type} (q : LineState → γ) (hl : ∀ (l : LineState) x y, q { l with calMm := x, calUnknown := y } = q l)
    (s : State) (f : Nat) : q (s.judgeCal f).line = q s.line := by
  unfold State.judgeCal
  split
  · rfl
  · exact hl _ _ _

theorem does_flexeOverheadFrame (f : Fin 12) (k : Fin 8) (n : Nat) (cal : List (BitVec 16)) (s : State) :
    Does (.flexeOverheadFrame f k (BitVec.ofNat 20 (s.fld (flxBase f + 4) 31 12)) (BitVec.ofNat 256 (s.phyMap f)) true false n cal) s fun t =>
      Tab.get 0 t.line.flxDef (f.val * 8 + k.val) = 0 ∧ Tab.get 0 t.line.skew (f.val * 8 + k.val) = n
      ∧ Tab.get [] t.line.rxCal (f.val * 8 + k.val) = cal
      ∧ t.reg (flxBase f + 0x58) = min (t.flxSkew f) 0xFFFF ∧ t.flag (flxBase f + 0x50) 5 = decide (1000 < t.flxSkew f) := by
  refine ⟨_, execFlexeOverheadFrame_eq f k _ _ true false n cal s, ?_, ?_, ?_, State.reg_refreshGroup_skew _ f.isLt,
    State.flag_refreshGroup_deskew _ f.isLt⟩
  · rw [State.refreshGroup_line (·.flxDef) (fun _ _ _ _ _ _ => rfl) _ f.isLt, State.judgeCal_line (·.flxDef) (fun _ _ _ => rfl),
      s.overheadDefects_eq_zero]
    exact Tab.get_set_self 0 s.line.flxDef _ 0
  · rw [State.refreshGroup_line (·.skew) (fun _ _ _ _ _ _ => rfl) _ f.isLt, State.judgeCal_line (·.skew) (fun _ _ _ => rfl)]
    exact Tab.get_set_self 0 s.line.skew _ n
  · rw [State.refreshGroup_line (·.rxCal) (fun _ _ _ _ _ _ => rfl) _ f.isLt, State.judgeCal_line (·.rxCal) (fun _ _ _ => rfl)]
    exact Tab.get_set_self [] s.line.rxCal _ cal

end Machine
end Sys2Proof
end

section
/-! SUPPORT. The multiframes and seconds of OTUCn groups; the statement O20. -/

open Sys2Proof Sys2Proof.Machine
namespace Sys2Proof
namespace Machine

/-! ### Multiframes (R74, R75) -/

theorem not_refreshedReg_otnDef {g : Nat} (hg : g < 12) : ¬ refreshedReg (otnBase g + 0x10) := by
  unfold refreshedReg otnBase
  omega

/-- A TTI array written leaves every register outside it. -/
theorem State.reg_setTti_ne (s : State) {a c : Nat} (v : BitVec 512) (h : c < a ∨ a + 64 ≤ c) : (s.setTti a v).reg c = s.reg c := by
  refine foldl_keeps_of_mem (fun t : State => t.reg c = s.reg c) _ _ _ (fun t i hi ht => ?_) rfl
  have := List.mem_range.1 hi
  exact (t.reg_setReg_ne _ (by omega)).trans ht

/-- The candidate of a TTI noted. -/
def State.noteTti (s : State) (g : Nat) (pm : Bool) (x : BitVec 512 × Nat) : State :=
  let line : LineState := if pm then { s.line with pmTti := Tab.set (0, 0) s.line.pmTti g x } else { s.line with smTti := Tab.set (0, 0) s.line.smTti g x }
  { s with line := line }

/-- A received TTI is noted, and may be accepted and compared. -/
theorem State.takeTti_cases (s : State) (g : Nat) (pm : Bool) (v : BitVec 512) : ∃ x,
    s.takeTti g pm v = s.noteTti g pm x ∨ ∃ on, s.takeTti g pm v
      = ((s.noteTti g pm x).setTti (otnBase g + (if pm then 0x200 else 0x100) + 0x80) v).setDefect (otnBase g + 0x10) (if pm then 5 else 2) on := by
  unfold State.takeTti
  extract_lets old n line t a
  refine ⟨(v, n), ?_⟩
  split
  · exact .inr ⟨_, rfl⟩
  · exact .inl rfl

theorem State.noteTti_flag (s : State) (g : Nat) (pm : Bool) (x : BitVec 512 × Nat) (a i : Nat) : (s.noteTti g pm x).flag a i = s.flag a i := rfl
theorem State.noteTti_rcNow (s : State) (g : Nat) (pm : Bool) (x : BitVec 512 × Nat) : (s.noteTti g pm x).bus.rcNow = s.bus.rcNow := rfl

/-- Of a group's defects a received TTI changes the trail trace mismatches alone. -/
theorem State.flag_takeTti (s : State) (g : Nat) (pm : Bool) (v : BitVec 512) {i : Nat} (hi : i ≤ 31) (h2 : i ≠ 2) (h5 : i ≠ 5) :
    (s.takeTti g pm v).flag (otnBase g + 0x10) i = s.flag (otnBase g + 0x10) i := by
  obtain ⟨x, heq | ⟨on, heq⟩⟩ := s.takeTti_cases g pm v
  · rw [heq, State.noteTti_flag]
  · have htti : ((s.noteTti g pm x).setTti (otnBase g + (if pm then 0x200 else 0x100) + 0x80) v).flag (otnBase g + 0x10) i
        = (s.noteTti g pm x).flag (otnBase g + 0x10) i :=
      congrArg (bitOf · i) (State.reg_setTti_ne _ v (by cases pm <;> simp))
    rw [heq, State.flag_setDefect_of_ne _ _ _ _ hi (by cases pm <;> assumption), htti, State.noteTti_flag]

theorem State.rcNow_setDefect (s : State) (live i : Nat) (on : Bool) : (s.setDefect live i on).bus.rcNow = s.bus.rcNow :=
  s.setDefect_part (fun t : State => t.bus.rcNow) (fun _ _ => rfl) live i on

theorem State.rcNow_setTti (s : State) (a : Nat) (v : BitVec 512) : (s.setTti a v).bus.rcNow = s.bus.rcNow := by
  unfold State.setTti
  refine foldl_same (fun t : State => t.bus.rcNow) _ (fun t i => ?_) _ s
  rfl

theorem State.rcNow_takeTti (s : State) (g : Nat) (pm : Bool) (v : BitVec 512) : (s.takeTti g pm v).bus.rcNow = s.bus.rcNow := by
  obtain ⟨x, heq | ⟨on, heq⟩⟩ := s.takeTti_cases g pm v
  · rw [heq, State.noteTti_rcNow]
  · rw [heq, State.rcNow_setDefect, State.rcNow_setTti, State.noteTti_rcNow]

theorem State.rcNow_refreshGroup (s : State) {g : Nat} (hg : g < 12) : (s.refreshGroup g).bus.rcNow = s.bus.rcNow :=
  s.refreshGroup_part (fun t : State => t.bus.rcNow) (fun _ _ => rfl) (fun _ _ => rfl) (fun _ _ _ _ _ _ => rfl) hg

/-- What a multiframe says of the far end and of maintenance. -/
def State.otnSignals (s : State) (g : Nat) (smBdi pmBdi maint : Bool) : State :=
  ((s.setDefect (otnBase g + 0x10) 3 smBdi).setDefect (otnBase g + 0x10) 6 pmBdi).setDefect (otnBase g + 0x10) 8 maint

/-- The errored blocks of a multiframe counted. -/
def State.otnCount (s : State) (g smBip smBei pmBip pmBei : Nat) : State :=
  (((s.bumpReg (otnBase g + 0x20) smBip).bumpReg (otnBase g + 0x24) smBei).bumpReg (otnBase g + 0x28) pmBip).bumpReg (otnBase g + 0x2C) pmBei

/-- The errored blocks of a multiframe added to the second's. -/
def State.otnSum (s : State) (g smBip pmBip : Nat) : State :=
  let line := { s.line with smSec := Tab.set 0 s.line.smSec g (Tab.get 0 s.line.smSec g + smBip) }
  { s with line := { line with pmSec := Tab.set 0 s.line.pmSec g (Tab.get 0 s.line.pmSec g + pmBip) } }

/-- The trail traces, signals and counts of a multiframe taken. -/
def State.takeMultiframe (s : State) (g : Nat) (smTti pmTti : BitVec 512) (smBdi pmBdi : Bool) (smBip pmBip smBei pmBei : Nat) (maint : Bool) :
    State :=
  ((((s.takeTti g false smTti).takeTti g true pmTti).otnSignals g smBdi pmBdi maint).otnCount g smBip smBei pmBip pmBei).otnSum g smBip pmBip

theorem State.otnSum_flag (s : State) (g m n a i : Nat) : (s.otnSum g m n).flag a i = s.flag a i := rfl
theorem State.otnCount_flag (s : State) (g i j k l a n : Nat) : (s.otnCount g i j k l).flag a n = s.flag a n := rfl

theorem State.rcNow_otnSignals (s : State) (g : Nat) (b c m : Bool) : (s.otnSignals g b c m).bus.rcNow = s.bus.rcNow := by
  rw [State.otnSignals, State.rcNow_setDefect, State.rcNow_setDefect, State.rcNow_setDefect]

section
variable (s : State) (g : Nat) (v w : BitVec 512) (b c : Bool) (i j k l : Nat) (m : Bool)

/-- A flag of the group's defects after a multiframe is taken is what its signals make of it, but for the trail traces. -/
theorem State.flag_takeMultiframe (a n : Nat) : (s.takeMultiframe g v w b c i j k l m).flag a n
    = (((s.takeTti g false v).takeTti g true w).otnSignals g b c m).flag a n := by
  rw [State.takeMultiframe, State.otnSum_flag, State.otnCount_flag]

theorem State.flag_takeMultiframe_align : (s.takeMultiframe g v w b c i j k l m).flag (otnBase g + 0x10) 1 = s.flag (otnBase g + 0x10) 1 := by
  rw [State.flag_takeMultiframe, State.otnSignals, State.flag_setDefect_of_ne _ _ _ _ (by decide) (by decide),
    State.flag_setDefect_of_ne _ _ _ _ (by decide) (by decide), State.flag_setDefect_of_ne _ _ _ _ (by decide) (by decide),
    State.flag_takeTti _ _ _ _ (by decide) (by decide) (by decide), State.flag_takeTti _ _ _ _ (by decide) (by decide) (by decide)]

theorem State.flag_takeMultiframe_smBdi : (s.takeMultiframe g v w b c i j k l m).flag (otnBase g + 0x10) 3 = b := by
  rw [State.flag_takeMultiframe, State.otnSignals, State.flag_setDefect_of_ne _ _ _ _ (by decide) (by decide),
    State.flag_setDefect_of_ne _ _ _ _ (by decide) (by decide), State.flag_setDefect_live _ _ _ (by decide)]

theorem State.flag_takeMultiframe_pmBdi : (s.takeMultiframe g v w b c i j k l m).flag (otnBase g + 0x10) 6 = c := by
  rw [State.flag_takeMultiframe, State.otnSignals, State.flag_setDefect_of_ne _ _ _ _ (by decide) (by decide),
    State.flag_setDefect_live _ _ _ (by decide)]

theorem State.flag_takeMultiframe_maint : (s.takeMultiframe g v w b c i j k l m).flag (otnBase g + 0x10) 8 = m := by
  rw [State.flag_takeMultiframe, State.otnSignals, State.flag_setDefect_live _ _ _ (by decide)]

theorem State.rcNow_takeMultiframe (a : Nat) : Tab.get 0 (s.takeMultiframe g v w b c i j k l m).bus.rcNow a
    = Tab.get 0 ((((s.takeTti g false v).takeTti g true w).otnSignals g b c m).otnCount g i k j l).bus.rcNow a := rfl

theorem State.rcNow_beforeCount : (((s.takeTti g false v).takeTti g true w).otnSignals g b c m).bus.rcNow = s.bus.rcNow := by
  rw [State.rcNow_otnSignals, State.rcNow_takeTti, State.rcNow_takeTti]

theorem State.rcNow_otnCount_sm : Tab.get 0 (s.otnCount g i k j l).bus.rcNow (otnBase g + 0x20) = Tab.get 0 s.bus.rcNow (otnBase g + 0x20) + i := by
  simp [State.otnCount, State.rcNow_bumpReg]

theorem State.rcNow_otnCount_pm : Tab.get 0 (s.otnCount g i k j l).bus.rcNow (otnBase g + 0x28) = Tab.get 0 s.bus.rcNow (otnBase g + 0x28) + j := by
  simp [State.otnCount, State.rcNow_bumpReg]

end

theorem does_otnMultiframeReceived_unaligned (g : Fin 12) (v w : BitVec 512) (b c : Bool) (i j k l : Nat) (m : Bool) (s : State) :
    Does (.otnMultiframeReceived g false v w b c i j k l m) s fun t =>
      t.flag (otnBase g + 0x10) 1 = true ∧ t.line.smTti = s.line.smTti ∧ t.bus.rcNow = s.bus.rcNow := by
  have hrun : execOtnMultiframeReceived g false v w b c i j k l m s = .next ((s.setDefect (otnBase g + 0x10) 1 true).refreshGroup g) := rfl
  refine ⟨_, hrun, ?_, ?_, ?_⟩
  · rw [State.flag_refreshGroup _ g.isLt (not_refreshedReg_otnDef g.isLt), State.flag_setDefect_live _ _ _ (by decide)]
  · rw [State.refreshGroup_line (·.smTti) (fun _ _ _ _ _ _ => rfl) _ g.isLt, State.setDefect_line]
  · rw [State.rcNow_refreshGroup _ g.isLt, State.rcNow_setDefect]

theorem does_otnMultiframeReceived_aligned (g : Fin 12) (v w : BitVec 512) (b c : Bool) (i j k l : Nat) (m : Bool) (s : State) :
    Does (.otnMultiframeReceived g true v w b c i j k l m) s fun t =>
      t.flag (otnBase g + 0x10) 1 = false ∧ t.flag (otnBase g + 0x10) 3 = b ∧ t.flag (otnBase g + 0x10) 6 = c ∧ t.flag (otnBase g + 0x10) 8 = m
      ∧ Tab.get 0 t.bus.rcNow (otnBase g + 0x20) = Tab.get 0 s.bus.rcNow (otnBase g + 0x20) + i
      ∧ Tab.get 0 t.bus.rcNow (otnBase g + 0x28) = Tab.get 0 s.bus.rcNow (otnBase g + 0x28) + j := by
  have hrun : execOtnMultiframeReceived g true v w b c i j k l m s
      = .next (((s.setDefect (otnBase g + 0x10) 1 false).takeMultiframe g v w b c i j k l m).refreshGroup g) := rfl
  have hflag (t : State) (n : Nat) := t.flag_refreshGroup g.isLt (not_refreshedReg_otnDef g.isLt) n
  refine ⟨_, hrun, ?_, ?_, ?_, ?_, ?_, ?_⟩
  · rw [hflag, State.flag_takeMultiframe_align, State.flag_setDefect_live _ _ _ (by decide)]
  · rw [hflag, State.flag_takeMultiframe_smBdi]
  · rw [hflag, State.flag_takeMultiframe_pmBdi]
  · rw [hflag, State.flag_takeMultiframe_maint]
  · rw [State.rcNow_refreshGroup _ g.isLt, State.rcNow_takeMultiframe, State.rcNow_otnCount_sm, State.rcNow_beforeCount, State.rcNow_setDefect]
  · rw [State.rcNow_refreshGroup _ g.isLt, State.rcNow_takeMultiframe, State.rcNow_otnCount_pm, State.rcNow_beforeCount, State.rcNow_setDefect]

/-! ### Seconds (R75) -/

theorem State.setDefectOpt_line (s : State) (live i : Nat) (on : Option Bool) : (s.setDefectOpt live i on).line = s.line := by
  cases on with
  | none => rfl
  | some on => exact s.setDefect_line live i on

/-- A second's sums begun anew, with the runs of bad and good seconds that it ends. -/
def State.closeSecond (s : State) (g sb sg pb pg : Nat) : State :=
  let l := s.line
  let l := { l with smBad := Tab.set 0 l.smBad g sb, smGood := Tab.set 0 l.smGood g sg, smSec := Tab.set 0 l.smSec g 0 }
  let l := { l with pmBad := Tab.set 0 l.pmBad g pb, pmGood := Tab.set 0 l.pmGood g pg, pmSec := Tab.set 0 l.pmSec g 0 }
  { s with line := { l with fecSec := Tab.set 0 l.fecSec g 0 } }

/-- A second closes its sums, sets or clears the degrade defects, and shows whether a codeword was uncorrectable in it. -/
theorem execOtnSecond_eq (g : Fin 12) (s : State) : ∃ sb sg pb pg sd pd, execOtnSecond g s
    = .next ((((s.closeSecond g sb sg pb pg).setDefectOpt (otnBase g + 0x10) 4 sd).setDefectOpt (otnBase g + 0x10) 7 pd).setDefect
        (otnBase g + 0x10) 9 (Tab.get 0 s.line.fecSec g != 0)) := ⟨_, _, _, _, _, _, rfl⟩

theorem does_otnSecond (g : Fin 12) (s : State) : Does (.otnSecond g) s fun t =>
    t.flag (otnBase g + 0x10) 9 = (Tab.get 0 s.line.fecSec g != 0) ∧ Tab.get 0 t.line.smSec g = 0 ∧ Tab.get 0 t.line.pmSec g = 0
    ∧ Tab.get 0 t.line.fecSec g = 0 := by
  obtain ⟨sb, sg, pb, pg, sd, pd, hrun⟩ := execOtnSecond_eq g s
  have hline : ((((s.closeSecond g sb sg pb pg).setDefectOpt (otnBase g + 0x10) 4 sd).setDefectOpt (otnBase g + 0x10) 7 pd).setDefect
      (otnBase g + 0x10) 9 (Tab.get 0 s.line.fecSec g != 0)).line = (s.closeSecond g sb sg pb pg).line := by
    rw [State.setDefect_line, State.setDefectOpt_line, State.setDefectOpt_line]
  refine ⟨_, hrun, State.flag_setDefect_live _ _ _ (by decide), ?_, ?_, ?_⟩
  · rw [hline]
    exact Tab.get_set_self 0 s.line.smSec g 0
  · rw [hline]
    exact Tab.get_set_self 0 s.line.pmSec g 0
  · rw [hline]
    exact Tab.get_set_self 0 s.line.fecSec g 0

end Machine
end Sys2Proof

/-- Settles O20: calendar requests, acknowledgements, switches and timeouts, overhead frames, and the multiframes and seconds of OTUCn,
one lemma for each. -/
theorem flexEAndOtn : Obligations.FlexEAndOtn := by
  unfold Obligations.FlexEAndOtn
  exact ⟨does_crReceived_of_agree, does_crReceived_of_disagree, exec_crReceived_of_carrier, does_caReceived_last, does_cBitFlipReceived,
    does_caTimeout_late, does_flexeOverheadFrame, does_otnCalendarSwitch_transmit, does_otnCalendarSwitch_receive,
    does_otnMultiframeReceived_unaligned, does_otnMultiframeReceived_aligned, does_otnSecond⟩
end

section
/-! SUPPORT. Header vectors that are complete, and headers that leave the recirculation queue; the statement O21. -/

open Sys2Proof Sys2Proof.Machine
namespace Sys2Proof
namespace Machine

/-! ### A walk that meets no memory error (R92, R109) -/

theorem Walk.memErr_record (w : Walk) (n : Nat) (d : Node) (off len : Nat) : (w.record n d off len).1.memErr = w.memErr := by
  have hnew : (Walk.record.newEntry w n d off len).1.memErr = w.memErr := by
    unfold Walk.record.newEntry
    dsimp only
    split
    · rfl
    · split <;> rfl
  unfold Walk.record
  split
  · rfl
  · split
    · split
      · split <;> rfl
      · exact hnew
    · exact hnew

theorem nodeErr_none (b : Bool) (n : Nat) : nodeErr b n none = false := rfl

theorem State.transErr_none (s : State) (p : Nat) (b : Bool) (d : Node) (win : List Byte) (off : Nat) : s.transErr p b d win off none = false := rfl

/-- A walk whose reads are right notes no memory error: it ends at its visit, or its record goes on to the next node. -/
theorem State.memErr_walk_none (s : State) (p : Nat) (b : Bool) (win : List Byte) (last : Nat) (inWin : Bool) :
    ∀ (fuel n off : Nat) (first : Bool) (w : Walk), (s.walk p b win last inWin none fuel n off first w).memErr = w.memErr
  | 0, _, _, _, _ => rfl
  | fuel + 1, n, off, first, w => by
    have hnext := s.memErr_walk_none p b win last inWin fuel
    simp only [State.walk, nodeErr_none, State.transErr_none, Bool.false_eq_true, if_false, apply_ite Walk.memErr, hnext, Walk.memErr_record,
      ite_self]

/-- A parse without a memory error in the graph notes none. -/
theorem State.memErr_parse_none (s : State) (p : Nat) (sl : Slot) : (s.parse p sl none).1.memErr = false := by
  have hread : ∀ k : Pkt, ¬ (k.pass = 1 && (none : Option Nat) = some (startOff sl.gbank k.ctx) : Bool) = true := by simp
  unfold State.parse
  dsimp only
  rw [if_neg (hread _)]
  exact s.memErr_walk_none ..

/-! ### The slot of a packet that is parsed (R86, R99) -/

/-- A slot of physical avenue p with a header vector that is complete now. -/
def State.withVector (s : State) (p : Nat) (hv : List Byte) (sl : Slot) : Slot :=
  { sl with hv := memOfList hv, eligTick := s.bus.ticks, feed := s.regLate (0x3000014 + p * 0x100000) }

/-- A slot as an action of PG_ERR_ACT leaves it, for a stop code. -/
def State.afterParse (s : State) (act code : Nat) (sl : Slot) : Slot :=
  match act with
  | 0 => { sl with phase := .eligible }
  | 2 => { sl with phase := .done, disp := some (.punt (s.fld 0x2000000 21 16) code 2 false 0x20 code) }
  | _ => { sl with phase := .done, disp := some (.drop 0x20 code false) }

/-- What neither the phase nor the disposition belongs to, the action for a stop code leaves. -/
theorem State.afterParse_part {γ : Type} (f : Slot → γ) (hf : ∀ sl phase disp, f { sl with phase := phase, disp := disp } = f sl)
    (s : State) (act code : Nat) (sl : Slot) : f (s.afterParse act code sl) = f sl := by
  unfold State.afterParse
  split <;> exact hf sl _ _

theorem State.slot_setSlot_ne (s : State) {p k q j : Nat} (x : Option Slot) (h : Machine.slotKey q j ≠ Machine.slotKey p k) :
    (s.setSlot p k x).slot q j = s.slot q j := Tab.get_set_ne none s.eng.slots x h

/-- A parse without a memory error changes its slot alone. -/
theorem State.parsed_none (s : State) {p slot : Nat} {sl : Slot} (hslot : s.slot p slot = some sl) : s.parsed p slot none = s.setSlot p slot
    (some (s.afterParse (s.pgErrAct (s.parse p sl none).1.status) (s.parse p sl none).1.status (s.withVector p (s.parse p sl none).2 sl))) := by
  have hread := s.memErr_parse_none p sl
  unfold State.parsed State.withVector
  simp only [hslot]
  generalize s.parse p sl none = parse at hread ⊢
  obtain ⟨w, hv⟩ := parse
  replace hread : w.memErr = false := hread
  simp only [hread, Bool.false_eq_true, if_false]
  rfl

theorem does_headerVectorComplete (p : Fin 17) (slot : Fin 1024) (s : State) (sl : Slot) (hslot : s.slot p slot = some sl)
    (hphase : sl.phase = .parsing) (hdue : sl.admTick + 64 ≤ s.bus.ticks) :
    Does (.headerVectorComplete p slot none) s fun t => ∃ d : Slot, t.slot p slot = some d
      ∧ d.pkt = sl.pkt ∧ d.script = sl.script ∧ d.hv = memOfList (s.parse p sl none).2 ∧ d.eligTick = s.bus.ticks
      ∧ (s.pgErrAct (s.parse p sl none).1.status = 0 → d.phase = .eligible ∧ d.disp = sl.disp)
      ∧ (s.pgErrAct (s.parse p sl none).1.status = 1 → d.phase = .done ∧ d.disp = some (.drop 0x20 (s.parse p sl none).1.status false))
      ∧ (s.pgErrAct (s.parse p sl none).1.status = 2 → d.phase = .done
          ∧ d.disp = some (.punt (s.fld 0x2000000 21 16) (s.parse p sl none).1.status 2 false 0x20 (s.parse p sl none).1.status))
      ∧ (∀ q k : Nat, slotKey q k ≠ slotKey p slot → t.slot q k = s.slot q k)
      ∧ t = { s with eng := { s.eng with slots := t.eng.slots } } := by
  have hparsed := s.parsed_none hslot
  have hrun : execHeaderVectorComplete p slot none s = .next (s.parsed p slot none) := by
    simp [execHeaderVectorComplete, hslot, Slot.parseDue, hphase, hdue]
  generalize s.parse p sl none = parse at hparsed ⊢
  generalize s.pgErrAct parse.1.status = act at hparsed ⊢
  refine ⟨_, hrun.trans (congrArg _ hparsed), _, State.slot_setSlot_self .., ?_, ?_, ?_, ?_, ?_, ?_, ?_, ?_, rfl⟩
  · exact State.afterParse_part Slot.pkt (fun _ _ _ => rfl) ..
  · exact State.afterParse_part Slot.script (fun _ _ _ => rfl) ..
  · exact State.afterParse_part Slot.hv (fun _ _ _ => rfl) ..
  · exact State.afterParse_part Slot.eligTick (fun _ _ _ => rfl) ..
  · rintro rfl
    exact ⟨rfl, rfl⟩
  · rintro rfl
    exact ⟨rfl, rfl⟩
  · rintro rfl
    exact ⟨rfl, rfl⟩
  · exact fun q k hne => s.slot_setSlot_ne _ hne

/-! ### The recirculation queue (R83, R103) -/

/-- A recirculation queue replaced. -/
def State.setRecQueue (s : State) (l : Nat) (q : List Nat) : State := { s with line := { s.line with recQ := Tab.set [] s.line.recQ l q } }

theorem does_recirculationQueueTransfer (l : Fin 16) (n : Nat) (q : List Nat) (s : State) (hq : Tab.get [] s.line.recQ l = n :: q)
    (hroom : (s.kerbQueue l).length < 512) (huses : s.uses (.recirc l) < 2)
    (hearly : ∀ x, x ∈ s.kerbQueue l → (s.pkt x).kerbTick ≠ s.bus.ticks) :
    Does (.recirculationQueueTransfer l) s fun t => t.kerbQueue l = s.kerbQueue l ++ [n] ∧ Tab.get [] t.line.recQ l = q
      ∧ (∀ m : Nat, m ≠ l.val → t.kerbQueue m = s.kerbQueue m ∧ Tab.get [] t.line.recQ m = Tab.get [] s.line.recQ m)
      ∧ t = { s with bus := { s.bus with used := t.bus.used },
                     line := { s.line with recQ := t.line.recQ, kerbQ := t.line.kerbQ, pkts := t.line.pkts } } := by
  have hput : ((s.setRecQueue l q).use (.recirc l)).kerbPut l n
      = (((s.setRecQueue l q).use (.recirc l)).stampPkt n).setKerbQueue l (s.kerbQueue l ++ [n]) :=
    State.kerbPut_of_room _ l n hroom fun x hx _ => hearly x hx
  have hrun : execRecirculationQueueTransfer l s = .next (((s.setRecQueue l q).use (.recirc l)).kerbPut l n) := by
    unfold execRecirculationQueueTransfer
    rw [if_neg (by omega), hq]
    rfl
  refine ⟨_, hrun.trans (congrArg _ hput), State.kerbQueue_setKerbQueue_self .., ?_, fun m hm => ⟨?_, ?_⟩, rfl⟩
  · exact Tab.get_set_self [] s.line.recQ l q
  · exact Tab.get_set_ne [] s.line.kerbQ _ hm
  · exact Tab.get_set_ne [] s.line.recQ q hm

end Machine
end Sys2Proof

/-- Settles O21: a parse without a memory error changes its slot alone, and a header that leaves its recirculation queue finds room at the kerb. -/
theorem packetsAreParsed : Obligations.PacketsAreParsed := by
  unfold Obligations.PacketsAreParsed
  exact ⟨does_headerVectorComplete, does_recirculationQueueTransfer⟩
end

section
/-! SUPPORT. Checks of the graph and code banks: how one begins, and what its end shows; the statement O22. -/

open Sys2Proof Sys2Proof.Machine
namespace Sys2Proof

theorem RegsSame.setFlag {s t : State} {but : List Nat} (h : RegsSame s t but) {a : Nat} (i : Nat) (b : Bool) (ha : a ∈ but) :
    RegsSame s (t.setFlag a i b) but := h.setReg _ ha

namespace Machine

/-! ### The registers of a check that begins or ends (R107, R144) -/

/-- A check of bank b begun: the bank kept in bit 4 of the control register, CHECK_BUSY in bit 3 of the status register. -/
def State.showCheck (s : State) (stat ctl : Nat) (b : Bool) : State := (s.setFlag ctl 4 b).setFlag stat 3 true

/-- The CLEAN flag of a bank in the status register. -/
def cleanBit (b : Bool) : Nat := if b then 2 else 1

/-- A check of bank b ended with a value of the result register: CHECK_BUSY cleared, and CLEAN set when the bank is clean. -/
def State.showResult (s : State) (stat res v : Nat) (b clean : Bool) : State :=
  let t := (s.setFlag stat 3 false).setReg res v
  if clean then t.setFlag stat (cleanBit b) true else t

theorem cleanBit_le (b : Bool) : cleanBit b ≤ 2 := by cases b <;> decide

theorem cleanBit_not (b : Bool) : cleanBit (!b) = if b then 1 else 2 := by cases b <;> rfl

theorem cleanBit_not_ne (b : Bool) : cleanBit (!b) ≠ cleanBit b := by cases b <;> decide

section
variable (s : State) {stat ctl res : Nat} (v : Nat) (b clean : Bool)

theorem State.flag_showCheck_busy : (s.showCheck stat ctl b).flag stat 3 = true := State.flag_setFlag_self _ _ _ (by decide)

theorem State.flag_showCheck_bank : (s.showCheck stat ctl b).flag ctl 4 = b :=
  (State.flag_setFlag_of_ne _ _ _ _ (by decide) (by decide)).trans (s.flag_setFlag_self ctl b (by decide))

theorem State.regsSame_showCheck : RegsSame s (s.showCheck stat ctl b) [stat, ctl] :=
  ((RegsSame.refl s _).setFlag _ _ (by simp)).setFlag _ _ (by simp)

/-- What is no part of the registers, the end of a check leaves. -/
theorem State.showResult_frame : s.showResult stat res v b clean = withRegsOf s (s.showResult stat res v b clean) := by
  cases clean <;> rfl

theorem State.regsSame_showResult : RegsSame s (s.showResult stat res v b clean) [stat, res] := by
  have hreg : RegsSame s ((s.setFlag stat 3 false).setReg res v) [stat, res] := ((RegsSame.refl s _).setFlag _ _ (by simp)).setReg _ (by simp)
  cases clean
  · exact hreg
  · exact hreg.setFlag _ _ (by simp)

variable (hne : stat ≠ res)
include hne

theorem State.reg_showResult : (s.showResult stat res v b clean).reg res = v % 2 ^ 32 := by
  have hreg := (s.setFlag stat 3 false).reg_setReg_self res v
  cases clean
  · exact hreg
  · exact (State.reg_setFlag_ne _ _ _ hne.symm).trans hreg

/-- A flag of the status register that is not CLEAN of a clean bank is that of the state with CHECK_BUSY cleared. -/
theorem State.flag_showResult {i : Nat} (hi : i ≤ 31) (hclean : clean = true → i ≠ cleanBit b) :
    (s.showResult stat res v b clean).flag stat i = (s.setFlag stat 3 false).flag stat i := by
  have hflag := (s.setFlag stat 3 false).flag_setReg_ne v i hne
  cases clean
  · exact hflag
  · exact (State.flag_setFlag_other _ _ _ hi (hclean rfl)).trans hflag

theorem State.flag_showResult_busy : (s.showResult stat res v b clean).flag stat 3 = false :=
  (s.flag_showResult v b clean hne (by decide) fun _ => by have := cleanBit_le b; omega).trans (s.flag_setFlag_self stat false (by decide))

/-- The bank that was not checked is as clean as before. -/
theorem State.flag_showResult_other : (s.showResult stat res v b clean).flag stat (cleanBit (!b)) = s.flag stat (cleanBit (!b)) := by
  have hle := cleanBit_le (!b)
  rw [s.flag_showResult v b clean hne (by omega) fun _ => cleanBit_not_ne b, s.flag_setFlag_other stat false (by omega) (by omega)]

/-- The bank that was checked is clean when it was found so, else as before. -/
theorem State.flag_showResult_checked :
    (s.showResult stat res v b clean).flag stat (cleanBit b) = (clean || s.flag stat (cleanBit b)) := by
  have hle := cleanBit_le b
  cases clean
  · rw [s.flag_showResult v b false hne (by omega) (by simp), s.flag_setFlag_other stat false (by omega) (by omega), Bool.false_or]
  · exact State.flag_setFlag_self _ _ _ (by omega)

end

/-! ### Checks of a graph bank (R107) -/

/-- The check in hand of the graph banks replaced. -/
def State.setPgChk (s : State) (c : Option BankCheck) : State := { s with eng := { s.eng with pgChk := c } }

theorem State.nodeFault_code_lt (s : State) (p : Nat) (b : Bool) (n : Nat) : (s.nodeFault p b n).1 < 6 := by
  unfold State.nodeFault
  dsimp only
  repeat' split
  all_goals simp

theorem State.graphFault_code_lt (s : State) (b : Bool) : (s.graphFault b).1 < 7 := by
  unfold State.graphFault
  split
  · exact Nat.lt_succ_of_lt (s.nodeFault_code_lt 17 b _)
  · split <;> simp

theorem does_pgCheck (b : Bool) (s : State) (hidle : s.eng.pgChk = none) : Does (.pgCheck b) s fun t =>
    t.eng.pgChk = some { bankB := b, dirty := false } ∧ t.flag 0x2000008 3 = true ∧ t.flag 0x200000C 4 = b ∧ RegsSame s t [0x2000008, 0x200000C]
    ∧ t = { withRegsOf s t with eng := { s.eng with pgChk := t.eng.pgChk } } := by
  have hrun : execPgCheck b s = .next ((s.showCheck 0x2000008 0x200000C b).setPgChk (some { bankB := b, dirty := false })) := by
    unfold execPgCheck
    dsimp only
    rw [State.setFlag_eng, hidle]
    rfl
  exact ⟨_, hrun, rfl, s.flag_showCheck_busy b, s.flag_showCheck_bank b, s.regsSame_showCheck b, rfl⟩

theorem does_pgCheckComplete (b : Bool) (s : State) (hrunning : s.eng.pgChk = some { bankB := b, dirty := false }) :
    Does .pgCheckComplete s fun t =>
      t.eng.pgChk = none ∧ t.flag 0x2000008 3 = false
      ∧ t.reg 0x2000010 = (s.graphFault b).1 * 2 ^ 28 + (s.graphFault b).2 % 4096
      ∧ t.flag 0x2000008 (if b then 2 else 1) = ((s.graphFault b).1 == 0 || s.flag 0x2000008 (if b then 2 else 1))
      ∧ t.flag 0x2000008 (if b then 1 else 2) = s.flag 0x2000008 (if b then 1 else 2)
      ∧ RegsSame s t [0x2000008, 0x2000010] ∧ t = { withRegsOf s t with eng := { s.eng with pgChk := none } } := by
  have hcode := s.graphFault_code_lt b
  have hrun : execPgCheckComplete s = .next ((s.setPgChk none).showResult 0x2000008 0x2000010
      ((s.graphFault b).1 * 2 ^ 28 + (s.graphFault b).2 % 4096) b ((s.graphFault b).1 == 0)) := by
    unfold execPgCheckComplete
    simp only [hrunning]
    generalize s.graphFault b = fault
    obtain ⟨code, ix⟩ := fault
    simp only [Bool.not_false, Bool.and_true]
    rfl
  generalize s.graphFault b = fault at hcode hrun ⊢
  refine ⟨_, hrun, ?_, State.flag_showResult_busy _ _ _ _ (by decide), ?_, State.flag_showResult_checked _ _ _ _ (by decide), ?_,
    State.regsSame_showResult (s.setPgChk none) _ _ _, ?_⟩
  · rw [State.showResult_frame]
    rfl
  · rw [State.reg_showResult _ _ _ _ (by decide)]
    omega
  · rw [← cleanBit_not]
    exact State.flag_showResult_other _ _ _ _ (by decide)
  · exact State.showResult_frame ..

/-! ### Checks of a code bank (R144) -/

/-- The check in hand of the code banks replaced. -/
def State.setPsChk (s : State) (c : Option BankCheck) : State := { s with eng := { s.eng with chk := c } }

theorem does_psCheck (b : Bool) (s : State) (hidle : s.eng.chk = none) : Does (.psCheck b) s fun t =>
    t.eng.chk = some { bankB := b, dirty := false } ∧ t.flag psStat 3 = true ∧ t.flag 0x30F000C 4 = b ∧ RegsSame s t [psStat, 0x30F000C]
    ∧ t = { withRegsOf s t with eng := { s.eng with chk := t.eng.chk } } := by
  have hrun : execPsCheck b s = .next ((s.showCheck psStat 0x30F000C b).setPsChk (some { bankB := b, dirty := false })) := by
    unfold execPsCheck
    dsimp only
    rw [State.setFlag_eng, hidle]
    rfl
  exact ⟨_, hrun, rfl, s.flag_showCheck_busy b, s.flag_showCheck_bank b, s.regsSame_showCheck b, rfl⟩

theorem State.bistRuns_setFlag_psStat (s : State) (i : Nat) (x : Bool) (p : Nat) : (s.setFlag psStat i x).bistRuns p = s.bistRuns p := by
  have hscr : aveWin p ≠ psStat := by
    unfold aveWin psStat
    omega
  have hbist : aveWin p + 0x10 ≠ psStat := by
    unfold aveWin psStat
    omega
  rw [State.bistRuns, State.bistRuns, State.scrState, State.scrState, s.fld_setFlag_ne i 2 0 x hscr, s.flag_setFlag_ne i 0 x hbist]

theorem State.tdRw_setFlag_psStat (s : State) (i : Nat) (x : Bool) : (s.setFlag psStat i x).tdRw = s.tdRw := by
  funext n
  have hne : tdAddr n ≠ psStat := by
    unfold tdAddr psStat
    omega
  rw [State.tdRw, State.tdRw, State.tdValid, State.tdValid, s.flag_setFlag_ne i 31 x hne, s.fld_setFlag_ne i 22 22 x hne]

/-- The flags of AVE_PS_STAT and the check in hand decide nothing about the bundles. -/
theorem State.badBundle_endCheck (s : State) (b : Bool) : ((s.setPsChk none).setFlag psStat 3 false).badBundle b = s.badBundle b := by
  simp only [State.badBundle, State.bistRuns_setFlag_psStat, State.tdRw_setFlag_psStat]
  rfl

/-- Without a bundle in error or against the slot rules the bank is clean. -/
theorem execPsCheckComplete_clean {b : Bool} {s : State} (hrunning : s.eng.chk = some { bankB := b, dirty := false })
    (hgood : s.badBundle b = none) : execPsCheckComplete none s = .next ((s.setPsChk none).showResult psStat 0x30F0010 0 b true) := by
  have hnone : (((s.setPsChk none).setFlag psStat 3 false).badBundle b).map (fun x => (2, x.1, x.2)) = none := by
    rw [s.badBundle_endCheck, hgood, Option.map_none]
  unfold execPsCheckComplete
  simp only [hrunning]
  unfold State.setPsChk at hnone
  rw [hnone]
  rfl

/-- A bundle in error is the first fault, whatever the others hold. -/
theorem execPsCheckComplete_ecc {b : Bool} (p : Fin 17) (a : BitVec 15) {s : State} (hrunning : s.eng.chk = some { bankB := b, dirty := false }) :
    execPsCheckComplete (some (p, a)) s
      = .next ((s.setPsChk none).showResult psStat 0x30F0010 (1 * 2 ^ 28 + p * 2 ^ 15 + a.toNat) b false) := by
  unfold execPsCheckComplete
  simp only [hrunning]
  rfl

theorem does_psCheckComplete_clean (b : Bool) (s : State) (hrunning : s.eng.chk = some { bankB := b, dirty := false })
    (hgood : s.badBundle b = none) : Does (.psCheckComplete none) s fun t =>
      t.eng.chk = none ∧ t.flag psStat 3 = false ∧ t.reg 0x30F0010 = 0 ∧ t.flag psStat (if b then 2 else 1) = true
      ∧ t.flag psStat (if b then 1 else 2) = s.flag psStat (if b then 1 else 2)
      ∧ RegsSame s t [psStat, 0x30F0010] ∧ t = { withRegsOf s t with eng := { s.eng with chk := none } } := by
  refine ⟨_, execPsCheckComplete_clean hrunning hgood, rfl, State.flag_showResult_busy _ _ _ _ (by decide),
    State.reg_showResult _ _ _ _ (by decide), State.flag_showResult_checked _ _ _ _ (by decide), ?_,
    State.regsSame_showResult (s.setPsChk none) _ _ _, rfl⟩
  rw [← cleanBit_not]
  exact State.flag_showResult_other _ _ _ _ (by decide)

theorem does_psCheckComplete_ecc (b : Bool) (p : Fin 17) (a : BitVec 15) (s : State)
    (hrunning : s.eng.chk = some { bankB := b, dirty := false }) : Does (.psCheckComplete (some (p, a))) s fun t =>
      t.eng.chk = none ∧ t.flag psStat 3 = false ∧ t.reg 0x30F0010 = 2 ^ 28 + p * 2 ^ 15 + a.toNat
      ∧ t.flag psStat 1 = s.flag psStat 1 ∧ t.flag psStat 2 = s.flag psStat 2
      ∧ RegsSame s t [psStat, 0x30F0010] ∧ t = { withRegsOf s t with eng := { s.eng with chk := none } } := by
  have hkept {i : Nat} (hi : i < 3) :
      ((s.setPsChk none).showResult psStat 0x30F0010 (1 * 2 ^ 28 + p * 2 ^ 15 + a.toNat) b false).flag psStat i = s.flag psStat i :=
    (State.flag_showResult _ _ _ _ (by decide) (by omega) (by simp)).trans (State.flag_setFlag_other _ _ _ (by omega) (by omega))
  refine ⟨_, execPsCheckComplete_ecc p a hrunning, rfl, State.flag_showResult_busy _ _ _ _ (by decide), ?_, hkept (by decide),
    hkept (by decide), State.regsSame_showResult (s.setPsChk none) _ _ _, rfl⟩
  rw [State.reg_showResult _ _ _ _ (by decide)]
  omega

end Machine
end Sys2Proof

/-- Settles O22: the registers of a check that begins or ends are the same for both kinds of bank. -/
theorem bankChecks : Obligations.BankChecks := by
  unfold Obligations.BankChecks
  exact ⟨does_pgCheck, does_pgCheckComplete, does_psCheck, does_psCheckComplete_clean, does_psCheckComplete_ecc⟩
end

section
/-! SUPPORT. The code banks: a bundle written to every avenue, and one read back; the statement O23. -/

open Sys2Proof Sys2Proof.Machine
namespace Sys2Proof

/-- Registers that a further update leaves, of those that are to be the same. -/
theorem RegsSame.andThen {s t u : State} {but : List Nat} (h : RegsSame s t but) (hu : ∀ a, a ∉ but → u.reg a = t.reg a) : RegsSame s u but :=
  fun a ha hirq => (hu a ha).trans (h a ha hirq)

namespace Machine

/-! ### Places in the code banks (R142) -/

theorem b2n_le (b : Bool) : b2n b ≤ 1 := by cases b <;> decide

theorem b2n_inj {b c : Bool} : b2n b = b2n c ↔ b = c := by cases b <;> cases c <;> decide

theorem codeKey_inj {p q x y : Nat} {b c : Bool} (hx : x < 32768) (hy : y < 32768) :
    codeKey p b x = codeKey q c y ↔ p = q ∧ b = c ∧ x = y := by
  have hb := b2n_le b
  have hc := b2n_le c
  rw [← b2n_inj, codeKey, codeKey]
  omega

/-! ### A write into a memory that an injection may wait for (R530) -/

theorem State.written'_part {γ : Type} (q : State → γ) (hr : ∀ (s : State) x, q { s with bus := { s.bus with regs := x } } = q s)
    (s : State) (mem inst : Nat) : q (s.written' mem inst) = q s := by
  unfold State.written'
  split
  next t htaken =>
    unfold State.injectionFor at htaken
    split at htaken
    · cases htaken
      exact (hr _ _).trans (hr s _)
    · cases htaken
  next => rfl

theorem State.reg_written'_ne (s : State) (mem inst : Nat) {a : Nat} (ha : a ∉ injectionRegs) : (s.written' mem inst).reg a = s.reg a := by
  simp only [injectionRegs, List.mem_cons, List.not_mem_nil, or_false, not_or] at ha
  obtain ⟨hstat, hinj⟩ := ha
  unfold State.written'
  split
  next t htaken =>
    unfold State.injectionFor at htaken
    split at htaken
    · cases htaken
      exact (State.reg_setFlag_ne _ _ _ hstat).trans (s.reg_setFlag_ne _ _ hinj)
    · cases htaken
  next => rfl

/-- A write into a memory leaves all but the registers. -/
theorem State.written'_frame (s : State) (mem inst : Nat) : s.written' mem inst = withRegsOf s (s.written' mem inst) := by
  have hframe := s.written'_part (fun t => withRegsOf t State.reset) (fun _ _ => rfl) mem inst
  simpa only [withRegsOf] using congrArg (fun t : State => withRegsOf t (s.written' mem inst)) hframe

/-! ### The banks of every avenue (R142, R155) -/

/-- A code memory replaced. -/
def State.withCode (s : State) (x : Tab (BitVec 128)) : State := { s with eng := { s.eng with code := x } }

/-- A bundle written to a bank of one physical avenue, unless that runs its self-test. -/
def State.storeCode (b : Bool) (a : Nat) (w : BitVec 128) (s : State) (p : Nat) : State :=
  if s.bistRuns p then s else (s.withCode (Tab.set 0 s.eng.code (codeKey p b a) w)).written' 5 p

theorem State.writeCode_eq (s : State) (b : Bool) (a : Nat) (w : BitVec 128) :
    s.writeCode b a w = (List.range 17).foldl (State.storeCode b a w) s := rfl

theorem aveWin_ge (p : Nat) : 0x3000000 ≤ aveWin p := by
  unfold aveWin
  omega

/-- The self-tests that run are those of another state, whose registers of the avenues are the same. -/
theorem State.bistRuns_congr {s t : State} (h : ∀ a, 0x3000000 ≤ a → t.reg a = s.reg a) (p : Nat) : t.bistRuns p = s.bistRuns p := by
  have hwin := aveWin_ge p
  rw [State.bistRuns, State.bistRuns, State.scrState, State.scrState, State.fld, State.fld, State.flag, State.flag, h _ hwin, h _ (by omega)]

section
variable (b : Bool) (a : Nat) (w : BitVec 128) (s : State)

theorem State.reg_storeCode (p : Nat) {c : Nat} (hc : c ∉ injectionRegs) : (s.storeCode b a w p).reg c = s.reg c := by
  unfold State.storeCode
  split
  · rfl
  · exact State.reg_written'_ne _ _ _ hc

theorem State.reg_storeCode_ave (p : Nat) {c : Nat} (hc : 0x3000000 ≤ c) : (s.storeCode b a w p).reg c = s.reg c :=
  s.reg_storeCode b a w p (by simp only [injectionRegs, List.mem_cons, List.not_mem_nil, or_false]; omega)

theorem State.storeCode_frame (p : Nat) :
    s.storeCode b a w p = (withRegsOf s (s.storeCode b a w p)).withCode (s.storeCode b a w p).eng.code := by
  unfold State.storeCode
  split
  · rfl
  · rw [State.written'_frame]
    rfl

theorem State.bundle_withCode (x : Tab (BitVec 128)) (q : Nat) (c : Bool) (y : BitVec 15) :
    (s.withCode x).bundle q c y = Tab.get 0 x (codeKey q c y.toNat) := rfl

theorem State.bundle_storeCode (ha : a < 32768) (p q : Nat) (c : Bool) (y : BitVec 15) : (s.storeCode b a w p).bundle q c y
    = if q = p ∧ c = b ∧ y.toNat = a ∧ s.bistRuns p = false then w else s.bundle q c y := by
  have hbundle (t : State) (inst : Nat) : (t.written' 5 inst).bundle q c y = t.bundle q c y :=
    t.written'_part (fun t => t.bundle q c y) (fun _ _ => rfl) 5 inst
  unfold State.storeCode
  cases hbist : s.bistRuns p
  · rw [if_neg (by decide), hbundle, State.bundle_withCode, Tab.get_set]
    simp only [codeKey_inj y.isLt ha, and_true]
    rfl
  · simp

/-- The avenues that a bundle reaches: those of a list that do not run their self-test. -/
theorem State.bundle_foldl_storeCode (ha : a < 32768) (q : Nat) (c : Bool) (y : BitVec 15) : ∀ (l : List Nat) (s : State),
    (l.foldl (State.storeCode b a w) s).bundle q c y
      = if q ∈ l ∧ c = b ∧ y.toNat = a ∧ s.bistRuns q = false then w else s.bundle q c y
  | [], s => by simp
  | p :: l, s => by
    have hbist : (s.storeCode b a w p).bistRuns q = s.bistRuns q :=
      State.bistRuns_congr (fun d hd => s.reg_storeCode_ave b a w p hd) q
    rw [List.foldl_cons, State.bundle_foldl_storeCode ha q c y l, s.bundle_storeCode b a w ha, hbist]
    by_cases hq : q = p
    · subst hq
      simp only [List.mem_cons, true_or, true_and]
      split <;> split <;> simp_all
    · simp [hq]

theorem State.reg_writeCode {c : Nat} (hc : c ∉ injectionRegs) : (s.writeCode b a w).reg c = s.reg c := by
  rw [State.writeCode_eq]
  exact foldl_same (fun t : State => t.reg c) _ (fun t p => t.reg_storeCode b a w p hc) _ s

theorem State.writeCode_frame : s.writeCode b a w = (withRegsOf s (s.writeCode b a w)).withCode (s.writeCode b a w).eng.code := by
  rw [State.writeCode_eq]
  refine foldl_keeps (fun t => t = (withRegsOf s t).withCode t.eng.code) (State.storeCode b a w) (fun t p ht => ?_) _ s rfl
  rw [State.storeCode_frame, ht]
  rfl

/-! ### The commands (R142, R143) -/

/-- What a write into a bank leaves: all but AVE_PS_STAT and the check in hand. -/
theorem State.codeTouched_frame : s.codeTouched b
    = { s.setFlag psStat (cleanBit b) false with eng := { s.eng with chk := (s.codeTouched b).eng.chk } } := by
  unfold State.codeTouched cleanBit
  simp only [State.setFlag_eng]
  split
  · split
    · rfl
    · rfl
  · rfl

theorem State.reg_codeTouched (c : Nat) : (s.codeTouched b).reg c = (s.setFlag psStat (cleanBit b) false).reg c := by
  rw [State.codeTouched_frame]
  rfl

theorem State.codeWritable_congr {s t : State} (hreg : ∀ c, c ≠ 0x30F0040 → t.reg c = s.reg c) (heng : t.eng = s.eng) (b : Bool) :
    t.codeWritable b = s.codeWritable b := by
  have hscr (g : Nat) : (t.scrState (0x1000000 + g * 0x1000) == 0) = (s.scrState (0x1000000 + g * 0x1000) == 0) := by
    rw [State.scrState, State.scrState, State.fld, State.fld, hreg _ (by omega)]
  have hline : t.allLineStopped = s.allLineStopped := List.all_congr rfl hscr
  rw [State.codeWritable, State.codeWritable, State.flag, State.flag, hreg _ (by decide), heng, hline]

end

/-- CODE_DATA3 with its access completed. -/
def State.takeData3 (s : State) (r : Requester) (v : Word) : State := (s.setReg 0x30F0040 v.toNat).done r 0x30F0040

/-- The bundle of the four data words. -/
def State.dataBundle (s : State) (v : Word) : BitVec 128 :=
  BitVec.ofNat 128 (s.reg 0x30F0034 + s.reg 0x30F0038 * 2 ^ 32 + s.reg 0x30F003C * 2 ^ 64 + v.toNat * 2 ^ 96)

/-- A write of CODE_DATA3 that is committed: the bundle stored, its bank no longer CLEAN, and ADDR at the next bundle. -/
def State.commitCode (s : State) (r : Requester) (v : Word) : State :=
  (((s.takeData3 r v).writeCode (s.flag codeAddr 16) (s.fld codeAddr 14 0) (s.dataBundle v)).codeTouched (s.flag codeAddr 16)).nextCodeAddr

section
variable (r : Requester) (v : Word) (s : State)

theorem State.reg_takeData3 {c : Nat} (hc : c ≠ 0x30F0040) : (s.takeData3 r v).reg c = s.reg c := State.reg_setReg_ne s _ hc

theorem State.bistRuns_takeData3 (p : Nat) : (s.takeData3 r v).bistRuns p = s.bistRuns p := by
  have hscr : aveWin p ≠ 0x30F0040 := by
    unfold aveWin
    omega
  have hbist : aveWin p + 0x10 ≠ 0x30F0040 := by
    unfold aveWin
    omega
  rw [State.bistRuns, State.bistRuns, State.scrState, State.scrState, State.fld, State.fld, State.flag, State.flag,
    s.reg_takeData3 r v hscr, s.reg_takeData3 r v hbist]

theorem execCodeData3Write_of_writable (h : s.codeWritable (s.flag codeAddr 16) = true) :
    execCodeData3Write r v s = .next (s.commitCode r v) := by
  have haddr : (s.takeData3 r v).reg codeAddr = s.reg codeAddr := s.reg_takeData3 r v (by decide)
  have hflag : (s.takeData3 r v).flag codeAddr 16 = s.flag codeAddr 16 := by rw [State.flag, haddr, State.flag]
  have hfld : (s.takeData3 r v).fld codeAddr 14 0 = s.fld codeAddr 14 0 := by rw [State.fld, haddr, State.fld]
  have hwords : (s.takeData3 r v).dataBundle v = s.dataBundle v := by
    rw [State.dataBundle, State.dataBundle, State.reg_takeData3 _ _ _ (by decide), State.reg_takeData3 _ _ _ (by decide),
      State.reg_takeData3 _ _ _ (by decide)]
  have hok := State.codeWritable_congr (t := s.takeData3 r v) (fun c hc => s.reg_takeData3 r v hc) rfl (s.flag codeAddr 16)
  have hrun : execCodeData3Write r v s = if (s.takeData3 r v).codeWritable ((s.takeData3 r v).flag codeAddr 16) then
      .next ((((s.takeData3 r v).writeCode ((s.takeData3 r v).flag codeAddr 16) ((s.takeData3 r v).fld codeAddr 14 0)
        ((s.takeData3 r v).dataBundle v)).codeTouched ((s.takeData3 r v).flag codeAddr 16)).nextCodeAddr)
      else .next (((s.takeData3 r v).raise psStat 4).nextCodeAddr) := rfl
  rw [hrun, hflag, hfld, hwords, if_pos (hok.trans h), State.commitCode]

/-- The registers but ADDR after the commit: AVE_PS_STAT shows the bank not CLEAN. -/
theorem State.reg_commitCode {c : Nat} (hinj : c ∉ injectionRegs) (hdata : c ≠ 0x30F0040) (hstat : c ≠ psStat) (haddr : c ≠ codeAddr) :
    (s.commitCode r v).reg c = s.reg c := by
  rw [State.commitCode, State.nextCodeAddr, State.reg_setFld_ne _ _ _ _ haddr, State.reg_codeTouched, State.reg_setFlag_ne _ _ _ hstat,
    State.reg_writeCode _ _ _ _ hinj, s.reg_takeData3 r v hdata]

theorem State.commitCode_frame : s.commitCode r v
    = { withBusOf s (s.commitCode r v) with eng := { s.eng with code := (s.commitCode r v).eng.code, chk := (s.commitCode r v).eng.chk } } := by
  rw [State.commitCode, State.codeTouched_frame, State.writeCode_frame]
  rfl

theorem State.bundle_commitCode (p : Nat) (b : Bool) (a : BitVec 15) : (s.commitCode r v).bundle p b a
    = if p ∈ List.range 17 ∧ b = s.flag codeAddr 16 ∧ a.toNat = s.fld codeAddr 14 0 ∧ s.bistRuns p = false then s.dataBundle v
      else s.bundle p b a := by
  have hbundle : (s.commitCode r v).bundle p b a
      = ((s.takeData3 r v).writeCode (s.flag codeAddr 16) (s.fld codeAddr 14 0) (s.dataBundle v)).bundle p b a := by
    rw [State.commitCode, State.codeTouched_frame]
    rfl
  rw [hbundle, State.writeCode_eq, State.bundle_foldl_storeCode _ _ _ (bits_lt _ _ _), s.bistRuns_takeData3 r v]
  rfl

/-- AVE_CODE_ADDR as the commit finds it. -/
theorem State.reg_codeAddr_codeTouched :
    (((s.takeData3 r v).writeCode (s.flag codeAddr 16) (s.fld codeAddr 14 0) (s.dataBundle v)).codeTouched (s.flag codeAddr 16)).reg codeAddr
      = s.reg codeAddr := by
  rw [State.reg_codeTouched, State.reg_setFlag_ne _ _ _ (by decide), State.reg_writeCode _ _ _ _ (by decide), s.reg_takeData3 r v (by decide)]

theorem State.fld_codeAddr_commitCode : (s.commitCode r v).fld codeAddr 14 0 = (s.fld codeAddr 14 0 + 1) % 32768 := by
  have haddr := s.reg_codeAddr_codeTouched r v
  rw [State.commitCode, State.nextCodeAddr, State.fld_setFld_self _ _ _ (by decide), State.fld, haddr, ← State.fld]
  exact Nat.mod_mod _ _

theorem State.flag_codeAddr_commitCode : (s.commitCode r v).flag codeAddr 16 = s.flag codeAddr 16 := by
  rw [State.commitCode, State.nextCodeAddr, State.flag_setFld_other _ _ _ (by decide) (by decide), State.flag, s.reg_codeAddr_codeTouched r v,
    State.flag]

theorem State.flag_clean_commitCode : (s.commitCode r v).flag psStat (cleanBit (s.flag codeAddr 16)) = false := by
  have hle := cleanBit_le (s.flag codeAddr 16)
  rw [State.commitCode, State.nextCodeAddr, State.flag_setFld_ne _ _ _ _ _ (by decide), State.flag, State.reg_codeTouched, ← State.flag]
  exact State.flag_setFlag_self _ _ _ (by omega)

end

theorem does_codeData3Write (r : Requester) (v : Word) (s : State) (h : s.codeWritable (s.flag codeAddr 16) = true) :
    Does (.codeData3Write r v) s fun t =>
      (∀ p : Fin 17, s.bistRuns p = false → t.bundle p (s.flag codeAddr 16) (BitVec.ofNat 15 (s.fld codeAddr 14 0))
        = BitVec.ofNat 128 (s.reg 0x30F0034 + s.reg 0x30F0038 * 2 ^ 32 + s.reg 0x30F003C * 2 ^ 64 + v.toNat * 2 ^ 96))
      ∧ (∀ (p : Nat) (b : Bool) (a : BitVec 15), (b ≠ s.flag codeAddr 16 ∨ a.toNat ≠ s.fld codeAddr 14 0) → t.bundle p b a = s.bundle p b a)
      ∧ t.fld codeAddr 14 0 = (s.fld codeAddr 14 0 + 1) % 32768 ∧ t.flag codeAddr 16 = s.flag codeAddr 16
      ∧ t.flag psStat (if s.flag codeAddr 16 then 2 else 1) = false ∧ Answered t r 0x30F0040 0
      ∧ RegsSame s t (psStat :: codeAddr :: 0x30F0040 :: injectionRegs)
      ∧ t = { withBusOf s t with eng := { s.eng with code := t.eng.code, chk := t.eng.chk } } := by
  have hlt : s.fld codeAddr 14 0 < 2 ^ 15 := bits_lt _ _ _
  refine ⟨_, execCodeData3Write_of_writable r v s h, fun p hp => ?_, fun p b a hne => ?_, s.fld_codeAddr_commitCode r v,
    s.flag_codeAddr_commitCode r v, s.flag_clean_commitCode r v, ?_, fun c hc _ => ?_, s.commitCode_frame r v⟩
  · rw [State.bundle_commitCode, if_pos ⟨List.mem_range.mpr p.isLt, rfl, Nat.mod_eq_of_lt hlt, hp⟩, State.dataBundle]
  · rw [State.bundle_commitCode, if_neg fun ⟨_, hb, ha, _⟩ => hne.elim (absurd hb) (absurd ha)]
  · rw [Answered, State.commitCode, State.codeTouched_frame, State.writeCode_frame]
    rfl
  · obtain ⟨hstat, haddr, hdata, hinj⟩ : c ≠ psStat ∧ c ≠ codeAddr ∧ c ≠ 0x30F0040 ∧ c ∉ injectionRegs := by
      simpa only [List.mem_cons, not_or] using hc
    exact s.reg_commitCode r v hinj hdata hstat haddr

/-- The four data words written from a bundle, word by word. -/
theorem State.codeFetch_eq (s : State) (p : Nat) : s.codeFetch p = (((s.setReg 0x30F0034 (s.codeAtAddr p % 2 ^ 32)).setReg 0x30F0038
    (s.codeAtAddr p / 2 ^ 32 % 2 ^ 32)).setReg 0x30F003C (s.codeAtAddr p / 2 ^ 64 % 2 ^ 32)).setReg 0x30F0040 (s.codeAtAddr p / 2 ^ 96 % 2 ^ 32) := by
  simp [State.codeFetch, List.range_succ]

theorem State.reg_codeFetch (s : State) (p k : Nat) (hk : k < 4) :
    (s.codeFetch p).reg (0x30F0034 + k * 4) = s.codeAtAddr p / 2 ^ (32 * k) % 2 ^ 32 := by
  rw [State.codeFetch_eq]
  match k, hk with
  | 0, _ => simp [State.reg_setReg]
  | 1, _ => simp [State.reg_setReg]
  | 2, _ => simp [State.reg_setReg]
  | 3, _ => simp

theorem does_codeData0Read (r : Requester) (p : Fin 17) (s : State) : Does (.codeData0Read r p) s fun t =>
    (∀ k : Fin 4, t.reg (0x30F0034 + k * 4)
      = (s.bundle p (s.flag codeAddr 16) (BitVec.ofNat 15 (s.fld codeAddr 14 0))).toNat / 2 ^ (32 * k.val) % 2 ^ 32)
    ∧ Answered t r (aveWin p + 0xF0034) (t.reg 0x30F0034)
    ∧ RegsSame s t [0x30F0034, 0x30F0038, 0x30F003C, 0x30F0040] ∧ t = withBusOf s t := by
  refine ⟨_, rfl, fun k => s.reg_codeFetch p k k.isLt, ?_, ?_, ?_⟩
  · have hfirst : (s.codeFetch p).reg 0x30F0034 = s.codeAtAddr p % 2 ^ 32 := by
      simpa using s.reg_codeFetch p 0 (by decide)
    have hword : BitVec.ofNat 32 (s.codeAtAddr p) = BitVec.ofNat 32 ((s.codeFetch p).reg 0x30F0034) := by
      rw [hfirst]
      exact BitVec.eq_of_toNat_eq (by simp)
    rw [Answered, hword]
    rfl
  · have hwords : RegsSame s (s.codeFetch p) [0x30F0034, 0x30F0038, 0x30F003C, 0x30F0040] := by
      rw [State.codeFetch_eq]
      exact ((((RegsSame.refl s _).setReg _ (by simp)).setReg _ (by simp)).setReg _ (by simp)).setReg _ (by simp)
    exact hwords
  · rw [State.codeFetch_eq]
    rfl

end Machine
end Sys2Proof

/-- Settles O23: a bundle reaches the copies that no self-test holds, one after another, and comes back word by word. -/
theorem codeBundlesWrittenAndRead : Obligations.CodeBundlesWrittenAndRead := by
  unfold Obligations.CodeBundlesWrittenAndRead
  exact ⟨does_codeData3Write, does_codeData0Read⟩
end

section
/-! SUPPORT. The issue of a bundle that meets no fault: what it changes before its operations, and the thread's next bundle. -/

open Sys2Proof Sys2Proof.Machine
namespace Sys2Proof
namespace Machine

/-! ### Sparse tables written again -/

theorem Tab.without_without {α : Type} (n : Nat) : ∀ t : Tab α, Tab.without (Tab.without t n) n = Tab.without t n
  | [] => rfl
  | (k, v) :: t => by
    by_cases h : k = n
    · simp [Tab.without, h, Tab.without_without n t]
    · simp [Tab.without, h, Tab.without_without n t]

theorem Tab.without_enter {α : Type} (n : Nat) (x : α) : ∀ t : Tab α, Tab.without (Tab.enter t n x) n = Tab.without t n
  | [] => by simp [Tab.enter, Tab.without]
  | (k, v) :: t => by
    by_cases h : n < k
    · simp [Tab.enter, Tab.without, h]
    · simp [Tab.enter, Tab.without, h, Tab.without_enter n x t]

theorem Tab.without_set {α : Type} [DecidableEq α] (x : α) (t : Tab α) (n : Nat) (v : α) :
    Tab.without (Tab.set x t n v) n = Tab.without t n := by
  unfold Tab.set Tab.put
  split
  · exact Tab.without_without n t
  · rw [Tab.without_enter, Tab.without_without]

/-- Of two writes of one key the second stands. -/
theorem Tab.set_set {α : Type} [DecidableEq α] (x : α) (t : Tab α) (n : Nat) (v w : α) :
    Tab.set x (Tab.set x t n v) n w = Tab.set x t n w := by
  have hwithout := Tab.without_set x t n v
  generalize Tab.set x t n v = u at hwithout
  unfold Tab.set Tab.put
  rw [hwithout]

theorem Tab.mem_of_mem_without {α : Type} {n : Nat} {e : Nat × α} : ∀ {t : Tab α}, e ∈ Tab.without t n → e ∈ t ∧ e.1 ≠ n
  | (k, v) :: t, h => by
    by_cases hk : k = n
    · simp only [Tab.without, hk, if_true] at h
      exact ⟨List.mem_cons_of_mem _ (Tab.mem_of_mem_without h).1, (Tab.mem_of_mem_without h).2⟩
    · simp only [Tab.without, hk, if_false, List.mem_cons] at h
      obtain rfl | h := h
      · exact ⟨List.mem_cons_self, hk⟩
      · exact ⟨List.mem_cons_of_mem _ (Tab.mem_of_mem_without h).1, (Tab.mem_of_mem_without h).2⟩

theorem Tab.mem_of_mem_enter {α : Type} {n : Nat} {x : α} {e : Nat × α} : ∀ {t : Tab α}, e ∈ Tab.enter t n x → e = (n, x) ∨ e ∈ t
  | [], h => by simpa [Tab.enter] using h
  | (k, v) :: t, h => by
    by_cases hk : n < k
    · simpa [Tab.enter, hk] using h
    · simp only [Tab.enter, hk, if_false, List.mem_cons] at h
      obtain rfl | h := h
      · exact .inr List.mem_cons_self
      · exact (Tab.mem_of_mem_enter h).imp id (List.mem_cons_of_mem _)

/-- What a table holds after a write: the value written, and what it held at other keys. -/
theorem Tab.mem_of_mem_set {α : Type} [DecidableEq α] {x : α} {t : Tab α} {n : Nat} {v : α} {e : Nat × α} (h : e ∈ Tab.set x t n v) :
    e = (n, v) ∨ (e ∈ t ∧ e.1 ≠ n) := by
  unfold Tab.set Tab.put at h
  split at h
  · exact .inr (Tab.mem_of_mem_without h)
  · exact (Tab.mem_of_mem_enter h).imp id Tab.mem_of_mem_without

/-! ### The trace units (R513 to R516) -/

/-- The registers read in t as in s to whoever reads them, but for those of the trace units. -/
structure State.BusSame (s t : State) : Prop where
  reg : ∀ a, a < 0x502000 ∨ 0x502800 ≤ a → t.reg a = s.reg a
  late : t.bus.late = s.bus.late
  before : t.bus.before = s.bus.before

/-- s with the registers and the counters of t. -/
def State.withTrace (s t : State) : State := { s with bus := { s.bus with regs := t.bus.regs }, pmu := t.pmu }

/-- t is s but for the registers of the trace units, the traces and the counters. -/
structure State.TraceSame (s t : State) : Prop where
  frame : t = s.withTrace t
  reg : ∀ a, a < 0x502000 ∨ 0x502800 ≤ a → t.reg a = s.reg a

theorem State.TraceSame.refl (s : State) : s.TraceSame s := ⟨rfl, fun _ _ => rfl⟩

theorem State.TraceSame.trans {s t u : State} (h : s.TraceSame t) (h' : t.TraceSame u) : s.TraceSame u where
  frame := h'.frame.trans (by rw [h.frame]; rfl)
  reg a ha := (h'.reg a ha).trans (h.reg a ha)

/-- A part of the state that neither registers nor counters belong to is the same. -/
theorem State.TraceSame.part {γ : Type} (q : State → γ) (hq : ∀ s t : State, q (s.withTrace t) = q s) {s t : State} (h : s.TraceSame t) :
    q t = q s := by
  rw [h.frame]
  exact hq s t

section
variable {s t : State} (h : s.TraceSame t)
include h

theorem State.TraceSame.busSame : s.BusSame t := ⟨h.reg, h.part (·.bus.late) fun _ _ => rfl, h.part (·.bus.before) fun _ _ => rfl⟩
theorem State.TraceSame.eng : t.eng = s.eng := h.part (·.eng) fun _ _ => rfl
theorem State.TraceSame.ticks : t.bus.ticks = s.bus.ticks := h.part (·.bus.ticks) fun _ _ => rfl
theorem State.TraceSame.used : t.bus.used = s.bus.used := h.part (·.bus.used) fun _ _ => rfl
theorem State.TraceSame.thread (p e n : Nat) : t.thread p e n = s.thread p e n := h.part (State.thread · p e n) fun _ _ => rfl
theorem State.TraceSame.slot (p k : Nat) : t.slot p k = s.slot p k := h.part (State.slot · p k) fun _ _ => rfl
theorem State.TraceSame.admOf (p e : Nat) (x : Thr) : t.admOf p e x = s.admOf p e x := h.part (State.admOf · p e x) fun _ _ => rfl

theorem State.TraceSame.count (unit ev inst n : Nat) : s.TraceSame (t.count unit ev inst n) := h.trans ⟨rfl, fun _ _ => rfl⟩

theorem State.TraceSame.modSample (tag : Option Nat) (f : Sample → Sample) : s.TraceSame (t.modSample tag f) := by
  unfold State.modSample
  split
  · exact h
  · exact h.trans ⟨rfl, fun _ _ => rfl⟩

theorem State.TraceSame.setReg {a : Nat} (ha : 0x502000 ≤ a ∧ a < 0x502800) (v : Nat) : s.TraceSame (t.setReg a v) :=
  h.trans ⟨rfl, fun b hb => t.reg_setReg_ne v (by omega)⟩

end

theorem trcBase_range {l k d : Nat} (hl : l < 16) (hk : k < 2) (hd : d < 0x40) : 0x502000 ≤ trcBase l k + d ∧ trcBase l k + d < 0x502800 := by
  unfold trcBase
  omega

theorem State.aveLogical_lt (s : State) (p : Nat) : s.aveLogical p < 16 := bits_lt _ _ _

section
variable {s t : State} (h : s.TraceSame t) {l k : Nat} (hl : l < 16) (hk : k < 2)
include h hl hk

theorem State.TraceSame.setTrace (es : List (BitVec 64 × BitVec 64 × BitVec 64)) : s.TraceSame (t.setTrace l k es) := by
  have hentries : s.TraceSame { t with pmu := { t.pmu with traces := Tab.set {} t.pmu.traces (l * 2 + k) { entries := es } } } :=
    h.trans ⟨rfl, fun _ _ => rfl⟩
  exact hentries.setReg (trcBase_range hl hk (d := 8) (by decide)) _

theorem State.TraceSame.endTrace (cause : Nat) : s.TraceSame (t.endTrace l k cause) := by
  have hstat := trcBase_range hl hk (d := 8) (by decide)
  unfold State.endTrace
  dsimp only
  split
  · exact ((h.setReg hstat _).setReg hstat _).setReg hstat _
  · exact h

theorem State.TraceSame.traceEntry (en : BitVec 64 × BitVec 64 × BitVec 64) : s.TraceSame (t.traceEntry l k en) := by
  unfold State.traceEntry
  dsimp only
  split
  · exact (h.count ..).setTrace hl hk _
  · split
    · exact ((h.count ..).setTrace hl hk _).endTrace hl hk _
    · exact (h.count ..).setTrace hl hk _

end

theorem State.TraceSame.traceIssue {s t : State} (h : s.TraceSame t) (p e u : Nat) (x : Thr) (b : BitVec 128) :
    s.TraceSame (t.traceIssue p e u x b) := by
  have hl := t.aveLogical_lt p
  unfold State.traceIssue
  split
  · exact h
  next k _ =>
    split
    · exact h
    · next hk =>
      have hk2 : k < 2 := by omega
      extract_lets l a pc started
      have hstarted : s.TraceSame started := by
        change s.TraceSame (if _ then _ else _)
        split
        · exact h.setReg (trcBase_range hl hk2 (by decide)) _
        · exact h
      clear_value started
      split
      · split
        · exact (hstarted.traceEntry hl hk2 _).endTrace hl hk2 _
        · exact hstarted.traceEntry hl hk2 _
      · exact hstarted

theorem State.TraceSame.traceResp {s t : State} (h : s.TraceSame t) (p e u : Nat) (q : Req) (w : Dword) : s.TraceSame (t.traceResp p e u q w) := by
  have hl := t.aveLogical_lt p
  unfold State.traceResp
  split
  · exact h
  next k _ =>
    dsimp only
    split
    · next hcond =>
      simp only [Bool.and_eq_true, decide_eq_true_eq] at hcond
      obtain ⟨⟨hk, -⟩, -⟩ := hcond
      exact h.traceEntry hl hk _
    · exact h

/-! ### Registers that decide how an operation acts -/

theorem tdAddr_ge (n : Nat) : 0x5001000 ≤ tdAddr n := by
  unfold tdAddr
  omega

section
variable {s t : State} (h : s.BusSame t)
include h

theorem State.BusSame.fld {a : Nat} (ha : a < 0x502000 ∨ 0x502800 ≤ a) (hi lo : Nat) : t.fld a hi lo = s.fld a hi lo := by
  rw [State.fld, h.reg a ha, State.fld]

theorem State.BusSame.flag {a : Nat} (ha : a < 0x502000 ∨ 0x502800 ≤ a) (i : Nat) : t.flag a i = s.flag a i := by
  rw [State.flag, h.reg a ha, State.flag]

theorem State.BusSame.regAs {a : Nat} (ha : a < 0x502000 ∨ 0x502800 ≤ a) (adm : Nat) : t.regAs adm a = s.regAs adm a := by
  rw [State.regAs, h.before, h.reg a ha, State.regAs]

theorem State.BusSame.regLate {a : Nat} (ha : a < 0x502000 ∨ 0x502800 ≤ a) : t.regLate a = s.regLate a := by
  rw [State.regLate, h.late, h.reg a ha, State.regLate]

theorem State.BusSame.aveLogical (p : Nat) : t.aveLogical p = s.aveLogical p := by
  have hwin := aveWin_ge p
  exact h.fld (by omega) 3 0

theorem State.BusSame.engMap (p k : Nat) : t.engMap p k = s.engMap p k := by
  have hwin := aveWin_ge p
  rw [State.engMap, h.regLate (by unfold engMapReg; omega), State.engMap]

theorem State.BusSame.engIso (p e : Nat) : t.engIso p e = s.engIso p e := by
  rw [State.engIso, h.regLate (by unfold dbgCtl; omega), State.engIso]

theorem State.BusSame.tdValid (n : Nat) : t.tdValid n = s.tdValid n := by
  have haddr := tdAddr_ge n
  rw [State.tdValid, h.flag (by omega), State.tdValid]

theorem State.BusSame.tdKw (n : Nat) : t.tdKw n = s.tdKw n := by
  have haddr := tdAddr_ge n
  rw [State.tdKw, h.tdValid, h.fld (by omega), State.tdKw]

theorem State.BusSame.tdRw (n : Nat) : t.tdRw n = s.tdRw n := by
  have haddr := tdAddr_ge n
  rw [State.tdRw, h.tdValid, h.fld (by omega), State.tdRw]

theorem State.BusSame.profTable (adm n : Nat) : t.profTable adm n = s.profTable adm n := by
  rw [State.profTable, h.regAs (by unfold tcmProf; omega), State.profTable]

theorem State.BusSame.profValid (adm n : Nat) : t.profValid adm n = s.profValid adm n := by
  rw [State.profValid, State.scrRunning, State.scrState, h.fld (by decide), h.regAs (by unfold tcmProf; omega),
    h.profTable, h.flag (by unfold tcmTbl; omega), State.profValid, State.scrRunning, State.scrState]

theorem State.BusSame.profBytes (adm n : Nat) : t.profBytes adm n = s.profBytes adm n := by
  rw [State.profBytes, h.profTable, h.fld (by unfold tcmTbl; omega), State.profBytes]

end

/-! ### What an issue changes before its operations (R119, R128) -/

/-- s with what the begin of an issue touches of t. -/
def State.withIssue (s t : State) : State :=
  { s with bus := { s.bus with regs := t.bus.regs, used := t.bus.used }, pmu := t.pmu, eng := { s.eng with thr := t.eng.thr } }

/-- A thread whose bundle is issued now (R119). -/
def Thr.issuing (x : Thr) (now : Nat) : Thr := { x with lastTick := now, lastPc := x.pc }

/-- An issue by a thread of s has begun in u: the engine's slot is taken, the trace and the counters have noted it. -/
structure State.Begins (s u : State) (p e t : Nat) : Prop where
  frame : u = s.withIssue u
  reg : ∀ a, a < 0x502000 ∨ 0x502800 ≤ a → u.reg a = s.reg a
  thr : u.eng.thr = Tab.set {} s.eng.thr (thrKey p e t) ((s.thread p e t).issuing s.bus.ticks)
  uses : ∀ k : Use, k.key ≠ (Use.issue p e).key → u.uses k = s.uses k

/-- The state at which a bundle's faults are judged: the engine has issued, and the trace has its entry. -/
def State.noted (s : State) (p e t : Nat) (b : BitVec 128) : State :=
  (((s.use (.issue p e)).count 0x30 0x45 (s.aveLogical p * 32 + (s.engLogical p e).getD 0) 1).traceIssue p e t (s.thread p e t) b)

theorem State.Begins.part {γ : Type} (q : State → γ) (hq : ∀ s t : State, q (s.withIssue t) = q s) {s u : State} {p e t : Nat}
    (h : s.Begins u p e t) : q u = q s := by
  rw [h.frame]
  exact hq s u

section
variable {s u : State} {p e t : Nat} (h : s.Begins u p e t)
include h

theorem State.Begins.busSame : s.BusSame u := ⟨h.reg, h.part (·.bus.late) fun _ _ => rfl, h.part (·.bus.before) fun _ _ => rfl⟩
theorem State.Begins.ticks : u.bus.ticks = s.bus.ticks := h.part (·.bus.ticks) fun _ _ => rfl
theorem State.Begins.tbl : u.tbl = s.tbl := h.part (·.tbl) fun _ _ => rfl
theorem State.Begins.slot (q k : Nat) : u.slot q k = s.slot q k := h.part (State.slot · q k) fun _ _ => rfl
theorem State.Begins.chan (q d c : Nat) : u.chan q d c = s.chan q d c := h.part (State.chan · q d c) fun _ _ => rfl
theorem State.Begins.thrSlot (q : Nat) (x : Thr) : u.thrSlot q x = s.thrSlot q x := h.part (State.thrSlot · q x) fun _ _ => rfl
theorem State.Begins.admOf (q d : Nat) (x : Thr) : u.admOf q d x = s.admOf q d x := h.part (State.admOf · q d x) fun _ _ => rfl
theorem State.Begins.inWindow (q d : Nat) (x : Thr) : u.inWindow q d x = s.inWindow q d x := h.part (State.inWindow · q d x) fun _ _ => rfl

theorem State.Begins.thread_self : u.thread p e t = (s.thread p e t).issuing s.bus.ticks := by
  rw [State.thread, h.thr, Tab.get_set_self]

theorem State.Begins.thread_ne {q d v : Nat} (hne : thrKey q d v ≠ thrKey p e t) : u.thread q d v = s.thread q d v := by
  rw [State.thread, h.thr, Tab.get_set_ne _ _ _ hne, State.thread]

end

theorem State.traceSame_noted (s : State) (p e t : Nat) (b : BitVec 128) : (s.use (.issue p e)).TraceSame (s.noted p e t b) :=
  (State.TraceSame.refl _).count .. |>.traceIssue ..

/-- A thread replaced by one that is no less blocked changes the threads alone. -/
theorem State.setThread_of_not_blocked (s : State) {p e t : Nat} {x : Thr} (h : (s.thread p e t).st ≠ .blockedInt) :
    s.setThread p e t x = { s with eng := { s.eng with thr := Tab.set {} s.eng.thr (thrKey p e t) x } } := by
  unfold State.setThread
  dsimp only
  rw [if_neg (by simp [h])]

/-- An operation that issues a request (R121). -/
def Op.asks : Op → Bool
  | .lkp _ _ _ => true
  | .tcs _ _ _ => true
  | .pol _ _ => true
  | .stat _ _ => true
  | _ => false

/-- The state in which a bundle's operations act, of which n are requests. -/
def State.begun (s : State) (p e t : Nat) (b : BitVec 128) (n : Nat) : State :=
  let u := s.noted p e t b
  let u := u.setThread p e t ((s.thread p e t).issuing u.bus.ticks)
  u.modSample (if e = supEngine then none else (u.pkt (u.thrSlot p (s.thread p e t)).pkt).tag) fun m => { m with lookups := m.lookups + n }

theorem State.uses_use_ne (s : State) {k j : Use} (h : j.key ≠ k.key) : (s.use k).uses j = s.uses j :=
  Tab.get_set_ne 0 s.bus.used (s.uses k + 1) h

theorem State.begins_begun (s : State) (p e t : Nat) (b : BitVec 128) (n : Nat) (hst : (s.thread p e t).st ≠ .blockedInt) :
    s.Begins (s.begun p e t b n) p e t := by
  have hnoted := s.traceSame_noted p e t b
  unfold State.begun
  generalize s.noted p e t b = u at hnoted ⊢
  have hthread : u.thread p e t = s.thread p e t := hnoted.thread p e t
  have hset := State.setThread_of_not_blocked u (x := (s.thread p e t).issuing u.bus.ticks) (hthread.symm ▸ hst)
  have hsample := State.TraceSame.modSample (.refl (u.setThread p e t ((s.thread p e t).issuing u.bus.ticks)))
    (if e = supEngine then none else
      ((u.setThread p e t ((s.thread p e t).issuing u.bus.ticks)).pkt
        ((u.setThread p e t ((s.thread p e t).issuing u.bus.ticks)).thrSlot p (s.thread p e t)).pkt).tag)
    fun m => { m with lookups := m.lookups + n }
  dsimp only
  generalize State.modSample _ _ _ = v at hsample ⊢
  rw [hset] at hsample
  have hframe := hnoted.frame
  refine ⟨?_, fun a ha => (hsample.reg a ha).trans (hnoted.reg a ha), ?_, fun k hk => ?_⟩
  · rw [hsample.frame, hnoted.frame]
    rfl
  · rw [hsample.eng, hnoted.ticks]
    change Tab.set _ u.eng.thr _ _ = _
    rw [hnoted.eng]
    rfl
  · have hused : v.bus.used = u.bus.used := hsample.used
    rw [State.uses, hused, hnoted.used]
    exact s.uses_use_ne hk

/-! ### The thread's next bundle (R156, R164) -/

/-- An operation after which the thread goes on to its next bundle: no branch and no disposition. -/
def Op.goesOn : Op → Bool
  | .br _ => false
  | .call _ _ => false
  | .loop _ _ => false
  | .jmp _ => false
  | .disp _ _ => false
  | _ => true

/-- A thread's program counter moved to an address, where its bundle is due in the next clock. -/
def State.goTo (s : State) (p e t : Nat) (pc : BitVec 15) : State := s.modThread p e t fun y => { y with pc := pc, nextTick := s.bus.ticks + 1 }

theorem branchTarget_of_goesOn (x : Thr) {o : Op} (h : o.goesOn = true) : branchTarget x o = none := by
  unfold branchTarget
  split <;> simp_all [Op.goesOn]

theorem State.advance_of_goesOn (s : State) (p e t : Nat) (x : Thr) (low : Nat) {ops : List SlotOp} (h : ∀ o ∈ ops, o.op.goesOn = true)
    (hpc : x.pc.toNat ≠ 32767) : s.advance p e t x low ops = s.goTo p e t (x.pc + 1) := by
  have hbranch : ops.findSome? (fun o => if guardTrue o.gd x.p then branchTarget x o.op else none) = none := by
    refine List.findSome?_eq_none_iff.mpr fun o ho => ?_
    rw [branchTarget_of_goesOn x (h o ho), ite_self]
  unfold State.advance
  split
  next o hfound =>
    have hgoes := h o (List.mem_of_find?_eq_some hfound)
    have hdisp := List.find?_some hfound
    cases hop : o.op <;> simp_all [Op.goesOn]
  next =>
    rw [hbranch]
    exact if_neg hpc

/-- A bundle that meets no fault: its operations act on a state in which the issue has begun, and the thread goes on. -/
theorem State.issueNow_of_goesOn {s : State} {p e t : Nat} {b : BitVec 128} {ops : List SlotOp} (hst : (s.thread p e t).st ≠ .blockedInt)
    (hdec : decodeBundle s.tdRw b = (ops, [])) (hfault : (s.noted p e t b).bundleFault p e (s.thread p e t) b ops [] = none)
    (hgoes : ∀ o ∈ ops, o.op.goesOn = true) (hpc : (s.thread p e t).pc.toNat ≠ 32767) :
    ∃ u, s.Begins u p e t ∧ s.issueNow p e t b =
      (let v := (State.applyOps u p e t (s.thread p e t) ops u).goTo p e t ((s.thread p e t).pc + 1)
       if (s.thread p e t).stepping then v.modThread p e t Thr.stepped else v) := by
  have hrun (u : State) := State.advance_of_goesOn (State.applyOps u p e t (s.thread p e t) ops u) p e t (s.thread p e t) (b.toNat % 2 ^ 64) hgoes hpc
  unfold State.noted at hfault
  refine ⟨_, s.begins_begun p e t b (ops.filter fun o => guardTrue o.gd (s.thread p e t).p && o.op.asks).length hst, ?_⟩
  unfold State.issueNow
  simp only [hdec]
  rw [hfault]
  dsimp only
  rw [hrun]
  rfl

end Machine
end Sys2Proof
end

section
/-! SUPPORT. Bundles of one operation: what they decode to, and their issue by a thread that can issue. -/

open Sys2Proof Sys2Proof.Machine
namespace Sys2Proof
namespace Machine

/-! ### Bundles of NOPs and of one operation in slot 2 (R156, R158, R160) -/

/-- A NOP in a slot. -/
def nopAt (i : Nat) : SlotOp := { slot := i, gd := 0, op := .nop }

/-- The operations of a bundle with one in slot 2 and NOP elsewhere. -/
def soloOps (gd : BitVec 4) (o : Op) : List SlotOp := [nopAt 0, nopAt 1, { slot := 2, gd := gd, op := o }, nopAt 3]

theorem decodeBundle_zero (rw : Nat → Nat) : decodeBundle rw 0 = ([nopAt 0, nopAt 1, nopAt 2, nopAt 3], []) := rfl

theorem opOf_zero : opOf 0 = some (0, .nop) := rfl

theorem toNat_soloBundle {gd : BitVec 4} {o : Op} (lit : Word) (hhome : o.homeSlot = 2) (hlit : o.literal = false) :
    (soloBundle gd o lit).toNat = (opWord gd o).toNat * 2 ^ 64 := by
  have hlt := (opWord gd o).isLt
  unfold soloBundle
  rw [hhome, hlit, if_neg (by decide), Nat.add_zero, BitVec.toNat_ofNat]
  generalize (opWord gd o).toNat = word at hlt
  omega

theorem bundleSlots_step (b : BitVec 128) (n i : Nat) {gd : BitVec 4} {o : Op} (hword : opOf (bundleWord b i) = some (gd, o))
    (hlit : o.literal = false) : bundleSlots b (n + 1) i = ({ slot := i, gd := gd, op := o } :: (bundleSlots b n (i + 1)).1, (bundleSlots b n (i + 1)).2) := by
  simp [bundleSlots, hword, hlit]

/-- A NOP writes nothing, and exceeds no limit. -/
theorem limitFaults_nopAt (rw : Nat → Nat) (i : Nat) (l : List SlotOp) (seen : List Nat) (scr : Bool) :
    limitFaults rw (nopAt i :: l) seen scr = limitFaults rw l seen scr := by
  have hwrites : (nopAt i).op.writes rw = [] := rfl
  have hscript : (nopAt i).op.script = false := rfl
  simp [limitFaults, hwrites, hscript]

/-- The first operation of a bundle exceeds no limit. -/
theorem limitFaults_first (rw : Nat → Nat) (o : SlotOp) (l : List SlotOp) :
    limitFaults rw (o :: l) [] false = limitFaults rw l (o.op.writes rw) o.op.script := by
  simp [limitFaults]

theorem decodeBundle_soloBundle (rw : Nat → Nat) {gd : BitVec 4} {o : Op} (lit : Word) (hop : opOf (opWord gd o) = some (gd, o))
    (hhome : o.homeSlot = 2) (hlit : o.literal = false) : decodeBundle rw (soloBundle gd o lit) = (soloOps gd o, []) := by
  have hlt := (opWord gd o).isLt
  have hnat := toNat_soloBundle (gd := gd) lit hhome hlit
  have hslot : o.slotOk 2 = true := by
    unfold Op.homeSlot at hhome
    cases hfound : (List.range 4).find? o.slotOk with
    | none => simp [hfound] at hhome
    | some i =>
      rw [hfound] at hhome
      obtain rfl : i = 2 := hhome
      exact List.find?_some hfound
  generalize soloBundle gd o lit = b at hnat
  have hnop (i : Nat) (hi : i = 0 ∨ i = 1 ∨ i = 3) : opOf (bundleWord b i) = some (0, .nop) := by
    have hword : bundleWord b i = 0 := by
      refine BitVec.eq_of_toNat_eq ?_
      rw [bundleWord, BitVec.toNat_ofNat, hnat]
      obtain rfl | rfl | rfl := hi <;> simp <;> omega
    rw [hword, opOf_zero]
  have hsolo : opOf (bundleWord b 2) = some (gd, o) := by
    have hword : bundleWord b 2 = opWord gd o := by
      refine BitVec.eq_of_toNat_eq ?_
      rw [bundleWord, BitVec.toNat_ofNat, hnat]
      omega
    rw [hword, hop]
  have hslots : bundleSlots b 4 0 = (soloOps gd o, []) := by
    rw [bundleSlots_step b 3 0 (hnop 0 (by decide)) rfl, bundleSlots_step b 2 1 (hnop 1 (by decide)) rfl, bundleSlots_step b 1 2 hsolo hlit,
      bundleSlots_step b 0 3 (hnop 3 (by decide)) rfl, bundleSlots]
    rfl
  have hlimit : limitFaults rw (soloOps gd o) [] false = [] := by
    rw [soloOps, limitFaults_nopAt, limitFaults_nopAt, limitFaults_first, limitFaults_nopAt, limitFaults]
  have hok : ((soloOps gd o).filter fun o => !o.op.slotOk o.slot) = [] := by
    have hnops (i : Nat) : (nopAt i).op.slotOk (nopAt i).slot = true := rfl
    simp [soloOps, hslot, hnops]
  unfold decodeBundle
  simp only [hslots, hlimit, hok, List.map_nil, List.append_nil]

/-! ### The operation of an encoded word (R157, R158, R169) -/

section
variable {op rd ra low : Nat} (hrd : rd < 32) (hra : ra < 32) (hlow : low < 4096)
include hrd hra hlow

theorem opBits_lt (hop : op < 64) : opBits op rd ra low < 2 ^ 28 := by
  unfold opBits
  omega

theorem bits_opBits_op (hop : op < 64) : bits (opBits op rd ra low) 27 22 = op := by
  unfold bits opBits
  omega

theorem bits_opBits_rd : bits (opBits op rd ra low) 21 17 = rd := by
  unfold bits opBits
  omega

omit hrd in
theorem bits_opBits_ra : bits (opBits op rd ra low) 16 12 = ra := by
  unfold bits opBits
  omega

omit hrd hra in
theorem opBits_mod : opBits op rd ra low % 2 ^ 12 = low := by
  unfold opBits
  omega

end

/-- A word decodes to the guard and the operation of its bits, when the operands lie in their ranges. -/
theorem opOf_of_bits {w : Word} {gd : BitVec 4} {o : Op} (hguard : BitVec.ofNat 4 (w.toNat / 2 ^ 28) = gd)
    (hbits : opOfBits (w.toNat % 2 ^ 28) = some o) (hok : o.ok = true) (hnop : o ≠ .nop) : opOf w = some (gd, o) := by
  unfold opOf
  rw [hguard, hbits]
  simp [hok, hnop]

theorem opOf_opWord {gd : BitVec 4} {o : Op} (hlt : o.code < 2 ^ 28) (hbits : opOfBits o.code = some o) (hok : o.ok = true) (hnop : o ≠ .nop) :
    opOf (opWord gd o) = some (gd, o) := by
  have hgd := gd.isLt
  have hnat : (opWord gd o).toNat = gd.toNat * 2 ^ 28 + o.code := by
    rw [opWord, BitVec.toNat_ofNat]
    omega
  refine opOf_of_bits (BitVec.eq_of_toNat_eq ?_) ?_ hok hnop
  · rw [BitVec.toNat_ofNat, hnat]
    omega
  · have hmod : (gd.toNat * 2 ^ 28 + o.code) % 2 ^ 28 = o.code := by omega
    rw [hnat, hmod, hbits]

/-! ### The words of the operations of slot 2 (R169) -/

/-- A field of an operand's width is that operand. -/
theorem ofNat_of_mod_eq {w n : Nat} (x : BitVec w) (h : n % 2 ^ w = x.toNat) : BitVec.ofNat w n = x := BitVec.eq_of_toNat_eq h

theorem opOf_lkp (gd : BitVec 4) (rd ra : Rg) (tb : BitVec 10) : opOf (opWord gd (.lkp rd ra tb)) = some (gd, .lkp rd ra tb) := by
  have hrd := rd.isLt
  have hra := ra.isLt
  have hlow : tb.toNat < 4096 := by omega
  refine opOf_opWord (opBits_lt hrd hra hlow (by decide)) ?_ rfl (by simp)
  rw [Op.code, opOfBits, bits_opBits_op hrd hra hlow (by decide), bits_opBits_rd hrd hra hlow, bits_opBits_ra hra hlow, opBits_mod hlow]
  simp [whenOp, tb.isLt]

theorem opOf_tcs (gd : BitVec 4) (rd : Rg) (hoff : BitVec 6) (prof : BitVec 8) : opOf (opWord gd (.tcs rd hoff prof)) = some (gd, .tcs rd hoff prof) := by
  have hrd := rd.isLt
  have hhoff := hoff.isLt
  have hprof := prof.isLt
  refine opOf_opWord (by simp only [Op.code, opBits]; omega) ?_ rfl (by simp)
  have hop : bits (Op.tcs rd hoff prof).code 27 22 = 0x31 := by simp only [Op.code, opBits, bits]; omega
  have hrd' : bits (Op.tcs rd hoff prof).code 21 17 = rd.toNat := by simp only [Op.code, opBits, bits]; omega
  have hunused : bits (Op.tcs rd hoff prof).code 10 8 = 0 := by simp only [Op.code, opBits, bits]; omega
  have hoff' : bits (Op.tcs rd hoff prof).code 16 11 = hoff.toNat := by simp only [Op.code, opBits, bits]; omega
  have hprof' : BitVec.ofNat 8 (Op.tcs rd hoff prof).code = prof := ofNat_of_mod_eq _ (by simp only [Op.code, opBits]; omega)
  rw [opOfBits, hop, hrd', hunused, hoff', hprof']
  simp [whenOp]

theorem opOf_pol (gd : BitVec 4) (rd ra : Rg) : opOf (opWord gd (.pol rd ra)) = some (gd, .pol rd ra) := by
  have hrd := rd.isLt
  have hra := ra.isLt
  have hlow : 0 < 4096 := by decide
  refine opOf_opWord (opBits_lt hrd hra hlow (by decide)) ?_ rfl (by simp)
  rw [Op.code, opOfBits, bits_opBits_op hrd hra hlow (by decide), bits_opBits_rd hrd hra hlow, bits_opBits_ra hra hlow, opBits_mod hlow]
  simp [whenOp]

theorem opOf_stat (gd : BitVec 4) (ra rb : Rg) : opOf (opWord gd (.stat ra rb)) = some (gd, .stat ra rb) := by
  have hra := ra.isLt
  have hrb := rb.isLt
  have hrd : 0 < 32 := by decide
  have hlow : rb.toNat * 2 ^ 7 < 4096 := by omega
  have hrb' : bits (Op.stat ra rb).code 11 7 = rb.toNat := by simp only [Op.code, opBits, bits]; omega
  have hfn : (Op.stat ra rb).code % 128 = 0 := by simp only [Op.code, opBits]; omega
  refine opOf_opWord (opBits_lt hrd hra hlow (by decide)) ?_ rfl (by simp)
  rw [opOfBits, hrb', hfn, Op.code, bits_opBits_op hrd hra hlow (by decide), bits_opBits_rd hrd hra hlow, bits_opBits_ra hra hlow]
  simp [whenOp]

theorem opOf_send (gd : BitVec 4) (ra : Rg) (last : Bool) (ch : BitVec 4) : opOf (opWord gd (.send ra last ch)) = some (gd, .send ra last ch) := by
  have hra := ra.isLt
  have hch := ch.isLt
  have hlast := b2n_le last
  have hrd : 0 < 32 := by decide
  have hlow : b2n last * 2 ^ 4 + ch.toNat < 32 := by omega
  have hlast' : bitOf (Op.send ra last ch).code 4 = last := by
    have hdiv : (Op.send ra last ch).code / 2 ^ 4 % 2 = b2n last := by simp only [Op.code, opBits]; omega
    rw [bitOf, hdiv]
    cases last <;> rfl
  have hch' : BitVec.ofNat 4 (Op.send ra last ch).code = ch := ofNat_of_mod_eq _ (by simp only [Op.code, opBits]; omega)
  refine opOf_opWord (opBits_lt hrd hra (by omega) (by decide)) ?_ rfl (by simp)
  rw [opOfBits, hlast', hch', Op.code, bits_opBits_op hrd hra (by omega) (by decide), bits_opBits_rd hrd hra (by omega),
    bits_opBits_ra hra (by omega), opBits_mod (by omega)]
  simp [whenOp]
  omega

theorem opOf_recv (gd : BitVec 4) {rd : Rg} (ch : BitVec 4) (hok : rd.toNat ≤ 28) : opOf (opWord gd (.recv rd ch)) = some (gd, .recv rd ch) := by
  have hch := ch.isLt
  have hrd := rd.isLt
  have hra : 0 < 32 := by decide
  have hlow : ch.toNat < 4096 := by omega
  have hch' : BitVec.ofNat 4 (Op.recv rd ch).code = ch := ofNat_of_mod_eq _ (by simp only [Op.code, opBits]; omega)
  refine opOf_opWord (opBits_lt hrd hra hlow (by decide)) ?_ (by simpa [Op.ok] using hok) (by simp)
  rw [opOfBits, hch', Op.code, bits_opBits_op hrd hra hlow (by decide), bits_opBits_rd hrd hra hlow, bits_opBits_ra hra hlow, opBits_mod hlow]
  simp [whenOp, hch]

theorem opOf_recvt (gd : BitVec 4) {rd : Rg} (pd : Pr) (ch : BitVec 4) (hok : rd.toNat ≤ 28) :
    opOf (opWord gd (.recvt rd pd ch)) = some (gd, .recvt rd pd ch) := by
  have hch := ch.isLt
  have hpd := pd.isLt
  have hrd := rd.isLt
  have hra : 0 < 32 := by decide
  have hlow : pd.toNat * 2 ^ 8 + ch.toNat < 4096 := by omega
  have hch' : BitVec.ofNat 4 (Op.recvt rd pd ch).code = ch := ofNat_of_mod_eq _ (by simp only [Op.code, opBits]; omega)
  have hpd' : bits (Op.recvt rd pd ch).code 10 8 = pd.toNat := by simp only [Op.code, opBits, bits]; omega
  have hhigh : bits (Op.recvt rd pd ch).code 11 11 = 0 := by simp only [Op.code, opBits, bits]; omega
  have hmid : bits (Op.recvt rd pd ch).code 7 4 = 0 := by simp only [Op.code, opBits, bits]; omega
  refine opOf_opWord (opBits_lt hrd hra hlow (by decide)) ?_ (by simpa [Op.ok] using hok) (by simp)
  rw [opOfBits, hch', hpd', hhigh, hmid, Op.code, bits_opBits_op hrd hra hlow (by decide), bits_opBits_rd hrd hra hlow, bits_opBits_ra hra hlow]
  simp [whenOp]

theorem opOf_abort (gd : BitVec 4) (ra : Rg) : opOf (opWord gd (.abort ra)) = some (gd, .abort ra) := by
  have hra := ra.isLt
  have hrd : 0 < 32 := by decide
  have hlow : 0 < 4096 := by decide
  refine opOf_opWord (opBits_lt hrd hra hlow (by decide)) ?_ rfl (by simp)
  rw [Op.code, opOfBits, bits_opBits_op hrd hra hlow (by decide), bits_opBits_rd hrd hra hlow, bits_opBits_ra hra hlow, opBits_mod hlow]
  simp [whenOp]

theorem opOf_waitr (gd : BitVec 4) : opOf (opWord gd .waitr) = some (gd, .waitr) := opOf_opWord (by decide) (by decide) rfl (by simp)

theorem opOf_brk (gd : BitVec 4) : opOf (opWord gd .brk) = some (gd, .brk) := opOf_opWord (by decide) (by decide) rfl (by simp)

/-! ### The issue (R119, R159, R163) -/

/-- A thread that awaits no response and no latency holds no bundle back. -/
theorem State.heldRegs_idle (s : State) {x : Thr} (b : BitVec 128) (hreqs : x.reqs = []) (hready : x.gReady = []) :
    s.heldRegs x b = ([], false) := by
  have hawaited : x.awaited = [] := by simp [Thr.awaited, hreqs]
  simp [State.heldRegs, hawaited, hready]

theorem State.issue_idle {s : State} {p e t : Nat} (b : BitVec 128) (hreqs : (s.thread p e t).reqs = []) (hready : (s.thread p e t).gReady = []) :
    s.issue p e t b = s.issueNow p e t b := by
  unfold State.issue
  dsimp only
  rw [s.heldRegs_idle b hreqs hready]
  rfl

/-- What a thread that can issue is: READY, its engine's slot free, in its window. -/
theorem State.ready_of_issues {s : State} {p e t : Nat} (h : s.issues p e t = true) : (s.thread p e t).st = .ready := by
  unfold State.issues State.mayIssue at h
  simp only [Bool.and_eq_true, beq_iff_eq] at h
  obtain ⟨⟨⟨⟨⟨-, hst⟩, -⟩, -⟩, -⟩, -⟩ := h
  exact hst

theorem State.uses_of_issues {s : State} {p e t : Nat} (h : s.issues p e t = true) : s.uses (.issue p e) = 0 := by
  unfold State.issues at h
  simp only [Bool.and_eq_true, beq_iff_eq] at h
  obtain ⟨⟨-, huses⟩, -⟩ := h
  exact huses

/-- A NOP has no effect (R169). -/
theorem State.applyOps_nopAt (s0 s : State) (p e t : Nat) (x : Thr) (i : Nat) (l : List SlotOp) :
    State.applyOps s0 p e t x (nopAt i :: l) s = State.applyOps s0 p e t x l s := by
  have hnone : (if guardTrue (nopAt i).gd x.p then s0.opApply p e t x (nopAt i).lit (nopAt i).op s else s) = s := ite_self s
  rw [State.applyOps, hnone]

theorem State.applyOps_solo (u : State) (p e t : Nat) {x : Thr} {gd : BitVec 4} (o : Op) (hgd : guardTrue gd x.p = true) :
    State.applyOps u p e t x (soloOps gd o) u = u.opApply p e t x 0 o u := by
  rw [soloOps, State.applyOps_nopAt, State.applyOps_nopAt, State.applyOps, State.applyOps_nopAt, State.applyOps, if_pos hgd]

/-- A bundle that holds no faulting slot and no faulting operation does not fault (R158). -/
theorem State.bundleFault_of_none {u : State} {p e : Nat} {x : Thr} {b : BitVec 128} {ops : List SlotOp}
    (h : ∀ o ∈ ops, u.opFault p e x (b.toNat % 2 ^ 64) o.op = none) : u.bundleFault p e x b ops [] = none := by
  refine List.findSome?_eq_none_iff.mpr fun i _ => ?_
  rw [if_neg (by simp)]
  split
  · rfl
  next o hfound =>
    rw [h o (List.mem_of_find?_eq_some hfound), Option.map_none, ite_self]

/-- A bundle of NOPs by a thread that may be in a STEP: the thread goes on, and halts again in a STEP (R140, R169). -/
theorem State.issue_zero {s : State} {p e t : Nat} (hst : (s.thread p e t).st ≠ .blockedInt) (hreqs : (s.thread p e t).reqs = [])
    (hready : (s.thread p e t).gReady = []) (hpc : (s.thread p e t).pc.toNat ≠ 32767) :
    ∃ u, s.Begins u p e t ∧ s.issue p e t 0 =
      (let v := u.goTo p e t ((s.thread p e t).pc + 1)
       if (s.thread p e t).stepping then v.modThread p e t Thr.stepped else v) := by
  have hops (o : SlotOp) (ho : o ∈ [nopAt 0, nopAt 1, nopAt 2, nopAt 3]) : o.op = .nop := by
    simp only [List.mem_cons, List.not_mem_nil, or_false] at ho
    obtain rfl | rfl | rfl | rfl := ho <;> rfl
  obtain ⟨u, hu, hrun⟩ := State.issueNow_of_goesOn hst (decodeBundle_zero _)
    (State.bundleFault_of_none fun o ho => by rw [hops o ho]; rfl) (fun o ho => by rw [hops o ho]; rfl) hpc
  refine ⟨u, hu, ?_⟩
  rw [State.issue_idle _ hreqs hready, hrun]
  simp only [State.applyOps_nopAt]
  rfl

/-- An operation of slot 2 that meets no fault acts on a state in which the issue has begun, and its thread goes on (R119, R159). -/
theorem State.runOp_solo {s : State} {t : Tid} {gd : BitVec 4} {o : Op} (hissues : Issues s t gd) (hop : opOf (opWord gd o) = some (gd, o))
    (hhome : o.homeSlot = 2) (hlit : o.literal = false) (hgoes : o.goesOn = true)
    (hfault : ∀ (u : State) (low : Nat), s.BusSame u → (∀ k x, u.admOf t.ave k x = s.admOf t.ave k x) →
      u.opFault t.ave t.eng (thr s t) low o = none) :
    ∃ u, s.Begins u t.ave t.eng t.thr
      ∧ s.runOp t gd o 0 = (u.opApply t.ave t.eng t.thr (thr s t) 0 o u).goTo t.ave t.eng t.thr ((thr s t).pc + 1) := by
  obtain ⟨hcan, hstep, hreqs, hready, -, hgd, hpc⟩ := hissues
  have hst := State.ready_of_issues hcan
  have hnoted := s.traceSame_noted t.ave t.eng t.thr (soloBundle gd o 0)
  have hbus : s.BusSame (s.noted t.ave t.eng t.thr (soloBundle gd o 0)) := ⟨hnoted.reg, hnoted.busSame.late, hnoted.busSame.before⟩
  have hsafe (x : SlotOp) (hx : x ∈ soloOps gd o) (low : Nat) :
      (s.noted t.ave t.eng t.thr (soloBundle gd o 0)).opFault t.ave t.eng (s.thread t.ave t.eng t.thr) low x.op = none := by
    simp only [soloOps, List.mem_cons, List.not_mem_nil, or_false] at hx
    obtain rfl | rfl | rfl | rfl := hx
    · rfl
    · rfl
    · exact hfault _ _ hbus fun k x => hnoted.admOf _ k x
    · rfl
  have hon (x : SlotOp) (hx : x ∈ soloOps gd o) : x.op.goesOn = true := by
    simp only [soloOps, List.mem_cons, List.not_mem_nil, or_false] at hx
    obtain rfl | rfl | rfl | rfl := hx
    · rfl
    · rfl
    · exact hgoes
    · rfl
  obtain ⟨u, hu, hrun⟩ := State.issueNow_of_goesOn (by simp [hst]) (decodeBundle_soloBundle s.tdRw 0 hop hhome hlit)
    (State.bundleFault_of_none fun x hx => hsafe x hx _) hon hpc
  have hsolo := State.applyOps_solo u t.ave t.eng t.thr o hgd
  refine ⟨u, hu, ?_⟩
  rw [State.runOp, if_pos hcan, State.issue_idle _ hreqs hready, hrun]
  dsimp only
  rw [show (s.thread t.ave t.eng t.thr).stepping = false from hstep, if_neg (by decide)]
  rw [thr] at hsolo ⊢
  rw [hsolo]

end Machine
end Sys2Proof
end

section
/-! SUPPORT. Operations after which their thread goes on, and what they leave as it was. -/

open Sys2Proof Sys2Proof.Machine
namespace Sys2Proof

/-! ### Frames of an issue (R119) -/

section
variable {s u : State} {t : Tid}

theorem issueFrame_of_begins (h : s.Begins u t.ave t.eng t.thr) : IssueFrame s u t :=
  ⟨h.reg, fun _ _ _ hne => h.thread_ne hne, h.part (·.line) fun _ _ => rfl, h.tbl, h.part (·.cls) fun _ _ => rfl, h.part (·.lrn) fun _ _ => rfl,
    h.part (·.sq) fun _ _ => rfl, h.part (·.hbm) fun _ _ => rfl, h.part (·.err) fun _ _ => rfl, h.part (·.mss) fun _ _ => rfl,
    h.part (·.bus.beat) fun _ _ => rfl, h.ticks, h.part (·.pending) fun _ _ => rfl⟩

theorem engineMemSame_of_begins (h : s.Begins u t.ave t.eng t.thr) : EngineMemSame s u := h.part (EngineMemSame s ·) (fun _ _ => rfl) ▸ ⟨rfl, rfl, rfl, rfl, rfl⟩

theorem thr_of_begins (h : s.Begins u t.ave t.eng t.thr) : thr u t = (thr s t).issuing s.bus.ticks := h.thread_self

/-- The issuing thread replaced is none of the others. -/
theorem IssueFrame.setThread (h : IssueFrame s u t) (x : Thr) : IssueFrame s (u.setThread t.ave t.eng t.thr x) t := by
  obtain ⟨hreg, hthread, hrest⟩ := h
  refine ⟨fun a ha => ?_, fun p e n hne => (State.thread_setThread_ne u x hne).trans (hthread p e n hne), by simpa using hrest⟩
  rw [State.reg, State.setThread_bus]
  exact hreg a ha

theorem IssueFrame.goTo (h : IssueFrame s u t) (pc : BitVec 15) : IssueFrame s (u.goTo t.ave t.eng t.thr pc) t := h.setThread _
theorem IssueFrame.setChan (h : IssueFrame s u t) (p e c : Nat) (q : List (List Dword)) : IssueFrame s (u.setChan p e c q) t := h
theorem IssueFrame.count (h : IssueFrame s u t) (unit ev inst n : Nat) : IssueFrame s (u.count unit ev inst n) t := h

/-- What threads do not belong to, a thread replaced leaves. -/
theorem setThread_part {γ : Type} (q : State → γ) (hq : ∀ (s : State) x y, q { s with eng := { s.eng with thr := x, fired := y } } = q s)
    (s : State) (p e n : Nat) (x : Thr) : q (s.setThread p e n x) = q s := by
  unfold State.setThread
  dsimp only
  split
  · exact hq s _ _
  · exact hq s _ s.eng.fired

theorem EngineMemSame.setThread (h : EngineMemSame s u) (p e n : Nat) (x : Thr) : EngineMemSame s (u.setThread p e n x) :=
  (setThread_part (EngineMemSame s ·) (fun _ _ _ => rfl) u p e n x).symm ▸ h

theorem EngineMemSame.goTo (h : EngineMemSame s u) (p e n : Nat) (pc : BitVec 15) : EngineMemSame s (u.goTo p e n pc) := h.setThread ..

theorem thr_setThread (u : State) (t : Tid) (x : Thr) : thr (u.setThread t.ave t.eng t.thr x) t = x := State.thread_setThread_self ..

theorem thr_goTo (u : State) (t : Tid) (pc : BitVec 15) :
    thr (u.goTo t.ave t.eng t.thr pc) t = { thr u t with pc := pc, nextTick := u.bus.ticks + 1 } := thr_setThread ..

/-- A READY thread in its slot and its bank that is sent to the next bundle goes on. -/
theorem goesOn_goTo (hst : (thr u t).st = .ready) (hslot : (thr u t).slot = (thr s t).slot) (hbank : (thr u t).cbank = (thr s t).cbank)
    (hticks : u.bus.ticks = s.bus.ticks) : GoesOn s (u.goTo t.ave t.eng t.thr ((thr s t).pc + 1)) t := by
  rw [GoesOn, thr_goTo, hticks]
  exact ⟨rfl, rfl, hst, hslot, hbank⟩

/-- An operation after which the thread is as it was, but for what no register and no predicate shows. -/
theorem noRegResult_goTo (hg : (thr u t).g = (thr s t).g) (hp : (thr u t).p = (thr s t).p) (hst : (thr u t).st = .ready)
    (hslot : (thr u t).slot = (thr s t).slot) (hbank : (thr u t).cbank = (thr s t).cbank) (hframe : IssueFrame s u t) :
    NoRegResult s (u.goTo t.ave t.eng t.thr ((thr s t).pc + 1)) t := by
  obtain ⟨-, -, -, -, -, -, -, -, -, -, -, hticks, -⟩ := id hframe
  refine ⟨?_, ?_, goesOn_goTo hst hslot hbank hticks, hframe.goTo _⟩
  · rw [thr_goTo]
    exact hg
  · rw [thr_goTo]
    exact hp

end

/-- An operation of slot 2 is in the place and of the kind of those after which the thread goes on. -/
structure Machine.Op.Plain (o : Op) : Prop where
  home : o.homeSlot = 2
  lit : o.literal = false
  goes : o.goesOn = true

/-- A command that issues one such operation, without a fault, does what the operation does where the issue has begun. -/
theorem does_plainOp {c : Instr} {s : State} {t : Tid} {gd : BitVec 4} {o : Op} {P : State → Prop} (hexec : exec c s = .next (s.runOp t gd o 0))
    (hissues : Issues s t gd) (hop : opOf (opWord gd o) = some (gd, o)) (hplain : o.Plain)
    (hfault : ∀ (u : State) (low : Nat), s.BusSame u → (∀ k x, u.admOf t.ave k x = s.admOf t.ave k x) →
      u.opFault t.ave t.eng (thr s t) low o = none)
    (h : ∀ u, s.Begins u t.ave t.eng t.thr → P ((u.opApply t.ave t.eng t.thr (thr s t) 0 o u).goTo t.ave t.eng t.thr ((thr s t).pc + 1))) :
    Does c s P := by
  obtain ⟨u, hu, hrun⟩ := State.runOp_solo hissues hop hplain.home hplain.lit hplain.goes hfault
  exact ⟨_, hexec.trans (congrArg _ hrun), h u hu⟩

end Sys2Proof
end

section
/-! SUPPORT. Channels, ABORT and BRK; the statement O32. -/

open Sys2Proof Sys2Proof.Machine
namespace Sys2Proof
namespace Machine

/-! ### Registers and predicates written (R163, R169) -/

theorem Thr.wrList_part {γ : Type} (q : Thr → γ) (hq : ∀ (x : Thr) g r, q { x with g := g, gReady := r } = q x) (now : Nat) :
    ∀ (vs : List Dword) (x : Thr) (n : Nat), q (x.wrList now n vs) = q x
  | [], _, _ => rfl
  | v :: vs, x, n => (Thr.wrList_part q hq now vs (x.wr now 1 n v) (n + 1)).trans (hq x _ _)

theorem Thr.wrList_g (now i : Nat) : ∀ (vs : List Dword) (x : Thr) (n : Nat), Tab.get 0 (x.wrList now n vs).g i
    = if n ≤ i ∧ i < n + vs.length then vs.getD (i - n) 0 else Tab.get 0 x.g i
  | [], _, n => by
    rw [if_neg (by simp only [List.length_nil]; omega)]
    rfl
  | v :: vs, x, n => by
    have hfirst : Tab.get 0 (x.wr now 1 n v).g i = if i = n then v else Tab.get 0 x.g i := Tab.get_set 0 x.g n i v
    rw [Thr.wrList, Thr.wrList_g now i vs, hfirst, List.length_cons]
    by_cases hi : i = n
    · subst hi
      rw [if_neg (by omega), if_pos rfl, if_pos (by omega), Nat.sub_self, List.getD_cons_zero]
    · rw [if_neg hi]
      by_cases hin : n + 1 ≤ i ∧ i < n + 1 + vs.length
      · obtain ⟨d, rfl⟩ := Nat.exists_eq_add_of_le hin.1
        rw [if_pos hin, if_pos (by omega), Nat.add_sub_cancel_left, show n + 1 + d - n = d + 1 by omega, List.getD_cons_succ]
      · rw [if_neg hin, if_neg (by omega)]

/-- A predicate written reads as written, and the others as before. -/
theorem Thr.getLsbD_setPred (x : Thr) (n : Nat) (b : Bool) {i : Nat} (hi : i < 8) :
    (x.setPred n b).p.getLsbD i = if i = n then b else x.p.getLsbD i := by
  rw [Thr.setPred, BitVec.getLsbD_ofNat, putBits_testBit]
  by_cases h : i = n
  · subst h
    rw [if_pos (by omega), if_pos rfl, Nat.sub_self]
    cases b <;> simp [b2n, hi]
  · rw [if_neg (by omega), if_neg h, decide_eq_true hi, Bool.true_and]
    rfl

theorem Thr.receive_part {γ : Type} (q : Thr → γ)
    (hq : ∀ (x : Thr) g r st wait next, q { x with g := g, gReady := r, st := st, wait := wait, nextTick := next } = q x)
    (x : Thr) (now rd : Nat) (msg : List Dword) : q (x.receive now rd msg) = q x :=
  (hq _ (x.wrList now rd _).g (x.wrList now rd _).gReady _ _ _).trans (Thr.wrList_part q (fun x g r => hq x g r x.st x.wait x.nextTick) now _ x rd)

/-- The words of a message in its registers. -/
theorem Thr.receive_g (x : Thr) (now rd : Nat) (msg : List Dword) (i : Nat) : Tab.get 0 (x.receive now rd msg).g i
    = if rd ≤ i ∧ i < rd + 4 then msg.getD (i - rd) 0 else Tab.get 0 x.g i := by
  refine (Thr.wrList_g now i _ x rd).trans ?_
  by_cases hi : rd ≤ i ∧ i < rd + 4
  · obtain ⟨d, rfl⟩ := Nat.exists_eq_add_of_le hi.1
    rw [if_pos hi, List.length_cons, List.length_cons, List.length_cons, List.length_cons, List.length_nil, if_pos hi, Nat.add_sub_cancel_left]
    obtain rfl | rfl | rfl | rfl : d = 0 ∨ d = 1 ∨ d = 2 ∨ d = 3 := by omega
    all_goals rfl
  · rw [if_neg hi]
    exact if_neg hi

/-! ### Who waits on a channel (R125, R126) -/

/-- A choice among the members of a list that satisfy a test falls on none when there are none. -/
theorem foldl_choose_eq_none {β : Type} (c : β → Bool) (g : Option β → β → Option β) (hg : ∀ o x, (g o x).isSome = true) (l : List β) :
    l.foldl (fun o x => if c x then g o x else o) none = none ↔ ∀ x ∈ l, c x = false := by
  have hsome (l : List β) : ∀ o : Option β, o.isSome = true → (l.foldl (fun o x => if c x then g o x else o) o).isSome = true :=
    fun o ho => foldl_keeps (fun o => o.isSome = true) _ (fun o x ho => by split; exacts [hg o x, ho]) l o ho
  induction l with
  | nil => simp
  | cons x l ih =>
    rw [List.foldl_cons]
    cases hx : c x
    · simpa [hx] using ih
    · have hpicked := hsome l (g none x) (hg none x)
      simp only [if_true, List.mem_cons, forall_eq_or_imp, hx, Bool.true_eq_false, false_and, iff_false]
      intro hnone
      rw [hnone] at hpicked
      cases hpicked

/-- A choice falls on a member of its list that satisfies the test. -/
theorem foldl_choose_mem {β : Type} (c : β → Bool) (g : Option β → β → Option β) (hg : ∀ o x y, g o x = some y → y = x ∨ o = some y)
    (l : List β) {y : β} (h : l.foldl (fun o x => if c x then g o x else o) none = some y) : y ∈ l ∧ c y = true := by
  refine foldl_keeps_of_mem (fun o => ∀ y, o = some y → y ∈ l ∧ c y = true) _ l none (fun o x hx ho y hy => ?_) (by simp) y h
  by_cases hc : c x = true
  · rw [if_pos hc] at hy
    obtain rfl | hy := hg o x y hy
    · exact ⟨hx, hc⟩
    · exact ho y hy
  · rw [if_neg hc] at hy
    exact ho y hy

/-- A thread in its window waits to receive on a channel. -/
def State.receives (s : State) (p e c t : Nat) : Bool := (s.thread p e t).waitsOn c && s.inWindow p e (s.thread p e t)

theorem State.waiter_eq_none_iff (s : State) (p e c : Nat) : s.waiter p e c = none ↔ ∀ t < 8, s.receives p e c t = false := by
  refine (foldl_choose_eq_none (s.receives p e c) (fun o t => match o with
    | none => some t
    | some u => if (s.thread p e t).waitSince < (s.thread p e u).waitSince then some t else some u) (fun o t => ?_) (List.range 8)).trans ?_
  · cases o
    · rfl
    · dsimp only
      split <;> rfl
  · simp [List.mem_range]

theorem State.waiter_some {s : State} {p e c t : Nat} (h : s.waiter p e c = some t) : t < 8 ∧ s.receives p e c t = true := by
  have hmem := foldl_choose_mem (s.receives p e c) (fun o t => match o with
    | none => some t
    | some u => if (s.thread p e t).waitSince < (s.thread p e u).waitSince then some t else some u) (fun o t u hu => ?_) (List.range 8) h
  · exact ⟨List.mem_range.mp hmem.1, hmem.2⟩
  · cases o with
    | none => exact .inl (Option.some.inj hu).symm
    | some v =>
      dsimp only at hu
      split at hu
      · exact .inl (Option.some.inj hu).symm
      · exact .inr hu

/-- Nobody begins to wait on a channel where every thread is not blocked or as it was. -/
theorem State.waiter_none_of_threads {s u : State} {p e c : Nat} (h : s.waiter p e c = none)
    (hthr : ∀ n < 8, (u.thread p e n).blocked = false ∨ u.thread p e n = s.thread p e n)
    (hwin : ∀ x, u.inWindow p e x = s.inWindow p e x) : u.waiter p e c = none := by
  refine (u.waiter_eq_none_iff p e c).mpr fun n hn => ?_
  have hbefore := (s.waiter_eq_none_iff p e c).mp h n hn
  unfold State.receives at hbefore ⊢
  obtain hfree | hsame := hthr n hn
  · simp [Thr.waitsOn, hfree]
  · rw [hsame, hwin, hbefore]

theorem State.putMsg_of_no_waiter {s : State} {p e c : Nat} (h : s.waiter p e c = none) (msg : List Dword) :
    s.putMsg p e c msg = s.setChan p e c (s.chan p e c ++ [msg]) := by
  rw [State.putMsg, h]

/-- A message reaches a thread that waits for it, and no other. -/
theorem State.thread_putMsg_of_not_blocked {s : State} {q d n : Nat} (h : (s.thread q d n).blocked = false) (p e c : Nat) (msg : List Dword) :
    (s.putMsg p e c msg).thread q d n = s.thread q d n := by
  unfold State.putMsg
  split
  next w hw =>
    have hreceives := (State.waiter_some hw).2
    have hne : thrKey q d n ≠ thrKey p e w := by
      intro hkey
      have hsame : s.thread q d n = s.thread p e w := by rw [State.thread, hkey, State.thread]
      simp [State.receives, Thr.waitsOn, ← hsame, h] at hreceives
    dsimp only
    split
    · exact s.thread_setThread_ne _ hne
    · rfl
  · rfl

/-! ### Commits (R124, R125) -/

theorem State.committers_eq_nil_iff (s : State) : s.committers = [] ↔ ∀ x ∈ s.eng.thr, x.2.commits = none := by
  simp [State.committers, List.filter_eq_nil_iff]

theorem State.setThread_thr (s : State) (p e t : Nat) (x : Thr) : (s.setThread p e t x).eng.thr = Tab.set {} s.eng.thr (thrKey p e t) x := by
  unfold State.setThread
  dsimp only
  split <;> rfl

theorem Thr.commits_of_wait {x : Thr} (h : x.wait = .none) : x.commits = none := by
  rw [Thr.commits, h]

/-- One thread replaced by one that does not wait to commit. -/
theorem State.committers_of_set {s u : State} {k : Nat} {x : Thr} (hnobody : s.committers = []) (hthr : u.eng.thr = Tab.set {} s.eng.thr k x)
    (hx : x.wait = .none) : u.committers = [] := by
  refine u.committers_eq_nil_iff.mpr fun e he => ?_
  rw [hthr] at he
  obtain rfl | ⟨hold, -⟩ := Tab.mem_of_mem_set he
  · exact Thr.commits_of_wait hx
  · exact s.committers_eq_nil_iff.mp hnobody e hold

/-- A message in a channel of a packet engine, other than channel 15, when no thread waits to commit and the queue has room. -/
theorem State.commit_of_room {s : State} {p e t c : Nat} (he : e ≠ supEngine) (hc : c ≠ 15) (hnobody : s.committers = [])
    (hroom : (s.chan p e c).length < 4) :
    s.commit p e t c = (s.setThread p e t { s.thread p e t with stage := [] }).putMsg p e c (s.thread p e t).stage := by
  have htarget (msg : List Dword) : s.chanTarget p e c msg = (e, c) := by rw [State.chanTarget, if_neg he, if_neg hc]
  have hbefore : s.commitBefore p e c (thrKey p e t) = s := by
    unfold State.commitBefore
    rw [hnobody]
    rfl
  have hwords (msg : List Dword) : s.chanWords p e c msg = msg := by simp [State.chanWords, he, hc]
  have hroom' : s.chanRoom p e c = true := by simp [State.chanRoom, chanDepth, he, hroom]
  unfold State.commit
  simp only [htarget, hbefore, hroom', hwords, if_true]

/-! ### Faults of packet threads (R130 to R132) -/

theorem State.thread_of_thr {s u : State} (h : u.eng.thr = s.eng.thr) (p e n : Nat) : u.thread p e n = s.thread p e n := by
  rw [State.thread, h, State.thread]

theorem State.thread_dispose (s : State) (p k : Nat) (d : Disp) (script : List Byte) (q e n : Nat) :
    (s.dispose p k d script).thread q e n = s.thread q e n := by
  unfold State.dispose
  split <;> rfl

theorem State.thread_sendFault_of_not_blocked {s : State} {q d n : Nat} (h : (s.thread q d n).blocked = false) (p : Nat) (r : List Dword) :
    (s.sendFault p r).thread q d n = s.thread q d n := by
  unfold State.sendFault
  dsimp only
  split
  · refine (State.thread_of_thr ?_ q d n).trans (State.thread_putMsg_of_not_blocked h p supEngine 0 (r ++ [BitVec.ofNat 64 (Tab.get 0 s.eng.lost p)]))
    exact State.writtenAny_part (·.eng.thr) (fun _ _ => rfl) _ 12
  · exact State.thread_of_thr (congrArg EngState.thr (State.raise_eng ..)) q d n

section
variable {s : State} {p e t : Nat} (he : e ≠ supEngine) (code detail opslot pc : Nat)
include he

/-- The state of a packet thread's fault before its record is sent. -/
theorem State.threadFault_eq_sendFault : ∃ (u : State) (r : List Dword), s.threadFault p e t code detail opslot pc = u.sendFault p r
    ∧ u.thread p e t = (s.thread p e t).freed s.bus.ticks ∧ ∀ q d n, thrKey q d n ≠ thrKey p e t → u.thread q d n = s.thread q d n := by
  have hraised (q d n : Nat) : (s.raise (aveStat p) 1).thread q d n = s.thread q d n :=
    State.thread_of_thr (congrArg EngState.thr (State.raise_eng ..)) q d n
  have hticks : (s.raise (aveStat p) 1).bus.ticks = s.bus.ticks := (State.SameClock.refl s).raise.ticks
  unfold State.threadFault
  dsimp only
  rw [if_neg he]
  generalize s.raise (aveStat p) 1 = u at hraised hticks ⊢
  have hself := u.thread_setThread_self p e t ((s.thread p e t).freed s.bus.ticks)
  have hothers (q d n : Nat) (hne : thrKey q d n ≠ thrKey p e t) :=
    (u.thread_setThread_ne ((s.thread p e t).freed s.bus.ticks) hne).trans (hraised q d n)
  rw [hticks]
  generalize u.setThread p e t ((s.thread p e t).freed s.bus.ticks) = v at hself hothers ⊢
  refine ⟨_, _, rfl, ?_, fun q d n hne => ?_⟩
  · split
    · exact (State.thread_dispose ..).trans hself
    · exact hself
  · split
    · exact (State.thread_dispose ..).trans (hothers q d n hne)
    · exact hothers q d n hne

theorem State.thread_threadFault_self : (s.threadFault p e t code detail opslot pc).thread p e t = (s.thread p e t).freed s.bus.ticks := by
  obtain ⟨u, r, hfault, hself, -⟩ := State.threadFault_eq_sendFault (s := s) (p := p) (t := t) he code detail opslot pc
  rw [hfault, State.thread_sendFault_of_not_blocked (by rw [hself]; rfl), hself]

theorem State.thread_threadFault_of_not_blocked {q d n : Nat} (hne : thrKey q d n ≠ thrKey p e t) (hfree : (s.thread q d n).blocked = false) :
    (s.threadFault p e t code detail opslot pc).thread q d n = s.thread q d n := by
  obtain ⟨u, r, hfault, -, hothers⟩ := State.threadFault_eq_sendFault (s := s) (p := p) (t := t) he code detail opslot pc
  have hsame := hothers q d n hne
  rw [hfault, State.thread_sendFault_of_not_blocked (by rw [hsame, hfree]), hsame]

end

theorem State.SameClock.threadFault {s₀ s : State} (h : s.SameClock s₀) {p e t code detail opslot pc : Nat} :
    (s.threadFault p e t code detail opslot pc).SameClock s₀ :=
  h.raise.ite (·.setThread.sendFault) fun h => (h.setThread.ifThen (·.dispose)).sendFault

/-! ### Faults that the operations do not meet (R127, R132, R176) -/

theorem sendMisuse_of_nothing_staged {x : Thr} {e : Nat} (c : Nat) (he : e ≠ supEngine) (hstage : x.stage = []) : sendMisuse x e c = false := by
  simp [sendMisuse, he, hstage]

theorem recvMisuse_of_packet_engine {e : Nat} (c : Nat) (he : e ≠ supEngine) : recvMisuse e c = false := by
  simp [recvMisuse, he]

theorem State.takeMsg_of_chan {s : State} {p e c : Nat} {m : List Dword} {q : List (List Dword)} (h : s.chan p e c = m :: q) :
    s.takeMsg p e c = some (m, s.setChan p e c q) := by
  rw [State.takeMsg, h]

end Machine
end Sys2Proof
end

section
/-! SUPPORT. Channels, ABORT and BRK; the statement O32. -/

open Sys2Proof Sys2Proof.Machine
namespace Sys2Proof

/-! ### Rules of a thread changed by its own operation -/

section
variable {s u : State} {t : Tid}

theorem thr_modThread (u : State) (t : Tid) (f : Thr → Thr) : thr (u.modThread t.ave t.eng t.thr f) t = f (thr u t) := thr_setThread u t _
theorem IssueFrame.modThread (h : IssueFrame s u t) (f : Thr → Thr) : IssueFrame s (u.modThread t.ave t.eng t.thr f) t := h.setThread _

theorem EngineMemSame.modThread (h : EngineMemSame s u) (p e n : Nat) (f : Thr → Thr) : EngineMemSame s (u.modThread p e n f) := h.setThread ..

theorem EngineMemSame.count (h : EngineMemSame s u) (unit ev inst n : Nat) : EngineMemSame s (u.count unit ev inst n) := h

theorem inWindow_of_frame (hframe : IssueFrame s u t) (hmem : EngineMemSame s u) (p e : Nat) (x : Thr) : u.inWindow p e x = s.inWindow p e x := by
  obtain ⟨-, -, -, -, -, -, -, -, -, -, -, hticks, -⟩ := hframe
  obtain ⟨-, -, -, hslots, -⟩ := hmem
  simp only [State.inWindow, State.slot, hslots, hticks]

/-- An operation that leaves its thread not blocked makes no thread wait on a channel. -/
theorem waiter_none_of_frame {p e c : Nat} (h : s.waiter p e c = none) (hframe : IssueFrame s u t) (hmem : EngineMemSame s u)
    (hself : (thr u t).blocked = false) : u.waiter p e c = none := by
  refine State.waiter_none_of_threads h (fun n _ => ?_) (inWindow_of_frame hframe hmem p e)
  obtain ⟨-, hthread, -⟩ := hframe
  by_cases hkey : thrKey p e n = thrKey t.ave t.eng t.thr
  · have hsame : u.thread p e n = thr u t := by rw [State.thread, hkey, thr, State.thread]
    exact .inl (hsame ▸ hself)
  · exact .inr (hthread p e n hkey)

/-- An operation that leaves its thread as the issue found it. -/
theorem noRegResult_of_issuing {gd : BitVec 4} (hissues : Issues s t gd) (hself : thr u t = (thr s t).issuing s.bus.ticks) (hframe : IssueFrame s u t) :
    NoRegResult s (u.goTo t.ave t.eng t.thr ((thr s t).pc + 1)) t := by
  obtain ⟨hcan, -⟩ := hissues
  refine noRegResult_goTo ?_ ?_ ?_ ?_ ?_ hframe
  all_goals rw [hself, Thr.issuing]
  exact State.ready_of_issues hcan

theorem packetEngine_of_ne (h : t.eng.val ≠ 34) : (t.eng : Nat) ≠ supEngine := h

end

section
variable {s : State} {t : Tid} {gd : BitVec 4} (hissues : Issues s t gd)
include hissues

/-- The thread of an issue that has begun is READY, with nothing changed that an operation reads. -/
theorem ready_of_begins {u : State} (hu : s.Begins u t.ave t.eng t.thr) : (thr u t).st = .ready := by
  rw [thr_of_begins hu]
  exact State.ready_of_issues hissues.1

/-! ### SEND (R124, R176) -/

/-- What a SEND stages (R124). -/
def Machine.Thr.staging (x : Thr) (w : Dword) (c : Nat) : Thr := { x with stage := x.stage ++ [w], stageCh := c }

omit hissues in
theorem opApply_send (u v : State) (p e n : Nat) (x : Thr) (ra : Rg) (last : Bool) (ch : BitVec 4) :
    u.opApply p e n x 0 (.send ra last ch) v
      = if last then (v.modThread p e n (·.staging (x.reg ra) ch.toNat)).commit p e n ch.toNat else v.modThread p e n (·.staging (x.reg ra) ch.toNat) := rfl

omit hissues in
theorem noMisuse_send {u : State} {x : Thr} {e : Nat} (p low : Nat) (ra : Rg) (last : Bool) (ch : BitVec 4) (he : e ≠ supEngine) (hstage : x.stage = []) :
    u.opFault p e x low (.send ra last ch) = none := if_neg (by rw [sendMisuse_of_nothing_staged _ he hstage]; decide)

theorem does_send_staged (ra : Rg) (ch : BitVec 4) (he : t.eng.val ≠ 34) (hstage : (thr s t).stage = []) :
    Does (.send t gd ra false ch) s (fun u => (thr u t).stage = [(thr s t).reg ra] ∧ (thr u t).stageCh = ch.toNat ∧ NoRegResult s u t ∧ EngineMemSame s u) := by
  refine does_plainOp rfl hissues (opOf_send gd ra false ch) ⟨rfl, rfl, rfl⟩ (fun u low _ _ => noMisuse_send _ _ _ _ _ he hstage) fun u hu => ?_
  have hst := ready_of_begins hissues hu
  rw [opApply_send, if_neg (by decide)]
  refine ⟨?_, ?_, noRegResult_goTo ?_ ?_ ?_ ?_ ?_ ((issueFrame_of_begins hu).modThread _), ((engineMemSame_of_begins hu).modThread ..).goTo ..⟩
  all_goals simp only [thr_goTo, thr_modThread, thr_of_begins hu, Thr.issuing, Thr.staging]
  · rw [hstage, List.nil_append]
  · exact State.ready_of_issues hissues.1

omit hissues in
/-- A message of one word committed by a thread that no other keeps from its channel's queue. -/
theorem commit_of_issue {v : State} {x : Thr} {w : Dword} {c : Nat} (he : t.eng.val ≠ 34) (hc : c ≤ 14) (hframe : IssueFrame s v t)
    (hmem : EngineMemSame s v) (hself : thr v t = x) (hst : x.st = .ready) (hstage : x.stage = [w]) (hnobody : v.committers = [])
    (hnone : s.waiter t.ave t.eng c = none) (hroom : (s.chan t.ave t.eng c).length < 4) :
    ∃ v', v.commit t.ave t.eng t.thr c = v' ∧ IssueFrame s v' t ∧ v'.chan t.ave t.eng c = s.chan t.ave t.eng c ++ [[w]]
      ∧ thr v' t = { x with stage := [] } := by
  have hchan : v.chan t.ave t.eng c = s.chan t.ave t.eng c := by
    obtain ⟨-, -, hchan, -, -⟩ := hmem
    rw [State.chan, hchan, State.chan]
  have hcommit : v.commit t.ave t.eng t.thr c = (v.setThread t.ave t.eng t.thr { x with stage := [] }).putMsg t.ave t.eng c [w] := by
    rw [State.commit_of_room (packetEngine_of_ne he) (by omega) hnobody (by rw [hchan]; exact hroom), ← hstage, ← hself]
    rfl
  have hsent : thr (v.setThread t.ave t.eng t.thr { x with stage := [] }) t = { x with stage := [] } := thr_setThread ..
  have hfree : (thr (v.setThread t.ave t.eng t.thr { x with stage := [] }) t).blocked = false := by
    rw [hsent]
    simp [Thr.blocked, hst]
  have hchan' : (v.setThread t.ave t.eng t.thr { x with stage := [] }).chan t.ave t.eng c = s.chan t.ave t.eng c :=
    (setThread_part (State.chan · t.ave t.eng c) (fun _ _ _ => rfl) ..).trans hchan
  have hframe' := hframe.setThread { x with stage := [] }
  have hnone' := waiter_none_of_frame hnone hframe' (hmem.setThread ..) hfree
  rw [State.putMsg_of_no_waiter hnone', hchan'] at hcommit
  exact ⟨_, hcommit, hframe'.setChan .., State.chan_setChan_self .., hsent⟩

/-- The last word of a message that nothing keeps from its channel's queue. -/
theorem does_send_last (ra : Rg) (ch : BitVec 4) (he : t.eng.val ≠ 34) (hstage : (thr s t).stage = []) (hch : ch.toNat ≤ 14)
    (hnone : s.waiter t.ave t.eng ch.toNat = none) (hroom : (s.chan t.ave t.eng ch.toNat).length < 4) (hnobody : s.committers = []) :
    Does (.send t gd ra true ch) s (fun u => u.chan t.ave t.eng ch.toNat = s.chan t.ave t.eng ch.toNat ++ [[(thr s t).reg ra]]
      ∧ (thr u t).stage = [] ∧ NoRegResult s u t) := by
  refine does_plainOp rfl hissues (opOf_send gd ra true ch) ⟨rfl, rfl, rfl⟩ (fun u low _ _ => noMisuse_send _ _ _ _ _ he hstage) fun u hu => ?_
  obtain ⟨hcan, -, -, -, hwait, -, -⟩ := hissues
  have hst : (thr s t).st = .ready := State.ready_of_issues hcan
  have hself := thr_modThread u t (·.staging ((thr s t).reg ra) ch.toNat)
  rw [thr_of_begins hu] at hself
  have hnobody' : (u.modThread t.ave t.eng t.thr (·.staging ((thr s t).reg ra) ch.toNat)).committers = [] :=
    State.committers_of_set (State.committers_of_set hnobody hu.thr hwait) (State.setThread_thr ..) (by
      change (thr u t).wait = _
      rw [thr_of_begins hu]
      exact hwait)
  obtain ⟨v, hcommit, hframe, hchan, hsent⟩ := commit_of_issue he hch ((issueFrame_of_begins hu).modThread _) ((engineMemSame_of_begins hu).modThread ..) hself
    hst (congrArg (· ++ [(thr s t).reg ra]) hstage) hnobody' hnone hroom
  rw [opApply_send, if_pos rfl, hcommit]
  refine ⟨?_, ?_, noRegResult_goTo ?_ ?_ ?_ ?_ ?_ hframe⟩
  · exact (setThread_part (State.chan · t.ave t.eng ch.toNat) (fun _ _ _ => rfl) ..).trans hchan
  all_goals simp only [thr_goTo, hsent, Thr.staging, Thr.issuing]
  exact hst

/-! ### RECV and RECVT (R176) -/

omit hissues in
theorem noMisuse_recv {u : State} {x : Thr} {e : Nat} (p low : Nat) (rd : Rg) (ch : BitVec 4) (he : e ≠ supEngine) :
    u.opFault p e x low (.recv rd ch) = none := if_neg (by rw [recvMisuse_of_packet_engine _ he]; decide)

omit hissues in
theorem noMisuse_recvt {u : State} {x : Thr} {e : Nat} (p low : Nat) (rd : Rg) (pd : Pr) (ch : BitVec 4) (he : e ≠ supEngine) :
    u.opFault p e x low (.recvt rd pd ch) = none := if_neg (by rw [recvMisuse_of_packet_engine _ he]; decide)

omit hissues in
theorem opApply_recv_of_chan {u v : State} {p e : Nat} (n : Nat) (x : Thr) (rd : Rg) {ch : BitVec 4} {m : List Dword} {q : List (List Dword)}
    (h : v.chan p e ch.toNat = m :: q) :
    u.opApply p e n x 0 (.recv rd ch) v = (v.setChan p e ch.toNat q).modThread p e n (·.receive u.bus.ticks rd.toNat m) := by
  simp only [State.opApply, State.takeMsg_of_chan h]

omit hissues in
theorem opApply_recvt_of_chan {u v : State} {p e : Nat} (n : Nat) (x : Thr) (rd : Rg) (pd : Pr) {ch : BitVec 4} {m : List Dword} {q : List (List Dword)}
    (h : v.chan p e ch.toNat = m :: q) : u.opApply p e n x 0 (.recvt rd pd ch) v
      = (v.setChan p e ch.toNat q).modThread p e n fun y => (y.receive u.bus.ticks rd.toNat m).setPred pd.toNat true := by
  simp only [State.opApply, State.takeMsg_of_chan h]

omit hissues in
theorem opApply_recvt_of_empty {u v : State} {p e : Nat} (n : Nat) (x : Thr) (rd : Rg) (pd : Pr) {ch : BitVec 4}
    (h : v.chan p e ch.toNat = []) : u.opApply p e n x 0 (.recvt rd pd ch) v = v.modThread p e n (·.setPred pd.toNat false) := by
  simp only [State.opApply, State.takeMsg, h]

omit hissues in
/-- A thread that received and goes on: what its registers hold, and what the issue leaves. -/
theorem goesOn_received {u : State} (hu : s.Begins u t.ave t.eng t.thr) {c rd : Nat} (q : List (List Dword)) {m : List Dword} {f : Thr → Thr}
    (hf : ∀ x, (f x).g = x.g ∧ (f x).st = x.st ∧ (f x).slot = x.slot ∧ (f x).cbank = x.cbank) :
    let v := ((u.setChan t.ave t.eng c q).modThread t.ave t.eng t.thr fun y => f (y.receive u.bus.ticks rd m)).goTo t.ave t.eng t.thr ((thr s t).pc + 1)
    v.chan t.ave t.eng c = q ∧ (∀ i, i < 4 → Tab.get 0 (thr v t).g (rd + i) = m.getD i 0)
      ∧ (∀ i, i < rd ∨ rd + 4 ≤ i → Tab.get 0 (thr v t).g i = Tab.get 0 (thr s t).g i) ∧ GoesOn s v t ∧ IssueFrame s v t := by
  dsimp only
  have hframe := ((issueFrame_of_begins hu).setChan t.ave t.eng c q).modThread fun y => f (y.receive u.bus.ticks rd m)
  have hself : thr ((u.setChan t.ave t.eng c q).modThread t.ave t.eng t.thr fun y => f (y.receive u.bus.ticks rd m)) t
      = f (((thr s t).issuing s.bus.ticks).receive u.bus.ticks rd m) := by
    have hsame : thr (u.setChan t.ave t.eng c q) t = thr u t := rfl
    rw [thr_modThread, hsame, thr_of_begins hu]
  have hchan : ((u.setChan t.ave t.eng c q).modThread t.ave t.eng t.thr fun y => f (y.receive u.bus.ticks rd m)).chan t.ave t.eng c = q :=
    (setThread_part (State.chan · t.ave t.eng c) (fun _ _ _ => rfl) ..).trans (State.chan_setChan_self ..)
  generalize (u.setChan t.ave t.eng c q).modThread t.ave t.eng t.thr (fun y => f (y.receive u.bus.ticks rd m)) = v at hframe hself hchan ⊢
  obtain ⟨hg, hst, hslot, hbank⟩ := hf (((thr s t).issuing s.bus.ticks).receive u.bus.ticks rd m)
  have hg' (i : Nat) : Tab.get 0 (thr (v.goTo t.ave t.eng t.thr ((thr s t).pc + 1)) t).g i
      = if rd ≤ i ∧ i < rd + 4 then m.getD (i - rd) 0 else Tab.get 0 (thr s t).g i := by
    rw [thr_goTo, hself]
    exact (congrArg (Tab.get 0 · i) hg).trans (Thr.receive_g ..)
  obtain ⟨-, -, -, -, -, -, -, -, -, -, -, hticks, -⟩ := id hframe
  refine ⟨?_, fun i hi => ?_, fun i hi => ?_, goesOn_goTo ?_ ?_ ?_ hticks, hframe.goTo _⟩
  · exact (setThread_part (State.chan · t.ave t.eng c) (fun _ _ _ => rfl) ..).trans hchan
  · rw [hg', if_pos (by omega), Nat.add_sub_cancel_left]
  · rw [hg', if_neg (by omega)]
  · rw [hself, hst]
    rfl
  · rw [hself, hslot]
    exact Thr.receive_part (·.slot) (fun _ _ _ _ _ _ => rfl) ..
  · rw [hself, hbank]
    exact Thr.receive_part (·.cbank) (fun _ _ _ _ _ _ => rfl) ..

section
variable {rd : Rg} {ch : BitVec 4} (he : t.eng.val ≠ 34) (hrd : rd.toNat ≤ 28)
include he hrd

theorem does_recv {m : List Dword} {q : List (List Dword)} (hchan : s.chan t.ave t.eng ch.toNat = m :: q) :
    Does (.recv t gd rd ch) s (fun u => u.chan t.ave t.eng ch.toNat = q ∧ (∀ i, i < 4 → Tab.get 0 (thr u t).g (rd.toNat + i) = m.getD i 0)
      ∧ (∀ i, i < rd.toNat ∨ rd.toNat + 4 ≤ i → Tab.get 0 (thr u t).g i = Tab.get 0 (thr s t).g i) ∧ GoesOn s u t ∧ IssueFrame s u t) := by
  refine does_plainOp rfl hissues (opOf_recv gd ch hrd) ⟨rfl, rfl, rfl⟩ (fun u low _ _ => noMisuse_recv _ _ _ _ he) fun u hu => ?_
  rw [opApply_recv_of_chan t.thr _ rd ((hu.chan ..).trans hchan)]
  exact goesOn_received hu q (f := id) fun x => ⟨rfl, rfl, rfl, rfl⟩

theorem does_recvt (pd : Pr) {m : List Dword} {q : List (List Dword)} (hchan : s.chan t.ave t.eng ch.toNat = m :: q) :
    Does (.recvt t gd rd pd ch) s (fun u => u.chan t.ave t.eng ch.toNat = q ∧ (∀ i, i < 4 → Tab.get 0 (thr u t).g (rd.toNat + i) = m.getD i 0)
      ∧ (thr u t).p.getLsbD pd.toNat = true ∧ GoesOn s u t) := by
  refine does_plainOp rfl hissues (opOf_recvt gd pd ch hrd) ⟨rfl, rfl, rfl⟩ (fun u low _ _ => noMisuse_recvt _ _ _ _ _ he) fun u hu => ?_
  rw [opApply_recvt_of_chan t.thr _ rd pd ((hu.chan ..).trans hchan)]
  obtain ⟨hrest, hg, -, hgoes, -⟩ := goesOn_received hu q (c := ch.toNat) (rd := rd.toNat) (m := m) (f := (·.setPred pd.toNat true))
    fun x => ⟨rfl, rfl, rfl, rfl⟩
  refine ⟨hrest, hg, ?_, hgoes⟩
  rw [thr_goTo, thr_modThread]
  exact (Thr.getLsbD_setPred _ _ _ pd.isLt).trans (if_pos rfl)

theorem does_recvt_empty (pd : Pr) (hchan : s.chan t.ave t.eng ch.toNat = []) :
    Does (.recvt t gd rd pd ch) s (fun u => PredResult s u t pd false) := by
  refine does_plainOp rfl hissues (opOf_recvt gd pd ch hrd) ⟨rfl, rfl, rfl⟩ (fun u low _ _ => noMisuse_recvt _ _ _ _ _ he) fun u hu => ?_
  rw [opApply_recvt_of_empty t.thr _ rd pd ((hu.chan ..).trans hchan)]
  have hst := ready_of_begins hissues hu
  have hframe := (issueFrame_of_begins hu).modThread (·.setPred pd.toNat false)
  obtain ⟨-, -, -, -, -, -, -, -, -, -, -, hticks, -⟩ := id hframe
  refine ⟨fun i hi => ?_, ?_, goesOn_goTo ?_ ?_ ?_ hticks, ((engineMemSame_of_begins hu).modThread ..).goTo .., hframe.goTo _⟩
  all_goals simp only [thr_goTo, thr_modThread]
  · rw [Thr.getLsbD_setPred _ _ _ hi, thr_of_begins hu]
    rfl
  · rw [Thr.setPred, thr_of_begins hu, Thr.issuing]
  · exact hst
  · rw [Thr.setPred, thr_of_begins hu, Thr.issuing]
  · rw [Thr.setPred, thr_of_begins hu, Thr.issuing]

end

/-! ### ABORT and BRK (R132, R141) -/

omit hissues in
theorem noMisuse_abort {u : State} {x : Thr} {e : Nat} (p low : Nat) (ra : Rg) (he : e = supEngine) : u.opFault p e x low (.abort ra) = none := if_pos he

section
variable (ra : Rg) (he : t.eng.val = 34)
include he

/-- An ABORT of a thread that is free. -/
theorem does_abort_free (hfree : (s.thread t.ave (s.engMap t.ave (((thr s t).reg ra).toNat % 32)) (bits ((thr s t).reg ra).toNat 10 8)).st = .free) :
    Does (.abort t gd ra) s (fun u => NoRegResult s u t ∧ EngineMemSame s u) := by
  refine does_plainOp rfl hissues (opOf_abort gd ra) ⟨rfl, rfl, rfl⟩ (fun u low _ _ => noMisuse_abort _ _ _ he) fun u hu => ?_
  have hst := State.ready_of_issues hissues.1
  have hnothing : u.opApply t.ave t.eng t.thr (thr s t) 0 (.abort ra) u = u := by
    refine if_pos ?_
    rw [hu.busSame.engMap]
    generalize s.engMap t.ave (((thr s t).reg ra).toNat % 32) = e at hfree
    generalize bits ((thr s t).reg ra).toNat 10 8 = n at hfree
    have hne : thrKey t.ave e n ≠ thrKey t.ave t.eng t.thr := by
      intro hkey
      rw [State.thread, hkey] at hfree
      cases hfree.symm.trans hst
    rw [hu.thread_ne hne, hfree]
  rw [hnothing]
  exact ⟨noRegResult_of_issuing hissues (thr_of_begins hu) (issueFrame_of_begins hu), (engineMemSame_of_begins hu).goTo ..⟩

theorem does_abort (hmap : s.engMap t.ave (((thr s t).reg ra).toNat % 32) < 34)
    (hbusy : (s.thread t.ave (s.engMap t.ave (((thr s t).reg ra).toNat % 32)) (bits ((thr s t).reg ra).toNat 10 8)).st ≠ .free) :
    Does (.abort t gd ra) s (fun u =>
      u.thread t.ave (s.engMap t.ave (((thr s t).reg ra).toNat % 32)) (bits ((thr s t).reg ra).toNat 10 8)
        = (s.thread t.ave (s.engMap t.ave (((thr s t).reg ra).toNat % 32)) (bits ((thr s t).reg ra).toNat 10 8)).freed s.bus.ticks
      ∧ (thr u t).g = (thr s t).g ∧ (thr u t).p = (thr s t).p ∧ GoesOn s u t) := by
  refine does_plainOp rfl hissues (opOf_abort gd ra) ⟨rfl, rfl, rfl⟩ (fun u low _ _ => noMisuse_abort _ _ _ he) fun u hu => ?_
  have hst := ready_of_begins hissues hu
  have happly : u.opApply t.ave t.eng t.thr (thr s t) 0 (.abort ra) u = u.abortThread t.ave t.thr ((thr s t).reg ra).toNat := rfl
  have hn : bits ((thr s t).reg ra).toNat 10 8 < 8 := bits_lt ..
  rw [happly, State.abortThread, hu.busSame.engMap]
  generalize s.engMap t.ave (((thr s t).reg ra).toNat % 32) = e at hmap hbusy ⊢
  generalize bits ((thr s t).reg ra).toNat 10 8 = n at hbusy hn ⊢
  have hne : thrKey t.ave e n ≠ thrKey t.ave t.eng t.thr := by
    unfold thrKey engKey
    omega
  have htarget : u.thread t.ave e n = s.thread t.ave e n := hu.thread_ne hne
  have hpacket : e ≠ supEngine := Nat.ne_of_lt hmap
  rw [htarget, if_neg hbusy]
  have hfreed := State.thread_threadFault_self (s := u) (p := t.ave) (t := n) hpacket 0x0A t.thr 0 (s.thread t.ave e n).lastPc.toNat
  have hself := State.thread_threadFault_of_not_blocked (s := u) (p := t.ave) (t := n) hpacket 0x0A t.thr 0 (s.thread t.ave e n).lastPc.toNat hne.symm
    (by
      change (thr u t).blocked = false
      simp [Thr.blocked, hst])
  have hticks : (u.threadFault t.ave e n 0x0A t.thr 0 (s.thread t.ave e n).lastPc.toNat).bus.ticks = s.bus.ticks :=
    (State.SameClock.refl u).threadFault.ticks.trans hu.ticks
  generalize u.threadFault t.ave e n 0x0A t.thr 0 (s.thread t.ave e n).lastPc.toNat = v at hfreed hself hticks ⊢
  have hself' : thr v t = (thr s t).issuing s.bus.ticks := hself.trans (thr_of_begins hu)
  refine ⟨(State.thread_setThread_ne _ _ hne).trans (hfreed.trans ?_), ?_, ?_, goesOn_goTo ?_ ?_ ?_ hticks⟩
  · rw [htarget, hu.ticks]
  · rw [thr_goTo, hself', Thr.issuing]
  · rw [thr_goTo, hself', Thr.issuing]
  all_goals rw [hself', Thr.issuing]
  exact State.ready_of_issues hissues.1

end

theorem does_brk_counted (hiso : s.engIso t.ave t.eng = false) : Does (.brk t gd) s (fun u => NoRegResult s u t ∧ EngineMemSame s u) := by
  refine does_plainOp rfl hissues (opOf_brk gd) ⟨rfl, rfl, rfl⟩ (fun u low _ _ => rfl) fun u hu => ?_
  have happly : u.opApply t.ave t.eng t.thr (thr s t) 0 .brk u = u.count 0x30 0x43 (u.aveLogical t.ave) 1 :=
    if_neg (by rw [hu.busSame.engIso, hiso]; decide)
  rw [happly]
  have hself : thr (u.count 0x30 0x43 (u.aveLogical t.ave) 1) t = thr u t := rfl
  exact ⟨noRegResult_of_issuing hissues (hself.trans (thr_of_begins hu)) ((issueFrame_of_begins hu).count ..), ((engineMemSame_of_begins hu).count ..).goTo ..⟩

theorem does_brk_halts (hiso : s.engIso t.ave t.eng = true) :
    Does (.brk t gd) s (fun u => (thr u t).st = .halted ∧ (thr u t).pc = (thr s t).pc + 1 ∧ (thr u t).g = (thr s t).g) := by
  refine does_plainOp rfl hissues (opOf_brk gd) ⟨rfl, rfl, rfl⟩ (fun u low _ _ => rfl) fun u hu => ?_
  have happly : u.opApply t.ave t.eng t.thr (thr s t) 0 .brk u
      = u.setThread t.ave t.eng t.thr { thr u t with st := .halted, prior := (thr u t).st } :=
    if_pos (by rw [hu.busSame.engIso, hiso])
  rw [happly, thr_goTo, thr_setThread, thr_of_begins hu]
  exact ⟨rfl, rfl, rfl⟩

end

end Sys2Proof

/-- Settles O32: each operation, alone in its bundle, acts on a state in which only its own issue has begun. -/
theorem channelOperationsComplete : Obligations.ChannelOperationsComplete := by
  unfold Obligations.ChannelOperationsComplete
  intro t gd rd ra pd ch s hissues
  refine ⟨fun he hstage => ⟨does_send_staged hissues ra ch he hstage, fun hch hnone hroom hnobody => ?_⟩, fun he hrd m q hchan => ?_,
    fun he hrd hchan => does_recvt_empty hissues he hrd pd hchan, fun he hfree => does_abort_free hissues ra he hfree,
    fun he hmap hbusy => does_abort hissues ra he hmap hbusy, does_brk_counted hissues, does_brk_halts hissues⟩
  · exact does_send_last hissues ra ch he hstage hch hnone hroom hnobody
  · exact ⟨does_recv hissues he hrd hchan, does_recvt hissues he hrd pd hchan⟩

end

section
/-! SUPPORT. Requests of a thread and the turns for which they ask; the statement O31. -/

open Sys2Proof Sys2Proof.Machine
namespace Sys2Proof
namespace Machine

/-! ### The turns at a bank (R188, R191, R229) -/

/-- Where a turn at a bank stands: among the turns of a request of some thread. -/
theorem State.mem_turnsOf {s : State} {who : Nat → Bool} {bank : Nat} {r : TurnRef} (h : r ∈ s.turnsOf who bank) :
    ∃ e ∈ s.eng.thr, r.key = e.1 ∧ ∃ q, e.2.reqs[r.req]? = some q ∧ q.turns[r.ix]? = some r.turn ∧ r.turn.got = none := by
  obtain ⟨e, he, hr⟩ := List.mem_flatMap.mp h
  split at hr
  · obtain ⟨⟨q, i⟩, hq, hr⟩ := List.mem_flatMap.mp hr
    obtain ⟨⟨x, j⟩, hx, hr⟩ := List.mem_filterMap.mp hr
    split at hr
    next hat =>
      obtain rfl := Option.some.inj hr
      simp only [Bool.and_eq_true, decide_eq_true_eq, Option.isNone_iff_eq_none] at hat
      exact ⟨e, he, rfl, q, List.mem_zipIdx_iff_getElem?.mp hq, List.mem_zipIdx_iff_getElem?.mp hx, hat.2⟩
    · cases hr
  · cases hr

theorem oldestTurn_mem {f : Turn → Nat} {l : List TurnRef} {r : TurnRef} (h : oldestTurn f l = some r) : r ∈ l := by
  refine foldl_keeps_of_mem (fun o => ∀ y, o = some y → y ∈ l) _ l none (fun o x hx ho y hy => ?_) (by simp) r h
  cases o with
  | none => exact Option.some.inj hy ▸ hx
  | some z =>
    dsimp only at hy
    split at hy
    · exact Option.some.inj hy ▸ hx
    · exact ho y hy

/-! ### The turns of a thread's only request, while no other turn waits -/

/-- s with the thread of a key that has one request outstanding, with the turns given. -/
def State.asking (s : State) (key : Nat) (x : Thr) (q : Req) (ts : List Turn) : State :=
  { s with eng := { s.eng with thr := Tab.set {} s.eng.thr key { x with reqs := [{ q with turns := ts }] } } }

theorem State.enterOne_asking {s : State} (hnone : NoTurnWaits s = true) (key : Nat) (x : Thr) (q : Req) (ts : List Turn) (who : Nat → Bool) (bank : Nat) :
    ∃ ts', (s.asking key x q ts).enterOne who bank = s.asking key x q ts' := by
  unfold State.enterOne
  split
  · exact ⟨ts, rfl⟩
  · split
    · exact ⟨ts, rfl⟩
    next r hold =>
      obtain ⟨hmem, hwaits⟩ := List.mem_filter.mp (oldestTurn_mem hold)
      obtain ⟨e, he, hkey, q', hq', hturn, hgot⟩ := State.mem_turnsOf hmem
      obtain rfl | ⟨hother, -⟩ := Tab.mem_of_mem_set he
      · have hreq : r.req = 0 := by
          obtain ⟨hlt, -⟩ := List.getElem?_eq_some_iff.mp hq'
          exact Nat.lt_one_iff.mp hlt
        refine ⟨setAt ts r.ix { r.turn with inAt := some s.bus.ticks }, ?_⟩
        have hkey' : r.key = key := hkey
        unfold State.putTurn State.modReq
        dsimp only
        rw [hkey', hreq]
        simp only [State.asking, Tab.get_set_self, List.getElem?_cons_zero, Tab.set_set]
        rfl
      · have hserved := List.all_eq_true.mp (List.all_eq_true.mp (List.all_eq_true.mp hnone e hother) q' (List.mem_of_getElem? hq'))
          r.turn (List.mem_of_getElem? hturn)
        simp [hgot, Option.isNone_iff_eq_none.mp hwaits] at hserved

theorem State.enterBank_asking {s : State} (hnone : NoTurnWaits s = true) (key : Nat) (x : Thr) (q : Req) (who : Nat → Bool) (bank : Nat) (ts : List Turn) :
    ∃ ts', (s.asking key x q ts).enterBank who bank = s.asking key x q ts' :=
  foldl_keeps (fun v => ∃ ts', v = s.asking key x q ts') _ (fun _ _ ⟨ts', hv⟩ => hv ▸ State.enterOne_asking hnone key x q ts' who bank) _ _ ⟨ts, rfl⟩

/-- Turns asked for: the thread has them, they enter their queues, and the waits are counted. -/
theorem State.addTurns_of_request {s : State} {p e t i : Nat} {q : Req} (asked : List Turn) (hq : (s.thread p e t).reqs[i]? = some q) :
    ∃ pmu, s.addTurns p e t i asked = { (asked.map (·.bank)).eraseDups.foldl (fun v b => v.enterBank (v.queueOf p e b) b)
      (s.setThread p e t { s.thread p e t with reqs := setAt (s.thread p e t).reqs i { q with turns := q.turns ++ asked } }) with pmu := pmu } := by
  unfold State.addTurns
  dsimp only
  rw [hq]
  dsimp only
  split
  · exact ⟨_, rfl⟩
  · exact ⟨_, rfl⟩

theorem State.addTurns_asking {s : State} (hnone : NoTurnWaits s = true) (p e t : Nat) {x : Thr} (hst : x.st ≠ .blockedInt) (q : Req) (ts asked : List Turn) :
    ∃ ts' pmu, (s.asking (thrKey p e t) x q ts).addTurns p e t 0 asked = { s.asking (thrKey p e t) x q ts' with pmu := pmu } := by
  have hself : (s.asking (thrKey p e t) x q ts).thread p e t = { x with reqs := [{ q with turns := ts }] } := Tab.get_set_self ..
  have hset : (s.asking (thrKey p e t) x q ts).setThread p e t { x with reqs := [{ q with turns := ts ++ asked }] } = s.asking (thrKey p e t) x q (ts ++ asked) := by
    rw [State.setThread_of_not_blocked _ (by rw [hself]; exact hst)]
    simp only [State.asking, Tab.set_set]
  obtain ⟨ts', hentered⟩ := foldl_keeps (fun v => ∃ ts', v = s.asking (thrKey p e t) x q ts') (fun v b => v.enterBank (v.queueOf p e b) b)
    (fun v _ ⟨ts', hv⟩ => hv ▸ State.enterBank_asking hnone (thrKey p e t) x q _ _ ts') (asked.map (·.bank)).eraseDups _ ⟨ts ++ asked, rfl⟩
  obtain ⟨pmu, hasked⟩ := State.addTurns_of_request (s := s.asking (thrKey p e t) x q ts) (p := p) (e := e) (t := t) (i := 0) (q := { q with turns := ts }) asked
    (by rw [hself]; rfl)
  rw [← hset] at hentered
  refine ⟨ts', pmu, hasked.trans ?_⟩
  rw [hself]
  exact congrArg (fun v : State => { v with pmu := pmu }) hentered

/-- A request that asks for turns, of a thread that has no other, changes its thread and the counters alone. -/
theorem State.sendReq_asking {s : State} {p e t : Nat} {q : Req} (hnone : NoTurnWaits s = true) (hst : (s.thread p e t).st ≠ .blockedInt)
    (hreqs : (s.thread p e t).reqs = []) (hkind : q.kind ≠ .stat) :
    ∃ ts pmu, s.sendReq p e t q = { s.asking (thrKey p e t) (s.thread p e t) q ts with pmu := pmu } := by
  have hsend : s.sendReq p e t q = (s.setThread p e t { s.thread p e t with reqs := [q] }).addTurns p e t 0 (s.turnsFor (s.admOf p e (s.thread p e t)) q) := by
    unfold State.sendReq
    dsimp only
    rw [hreqs]
    split
    next h => exact absurd h hkind
    next => rfl
  have hfirst : s.setThread p e t { s.thread p e t with reqs := [q] } = s.asking (thrKey p e t) (s.thread p e t) q q.turns :=
    State.setThread_of_not_blocked s hst
  rw [hsend, hfirst]
  exact State.addTurns_asking hnone p e t hst q q.turns _

/-! ### The issue of a request (R121, R251) -/

/-- What a learn probe leaves of the slots: all but the note of the probe. -/
def State.SlotsSameButProbe (s u : State) : Prop :=
  ∀ p k, (u.slot p k).map (fun x => { x with probed := false }) = (s.slot p k).map (fun x => { x with probed := false })

/-- s with other slots. -/
def State.withSlots (s : State) (slots : Tab (Option Slot)) : State := { s with eng := { s.eng with slots := slots } }

theorem State.noteProbe_frame (s : State) (p e t : Nat) (q : Req) : ∃ slots b, s.noteProbe p e t q = (s.withSlots slots, { q with probe := b })
    ∧ s.SlotsSameButProbe (s.withSlots slots) ∧ (q.kind ≠ .lkp → slots = s.eng.slots) := by
  unfold State.noteProbe
  dsimp only
  split
  next sl hslot =>
    split
    next hprobe =>
      refine ⟨_, true, rfl, fun r k => ?_, fun hkind => ?_⟩
      · change (((s.setSlot p (s.thread p e t).slot (some { sl with probed := true })).slot r k).map _) = _
        by_cases hkey : Machine.slotKey r k = Machine.slotKey p (s.thread p e t).slot
        · rw [State.slot, hkey, ← State.slot, State.slot_setSlot_self]
          rw [State.slot, hkey, ← State.slot, hslot]
          rfl
        · rw [State.slot_setSlot_ne _ _ hkey]
      · simp [State.isProbe, hkind] at hprobe
    · exact ⟨_, q.probe, rfl, fun _ _ => rfl, fun _ => rfl⟩
  · exact ⟨_, q.probe, rfl, fun _ _ => rfl, fun _ => rfl⟩

/-- A request that asks for turns, issued by a thread that has no other: its thread has it, and besides only a note of a probe and the counters change. -/
theorem State.request_asking {s : State} {p e t : Nat} {q : Req} (hnone : NoTurnWaits s = true) (hst : (s.thread p e t).st ≠ .blockedInt)
    (hreqs : (s.thread p e t).reqs = []) (hkind : q.kind ≠ .stat) :
    ∃ slots b ts pmu, s.request p e t q = { (s.withSlots slots).asking (thrKey p e t) (s.thread p e t) { q with probe := b } ts with pmu := pmu }
      ∧ s.SlotsSameButProbe (s.withSlots slots) ∧ (q.kind ≠ .lkp → slots = s.eng.slots) := by
  obtain ⟨slots, b, hprobe, hslots, hsame⟩ := s.noteProbe_frame p e t q
  obtain ⟨ts, pmu, hsend⟩ := State.sendReq_asking (s := s.withSlots slots) (p := p) (e := e) (t := t) (q := { q with probe := b }) hnone hst hreqs hkind
  refine ⟨slots, b, ts, pmu, ?_, hslots, hsame⟩
  unfold State.request
  rw [hprobe]
  refine (if_pos ?_).trans hsend
  have hthread : (s.withSlots slots).thread p e t = s.thread p e t := rfl
  rw [hthread, hreqs]
  decide

end Machine
end Sys2Proof
end

section
/-! SUPPORT. Requests issued; the statement O31. -/

open Sys2Proof Sys2Proof.Machine
namespace Sys2Proof

section
variable {s u : State} {t : Tid} (hu : s.Begins u t.ave t.eng t.thr)
include hu

theorem noTurnWaits_of_begins (hreqs : (thr s t).reqs = []) (hnone : NoTurnWaits s = true) : NoTurnWaits u = true := by
  refine List.all_eq_true.mpr fun e he => ?_
  rw [hu.thr] at he
  obtain rfl | ⟨hold, -⟩ := Tab.mem_of_mem_set he
  · change List.all (thr s t).reqs _ = true
    rw [hreqs, List.all_nil]
  · exact List.all_eq_true.mp hnone e hold

section
variable {gd : BitVec 4} (hissues : Issues s t gd) (hnone : NoTurnWaits s = true) {q : Req} (hkind : q.kind ≠ .stat)
include hissues hnone hkind

/-- What a request that asks for turns changes (R121). -/
theorem asked_of_begins : ∃ v, u.request t.ave t.eng t.thr q = v
    ∧ (∃ b ts, thr v t = { (thr s t).issuing s.bus.ticks with reqs := [{ q with probe := b, turns := ts }] })
    ∧ IssueFrame s v t ∧ EngineMemSameButProbe s v ∧ (q.kind ≠ .lkp → EngineMemSame s v) := by
  obtain ⟨hcan, -, hreqs, -, -, -, -⟩ := hissues
  have hst : (thr s t).st = .ready := State.ready_of_issues hcan
  have hself : u.thread t.ave t.eng t.thr = (thr s t).issuing s.bus.ticks := thr_of_begins hu
  have hready : (u.thread t.ave t.eng t.thr).st ≠ .blockedInt := by simp [hself, Thr.issuing, hst]
  obtain ⟨slots, b, ts, pmu, hrequest, hprobe, hslots⟩ := State.request_asking (p := t.ave) (e := t.eng) (t := t.thr) (q := q)
    (noTurnWaits_of_begins hu hreqs hnone) hready (by rw [hself]; exact hreqs) hkind
  obtain ⟨hreg, hthread, hrest⟩ := issueFrame_of_begins hu
  obtain ⟨hlm, hsreg, hchan, hslot, hcode⟩ := engineMemSame_of_begins hu
  have hnotes : s.SlotsSameButProbe (u.withSlots slots) := by
    intro p k
    rw [hprobe p k, hu.slot]
  rw [hself] at hrequest
  exact ⟨_, hrequest, ⟨b, ts, Tab.get_set_self ..⟩, ⟨hreg, fun p e n hne => (Tab.get_set_ne _ _ _ hne).trans (hthread p e n hne), hrest⟩,
    ⟨hlm, hsreg, hchan, hcode, hnotes⟩, fun hlkp => ⟨hlm, hsreg, hchan, (hslots hlkp).trans hslot, hcode⟩⟩

/-- What a request that asks for turns leaves behind, when its thread goes on. -/
theorem requested_of_begins :
    let v := (u.request t.ave t.eng t.thr q).goTo t.ave t.eng t.thr ((thr s t).pc + 1)
    (∃ b ts, (thr v t).reqs = [{ q with probe := b, turns := ts }]) ∧ NoRegResult s v t ∧ EngineMemSameButProbe s v
      ∧ (q.kind ≠ .lkp → EngineMemSame s v) := by
  obtain ⟨v, hrequest, ⟨b, ts, hself⟩, hframe, hnotes, hmem⟩ := asked_of_begins hu hissues hnone hkind
  dsimp only
  rw [hrequest]
  refine ⟨⟨b, ts, ?_⟩, noRegResult_goTo ?_ ?_ ?_ ?_ ?_ hframe, ?_, fun hlkp => (hmem hlkp).goTo ..⟩
  · rw [thr_goTo, hself]
  · rw [hself, Thr.issuing]
  · rw [hself, Thr.issuing]
  · rw [hself, Thr.issuing]
    exact State.ready_of_issues hissues.1
  · rw [hself, Thr.issuing]
  · rw [hself, Thr.issuing]
  · exact (setThread_part (EngineMemSameButProbe s ·) (fun _ _ _ => rfl) ..).symm ▸ hnotes

end

end

section
variable {s : State} {t : Tid} {gd : BitVec 4} (hissues : Issues s t gd)
include hissues

section
variable (hnone : NoTurnWaits s = true)
include hnone

/-! ### LKP, TCS and POL (R121, R172 to R174) -/

theorem does_lkp {rd ra : Rg} {tb : BitVec 10} (hvalid : s.tdValid tb.toNat = true) (hkey : ra.toNat + s.tdKw tb.toNat ≤ 32)
    (hresp : rd.toNat + s.tdRw tb.toNat ≤ 32) : Does (.lkp t gd rd ra tb) s (fun u =>
      (thr u t).reqs.map (fun q => (q.kind, q.rd, q.rw, q.id, q.key))
        = [(.lkp, rd.toNat, s.tdRw tb.toNat, tb.toNat, (List.range (s.tdKw tb.toNat)).map fun i => Tab.get 0 (thr s t).g (ra.toNat + i))]
      ∧ NoRegResult s u t ∧ EngineMemSameButProbe s u) := by
  refine does_plainOp rfl hissues (opOf_lkp gd rd ra tb) ⟨rfl, rfl, rfl⟩ (fun u low hbus _ => ?_) fun u hu => ?_
  · unfold State.opFault
    dsimp only
    rw [hbus.tdValid, hbus.tdKw, hbus.tdRw, hvalid, if_neg (by decide), if_neg (by simp; omega)]
  · obtain ⟨⟨b, ts, hreqs⟩, hresult, hmem, -⟩ := requested_of_begins hu hissues hnone (q :=
      { kind := .lkp, rd := rd.toNat, rw := u.tdRw tb.toNat, id := tb.toNat, key := (List.range (u.tdKw tb.toNat)).map fun i =>
        Tab.get 0 (thr s t).g (ra.toNat + i), bytes := [], tick := u.bus.ticks, pc := (thr s t).pc.toNat, cbank := (thr s t).cbank }) (by simp)
    refine ⟨(congrArg _ hreqs).trans ?_, hresult, hmem⟩
    rw [hu.busSame.tdRw, hu.busSame.tdKw]
    rfl

theorem does_tcs {rd : Rg} {off : BitVec 6} {prof : BitVec 8} (he : t.eng.val ≠ 34) (hvalid : s.profValid (s.admOf t.ave t.eng (thr s t)) prof.toNat = true)
    (hkey : off.toNat * 8 + s.profBytes (s.admOf t.ave t.eng (thr s t)) prof.toNat ≤ 512) : Does (.tcs t gd rd off prof) s (fun u =>
      (thr u t).reqs.map (fun q => (q.kind, q.rd, q.id, q.bytes))
        = [(.tcs, rd.toNat, prof.toNat, Tab.getList 0 (s.thrSlot t.ave (thr s t)).hv (off.toNat * 8) (s.profBytes (s.admOf t.ave t.eng (thr s t)) prof.toNat))]
      ∧ NoRegResult s u t ∧ EngineMemSame s u) := by
  refine does_plainOp rfl hissues (opOf_tcs gd rd off prof) ⟨rfl, rfl, rfl⟩ (fun u low hbus hadm => ?_) fun u hu => ?_
  · unfold State.opFault
    dsimp only
    rw [hadm, hbus.profValid, hbus.profBytes, hvalid, if_neg (packetEngine_of_ne he), if_neg (by decide), if_neg (by omega)]
  · obtain ⟨⟨b, ts, hreqs⟩, hresult, -, hmem⟩ := requested_of_begins hu hissues hnone (q :=
      { kind := .tcs, rd := rd.toNat, rw := 1, id := prof.toNat, key := [], bytes := Tab.getList 0 (u.thrSlot t.ave (thr s t)).hv (off.toNat * 8)
          (u.profBytes (u.admOf t.ave t.eng (thr s t)) prof.toNat), tick := u.bus.ticks, pc := (thr s t).pc.toNat, cbank := (thr s t).cbank }) (by simp)
    refine ⟨(congrArg _ hreqs).trans ?_, hresult, hmem (by simp)⟩
    rw [hu.admOf, hu.busSame.profBytes, hu.thrSlot]
    rfl

theorem does_pol (rd ra : Rg) : Does (.pol t gd rd ra) s (fun u =>
    (thr u t).reqs.map (fun q => (q.kind, q.rd, q.id, q.key)) = [(.pol, rd.toNat, ((thr s t).reg ra).toNat % 2 ^ 20, [(thr s t).reg ra])]
    ∧ NoRegResult s u t ∧ EngineMemSame s u) := by
  refine does_plainOp rfl hissues (opOf_pol gd rd ra) ⟨rfl, rfl, rfl⟩ (fun u low _ _ => rfl) fun u hu => ?_
  obtain ⟨⟨b, ts, hreqs⟩, hresult, -, hmem⟩ := requested_of_begins hu hissues hnone (q :=
    { kind := .pol, rd := rd.toNat, rw := 1, id := ((thr s t).reg ra).toNat % 2 ^ 20, key := [(thr s t).reg ra], bytes := [],
      tick := u.bus.ticks, pc := (thr s t).pc.toNat, cbank := (thr s t).cbank }) (by simp)
  exact ⟨congrArg _ hreqs, hresult, hmem (by simp)⟩

end

/-! ### WAITR (R172) -/

theorem does_waitr : Does (.waitr t gd) s (fun u => NoRegResult s u t ∧ EngineMemSame s u) := by
  refine does_plainOp rfl hissues (opOf_waitr gd) ⟨rfl, rfl, rfl⟩ (fun u low _ _ => rfl) fun u hu => ?_
  obtain ⟨-, -, hreqs, -, -, -, -⟩ := id hissues
  have hnothing : u.opApply t.ave t.eng t.thr (thr s t) 0 .waitr u = u.modThread t.ave t.eng t.thr fun y =>
    if y.reqs = [] then y else { y with st := .blockedExt, wait := .all } := rfl
  have hself : thr (u.modThread t.ave t.eng t.thr fun y => if y.reqs = [] then y else { y with st := .blockedExt, wait := .all }) t = thr u t := by
    rw [thr_modThread]
    exact if_pos (by rw [thr_of_begins hu]; exact hreqs)
  rw [hnothing]
  exact ⟨noRegResult_of_issuing hissues (hself.trans (thr_of_begins hu)) ((issueFrame_of_begins hu).modThread _),
    ((engineMemSame_of_begins hu).modThread ..).goTo ..⟩

/-! ### STAT (R175, R192) -/

/-- s with an update in an avenue's counter queue, entered in this clock. -/
def Machine.State.statQueued (s : State) (l : Nat) (e : StatUpdate) : State :=
  ({ s with tbl := { s.tbl with statQ := Tab.set [] s.tbl.statQ l (Tab.get [] s.tbl.statQ l ++ [e]) } } : State).use (.stat l)

omit hissues in
/-- A STAT enters its avenue's queue at once when it has room, none waits for it and fewer than two entered in this clock. -/
theorem request_stat {v : State} {p e n : Nat} {q : Req} (hkind : q.kind = .stat) (hreqs : (v.thread p e n).reqs = [])
    (hroom : (Tab.get [] v.tbl.statQ (v.aveLogical p)).length < 64)
    (hwaits : (Tab.get [] v.tbl.statQ (v.aveLogical p)).any (·.thr.isSome) = false) (hfew : v.uses (.stat (v.aveLogical p)) < 2) :
    v.request p e n q = v.statQueued (v.aveLogical p) { pair := q.id, bytes := (q.key.headD 0).toNat % 2 ^ 14, thr := none, tick := q.tick } := by
  have hprobe : v.noteProbe p e n q = (v, q) := by
    unfold State.noteProbe
    dsimp only
    split
    · exact if_neg (by simp [State.isProbe, hkind])
    · rfl
  have hgoes : (64 ≤ (Tab.get [] v.tbl.statQ (v.aveLogical p)).length || (Tab.get [] v.tbl.statQ (v.aveLogical p)).any (·.thr.isSome)
      || 2 ≤ v.uses (.stat (v.aveLogical p))) = false := by
    rw [hwaits]
    simp
    omega
  unfold State.request
  rw [hprobe]
  refine (if_pos (by rw [hreqs]; decide)).trans ?_
  unfold State.sendReq
  rw [hkind]
  dsimp only
  rw [hgoes]
  rfl

theorem does_stat (ra rb : Rg) (hpair : ((thr s t).reg ra).toNat < 2 ^ 25) (hroom : (Tab.get [] s.tbl.statQ (s.aveLogical t.ave)).length < 64)
    (hwaits : (Tab.get [] s.tbl.statQ (s.aveLogical t.ave)).any (·.thr.isSome) = false) (hfew : s.uses (.stat (s.aveLogical t.ave)) < 2) :
    Does (.stat t gd ra rb) s (fun u =>
      Tab.get [] u.tbl.statQ (s.aveLogical t.ave) = Tab.get [] s.tbl.statQ (s.aveLogical t.ave)
        ++ [{ pair := ((thr s t).reg ra).toNat, bytes := ((thr s t).reg rb).toNat % 2 ^ 14, thr := none, tick := s.bus.ticks }]
      ∧ (thr u t).g = (thr s t).g ∧ GoesOn s u t ∧ EngineMemSame s u) := by
  refine does_plainOp rfl hissues (opOf_stat gd ra rb) ⟨rfl, rfl, rfl⟩ (fun u low _ _ => rfl) fun u hu => ?_
  obtain ⟨-, -, hreqs, -, -, -, -⟩ := id hissues
  have huses : u.uses (.stat (s.aveLogical t.ave)) = s.uses (.stat (s.aveLogical t.ave)) := hu.uses _ (by simp only [Use.key]; omega)
  have happly : u.opApply t.ave t.eng t.thr (thr s t) 0 (.stat ra rb) u = u.statQueued (u.aveLogical t.ave)
      { pair := ((thr s t).reg ra).toNat, bytes := ((thr s t).reg rb).toNat % 2 ^ 14, thr := none, tick := u.bus.ticks } := by
    refine (if_neg (by rw [Nat.div_eq_of_lt hpair]; decide)).trans (request_stat rfl ((congrArg _ (thr_of_begins hu)).trans hreqs) ?_ ?_ ?_)
    all_goals rw [hu.busSame.aveLogical]
    · rw [hu.tbl]
      exact hroom
    · rw [hu.tbl]
      exact hwaits
    · rw [huses]
      exact hfew
  rw [happly, hu.busSame.aveLogical, hu.ticks]
  have hself (e : StatUpdate) : thr (u.statQueued (s.aveLogical t.ave) e) t = (thr s t).issuing s.bus.ticks := thr_of_begins (u := u) hu
  have hmem (e : StatUpdate) : EngineMemSame s (u.statQueued (s.aveLogical t.ave) e) := engineMemSame_of_begins (u := u) hu
  refine ⟨?_, ?_, goesOn_goTo ?_ ?_ ?_ hu.ticks, (hmem _).goTo ..⟩
  · refine (congrArg (fun x : TblState => Tab.get [] x.statQ (s.aveLogical t.ave)) (State.setThread_tbl ..)).trans ((Tab.get_set_self ..).trans ?_)
    rw [hu.tbl]
  · rw [thr_goTo, hself, Thr.issuing]
  all_goals rw [hself, Thr.issuing]
  exact State.ready_of_issues hissues.1

end

end Sys2Proof

/-- Settles O31: while no turn waits, the turns of the one request that a thread issues reach no other thread's. -/
theorem requestsAreIssued : Obligations.RequestsAreIssued := by
  unfold Obligations.RequestsAreIssued
  intro t gd rd ra rb tb off prof s hissues hnone
  exact ⟨does_lkp hissues hnone, does_tcs hissues hnone, does_pol hissues hnone rd ra, does_stat hissues ra rb, does_waitr hissues⟩

end

section
/-! SUPPORT. Admission, dispatch, deadline and issue in an avenue; the statement O24. -/

open Sys2Proof Sys2Proof.Machine
namespace Sys2Proof
namespace Machine

theorem State.modSample_eq (s : State) (tag : Option Nat) (f : Sample → Sample) : ∃ pmu, s.modSample tag f = { s with pmu := pmu } := by
  unfold State.modSample
  split
  · exact ⟨s.pmu, rfl⟩
  · exact ⟨_, rfl⟩

/-! ### Admission (R113) -/

/-- The slot of a header admitted now (R113). -/
def State.admitted (s : State) (n : Nat) : Slot :=
  { pkt := n, admBeat := s.beatN, admClk := s.bus.clk.toNat, admTick := s.bus.ticks, admB := s.bus.beats, cbank := s.flag psStat 0,
    gbank := s.flag pgStat 0, frameLen := if (s.pkt n).ended || 1 < (s.pkt n).pass then (s.pkt n).len else 0 }

theorem State.admitPkt_eq (s : State) (p n : Nat) : ∃ pmu pkts, s.admitPkt p n
    = ({ s with pmu := pmu, line := { s.line with pkts := pkts } } : State).setSlot p (s.beatN % 4 * 256 + s.bus.clk.toNat) (some (s.admitted n)) := by
  unfold State.admitPkt
  dsimp only
  obtain ⟨pmu, hsample⟩ := s.modSample_eq (s.pkt n).tag fun m =>
    if (s.pkt n).pass = 1 then { m with admBeat := s.beatN, admClk := s.bus.clk.toNat, frameLen := (s.pkt n).len, lave := (s.pkt n).lave }
    else { m with passes := (s.pkt n).pass }
  rw [hsample]
  split
  · exact ⟨pmu, _, rfl⟩
  · exact ⟨pmu, s.line.pkts, rfl⟩

/-! ### Dispatch (R114 to R117) -/

/-- While no header vector is due, the end of parsing changes nothing. -/
theorem State.parseEnds_of_nothing_due {s : State} (h : (s.eng.slots.all fun e => (e.2.map fun x => x.parseDue s.bus.ticks) != some true) = true) :
    s.parseEnds = s := by
  have hnone : (s.eng.slots.filterMap fun e => e.2.bind fun sl => if sl.parseDue s.bus.ticks then some e.1 else none) = [] := by
    refine List.filterMap_eq_nil_iff.mpr fun e he => ?_
    have hdue := List.all_eq_true.mp h e he
    cases hslot : e.2 with
    | none => rfl
    | some sl =>
      rw [hslot] at hdue
      simpa using hdue
  unfold State.parseEnds
  rw [hnone, List.foldl_nil]

/-- An ordinary dispatch chooses an engine that takes a packet (R115). -/
theorem State.takesPkt_of_pickEngine {s : State} {p k : Nat} (h : s.pickEngine p = some k) : s.takesPkt p (s.engMap p k) = true := by
  refine foldl_keeps (fun o => ∀ k, o = some k → s.takesPkt p (s.engMap p k) = true) _ (fun o j ho k hk => ?_) (rotOrder s.beatN 32) none (by simp) k h
  dsimp only at hk
  have hfree {m : Nat} (hm : m < (if s.engIso p (s.engMap p j) || !s.takesPkt p (s.engMap p j) then 0 else (s.freeThreads p (s.engMap p j)).length)) :
      s.takesPkt p (s.engMap p j) = true := by
    split at hm
    · omega
    next hcan =>
      simp only [Bool.or_eq_true, Bool.not_eq_true', not_or, Bool.not_eq_false] at hcan
      exact hcan.2
  generalize (if s.engIso p (s.engMap p j) || !s.takesPkt p (s.engMap p j) then 0 else (s.freeThreads p (s.engMap p j)).length) = free at hk hfree
  split at hk
  · split at hk
    next hlt =>
      obtain rfl := Option.some.inj hk
      exact hfree hlt
    · cases hk
  · split at hk
    next hlt =>
      obtain rfl := Option.some.inj hk
      exact hfree hlt
    · exact ho k hk

theorem State.takesPkt_of_engineFor {s : State} {p k : Nat} {sl : Slot} (h : s.engineFor p sl = some k) : s.takesPkt p (s.engMap p k) = true := by
  unfold State.engineFor at h
  dsimp only at h
  split at h
  · cases h
  · split at h
    · split at h
      next hcan =>
        obtain rfl := Option.some.inj h
        exact hcan
      · cases h
    · exact State.takesPkt_of_pickEngine h

/-- The lowest thread of an engine that takes a packet is FREE. -/
theorem State.free_of_takesPkt {s : State} {p e : Nat} (h : s.takesPkt p e = true) : (s.thread p e ((s.freeThreads p e).headD 0)).st = .free := by
  unfold State.takesPkt at h
  simp only [Bool.and_eq_true, bne_iff_ne, ne_eq] at h
  obtain ⟨-, hsome⟩ := h
  obtain ⟨t, l, hl⟩ := List.exists_cons_of_ne_nil hsome
  have hmem : t ∈ s.freeThreads p e := hl ▸ List.mem_cons_self
  unfold State.freeThreads at hmem
  rw [hl, List.headD_cons]
  have hfree := (List.mem_filter.mp hmem).2
  simp only [Bool.and_eq_true, beq_iff_eq] at hfree
  exact hfree.1

/-! ### The deadline (R33) -/

/-- The deadline of a packet that no thread has, where no record is asked for. -/
theorem State.deadlineSlot_of_waiting {s : State} {p slot : Nat} {sl : Slot} (hslot : s.slot p slot = some sl)
    (hphase : sl.phase = .parsing ∨ sl.phase = .eligible) (hrecord : bitOf (s.regAs sl.admB (fltCfg (s.aveLogical p))) 3 = false) :
    s.deadlineSlot p slot = (s.count 0x30 0x42 (s.aveLogical p) 1).setSlot p slot
      (some { sl with phase := .done, disp := some (s.deadlineDisp (s.aveLogical p) sl.admB), script := [] }) := by
  have hset : (s.count 0x30 0x42 (s.aveLogical p) 1).dispose p slot ((s.count 0x30 0x42 (s.aveLogical p) 1).deadlineDisp (s.aveLogical p) sl.admB) []
      = (s.count 0x30 0x42 (s.aveLogical p) 1).setSlot p slot
        (some { sl with phase := .done, disp := some (s.deadlineDisp (s.aveLogical p) sl.admB), script := [] }) := by
    unfold State.dispose
    rw [show (s.count 0x30 0x42 (s.aveLogical p) 1).slot p slot = s.slot p slot from rfl, hslot]
    rfl
  unfold State.deadlineSlot
  rw [hslot]
  dsimp only
  obtain hphase | hphase := hphase
  all_goals
    rw [hphase, if_neg (by decide)]
    refine (if_neg ?_).trans hset
    dsimp only
    rw [hset, Bool.not_eq_true]
    exact hrecord

/-! ### The issue (R119) -/

theorem State.written'_of_no_injection {s : State} (h : s.flag 0x400090 30 = false) (mem inst : Nat) : s.written' mem inst = s := by
  unfold State.written' State.injectionFor
  rw [h]
  rfl

/-- The issue of the thread that issued least recently, when none of its registers holds it back and its bundle does nothing. -/
theorem State.issueEngine_of_issuer {s : State} {p e t : Nat} (hissuer : s.issuer p e [] = some t) (hreqs : (s.thread p e t).reqs = [])
    (hready : (s.thread p e t).gReady = []) (n : Nat) : s.issueEngine p e .clean (n + 1) [] = s.issue p e t (s.nextBundle p (s.thread p e t)) := by
  have hheld : s.heldBack p e t = false := by
    unfold State.heldBack
    dsimp only
    rw [s.heldRegs_idle _ hreqs hready]
    rfl
  unfold State.issueEngine
  rw [hissuer]
  dsimp only
  rw [hheld]
  rfl

end Machine

/-! ### The commands -/

theorem does_avenueAdmission {l : Fin 16} {p n : Nat} {q : List Nat} {s : State} (hthermal : s.flag 0x50 8 = false)
    (hadmits : s.admittingAve l = some p) (hqueue : s.kerbQueue l = n :: q) (hearly : (s.pkt n).kerbTick < s.bus.ticks)
    (hfree : s.slot p (s.beatN % 4 * 256 + s.bus.clk.toNat) = none) :
    Does (.avenueAdmission l) s (fun t => t.kerbQueue l = q
      ∧ (∃ d : Slot, t.slot p (s.beatN % 4 * 256 + s.bus.clk.toNat) = some d ∧ d.pkt = n ∧ d.phase = .parsing ∧ d.disp = none
          ∧ d.admBeat = s.beatN ∧ d.admClk = s.bus.clk.toNat ∧ d.admTick = s.bus.ticks ∧ d.cbank = s.flag psStat 0 ∧ d.gbank = s.flag pgStat 0)
      ∧ (∀ a k : Nat, slotKey a k ≠ slotKey p (s.beatN % 4 * 256 + s.bus.clk.toNat) → t.slot a k = s.slot a k)
      ∧ (∀ m : Nat, m ≠ l.val → t.kerbQueue m = s.kerbQueue m)
      ∧ t = { s with bus := { s.bus with used := t.bus.used }, line := { s.line with kerbQ := t.line.kerbQ, pkts := t.line.pkts }, eng := { s.eng with slots := t.eng.slots }, pmu := t.pmu }) := by
  obtain ⟨pmu, pkts, hadmitted⟩ := ((s.setKerbQueue l q).use (.header p)).admitPkt_eq p n
  have hrun : exec (.avenueAdmission l) s = .next (((s.setKerbQueue l q).use (.header p)).admitPkt p n) := by
    change execAvenueAdmission l s = _
    unfold execAvenueAdmission
    rw [hthermal, hadmits, hqueue]
    dsimp only
    rw [if_neg (by decide)]
    dsimp only
    rw [if_neg (by omega), hfree]
  rw [hadmitted] at hrun
  exact ⟨_, hrun, s.kerbQueue_setKerbQueue_self l q, ⟨_, State.slot_setSlot_self .., rfl, rfl, rfl, rfl, rfl, rfl, rfl, rfl⟩,
    fun a k hne => State.slot_setSlot_ne _ _ hne, fun m hne => Tab.get_set_ne _ _ _ hne, rfl⟩

/-- s when a packet's slot goes to a thread, with the counters and samples given (R114 to R116). -/
def Machine.State.dispatchedTo (s : State) (p e n slot : Nat) (sl : Slot) (pmu : PmuState) : State :=
  { s with
    bus := ((s.use (.dispatch p)).use (.dispatchTo p e)).bus, pmu := pmu,
    eng := { s.eng with
      slots := Tab.set none s.eng.slots (Machine.slotKey p slot) (some { sl with phase := .running e n, dispTick := s.bus.ticks })
      thr := Tab.set {} s.eng.thr (thrKey p e n) (s.dispatchThread slot sl) } }

theorem dispatchedTo_slot (s : State) (p e n slot : Nat) (sl : Slot) (pmu : PmuState) (a j : Nat) : (s.dispatchedTo p e n slot sl pmu).slot a j
    = if slotKey a j = slotKey p slot then some { sl with phase := .running e n, dispTick := s.bus.ticks } else s.slot a j := by
  unfold State.slot State.dispatchedTo
  rw [Tab.get_set]

theorem dispatchedTo_thread (s : State) (p e n slot : Nat) (sl : Slot) (pmu : PmuState) (a d u : Nat) : (s.dispatchedTo p e n slot sl pmu).thread a d u
    = if thrKey a d u = thrKey p e n then s.dispatchThread slot sl else s.thread a d u := by
  unfold State.thread State.dispatchedTo
  rw [Tab.get_set]

theorem exec_dispatch {p : Fin 17} {s : State} {slot k : Nat} {sl : Slot}
    (hparsed : (s.eng.slots.all fun e => (e.2.map fun x => x.parseDue s.bus.ticks) != some true) = true) (hfew : s.uses (.dispatch p) < 2)
    (heligible : s.eligible p = [(slot, sl)]) (hengine : s.engineFor p sl = some k)
    (hfree : (s.thread p (s.engMap p k) ((s.freeThreads p (s.engMap p k)).headD 0)).st = .free) :
    ∃ pmu, exec (.dispatch p) s
      = .next (s.dispatchedTo p (s.engMap p k) ((s.freeThreads p (s.engMap p k)).headD 0) slot sl pmu) := by
  generalize hthread : (s.freeThreads p (s.engMap p k)).headD 0 = n at hfree ⊢
  obtain ⟨pmu, hsample⟩ := ((s.use (.dispatch p)).use (.dispatchTo p (s.engMap p k))).modSample_eq
    (((s.use (.dispatch p)).use (.dispatchTo p (s.engMap p k))).pkt sl.pkt).tag fun m => { m with wait := m.wait + (s.bus.ticks - sl.eligTick) }
  have hset := State.setThread_of_not_blocked (({ (s.use (.dispatch p)).use (.dispatchTo p (s.engMap p k)) with pmu := pmu } : State))
    (p := p) (e := s.engMap p k) (t := n) (x := s.dispatchThread slot sl) (by
      change (s.thread p (s.engMap p k) n).st ≠ _
      rw [hfree]
      decide)
  refine ⟨(({ s with pmu := pmu } : State).count 0x30 0x41 (s.aveLogical p) 1).pmu, ?_⟩
  change execDispatch p s = _
  unfold execDispatch
  rw [State.parseEnds_of_nothing_due hparsed]
  dsimp only
  rw [if_neg (by omega), heligible, List.findSome?_cons, hengine]
  dsimp only [Option.map_some]
  rw [hthread, hsample]
  exact congrArg (fun t : State => Host.Outcome.next ((t.count 0x30 0x41 (s.aveLogical p) 1).setSlot p slot
    (some { sl with phase := .running (s.engMap p k) n, dispTick := s.bus.ticks }))) hset

theorem does_dispatch {p : Fin 17} {s : State} {slot k : Nat} {sl : Slot}
    (hparsed : (s.eng.slots.all fun e => (e.2.map fun x => x.parseDue s.bus.ticks) != some true) = true) (hfew : s.uses (.dispatch p) < 2)
    (heligible : s.eligible p = [(slot, sl)]) (hengine : s.engineFor p sl = some k) :
    Does (.dispatch p) s (fun t =>
      t.slot p slot = some { sl with phase := .running (s.engMap p k) ((s.freeThreads p (s.engMap p k)).headD 0), dispTick := s.bus.ticks }
      ∧ t.thread p (s.engMap p k) ((s.freeThreads p (s.engMap p k)).headD 0) = s.dispatchThread slot sl
      ∧ (s.dispatchThread slot sl).st = .ready ∧ (s.dispatchThread slot sl).reg 0 = BitVec.ofNat 64 slot
      ∧ (∀ a e u : Nat, thrKey a e u ≠ thrKey p (s.engMap p k) ((s.freeThreads p (s.engMap p k)).headD 0) → t.thread a e u = s.thread a e u)
      ∧ (∀ a j : Nat, slotKey a j ≠ slotKey p slot → t.slot a j = s.slot a j)
      ∧ t = { s with bus := { s.bus with used := t.bus.used }, eng := { s.eng with slots := t.eng.slots, thr := t.eng.thr }, pmu := t.pmu }) := by
  have hfree := State.free_of_takesPkt (State.takesPkt_of_engineFor hengine)
  obtain ⟨pmu, hrun⟩ := exec_dispatch hparsed hfew heligible hengine hfree
  exact ⟨_, hrun, (dispatchedTo_slot ..).trans (if_pos rfl), (dispatchedTo_thread ..).trans (if_pos rfl), rfl, Tab.get_set_self ..,
    fun a e u hne => (dispatchedTo_thread ..).trans (if_neg hne), fun a j hne => (dispatchedTo_slot ..).trans (if_neg hne), rfl⟩

theorem does_deadline {p : Fin 17} {slot : Fin 1024} {s : State} {sl : Slot} (hslot : s.slot p slot = some sl)
    (hphase : sl.phase = .parsing ∨ sl.phase = .eligible) (hended : sl.admTick + 1024 ≤ s.bus.ticks)
    (hrecord : bitOf (s.regAs sl.admB (fltCfg (s.aveLogical p))) 3 = false) :
    Does (.deadline p slot) s (fun t =>
      t.slot p slot = some { sl with phase := .done, disp := some (s.deadlineDisp (s.aveLogical p) sl.admB), script := [] }
      ∧ Tab.get 0 t.pmu.now (pmuId 0x30 0x42 (s.aveLogical p)) = min (Tab.get 0 s.pmu.now (pmuId 0x30 0x42 (s.aveLogical p)) + 1) (2 ^ 32 - 1)
      ∧ (∀ a k : Nat, slotKey a k ≠ slotKey p slot → t.slot a k = s.slot a k)
      ∧ t = { s with eng := { s.eng with slots := t.eng.slots }, pmu := { s.pmu with now := t.pmu.now } }) := by
  have hrun : exec (.deadline p slot) s = .next (s.deadlineSlot p slot) := by
    change execDeadline p slot s = _
    unfold execDeadline
    rw [hslot]
    exact if_neg (by omega)
  rw [State.deadlineSlot_of_waiting hslot hphase hrecord] at hrun
  exact ⟨_, hrun, State.slot_setSlot_self .., Tab.get_set_self .., fun a k hne => State.slot_setSlot_ne _ _ hne, rfl⟩

theorem does_bundleIssue {p : Fin 17} {e : Fin 35} {u : Fin 8} {s : State} (hissuer : s.issuer p e [] = some u.val) (hissues : Issues s ⟨p, e, u⟩ 0)
    (hnop : s.bundle p (thr s ⟨p, e, u⟩).cbank (thr s ⟨p, e, u⟩).pc = 0) (hinject : s.flag 0x400090 30 = false) :
    Does (.bundleIssue p e .clean) s (fun t => NoRegResult s t ⟨p, e, u⟩ ∧ (thr t ⟨p, e, u⟩).lastTick = s.bus.ticks ∧ EngineMemSame s t) := by
  obtain ⟨hcan, hstep, hreqs, hready, -, -, hpc⟩ := id hissues
  have hst : (thr s ⟨p, e, u⟩).st = .ready := State.ready_of_issues hcan
  have hthermal : s.flag 0x50 8 = false := by
    unfold State.issues State.mayIssue at hcan
    simp only [Bool.and_eq_true, Bool.not_eq_true'] at hcan
    obtain ⟨⟨⟨⟨⟨hthermal, -⟩, -⟩, -⟩, -⟩, -⟩ := hcan
    exact hthermal
  have hst' : (s.thread p e u).st ≠ .blockedInt := by
    rw [show (s.thread p e u).st = .ready from hst]
    decide
  obtain ⟨v, hv, hissue⟩ := State.issue_zero hst' hreqs hready hpc
  have hgoes : s.issue p e u 0 = v.goTo p e u ((thr s ⟨p, e, u⟩).pc + 1) := hissue.trans (if_neg (by
    rw [show (s.thread p e u).stepping = false from hstep]
    decide))
  have hkept : (v.goTo p e u ((thr s ⟨p, e, u⟩).pc + 1)).flag 0x400090 30 = false := by
    unfold State.flag State.reg State.goTo State.modThread
    rw [State.setThread_bus]
    exact (hv.busSame.flag (.inl (by decide)) 30).trans hinject
  have hrun : exec (.bundleIssue p e .clean) s = .next (v.goTo p e u ((thr s ⟨p, e, u⟩).pc + 1)) := by
    change execBundleIssue p e .clean s = _
    unfold execBundleIssue
    rw [hthermal, State.uses_of_issues hcan, State.issueEngine_of_issuer hissuer hreqs hready, State.nextBundle]
    rw [show s.bundle p (s.thread p e u).cbank (s.thread p e u).pc = 0 from hnop, hgoes, State.written'_of_no_injection hkept]
    rfl
  have hself : thr v ⟨p, e, u⟩ = (thr s ⟨p, e, u⟩).issuing s.bus.ticks := thr_of_begins (t := ⟨p, e, u⟩) hv
  refine ⟨_, hrun, noRegResult_of_issuing (t := ⟨p, e, u⟩) hissues hself (issueFrame_of_begins (t := ⟨p, e, u⟩) hv), ?_,
    (engineMemSame_of_begins (t := ⟨p, e, u⟩) hv).goTo ..⟩
  refine (congrArg Thr.lastTick (thr_goTo v ⟨p, e, u⟩ _)).trans ?_
  rw [hself, Thr.issuing]

end Sys2Proof

/-- Settles O24: each of the four commands on the states that its hypotheses leave. -/
theorem packetsPassThroughTheAvenue : Obligations.PacketsPassThroughTheAvenue := by
  unfold Obligations.PacketsPassThroughTheAvenue
  refine ⟨fun l p n q s => does_avenueAdmission, fun p s slot k sl hparsed hfew heligible _ hengine => does_dispatch hparsed hfew heligible hengine,
    fun p slot s sl => does_deadline, fun p e u s hissuer hissues _ hnop hinject => does_bundleIssue hissuer hissues hnop hinject⟩

end

section
/-! SUPPORT. Events of the engines: commits, the blocked detector and isolation; of the statement O25. -/

open Sys2Proof Sys2Proof.Machine
namespace Sys2Proof
namespace Machine

/-! ### CHANNEL_COMMIT (R125) -/

/-- The first number of a list that satisfies a test which no other satisfies. -/
theorem find?_eq_some_of_unique {f : Nat → Bool} {l : List Nat} {u : Nat} (hmem : u ∈ l) (hu : f u = true) (hothers : ∀ t ∈ l, t ≠ u → f t = false) :
    l.find? f = some u := by
  cases hfound : l.find? f with
  | none => exact absurd (List.find?_eq_none.mp hfound u hmem) (by simp [hu])
  | some t =>
    by_cases ht : t = u
    · rw [ht]
    · exact absurd (List.find?_some hfound) (by simp [hothers t (List.mem_of_find?_eq_some hfound) ht])

theorem Thr.ne_commit_of_commits {x : Thr} {c : Nat} (h : x.commits = some c) : x.wait = .commit c := by
  unfold Thr.commits at h
  split at h
  next hw =>
    split at h
    · rw [hw, Option.some.inj h]
    · cases h
  · cases h

/-- A staged message delivered to a queue with room, on a channel on which no thread waits to receive. -/
theorem State.commitBlocked_of_room {s : State} {p e u c te tc : Nat} (hcommits : (s.thread p e u).commits = some c)
    (htarget : s.chanTarget p e c (s.thread p e u).stage = (te, tc)) (hwindow : s.inWindow p e (s.thread p e u) = true)
    (hroom : s.chanRoom p te tc = true) : s.commitBlocked p e u
      = (s.setThread p e u { (s.thread p e u).ready s.bus.ticks with stage := [] }).putMsg p te tc (s.chanWords p e c (s.thread p e u).stage) := by
  unfold State.commitBlocked
  dsimp only
  rw [hcommits]
  dsimp only
  rw [htarget]
  dsimp only
  rw [hwindow, hroom]
  rfl

theorem State.setThread_eq (s : State) (p e t : Nat) (x : Thr) : ∃ fired, s.setThread p e t x
    = { s with eng := { s.eng with thr := Tab.set {} s.eng.thr (thrKey p e t) x, fired := fired } } := by
  unfold State.setThread
  dsimp only
  split
  · exact ⟨_, rfl⟩
  · exact ⟨s.eng.fired, rfl⟩

/-- A thread replaced by one that is not blocked begins to wait for no message. -/
theorem State.waiter_setThread_of_none {s : State} {p e t : Nat} {x : Thr} {te tc : Nat} (h : s.waiter p te tc = none) (hx : x.blocked = false) :
    (s.setThread p e t x).waiter p te tc = none := by
  refine State.waiter_none_of_threads h (fun n _ => ?_) fun y => setThread_part (State.inWindow · p te y) (fun _ _ _ => rfl) ..
  by_cases hkey : thrKey p te n = thrKey p e t
  · rw [State.thread, hkey, ← State.thread, State.thread_setThread_self]
    exact .inl hx
  · exact .inr (s.thread_setThread_ne x hkey)

end Machine

theorem does_channelCommit {p : Fin 17} {e : Fin 35} {ch : Fin 16} {u : Fin 8} {s : State} (hwait : (s.thread p e u).wait = .commit ch)
    (hst : (s.thread p e u).st = .blockedInt) (hothers : ∀ v : Fin 8, v ≠ u → (s.thread p e v).wait ≠ .commit ch)
    (hwindow : s.inWindow p e (s.thread p e u) = true)
    (hnone : s.waiter p (s.chanTarget p e ch (s.thread p e u).stage).1 (s.chanTarget p e ch (s.thread p e u).stage).2 = none)
    (hroom : s.chanRoom p (s.chanTarget p e ch (s.thread p e u).stage).1 (s.chanTarget p e ch (s.thread p e u).stage).2 = true) :
    Does (.channelCommit p e ch) s (fun t =>
      t.chan p (s.chanTarget p e ch (s.thread p e u).stage).1 (s.chanTarget p e ch (s.thread p e u).stage).2
        = s.chan p (s.chanTarget p e ch (s.thread p e u).stage).1 (s.chanTarget p e ch (s.thread p e u).stage).2
          ++ [s.chanWords p e ch (s.thread p e u).stage]
      ∧ t.thread p e u = { (s.thread p e u).ready s.bus.ticks with stage := [] }
      ∧ (∀ a d v : Nat, thrKey a d v ≠ thrKey p e u → t.thread a d v = s.thread a d v)
      ∧ t = { s with eng := { s.eng with thr := t.eng.thr, chan := t.eng.chan, fired := t.eng.fired } }) := by
  have hcommits : (s.thread p e u).commits = some ch.val := by simp [Thr.commits, hwait, Thr.blocked, hst]
  have hfound : ((List.range 8).find? fun t => (s.thread p e t).commits == some ch.val) = some u.val := by
    refine find?_eq_some_of_unique (List.mem_range.mpr u.isLt) (by simp [hcommits]) fun t ht hne => ?_
    have hother := hothers ⟨t, List.mem_range.mp ht⟩ (fun h => hne (congrArg Fin.val h))
    exact beq_eq_false_iff_ne.mpr fun hcommit => hother (Thr.ne_commit_of_commits hcommit)
  generalize htarget : s.chanTarget p e ch (s.thread p e u).stage = target at hnone hroom ⊢
  obtain ⟨te, tc⟩ := target
  have hrun : exec (.channelCommit p e ch) s = .next ((s.setThread p e u { (s.thread p e u).ready s.bus.ticks with stage := [] }).putMsg p te tc
      (s.chanWords p e ch (s.thread p e u).stage)) := by
    change execChannelCommit p e ch s = _
    unfold execChannelCommit
    rw [hfound]
    exact congrArg _ (State.commitBlocked_of_room hcommits htarget hwindow hroom)
  have hnone' : (s.setThread p e u { (s.thread p e u).ready s.bus.ticks with stage := [] }).waiter p te tc = none :=
    State.waiter_setThread_of_none hnone rfl
  have hchan : (s.setThread p e u { (s.thread p e u).ready s.bus.ticks with stage := [] }).chan p te tc = s.chan p te tc :=
    setThread_part (State.chan · p te tc) (fun _ _ _ => rfl) ..
  rw [State.putMsg_of_no_waiter hnone', hchan] at hrun
  refine ⟨_, hrun, State.chan_setChan_self .., State.thread_setThread_self .., fun a d v hne => s.thread_setThread_ne _ hne, ?_⟩
  obtain ⟨fired, hset⟩ := s.setThread_eq p e u { (s.thread p e u).ready s.bus.ticks with stage := [] }
  rw [hset]
  rfl

/-! ### ALL_THREADS_BLOCKED (R133, R134) -/

/-- s with an episode of an engine detected and shown (R133, R134). -/
def Machine.State.detected (s : State) (p e : Nat) : State :=
  ({ s with eng := { s.eng with fired := Tab.set false s.eng.fired (engKey p e) true } } : State).raise (aveStat p) 3

theorem does_allThreadsBlocked {p : Fin 17} {e : Fin 35} {s : State} (he : e.val ≠ supEngine)
    (hall : ∀ v : Fin 8, (s.thread p e v).st = .blockedInt ∧ (s.thread p e v).reqs = []) (hfired : Tab.get false s.eng.fired (engKey p e) = false)
    (hnone : s.waiter p supEngine 1 = none) (hroom : (s.chan p supEngine 1).length < 32) :
    Does (.allThreadsBlocked p e) s (fun t => Tab.get false t.eng.fired (engKey p e) = true ∧ t.flag (aveStat p) 3 = true
      ∧ (∃ m, m.length = 4 ∧ t.chan p supEngine 1 = s.chan p supEngine 1 ++ [m]) ∧ RegsSame s t [aveStat p]
      ∧ t = { withRegsOf s t with eng := { s.eng with fired := t.eng.fired, chan := t.eng.chan } }) := by
  have hdetected : (e.val ≠ supEngine && ((List.range 8).map (s.thread p e)).all (fun x => x.st == .blockedInt && x.reqs == [])
      && !Tab.get false s.eng.fired (engKey p e)) = true := by
    have hthreads : ∀ t < 8, (s.thread p e t).st = .blockedInt ∧ (s.thread p e t).reqs = [] := fun t ht => hall ⟨t, ht⟩
    simp only [hfired, List.all_map, Bool.and_eq_true, List.all_eq_true, List.mem_range, Function.comp_apply, beq_iff_eq, decide_eq_true_eq]
    exact ⟨⟨he, hthreads⟩, rfl⟩
  generalize hnotice : faultRecord 0x20 ((({ s with eng := { s.eng with fired := Tab.set false s.eng.fired (engKey p e) true } } : State).raise (aveStat p) 3).engLogical p e
    |>.getD 0) 0 0 false {} 0 0 0 false ((List.range 8).foldl (fun n i => n + (s.thread p e i).waitChan * 2 ^ (8 * i)) 0) ++ [0] = notice
  have hlength : notice.length = 4 := by
    rw [← hnotice]
    rfl
  have hrun : exec (.allThreadsBlocked p e) s
      = .next (if (s.detected p e).chanRoom p supEngine 1 then (s.detected p e).putMsg p supEngine 1 notice else s.detected p e) := by
    change execAllThreadsBlocked p e s = _
    unfold execAllThreadsBlocked
    refine (if_pos hdetected).trans ?_
    rw [← hnotice]
    rfl
  have hthr (n : Nat) : (s.detected p e).thread p supEngine n = s.thread p supEngine n :=
    State.thread_of_thr (congrArg EngState.thr (State.raise_eng ..)) ..
  have hwindow (x : Thr) : (s.detected p e).inWindow p supEngine x = s.inWindow p supEngine x := by
    unfold State.inWindow State.slot State.detected
    rw [State.raise_eng, State.raise_bus_ticks]
  have hchan : (s.detected p e).chan p supEngine 1 = s.chan p supEngine 1 := by
    unfold State.chan State.detected
    rw [State.raise_eng]
  have hnone' : (s.detected p e).waiter p supEngine 1 = none := State.waiter_none_of_threads hnone (fun n _ => .inr (hthr n)) hwindow
  have hroom' : (s.detected p e).chanRoom p supEngine 1 = true := by
    simp [State.chanRoom, hchan, chanDepth, hroom]
  rw [hroom', if_pos rfl, State.putMsg_of_no_waiter hnone', hchan] at hrun
  refine ⟨_, hrun, ?_, State.flag_raise_self _ _ (by decide), ⟨notice, hlength, State.chan_setChan_self ..⟩, ?_, rfl⟩
  · change Tab.get false (s.detected p e).eng.fired _ = true
    rw [State.detected, State.raise_eng]
    exact Tab.get_set_self false s.eng.fired _ true
  · exact fun a ha _ => State.reg_setFlag_ne _ 3 true (fun h => ha (List.mem_singleton.mpr h))

/-! ### ISO (R135, R137) -/

namespace Machine

/-- The value held of a register whose old value stays in force. -/
theorem State.late_holdOld_self (s : State) (a : Nat) : ∃ v, Tab.get none (s.holdOld a).bus.late a = some v ∧ v.toNat = s.regLate a := by
  unfold State.holdOld State.regLate
  cases hlate : Tab.get none s.bus.late a with
  | some v => exact ⟨v, hlate, rfl⟩
  | none =>
    refine ⟨BitVec.ofNat 32 (s.reg a), ?_, ?_⟩
    · rw [Tab.get_set_self]
    · rw [BitVec.toNat_ofNat, Nat.mod_eq_of_lt (s.reg_lt a)]

theorem State.late_holdOld_ne (s : State) {a b : Nat} (h : b ≠ a) : Tab.get none (s.holdOld a).bus.late b = Tab.get none s.bus.late b := by
  unfold State.holdOld
  split
  · rfl
  · dsimp only
    rw [Tab.get_set_ne _ _ _ h]

theorem State.reg_holdOld (s : State) (a b : Nat) : (s.holdOld a).reg b = s.reg b := by
  unfold State.holdOld
  split <;> rfl

theorem State.regLate_holdOld (s : State) (a b : Nat) : (s.holdOld a).regLate b = s.regLate b := by
  by_cases hb : b = a
  · obtain ⟨v, hlate, hv⟩ := s.late_holdOld_self a
    rw [hb, State.regLate, hlate, ← hv]
  · rw [State.regLate, s.late_holdOld_ne hb, s.reg_holdOld, State.regLate]

/-- A register whose old value is held reads in this clock as it did, whatever is written. -/
theorem State.regLate_setReg_of_held {s : State} {a : Nat} {x : Word} (h : Tab.get none s.bus.late a = some x) (v b : Nat) :
    (s.setReg a v).regLate b = s.regLate b := by
  unfold State.regLate
  rw [State.setReg_bus_late]
  by_cases hb : b = a
  · rw [hb, h]
  · rw [s.reg_setReg_ne v hb]

theorem State.setFlag_eq (s : State) (a i : Nat) (b : Bool) : s.setFlag a i b = withRegsOf s (s.setFlag a i b) := rfl

/-- What writes of registers leave after a value is held. -/
theorem State.frame_of_holdOld {s t : State} {a : Nat} (h : t = withRegsOf (s.holdOld a) t) :
    t = { s with bus := { s.bus with regs := t.bus.regs, late := t.bus.late } } := by
  have hlate : t.bus.late = (s.holdOld a).bus.late := by
    rw [h]
    rfl
  have hsame : withRegsOf (s.holdOld a) t = { s with bus := { s.bus with regs := t.bus.regs, late := (s.holdOld a).bus.late } } := by
    unfold State.holdOld
    split <;> rfl
  rw [hlate]
  exact h.trans hsame

/-- A write of ISO that is not refused: in force from the next clock. -/
theorem State.isoSet_frame (s : State) (p e : Nat) (on : Bool) :
    let t := (s.holdOld (dbgCtl p e)).setFlag (dbgCtl p e) 24 on
    t.flag (dbgCtl p e) 24 = on ∧ t.engIso p e = s.engIso p e ∧ RegsSame s t [dbgCtl p e]
      ∧ t = { s with bus := { s.bus with regs := t.bus.regs, late := t.bus.late } } := by
  obtain ⟨v, hlate, -⟩ := s.late_holdOld_self (dbgCtl p e)
  refine ⟨State.flag_setFlag_self _ _ on (by decide), ?_, fun a ha _ => ?_, ?_⟩
  · unfold State.engIso State.setFlag State.setFld
    rw [State.regLate_setReg_of_held hlate, s.regLate_holdOld]
  · rw [State.reg_setFlag_ne _ 24 on (fun h => ha (List.mem_singleton.mpr h)), s.reg_holdOld]
  · exact State.frame_of_holdOld (State.setFlag_eq ..)

theorem State.isoSet_of_allowed {s : State} {p e : Nat} {on : Bool}
    (h : (on && !s.flag (dbgCtl p e) 24 && (e == 34 || decide (4 ≤ ((List.range 34).filter fun x => s.flag (dbgCtl p x) 24).length))) = false) :
    s.isoSet p e on = (s.holdOld (dbgCtl p e)).setFlag (dbgCtl p e) 24 on := by
  unfold State.isoSet
  dsimp only
  rw [h]
  rfl

end Machine

section
variable (p : Fin 17) (e : Fin 35) (s : State)

theorem does_iso_on (he : e.val ≠ supEngine) (hroom : ((List.range 34).filter fun x => s.flag (dbgCtl p x) 24).length < 4) :
    Does (.iso p e true) s (fun t => t.flag (dbgCtl p e) 24 = true ∧ t.engIso p e = s.engIso p e ∧ RegsSame s t [dbgCtl p e]
      ∧ t = { s with bus := { s.bus with regs := t.bus.regs, late := t.bus.late } }) := by
  have hsup : (e.val == 34) = false := beq_eq_false_iff_ne.mpr he
  have hallowed := State.isoSet_of_allowed (s := s) (p := p) (e := e) (on := true) (by
    rw [hsup, decide_eq_false (by omega), Bool.or_false, Bool.and_false])
  exact ⟨_, congrArg Host.Outcome.next hallowed, s.isoSet_frame p e true⟩

theorem does_iso_off : Does (.iso p e false) s (fun t => t.flag (dbgCtl p e) 24 = false ∧ t.engIso p e = s.engIso p e ∧ RegsSame s t [dbgCtl p e]
    ∧ t = { s with bus := { s.bus with regs := t.bus.regs, late := t.bus.late } }) :=
  ⟨_, congrArg Host.Outcome.next (State.isoSet_of_allowed rfl), s.isoSet_frame p e false⟩

theorem does_iso_refused (hoff : s.flag (dbgCtl p e) 24 = false)
    (hfull : e.val = supEngine ∨ 4 ≤ ((List.range 34).filter fun x => s.flag (dbgCtl p x) 24).length) :
    Does (.iso p e true) s (fun t => t.flag (aveStat p) 4 = true ∧ RegsSame s t [aveStat p] ∧ t = withRegsOf s t) := by
  have hrefused : (true && !s.flag (dbgCtl p e) 24 && (e.val == 34 || decide (4 ≤ ((List.range 34).filter fun x => s.flag (dbgCtl p x) 24).length))) = true := by
    rw [hoff]
    unfold supEngine at hfull
    simpa using hfull
  have hrun : s.isoSet p e true = s.raise (aveStat p) 4 := by
    unfold State.isoSet
    exact if_pos hrefused
  exact ⟨_, congrArg Host.Outcome.next hrun, State.flag_raise_self _ _ (by decide),
    fun a ha _ => State.reg_setFlag_ne _ 4 true (fun h => ha (List.mem_singleton.mpr h)), State.setFlag_eq ..⟩

end

end Sys2Proof
end

section
/-! SUPPORT. HALT, RESUME and STEP; of the statement O25. -/

open Sys2Proof Sys2Proof.Machine
namespace Sys2Proof
namespace Machine

/-! ### Threads of an engine replaced one after another (R138, R140) -/

/-- u is s but for the threads. -/
def State.ThreadsOnly (s u : State) : Prop := u = { s with eng := { s.eng with thr := u.eng.thr } }

/-- u with the thread of a key replaced, whatever it was. -/
def State.putThread (u : State) (p e t : Nat) (x : Thr) : State := { u with eng := { u.eng with thr := Tab.set {} u.eng.thr (thrKey p e t) x } }

theorem State.thread_putThread (u : State) (p e t : Nat) (x : Thr) (q d n : Nat) : (u.putThread p e t x).thread q d n
    = if thrKey q d n = thrKey p e t then x else u.thread q d n := by
  unfold State.thread State.putThread
  rw [Tab.get_set]

theorem State.ThreadsOnly.putThread {s u : State} (h : s.ThreadsOnly u) (p e t : Nat) (x : Thr) : s.ThreadsOnly (u.putThread p e t x) := by
  unfold State.ThreadsOnly at h ⊢
  rw [h]
  rfl

theorem State.ThreadsOnly.part {γ : Type} (q : State → γ) (hq : ∀ (s : State) x, q { s with eng := { s.eng with thr := x } } = q s) {s u : State}
    (h : s.ThreadsOnly u) : q u = q s := by
  unfold State.ThreadsOnly at h
  rw [h]
  exact hq s _

theorem thrKey_inj {p e t u : Nat} (h : thrKey p e t = thrKey p e u) : t = u := by
  unfold thrKey at h
  omega

theorem engKey_of_thrKey {p e t q d u : Nat} (ht : t < 8) (hu : u < 8) (h : thrKey p e t = thrKey q d u) : engKey p e = engKey q d := by
  unfold thrKey at h
  omega

/-- A fold that replaces each thread of a list that a mask names by one that depends on what the thread was at first. -/
theorem foldl_threads {s : State} {p e : Nat} {c : Nat → Bool} {y : Nat → Thr} {f : State → Nat → State} :
    ∀ (l : List Nat) (u : State), l.Nodup → s.ThreadsOnly u → (∀ t ∈ l, u.thread p e t = s.thread p e t) →
      (∀ v t, t ∈ l → c t = true → s.ThreadsOnly v → v.thread p e t = s.thread p e t → f v t = v.putThread p e t (y t)) →
    let v := l.foldl (fun v t => if c t then f v t else v) u
    s.ThreadsOnly v ∧ (∀ t, v.thread p e t = if t ∈ l ∧ c t = true then y t else u.thread p e t)
      ∧ ∀ q d n, (∀ t ∈ l, thrKey q d n ≠ thrKey p e t) → v.thread q d n = u.thread q d n
  | [], u, _, hu, _, _ => ⟨hu, fun t => by simp, fun _ _ _ _ => rfl⟩
  | x :: l, u, hnodup, hu, hfirst, hf => by
    obtain ⟨hx, hl⟩ := List.nodup_cons.mp hnodup
    rw [List.foldl_cons]
    have hrest : ∀ v t, t ∈ l → c t = true → s.ThreadsOnly v → v.thread p e t = s.thread p e t → f v t = v.putThread p e t (y t) :=
      fun v t ht => hf v t (List.mem_cons_of_mem x ht)
    cases hc : c x
    · obtain ⟨hv, hself, hothers⟩ := foldl_threads l u hl hu (fun t ht => hfirst t (List.mem_cons_of_mem x ht)) hrest
      refine ⟨hv, fun t => (hself t).trans ?_, fun q d n hne => hothers q d n fun t ht => hne t (List.mem_cons_of_mem x ht)⟩
      by_cases ht : t = x
      · simp [ht, hx, hc]
      · simp [ht]
    · have hstep := hf u x List.mem_cons_self hc hu (hfirst x List.mem_cons_self)
      simp only [if_true, hstep]
      have hput (t : Nat) (ht : t ≠ x) : (u.putThread p e x (y x)).thread p e t = u.thread p e t := by
        rw [State.thread_putThread, if_neg (fun h => ht (thrKey_inj h))]
      obtain ⟨hv, hself, hothers⟩ := foldl_threads l (u.putThread p e x (y x)) hl (hu.putThread ..)
        (fun t ht => (hput t (fun h => hx (h ▸ ht))).trans (hfirst t (List.mem_cons_of_mem x ht))) hrest
      refine ⟨hv, fun t => (hself t).trans ?_, fun q d n hne => (hothers q d n fun t ht => hne t (List.mem_cons_of_mem x ht)).trans ?_⟩
      · by_cases ht : t = x
        · subst ht
          rw [if_neg (fun h => hx h.1), State.thread_putThread, if_pos rfl, if_pos ⟨List.mem_cons_self, hc⟩]
        · rw [hput t ht]
          simp [ht]
      · rw [State.thread_putThread, if_neg (hne x List.mem_cons_self)]

end Machine

/-- What a command that replaces the threads that a mask names leaves of every thread and of the rest. -/
theorem threads_of_forThreads {s : State} {p e : Nat} {mask : BitVec 8} {y : Nat → Thr} {f : State → Nat → State}
    (hf : ∀ v t, t < 8 → mask.getLsbD t = true → s.ThreadsOnly v → v.thread p e t = s.thread p e t → f v t = v.putThread p e t (y t)) :
    let v := s.forThreads mask f
    (∀ u : Fin 8, v.thread p e u = if mask.getLsbD u then y u else s.thread p e u)
      ∧ (∀ a d n : Nat, engKey a d ≠ engKey p e → n < 8 → v.thread a d n = s.thread a d n) ∧ s.ThreadsOnly v := by
  obtain ⟨hv, hself, hothers⟩ := foldl_threads (f := f) (c := mask.getLsbD) (List.range 8) s List.nodup_range rfl (fun _ _ => rfl)
    fun v t ht => hf v t (List.mem_range.mp ht)
  refine ⟨fun u => (hself u).trans ?_, fun a d n hne hn => hothers a d n fun t ht hkey => ?_, hv⟩
  · simp [List.mem_range, u.isLt]
  · exact hne (engKey_of_thrKey hn (List.mem_range.mp ht) hkey)

/-! ### HALT (R138) -/

theorem does_halt {p : Fin 17} {e : Fin 35} {mask : BitVec 8} {s : State} (hiso : s.engIso p e = true)
    (hready : ∀ u : Fin 8, mask.getLsbD u = true → (s.thread p e u).st = .ready) :
    Does (.halt p e mask) s (fun t =>
      (∀ u : Fin 8, t.thread p e u = if mask.getLsbD u then { s.thread p e u with st := .halted, prior := .ready, stepping := false } else s.thread p e u)
      ∧ (∀ a d v : Nat, engKey a d ≠ engKey p e → v < 8 → t.thread a d v = s.thread a d v)
      ∧ t = { s with eng := { s.eng with thr := t.eng.thr } }) := by
  refine ⟨_, rfl, threads_of_forThreads (s := s) (p := p) (e := e) (mask := mask)
    (y := fun u => { s.thread p e u with st := .halted, prior := .ready, stepping := false }) fun v t ht hmask hv hthread => ?_⟩
  have hst := hready ⟨t, ht⟩ hmask
  dsimp only at hst ⊢
  rw [hthread, hst, hiso]
  refine (if_pos rfl).trans (State.setThread_of_not_blocked v ?_)
  rw [hthread, hst]
  decide

/-! ### RESUME (R140) -/

namespace Machine

/-- A thread that was halted when READY, and for which nothing came meanwhile, is READY again. -/
theorem State.unhalt_of_idle {s : State} {p e t : Nat} (hprior : (s.thread p e t).prior = .ready) (hheld : (s.thread p e t).held = [])
    (hwait : (s.thread p e t).wait = .none) : s.unhalt p e t = s.setThread p e t { s.thread p e t with st := .ready } := by
  unfold State.unhalt
  dsimp only
  rw [hheld, hwait, hprior, List.find?_nil]
  rfl

/-- Of two replacements of a thread that is not blocked the second stays. -/
theorem State.setThread_setThread {s : State} {p e t : Nat} {x y : Thr} (hs : (s.thread p e t).st ≠ .blockedInt) (hx : x.st ≠ .blockedInt) :
    (s.setThread p e t x).setThread p e t y = s.setThread p e t y := by
  have hself := s.thread_setThread_self p e t x
  rw [State.setThread_of_not_blocked _ (by rw [hself]; exact hx), State.setThread_of_not_blocked s hs, State.setThread_of_not_blocked s hs]
  simp only [Tab.set_set]

end Machine

theorem does_resume {p : Fin 17} {e : Fin 35} {mask : BitVec 8} {s : State}
    (hhalted : ∀ u : Fin 8, mask.getLsbD u = true → (s.thread p e u).st = .haltedDl
      ∨ ((s.thread p e u).st = .halted ∧ (s.thread p e u).prior = .ready ∧ (s.thread p e u).held = [] ∧ (s.thread p e u).wait = .none)) :
    Does (.resume p e mask) s (fun t =>
      (∀ u : Fin 8, t.thread p e u = if mask.getLsbD u then
          (if (s.thread p e u).st = .haltedDl then {} else { s.thread p e u with st := .ready }) else s.thread p e u)
      ∧ (∀ a d v : Nat, engKey a d ≠ engKey p e → v < 8 → t.thread a d v = s.thread a d v)
      ∧ t = { s with eng := { s.eng with thr := t.eng.thr } }) := by
  refine ⟨_, rfl, threads_of_forThreads (s := s) (p := p) (e := e) (mask := mask)
    (y := fun u => if (s.thread p e u).st = .haltedDl then {} else { s.thread p e u with st := .ready }) fun v t ht hmask hv hthread => ?_⟩
  obtain hdl | ⟨hst, hprior, hheld, hwait⟩ := hhalted ⟨t, ht⟩ hmask
  · dsimp only at hdl ⊢
    rw [hthread, hdl, if_pos rfl]
    exact State.setThread_of_not_blocked v (by rw [hthread, hdl]; decide)
  · dsimp only at hst hprior hheld hwait ⊢
    rw [hthread, hst, if_neg (by decide)]
    dsimp only
    rw [State.unhalt_of_idle (by rw [hthread, hprior]) (by rw [hthread, hheld]) (by rw [hthread, hwait]),
      State.setThread_of_not_blocked v (by rw [hthread, hst]; decide), hthread]
    rfl

/-! ### STEP (R140) -/

theorem IssueFrame.trans {s u v : State} {t : Tid} (h : IssueFrame s u t) (h' : IssueFrame u v t) : IssueFrame s v t := by
  obtain ⟨hreg, hthread, hline, htbl, hcls, hlrn, hsq, hhbm, herr, hmss, hbeat, hticks, hpending⟩ := h
  obtain ⟨hreg', hthread', hline', htbl', hcls', hlrn', hsq', hhbm', herr', hmss', hbeat', hticks', hpending'⟩ := h'
  exact ⟨fun a ha => (hreg' a ha).trans (hreg a ha), fun p e n hne => (hthread' p e n hne).trans (hthread p e n hne), hline'.trans hline,
    htbl'.trans htbl, hcls'.trans hcls, hlrn'.trans hlrn, hsq'.trans hsq, hhbm'.trans hhbm, herr'.trans herr, hmss'.trans hmss,
    hbeat'.trans hbeat, hticks'.trans hticks, hpending'.trans hpending⟩

theorem IssueFrame.refl (s : State) (t : Tid) : IssueFrame s s t :=
  ⟨fun _ _ => rfl, fun _ _ _ _ => rfl, rfl, rfl, rfl, rfl, rfl, rfl, rfl, rfl, rfl, rfl, rfl⟩

theorem EngineMemSame.refl (s : State) : EngineMemSame s s := ⟨rfl, rfl, rfl, rfl, rfl⟩

theorem EngineMemSame.trans {s u v : State} (h : EngineMemSame s u) (h' : EngineMemSame u v) : EngineMemSame s v := by
  obtain ⟨hlm, hsreg, hchan, hslots, hcode⟩ := h
  obtain ⟨hlm', hsreg', hchan', hslots', hcode'⟩ := h'
  exact ⟨hlm'.trans hlm, hsreg'.trans hsreg, hchan'.trans hchan, hslots'.trans hslots, hcode'.trans hcode⟩

/-- A mask with one bit names that thread alone. -/
theorem forThreads_single (s : State) (u : Fin 8) (f : State → Nat → State) : s.forThreads (BitVec.ofNat 8 (2 ^ u.val)) f = f s u := by
  fin_cases u <;> rfl

theorem does_step {p : Fin 17} {e : Fin 35} {u : Fin 8} {s : State} (hst : (thr s ⟨p, e, u⟩).st = .halted) (hprior : (thr s ⟨p, e, u⟩).prior = .ready)
    (hheld : (thr s ⟨p, e, u⟩).held = []) (hwait : (thr s ⟨p, e, u⟩).wait = .none) (hreqs : (thr s ⟨p, e, u⟩).reqs = [])
    (hready : (thr s ⟨p, e, u⟩).gReady = []) (hpc : (thr s ⟨p, e, u⟩).pc.toNat ≠ 32767)
    (hissues : (s.setThread p e u { thr s ⟨p, e, u⟩ with st := .ready, stepping := true }).issues p e u = true)
    (hnop : s.bundle p (thr s ⟨p, e, u⟩).cbank (thr s ⟨p, e, u⟩).pc = 0) :
    Does (.step p e (BitVec.ofNat 8 (2 ^ u.val))) s (fun t =>
      (thr t ⟨p, e, u⟩).st = .halted ∧ (thr t ⟨p, e, u⟩).prior = .ready ∧ (thr t ⟨p, e, u⟩).pc = (thr s ⟨p, e, u⟩).pc + 1
      ∧ (thr t ⟨p, e, u⟩).g = (thr s ⟨p, e, u⟩).g ∧ (thr t ⟨p, e, u⟩).p = (thr s ⟨p, e, u⟩).p ∧ EngineMemSame s t ∧ IssueFrame s t ⟨p, e, u⟩) := by
  have hself : (s.setThread p e u { thr s ⟨p, e, u⟩ with st := .ready, stepping := true }).thread p e u
    = { thr s ⟨p, e, u⟩ with st := .ready, stepping := true } := State.thread_setThread_self ..
  have hbundle : (s.setThread p e u { thr s ⟨p, e, u⟩ with st := .ready, stepping := true }).bundle p (thr s ⟨p, e, u⟩).cbank (thr s ⟨p, e, u⟩).pc = 0 :=
    (setThread_part (State.bundle · p (thr s ⟨p, e, u⟩).cbank (thr s ⟨p, e, u⟩).pc) (fun _ _ _ => rfl) ..).trans hnop
  have hback : (s.unhalt p e u).modThread p e u (fun y => if y.st = .ready || y.blocked then { y with stepping := true } else y)
      = s.setThread p e u { thr s ⟨p, e, u⟩ with st := .ready, stepping := true } := by
    rw [State.unhalt_of_idle hprior hheld hwait, State.modThread, State.thread_setThread_self]
    exact State.setThread_setThread (by rw [show (s.thread p e u).st = .halted from hst]; decide) (by simp)
  have hframe := (IssueFrame.refl s ⟨p, e, u⟩).setThread { thr s ⟨p, e, u⟩ with st := .ready, stepping := true }
  have hmem := (EngineMemSame.refl s).setThread p e u { thr s ⟨p, e, u⟩ with st := .ready, stepping := true }
  have hrun : exec (.step p e (BitVec.ofNat 8 (2 ^ u.val))) s
      = .next ((s.setThread p e u { thr s ⟨p, e, u⟩ with st := .ready, stepping := true }).issue p e u 0) := by
    change execStep p e _ s = _
    unfold execStep
    rw [forThreads_single, show (s.thread p e u).st = .halted from hst]
    dsimp only
    rw [State.stepThread, hback, hissues, if_pos rfl, hself, State.nextBundle, hbundle]
  dsimp only at hframe
  generalize s.setThread p e u { thr s ⟨p, e, u⟩ with st := .ready, stepping := true } = w at hself hframe hmem hrun
  obtain ⟨v, hv, hissue⟩ := State.issue_zero (s := w) (p := p) (e := e) (t := u) (by rw [hself]; simp) (by rw [hself]; exact hreqs)
    (by rw [hself]; exact hready) (by rw [hself]; exact hpc)
  have hstepped : w.issue p e u 0 = (v.goTo p e u ((thr s ⟨p, e, u⟩).pc + 1)).modThread p e u Thr.stepped := by
    rw [hissue, hself]
    rfl
  have hthr : thr ((v.goTo p e u ((thr s ⟨p, e, u⟩).pc + 1)).modThread p e u Thr.stepped) ⟨p, e, u⟩
      = Thr.stepped { ({ thr s ⟨p, e, u⟩ with st := .ready, stepping := true } : Thr).issuing w.bus.ticks with
          pc := (thr s ⟨p, e, u⟩).pc + 1, nextTick := v.bus.ticks + 1 } := by
    refine (thr_modThread (v.goTo p e u _) ⟨p, e, u⟩ Thr.stepped).trans (congrArg Thr.stepped ((thr_goTo v ⟨p, e, u⟩ _).trans ?_))
    rw [thr_of_begins (t := ⟨p, e, u⟩) hv, thr, hself]
  refine ⟨_, hrun.trans (congrArg _ hstepped), ?_, ?_, ?_, ?_, ?_, hmem.trans (((engineMemSame_of_begins (t := ⟨p, e, u⟩) hv).goTo ..).modThread ..),
    hframe.trans (((issueFrame_of_begins (t := ⟨p, e, u⟩) hv).goTo _).modThread _)⟩
  all_goals
    rw [hthr]
    rfl

end Sys2Proof
end

section
/-! SUPPORT. Remaps of engines and the self-test; the statement O25. -/

open Sys2Proof Sys2Proof.Machine
namespace Sys2Proof
namespace Machine

/-! ### ENGINE_REMAP (R148) -/

theorem engMapReg_range (p k : Nat) : 0x3000000 ≤ engMapReg p k := by
  unfold engMapReg aveWin
  omega

theorem dbgCtl_range (p e : Nat) : 0x3000000 ≤ dbgCtl p e := by
  unfold dbgCtl
  omega

theorem engMapReg_ne_dbgCtl (p k q e : Nat) (hk : k < 32) (he : e < 35) : engMapReg p k ≠ dbgCtl q e := by
  unfold engMapReg dbgCtl aveWin
  omega

theorem State.holdOld_part {γ : Type} (q : State → γ) (hq : ∀ (s : State) x, q { s with bus := { s.bus with late := x } } = q s) (s : State) (a : Nat) :
    q (s.holdOld a) = q s := by
  unfold State.holdOld
  split
  · rfl
  · exact hq s _

theorem State.TraceSame.dropTrace {s t : State} (h : s.TraceSame t) {l k : Nat} (hl : l < 16) (hk : k < 2) : s.TraceSame (t.dropTrace l k) := by
  unfold State.dropTrace
  split
  · exact (h.endTrace hl hk 3).setTrace hl hk []
  · exact h

theorem State.setFld_part {γ : Type} (q : State → γ) (hq : ∀ (s : State) x, q { s with bus := { s.bus with regs := x } } = q s) (s : State) (a hi lo v : Nat) :
    q (s.setFld a hi lo v) = q s := hq s _

theorem State.setFlag_part {γ : Type} (q : State → γ) (hq : ∀ (s : State) x, q { s with bus := { s.bus with regs := x } } = q s) (s : State) (a i : Nat)
    (b : Bool) : q (s.setFlag a i b) = q s := hq s _

theorem State.clearEngine_bus (s : State) (p e : Nat) : (s.clearEngine p e).bus = s.bus := rfl
theorem State.clearEngine_thr (s : State) (p e : Nat) : (s.clearEngine p e).eng.thr = s.eng.thr := rfl
theorem State.clearEngine_code (s : State) (p e : Nat) : (s.clearEngine p e).eng.code = s.eng.code := rfl
theorem State.clearEngine_line (s : State) (p e : Nat) : (s.clearEngine p e).line = s.line := rfl
theorem State.clearEngine_pending (s : State) (p e : Nat) : (s.clearEngine p e).pending = s.pending := rfl

theorem State.regLate_clearEngine (s : State) (p e a : Nat) : (s.clearEngine p e).regLate a = s.regLate a := by
  rw [State.regLate, State.reg, State.clearEngine_bus, State.regLate, State.reg]

theorem State.reg_clearEngine (s : State) (p e a : Nat) : (s.clearEngine p e).reg a = s.reg a := by
  rw [State.reg, State.clearEngine_bus, State.reg]

/-- Two registers written after their values are held read in this clock as they did. -/
theorem State.regLate_write_held (s : State) {a b : Nat} (hne : a ≠ b) (v w x : Nat) :
    ((((s.holdOld a).holdOld b).setReg a v).setReg b w).regLate x = s.regLate x := by
  obtain ⟨y, ha, -⟩ := s.late_holdOld_self a
  obtain ⟨z, hb, -⟩ := (s.holdOld a).late_holdOld_self b
  rw [← State.late_holdOld_ne (s.holdOld a) hne] at ha
  rw [State.regLate_setReg_of_held (x := z) (by rw [State.setReg_bus_late]; exact hb), State.regLate_setReg_of_held ha, State.regLate_holdOld,
    State.regLate_holdOld]

/-- s with two registers held and written: the map of logical engine k, and the isolation of the engine that it named. -/
def State.remapped (s : State) (p k phys old : Nat) : State :=
  (((s.holdOld (engMapReg p k)).holdOld (dbgCtl p old)).setFld (engMapReg p k) 5 0 phys).setFlag (dbgCtl p old) 24 false

theorem State.remapped_part {γ : Type} (q : State → γ) (hr : ∀ (s : State) x, q { s with bus := { s.bus with regs := x } } = q s)
    (hl : ∀ (s : State) x, q { s with bus := { s.bus with late := x } } = q s) (s : State) (p k phys old : Nat) : q (s.remapped p k phys old) = q s := by
  rw [State.remapped, State.setFlag_part q hr, State.setFld_part q hr, State.holdOld_part q hl, State.holdOld_part q hl]

section
variable (s : State) {p k phys old : Nat} (hk : k < 32) (hold : old < 35)
include hk hold

theorem State.regLate_remapped (b : Nat) : (s.remapped p k phys old).regLate b = s.regLate b := by
  unfold State.remapped State.setFlag State.setFld
  exact s.regLate_write_held (engMapReg_ne_dbgCtl p k p old hk hold) _ _ b

theorem State.fld_remapped_map (hphys : phys < 64) : (s.remapped p k phys old).fld (engMapReg p k) 5 0 = phys := by
  have hne := engMapReg_ne_dbgCtl p k p old hk hold
  rw [State.remapped, State.fld_setFlag_ne _ _ _ _ _ hne, State.fld_setFld_self _ _ _ (by decide)]
  exact Nat.mod_eq_of_lt hphys

omit hk hold in
theorem State.flag_remapped_iso : (s.remapped p k phys old).flag (dbgCtl p old) 24 = false := State.flag_setFlag_self _ _ false (by decide)

end

theorem State.regLate_of_nothing_held {s : State} (h : s.bus.late = []) (a : Nat) : s.regLate a = s.reg a := by
  rw [State.regLate, h, Tab.get_nil]

/-- An accepted remap, up to the traces of a traced engine. -/
theorem State.remapEngine_of_accepted {s : State} {p k phys : Nat} (hruns : s.scrState (aveWin p) = 2) (hspare : s.engSpare p phys = true)
    (hiso : s.engIso p (s.engMap p k) = true) (hfree : (s.freeThreads p (s.engMap p k)).length = 8) :
    ((s.remapped p k phys (s.engMap p k)).clearEngine p phys).TraceSame (s.remapEngine p k phys) := by
  have hlogical : ((s.remapped p k phys (s.engMap p k)).clearEngine p phys).aveLogical p < 16 := State.aveLogical_lt ..
  have hremap : s.remapEngine p k phys = if k < 2 then ((s.remapped p k phys (s.engMap p k)).clearEngine p phys).dropTrace
      (((s.remapped p k phys (s.engMap p k)).clearEngine p phys).aveLogical p) k
    else (s.remapped p k phys (s.engMap p k)).clearEngine p phys := by
    unfold State.remapEngine State.remapped
    dsimp only
    rw [hruns, hspare, hiso, hfree]
    exact if_pos rfl
  rw [hremap]
  split
  next hk => exact (State.TraceSame.refl _).dropTrace hlogical hk
  · exact State.TraceSame.refl _

end Machine

theorem does_engineRemap {p : Fin 17} {k : Fin 32} {phys : BitVec 6} {s : State} (hruns : s.scrState (aveWin p) = 2)
    (hspare : s.engSpare p phys.toNat = true) (hiso : s.engIso p (s.engMap p k) = true) (hold : s.engMap p k < 35)
    (hfree : (s.freeThreads p (s.engMap p k)).length = 8) :
    Does (.engineRemap p k phys) s (fun t => t.engMap p k = s.engMap p k
      ∧ (let u : State := { t with bus := { t.bus with late := [] } }; u.engMap p k = phys.toNat ∧ u.engIso p (s.engMap p k) = false)
      ∧ (∀ j : Fin 32, j ≠ k → t.engMap p j = s.engMap p j) ∧ t.eng.thr = s.eng.thr ∧ t.eng.code = s.eng.code ∧ t.line = s.line ∧ t.pending = s.pending) := by
  have htrace := State.remapEngine_of_accepted hruns hspare hiso hfree
  refine ⟨_, rfl, ?_⟩
  generalize s.remapEngine p k phys.toNat = t at htrace
  have hmapped (j : Nat) : t.engMap p j = s.engMap p j := by
    have hrange := engMapReg_range p j
    rw [State.engMap, htrace.busSame.regLate (by omega), State.regLate_clearEngine, s.regLate_remapped k.isLt hold, State.engMap]
  refine ⟨hmapped k, ⟨?_, ?_⟩, fun j _ => hmapped j, ?_, ?_, ?_, ?_⟩
  · have hrange := engMapReg_range p k
    have hreg : t.reg (engMapReg p k) = (s.remapped p k phys.toNat (s.engMap p k)).reg (engMapReg p k) := by
      rw [htrace.reg _ (by omega), State.reg_clearEngine]
    rw [State.engMap, State.regLate_of_nothing_held rfl]
    exact (congrArg (bits · 5 0) hreg).trans (s.fld_remapped_map k.isLt hold phys.isLt)
  · have hrange := dbgCtl_range p (s.engMap p k)
    have hreg : t.reg (dbgCtl p (s.engMap p k)) = (s.remapped p k phys.toNat (s.engMap p k)).reg (dbgCtl p (s.engMap p k)) := by
      rw [htrace.reg _ (by omega), State.reg_clearEngine]
    rw [State.engIso, State.regLate_of_nothing_held rfl]
    exact (congrArg (bitOf · 24) hreg).trans s.flag_remapped_iso
  · rw [htrace.eng, State.clearEngine_thr, State.remapped_part (·.eng.thr) (fun _ _ => rfl) fun _ _ => rfl]
  · rw [htrace.eng, State.clearEngine_code, State.remapped_part (·.eng.code) (fun _ _ => rfl) fun _ _ => rfl]
  · rw [htrace.part (·.line) fun _ _ => rfl, State.clearEngine_line, State.remapped_part (·.line) (fun _ _ => rfl) fun _ _ => rfl]
  · rw [htrace.part (·.pending) fun _ _ => rfl, State.clearEngine_pending, State.remapped_part (·.pending) (fun _ _ => rfl) fun _ _ => rfl]

/-! ### BIST_FAIL (R155) -/

namespace Machine

/-- The report of a failed self-test: a report of class 2 that isolates no engine (R518, R521). -/
theorem State.report_bist (s : State) (n detail : Nat) : s.report 0x30 0x05 2 n detail
    = (((s.bumpReg 0x400018 1).raise 0x400024 16).raise 0x400008 2).errQueue { unit := 0x30, code := 0x05, cls := 2, inst := n, detail } := by
  simp [State.report, State.errEnter]

theorem State.reg_report_bist (s : State) (n detail : Nat) {a : Nat} (ha : a ∉ reportRegs) : (s.report 0x30 0x05 2 n detail).reg a = s.reg a := by
  simp only [reportRegs, List.mem_cons, List.not_mem_nil, or_false, not_or] at ha
  obtain ⟨h0, hc, -, -, -, -, -, hf, -⟩ := ha
  rw [s.report_bist, State.reg_errQueue_ne _ _ h0, State.raise, State.reg_setFlag_ne _ _ _ hc, State.raise, State.reg_setFlag_ne _ _ _ hf]
  rfl

/-- What a report below class 3 that isolates no engine leaves. -/
theorem State.errQueue_frame (s : State) (a n b i c j : Nat) (r : ErrReport) : (((s.bumpReg a n).raise b i).raise c j).errQueue r
    = withReportOf s ((((s.bumpReg a n).raise b i).raise c j).errQueue r) := by
  unfold State.errQueue
  split <;> rfl

theorem State.report_bist_frame (s : State) (n detail : Nat) : s.report 0x30 0x05 2 n detail = withReportOf s (s.report 0x30 0x05 2 n detail) := by
  rw [s.report_bist]
  exact State.errQueue_frame ..

theorem aveStat_range (p : Nat) : 0x3000000 ≤ aveStat p := by
  unfold aveStat
  omega

theorem aveStat_notMem_reportRegs (p : Nat) : aveStat p ∉ reportRegs := by
  have hrange := aveStat_range p
  simp only [reportRegs, List.mem_cons, List.not_mem_nil, or_false, not_or]
  omega

end Machine

/-- A report after a register's change leaves what both leave. -/
theorem frame_of_report {s u t : State} (hu : u = withRegsOf s u) (ht : t = withReportOf u t) : t = withReportOf s t := by
  rw [hu] at ht
  exact ht

theorem does_bistFail {p : Fin 17} {e : Fin 35} {s : State} (hbist : s.bistRuns p = true) :
    Does (.bistFail p e) s (fun t => t.engRetired p e = true ∧ t.flag (aveStat p) 7 = true ∧ RegsSame s t (aveStat p :: reportRegs)
      ∧ t = { withReportOf s t with eng := { s.eng with retired := t.eng.retired } }) := by
  have hframe := (s.raise (aveStat p) 7).report_bist_frame (p * 64 + e) 0
  have hreg (a : Nat) (ha : a ∉ reportRegs) := (s.raise (aveStat p) 7).reg_report_bist (p * 64 + e) 0 ha
  have hflag : (s.raise (aveStat p) 7).flag (aveStat p) 7 = true := State.flag_raise_self _ _ (by decide)
  have hsame (a : Nat) (ha : a ≠ aveStat p) : (s.raise (aveStat p) 7).reg a = s.reg a := State.reg_setFlag_ne _ 7 true ha
  have hraise : s.raise (aveStat p) 7 = withRegsOf s (s.raise (aveStat p) 7) := State.setFlag_eq ..
  have hrun : exec (.bistFail p e) s = .next { (s.raise (aveStat p) 7).report 0x30 0x05 2 (p * 64 + e) 0 with
      eng := { ((s.raise (aveStat p) 7).report 0x30 0x05 2 (p * 64 + e) 0).eng with
        retired := Tab.set false ((s.raise (aveStat p) 7).report 0x30 0x05 2 (p * 64 + e) 0).eng.retired (engKey p e) true } } := if_pos hbist
  generalize s.raise (aveStat p) 7 = u at hframe hreg hflag hsame hraise hrun
  generalize u.report 0x30 0x05 2 (p * 64 + e) 0 = t at hframe hreg hrun
  have hreported := frame_of_report hraise hframe
  refine ⟨_, hrun, Tab.get_set_self false t.eng.retired _ true, ?_, fun a ha _ => ?_, ?_⟩
  · exact (congrArg (bitOf · 7) (hreg _ (aveStat_notMem_reportRegs p))).trans hflag
  · rw [List.mem_cons, not_or] at ha
    exact (hreg a ha.2).trans (hsame a ha.1)
  · exact congrArg (fun v : State => { v with eng := { v.eng with retired := Tab.set false t.eng.retired (engKey p e) true } }) hreported

end Sys2Proof

/-- Settles O25: the commands that name threads by a mask act on each in turn, and what is written of an engine is held to the end of the clock. -/
theorem engineEventsAndDebug : Obligations.EngineEventsAndDebug := by
  unfold Obligations.EngineEventsAndDebug
  exact ⟨fun p e ch u s => does_channelCommit, fun p e s => does_allThreadsBlocked, does_iso_on, does_iso_refused, does_iso_off,
    fun p e mask s => does_halt, fun p e mask s => does_resume, fun p e u s => does_step, fun p k phys s => does_engineRemap, fun p e s => does_bistFail⟩

end

section
/-! SUPPORT. Responses to a thread's requests, and the entry of turns into their queues; the statement O36. -/

open Sys2Proof Sys2Proof.Machine
namespace Sys2Proof
namespace Machine

/-! ### The entry of a turn (R188, R191, R229) -/

/-- Of turns the oldest is the one that is older than those before it and no younger than those after it. -/
theorem oldestTurn_of_split {f : Turn → Nat} {pre post : List TurnRef} {r : TurnRef} (hpre : ∀ x ∈ pre, f r.turn < f x.turn)
    (hpost : ∀ x ∈ post, f r.turn ≤ f x.turn) : oldestTurn f (pre ++ r :: post) = some r := by
  have hfirst : ∀ y, oldestTurn f pre = some y → f r.turn < f y.turn := fun y hy => hpre y (oldestTurn_mem hy)
  unfold oldestTurn at hfirst ⊢
  rw [List.foldl_append, List.foldl_cons]
  refine foldl_keeps_of_mem (fun o => o = some r) _ post _ (fun o x hx ho => ?_) ?_
  · rw [ho]
    exact if_neg (by have := hpost x hx; omega)
  · generalize List.foldl _ none pre = o at hfirst
    cases o with
    | none => rfl
    | some y => exact if_pos (hfirst y rfl)

/-- The oldest turn that waits enters its queue, and nothing else changes. -/
theorem State.turnEnters_enterOne {s : State} {who : Nat → Bool} {bank : Nat} {r : TurnRef} {q : Req} (h : NextToEnter s who bank r q) :
    TurnEnters s (s.enterOne who bank) r q := by
  obtain ⟨hroom, hreq, pre, post, hwaiting, hpre, hpost⟩ := h
  have henters : s.enterOne who bank = { s with eng := { s.eng with thr := Tab.set {} s.eng.thr r.key { Tab.get {} s.eng.thr r.key with
      reqs := setAt (Tab.get {} s.eng.thr r.key).reqs r.req { q with turns := setAt q.turns r.ix { r.turn with inAt := some s.bus.ticks } } } } } := by
    unfold State.enterOne
    rw [if_neg (by omega), hwaiting, oldestTurn_of_split hpre hpost]
    dsimp only
    unfold State.putTurn State.modReq
    dsimp only
    rw [hreq]
  rw [henters]
  exact ⟨Tab.get_set_self ({} : Thr) s.eng.thr _ _, fun j hj => Tab.get_set_ne ({} : Thr) s.eng.thr _ hj, rfl⟩

/-! ### A response reaches its thread (R163, R172) -/

/-- s with what a response touches of t: the trace, the counters, the threads and the slots. -/
def State.withAnswer (s t : State) : State :=
  { s with bus := { s.bus with regs := t.bus.regs }, pmu := t.pmu, eng := { s.eng with thr := t.eng.thr, slots := t.eng.slots } }

/-- In t a response to a thread of s has made it y; a response that is no probe's leaves the slots. -/
structure State.Answers (s t : State) (p e n : Nat) (y : Thr) (probe : Bool) : Prop where
  frame : t = s.withAnswer t
  reg : ∀ a, a < 0x502000 ∨ 0x502800 ≤ a → t.reg a = s.reg a
  thr : t.eng.thr = Tab.set {} s.eng.thr (thrKey p e n) y
  slots : probe = false → t.eng.slots = s.eng.slots

theorem State.Answers.part {γ : Type} (q : State → γ) (hq : ∀ s t : State, q (s.withAnswer t) = q s) {s t : State} {p e n : Nat} {y : Thr} {probe : Bool}
    (h : s.Answers t p e n y probe) : q t = q s := by
  rw [h.frame]
  exact hq s t

/-- s with other slots and counters. -/
def State.withCand (s : State) (slots : Tab (Option Slot)) (pmu : PmuState) : State := { s with pmu := pmu, eng := { s.eng with slots := slots } }

theorem State.formCand_eq (s : State) (p e t : Nat) (q : Req) (w : Nat) : ∃ slots pmu,
    s.formCand p e t q w = s.withCand slots pmu ∧ (q.probe = false → slots = s.eng.slots) := by
  unfold State.formCand
  dsimp only
  split
  · split
    next hprobe =>
      refine ⟨_, _, rfl, fun hnot => ?_⟩
      simp [hnot] at hprobe
    · exact ⟨s.eng.slots, s.pmu, rfl, fun _ => rfl⟩
  · exact ⟨s.eng.slots, s.pmu, rfl, fun _ => rfl⟩

/-- A thread that waits for the registers of requests, or for all, while it has none, becomes READY. -/
theorem Thr.wake_of_nothing_outstanding {x : Thr} (now : Nat) (hreqs : x.reqs = []) (hwait : x.wait = .all ∨ waitsForRegs x.wait = true) :
    x.wake now = x.ready now := by
  have hawaited : x.awaited = [] := by simp [Thr.awaited, hreqs]
  unfold Thr.wake
  split
  next rs _ => exact if_neg (by simp [hawaited])
  next => exact if_pos hreqs
  next hninth => simp [hninth, waitsForRegs] at hwait
  next hreg hall _ =>
    obtain hwait | hwait := hwait
    · exact absurd hwait hall
    · unfold waitsForRegs at hwait
      split at hwait
      next rs hrs => exact absurd hrs (hreg rs)
      · cases hwait

/-- The thread that a response leaves: READY when it waited. -/
def Thr.answered (x y : Thr) (now : Nat) : Thr := if x.st = .ready then y else y.ready now

theorem State.putThread_putThread (s : State) (p e t : Nat) (x y : Thr) : (s.putThread p e t x).putThread p e t y = s.putThread p e t y := by
  simp only [State.putThread, Tab.set_set]

theorem State.modThread_putThread (s : State) {p e t : Nat} {x : Thr} (hx : x.st ≠ .blockedInt) (f : Thr → Thr) :
    (s.putThread p e t x).modThread p e t f = s.putThread p e t (f x) := by
  have hself : (s.putThread p e t x).thread p e t = x := by rw [State.thread_putThread, if_pos rfl]
  rw [State.modThread, hself, State.setThread_of_not_blocked _ (by rw [hself]; exact hx)]
  exact s.putThread_putThread p e t x _

/-- What a thread is that a response finds READY, or waiting for the registers of its only request or for all requests. -/
def Thr.awaits (x : Thr) : Prop := x.st = .ready ∨ (x.st = .blockedExt ∧ x.reqs.length = 1 ∧ (x.wait = .all ∨ waitsForRegs x.wait = true))

theorem Thr.awaits_st {x : Thr} (h : x.awaits) : x.st ≠ .blockedInt ∧ x.st ≠ .halted := by
  obtain hst | ⟨hst, -⟩ := h
  all_goals simp [hst]

theorem dropAt_of_length_one {α : Type} {l : List α} {i : Nat} {q : α} (h : l.length = 1) (hq : l[i]? = some q) : dropAt l i = [] := by
  obtain ⟨a, rfl⟩ := List.length_eq_one_iff.mp h
  obtain ⟨hlt, -⟩ := List.getElem?_eq_some_iff.mp hq
  obtain rfl : i = 0 := Nat.lt_one_iff.mp hlt
  rfl

/-- A thread whose answered request is off, and whose registers hold the words, is woken when it waited. -/
theorem State.woken_putThread (w : State) (p e t : Nat) {x y : Thr} {i : Nat} {q : Req} (h : x.awaits) (hq : x.reqs[i]? = some q)
    (hst : y.st = x.st) (hreqs : y.reqs = dropAt x.reqs i) (hwait : y.wait = x.wait) :
    (w.putThread p e t y).woken p e t = w.putThread p e t (x.answered y w.bus.ticks) := by
  have hself : (w.putThread p e t y).thread p e t = y := by rw [State.thread_putThread, if_pos rfl]
  unfold State.woken Thr.answered
  dsimp only
  rw [hself, hst]
  obtain hready | ⟨hblocked, hone, hwaits⟩ := h
  · rw [hready, if_pos rfl, if_pos (by decide)]
  · have hwake : y.wake w.bus.ticks = y.ready w.bus.ticks :=
      Thr.wake_of_nothing_outstanding _ (hreqs.trans (dropAt_of_length_one hone hq)) (hwait ▸ hwaits)
    have hset : (w.putThread p e t y).setThread p e t (y.ready w.bus.ticks) = w.putThread p e t (y.ready w.bus.ticks) := by
      rw [State.setThread_of_not_blocked _ (by rw [hself, hst, hblocked]; decide)]
      exact w.putThread_putThread p e t y _
    rw [hblocked, if_neg (by decide), if_neg (by decide), hwait]
    have hticks : (w.putThread p e t y).bus.ticks = w.bus.ticks := rfl
    rw [hticks, hwake, hset]
    split
    next hninth => simp [hninth, waitsForRegs] at hwaits
    · rfl

/-- s with other slots and counters, and one thread replaced. -/
def State.answered (s : State) (slots : Tab (Option Slot)) (pmu : PmuState) (p e n : Nat) (y : Thr) : State :=
  { s with pmu := pmu, eng := { s.eng with slots := slots, thr := Tab.set {} s.eng.thr (thrKey p e n) y } }

theorem State.TraceSame.answers {s u : State} (h : s.TraceSame u) {slots : Tab (Option Slot)} (pmu : PmuState) (p e n : Nat) (y : Thr) {probe : Bool}
    (hslots : probe = false → slots = u.eng.slots) : s.Answers (u.answered slots pmu p e n y) p e n y probe where
  frame := congrArg (fun v : State => { v with pmu := pmu, eng := { v.eng with slots := slots, thr := Tab.set {} u.eng.thr (thrKey p e n) y } }) h.frame
  reg := h.reg
  thr := congrArg (fun v : EngState => Tab.set ({} : Thr) v.thr (thrKey p e n) y) h.eng
  slots hprobe := (hslots hprobe).trans (congrArg EngState.slots h.eng)

/-- A response received by a thread that awaits it. -/
theorem State.receiveResp_of_awaits {u : State} {p e n i : Nat} {x : Thr} {q : Req} (words : List Dword) (hawaits : x.awaits) (hq : x.reqs[i]? = some q) :
    ∃ slots pmu, (u.putThread p e n { x with reqs := dropAt x.reqs i }).receiveResp p e n { q := q, words := words, err := none }
        = u.answered slots pmu p e n (x.answered (({ x with reqs := dropAt x.reqs i } : Thr).wrList u.bus.ticks q.rd words) u.bus.ticks)
      ∧ (q.probe = false → slots = u.eng.slots) := by
  obtain ⟨hint, -⟩ := Thr.awaits_st hawaits
  obtain ⟨slots, pmu, hcand, hslots⟩ := (u.putThread p e n { x with reqs := dropAt x.reqs i }).formCand_eq p e n q (words.headD 0).toNat
  refine ⟨slots, pmu, ?_, hslots⟩
  have hnoted : (u.putThread p e n { x with reqs := dropAt x.reqs i }).withCand slots pmu
      = (u.withCand slots pmu).putThread p e n { x with reqs := dropAt x.reqs i } := rfl
  have hwritten := (u.withCand slots pmu).modThread_putThread (p := p) (e := e) (t := n) (x := { x with reqs := dropAt x.reqs i }) hint
    (·.wrList u.bus.ticks q.rd words)
  have hwoken := (u.withCand slots pmu).woken_putThread p e n (y := ({ x with reqs := dropAt x.reqs i } : Thr).wrList u.bus.ticks q.rd words) hawaits hq
    (Thr.wrList_part (·.st) (fun _ _ _ => rfl) ..) (Thr.wrList_part (·.reqs) (fun _ _ _ => rfl) ..) (Thr.wrList_part (·.wait) (fun _ _ _ => rfl) ..)
  unfold State.receiveResp
  dsimp only
  rw [hcand, hnoted]
  exact (congrArg (State.woken · p e n) hwritten).trans hwoken

/-- A response without error to a thread that awaits it, in its window. -/
theorem State.answers_respond {s : State} {p e n i : Nat} {q : Req} (words : List Dword) (hwindow : s.inWindow p e (s.thread p e n) = true)
    (hawaits : (s.thread p e n).awaits) (hq : (s.thread p e n).reqs[i]? = some q) :
    s.Answers (s.respond p e n i words) p e n ((s.thread p e n).answered
      (({ s.thread p e n with reqs := dropAt (s.thread p e n).reqs i } : Thr).wrList s.bus.ticks q.rd words) s.bus.ticks) q.probe := by
  obtain ⟨hint, hhalted⟩ := Thr.awaits_st hawaits
  have htrace := (State.TraceSame.refl s).traceResp p e n q (words.headD 0)
  have hrespond : s.respond p e n i words = ((s.traceResp p e n q (words.headD 0)).setThread p e n
      { s.thread p e n with reqs := dropAt (s.thread p e n).reqs i }).receiveResp p e n { q := q, words := words, err := none } := by
    unfold State.respond State.respondWith
    dsimp only
    rw [hq]
    dsimp only
    rw [hwindow, if_neg (by decide), if_neg hhalted]
  rw [hrespond]
  generalize s.traceResp p e n q (words.headD 0) = u at htrace ⊢
  have hset : u.setThread p e n { s.thread p e n with reqs := dropAt (s.thread p e n).reqs i }
      = u.putThread p e n { s.thread p e n with reqs := dropAt (s.thread p e n).reqs i } :=
    State.setThread_of_not_blocked u (by rw [htrace.thread]; exact hint)
  obtain ⟨slots, pmu, hreceived, hslots⟩ := State.receiveResp_of_awaits (u := u) (p := p) (e := e) (n := n) words hawaits hq
  rw [hset, hreceived, htrace.ticks]
  exact htrace.answers pmu p e n _ hslots

end Machine
end Sys2Proof
end

section
/-! SUPPORT. The commands that answer requests; the statement O36. -/

open Sys2Proof Sys2Proof.Machine
namespace Sys2Proof

/-! ### What an answer is to the thread and leaves of the rest -/

section
variable {s t : State} {d : Tid} {k : Nat} {q : Req} {words : List Dword}
  (h : s.Answers t d.ave d.eng d.thr ((thr s d).answered (({ thr s d with reqs := dropAt (thr s d).reqs k } : Thr).wrList s.bus.ticks q.rd words) s.bus.ticks) q.probe)
include h

theorem responded_of_answers (hq : (thr s d).reqs[k]? = some q) : Responded s t d k words := by
  refine ⟨q, hq, ?_⟩
  rw [thr, State.thread, h.thr, Tab.get_set_self]
  rfl

theorem responseFrame_of_answers : ResponseFrame s t d := by
  refine ⟨h.reg, fun p e n hne => ?_, h.part (fun v => ResponseFrame.EngineMemSameButSlots s v) (fun _ _ => rfl) ▸ ⟨rfl, rfl, rfl, rfl⟩,
    h.part (·.line) fun _ _ => rfl, h.part (·.lrn) fun _ _ => rfl, h.part (·.sq) fun _ _ => rfl, h.part (·.sch) fun _ _ => rfl,
    h.part (·.hbm) fun _ _ => rfl, h.part (·.err) fun _ _ => rfl, h.part (·.mss) fun _ _ => rfl, h.part (·.hif) fun _ _ => rfl,
    h.part (·.bus.beat) fun _ _ => rfl, h.part (·.bus.ticks) fun _ _ => rfl, h.part (·.pending) fun _ _ => rfl⟩
  rw [State.thread, h.thr, Tab.get_set_ne _ _ _ hne, State.thread]

end

/-- The answer to a request of a thread that awaits it. -/
theorem answers_of_awaits {s : State} {d : Tid} {k : Nat} {q : Req} (words : List Dword) (hq : (thr s d).reqs[k]? = some q) (hawaits : Awaits s d) :
    s.Answers (s.respond d.ave d.eng d.thr k words) d.ave d.eng d.thr
      ((thr s d).answered (({ thr s d with reqs := dropAt (thr s d).reqs k } : Thr).wrList s.bus.ticks q.rd words) s.bus.ticks) q.probe :=
  State.answers_respond words hawaits.1 hawaits.2 hq

/-! ### LOOKUP_RESPONSE (R163, R172, R209) -/

namespace Machine

/-- s with a hit marked, and one value more drawn. -/
def State.withHit (s : State) (tbl : TblState) : State := { s with fresh := s.fresh + 1, tbl := tbl }

theorem State.hitLeaf_fresh (s : State) (v6 : Bool) (x : Prefix) : ({ s with fresh := s.fresh + 1 } : State).hitLeaf v6 x = s.withHit (s.hitLeaf v6 x).tbl := by
  unfold State.hitLeaf
  split <;> rfl

/-- The state of which a lookup's words are answered. -/
theorem State.hit_eq (s : State) (v6 : Bool) (leaf : Option Prefix) : (match leaf with
      | some x => ({ s with fresh := s.fresh + 1 } : State).hitLeaf v6 x
      | none => { s with fresh := s.fresh + 1 })
    = s.withHit (match leaf with
      | some x => s.hitLeaf v6 x
      | none => s).tbl := by
  cases leaf with
  | none => rfl
  | some x => exact s.hitLeaf_fresh v6 x

end Machine

section
variable {d : Tid} {k : Fin 8} {q : Req} {s : State} (hq : (thr s d).reqs[k.val]? = some q) (hawaits : Awaits s d)
include hq hawaits

theorem does_lookupResponse {adm : Nat} (hkind : q.kind = .lkp) (hadm : adm = s.admOf d.ave d.eng (thr s d)) (hruns : s.scrRunning .lkp = true)
    (hvalid : s.tdValid q.id = true) (hturns : q.turns ≠ []) (hserved : s.lookedUp q adm = true) :
    Does (.lookupResponse d k none) s (fun t => Responded s t d k (s.lookup q adm).words ∧ ResponseFrame s t d ∧ t.cls = s.cls
      ∧ t.tbl = (match (s.lookup q adm).leaf with
        | some x => s.hitLeaf (s.tdV6 q.id) x
        | none => s).tbl) := by
  have hrun : exec (.lookupResponse d k none) s = .next ((s.withHit (match (s.lookup q adm).leaf with
      | some x => s.hitLeaf (s.tdV6 q.id) x
      | none => s).tbl).respond d.ave d.eng d.thr k (s.lookup q adm).words) := by
    change execLookupResponse d k none s = _
    rw [← s.hit_eq (s.tdV6 q.id)]
    unfold execLookupResponse
    dsimp only
    rw [show (s.thread d.ave d.eng d.thr).reqs[k.val]? = some q from hq]
    dsimp only
    rw [hkind, if_neg (by decide), show s.admOf d.ave d.eng (s.thread d.ave d.eng d.thr) = adm from hadm.symm, hruns, hvalid,
      if_neg (by simp [hturns]), hserved, if_neg (by decide)]
    rfl
  generalize (match (s.lookup q adm).leaf with
      | some x => s.hitLeaf (s.tdV6 q.id) x
      | none => s).tbl = tbl at hrun ⊢
  have hanswers := answers_of_awaits (s := s.withHit tbl) (s.lookup q adm).words hq hawaits
  have hresponded := responded_of_answers (s := s.withHit tbl) hanswers hq
  have hframe := responseFrame_of_answers (s := s.withHit tbl) hanswers
  exact ⟨_, hrun, hresponded, hframe, hanswers.part (·.cls) fun _ _ => rfl, hanswers.part (·.tbl) fun _ _ => rfl⟩

/-! ### TCAM_SEARCH_RESPONSE (R227, R229) -/

omit hq hawaits in
/-- A search whose first match verifies, or that has none, is answered as it stands. -/
theorem verify_of_first {p tb : Nat} {found : List (Nat × Nat × Bool)} (hfirst : ∀ x ∈ found.head?, x.2.2 = false ∧ s.entryBad p tb x.1 = false) :
    s.verify p tb false false found = (s, found.head?.map fun x => (x.1, x.2.1), false) := by
  cases found with
  | nil => rfl
  | cons x rest =>
    obtain ⟨hright, hgood⟩ := hfirst x rfl
    obtain ⟨i, act, wrong⟩ := x
    dsimp only at hright hgood
    rw [State.verify, hright, hgood]
    rfl

theorem does_tcamSearchResponse {adm : Nat} (hkind : q.kind = .tcs) (hprobe : q.probe = false) (hadm : adm = s.admOf d.ave d.eng (thr s d))
    (hvalid : s.profValid adm q.id = true) (hturns : q.turns ≠ []) (hserved : q.turns.all (·.got.isSome) = true)
    (hfirst : ∀ x ∈ q.found.head?, x.2.2 = false ∧ s.entryBad d.ave (s.profTable adm q.id) x.1 = false) :
    Does (.tcamSearchResponse d k [] false) s (fun t =>
      Responded s t d k [BitVec.ofNat 64 (s.tcsWord adm q.id (q.found.head?.map fun x => (x.1, x.2.1)) false)]
      ∧ ResponseFrame s t d ∧ t.tbl = s.tbl ∧ t.cls = s.cls ∧ t.eng.slots = s.eng.slots) := by
  have hrun : exec (.tcamSearchResponse d k [] false) s = .next (s.respond d.ave d.eng d.thr k
      [BitVec.ofNat 64 (s.tcsWord adm q.id (q.found.head?.map fun x => (x.1, x.2.1)) false)]) := by
    change execTcamSearchResponse d k [] false s = _
    unfold execTcamSearchResponse
    dsimp only
    rw [show (s.thread d.ave d.eng d.thr).reqs[k.val]? = some q from hq]
    dsimp only
    rw [hkind, if_neg (by decide), show s.admOf d.ave d.eng (s.thread d.ave d.eng d.thr) = adm from hadm.symm, hvalid,
      if_neg (by simp [hturns]), hserved, if_neg (by decide), List.filter_nil, List.foldl_nil, verify_of_first hfirst]
  have hanswers := answers_of_awaits [BitVec.ofNat 64 (s.tcsWord adm q.id (q.found.head?.map fun x => (x.1, x.2.1)) false)] hq hawaits
  exact ⟨_, hrun, responded_of_answers hanswers hq, responseFrame_of_answers hanswers, hanswers.part (·.tbl) fun _ _ => rfl,
    hanswers.part (·.cls) fun _ _ => rfl, hanswers.slots hprobe⟩

/-! ### POLICER_RESPONSE (R191, R242) -/

/-- s with the slot of a policer's bank used, and its record replaced. -/
def Machine.State.policed (s : State) (x : Nat) (r : BitVec 128) : State :=
  { s.use (.policer (x % 16)) with cls := { s.cls with pol := Tab.set 0 s.cls.pol x r } }

omit hq hawaits in
theorem Machine.State.reg_use (k : Use) (a : Nat) : (s.use k).reg a = s.reg a := rfl
omit hq hawaits in
theorem Machine.State.policer_use (k : Use) (x : Nat) : (s.use k).policer x = s.policer x := rfl
omit hq hawaits in
theorem Machine.State.beatN_use (k : Use) : (s.use k).beatN = s.beatN := rfl

omit hq hawaits in
theorem Machine.State.polRun_of_update {x bytes inc c : Nat} {r : BitVec 128}
    (h : polUpdate (s.policer x) (s.reg (0x8040000 + polGet (s.policer x) 83 72 * 0x10)) (s.reg (0x8040000 + polGet (s.policer x) 83 72 * 0x10 + 4))
      (s.reg (0x8040000 + polGet (s.policer x) 83 72 * 0x10 + 8)) (s.reg (0x8040000 + polGet (s.policer x) 83 72 * 0x10 + 0xC)) (s.beatN % 2 ^ 32)
      bytes inc = (r, c)) : s.polRun x bytes inc = (s.setPolicer x r, c) := by
  unfold State.polRun
  dsimp only
  rw [h]

theorem does_policerResponse {x prof : Nat} (hkind : q.kind = .pol) (hprobe : q.probe = false) (hx : x = (q.key.headD 0).toNat % 2 ^ 20)
    (hturn : s.polTurn (x % 16) = some (thrKey d.ave d.eng d.thr, k.val)) (hprof : prof = 0x8040000 + polGet (s.policer x) 83 72 * 0x10)
    (hvalid : bitOf (s.policer x).toNat 84 = true) (hinject : s.flag 0x400090 30 = false) :
    Does (.policerResponse d k false) s (fun t => ∃ r c, (r, c) = polUpdate (s.policer x) (s.reg prof) (s.reg (prof + 4)) (s.reg (prof + 8))
        (s.reg (prof + 0xC)) (s.beatN % 2 ^ 32) (bits (q.key.headD 0).toNat 37 24) (bits (q.key.headD 0).toNat 21 20)
      ∧ t.policer x = r ∧ Responded s t d k [BitVec.ofNat 64 c] ∧ (∀ y, y ≠ x → t.policer y = s.policer y)
      ∧ ResponseFrame s t d ∧ t.tbl = s.tbl ∧ t.eng.slots = s.eng.slots) := by
  generalize hupdate : polUpdate (s.policer x) (s.reg prof) (s.reg (prof + 4)) (s.reg (prof + 8)) (s.reg (prof + 0xC)) (s.beatN % 2 ^ 32)
    (bits (q.key.headD 0).toNat 37 24) (bits (q.key.headD 0).toNat 21 20) = update
  obtain ⟨r, c⟩ := update
  have hran : (s.use (.policer (x % 16))).polRun x (bits (q.key.headD 0).toNat 37 24) (bits (q.key.headD 0).toNat 21 20) = (s.policed x r, c) := by
    have hkept : (s.policed x r).flag 0x400090 30 = false := hinject
    rw [State.polRun_of_update (r := r) (c := c)]
    · exact congrArg (·, c) (State.written'_of_no_injection hkept 2 (x % 16))
    · rw [State.policer_use, ← hprof, State.reg_use, State.reg_use, State.reg_use, State.reg_use, State.beatN_use]
      exact hupdate
  have hrun : exec (.policerResponse d k false) s = .next ((s.policed x r).respond d.ave d.eng d.thr k [BitVec.ofNat 64 c]) := by
    change execPolicerResponse d k false s = _
    unfold execPolicerResponse
    dsimp only
    rw [show (s.thread d.ave d.eng d.thr).reqs[k.val]? = some q from hq]
    dsimp only
    have hrecord : bitOf ((s.use (.policer (x % 16))).policer x).toNat 84 = true := hvalid
    rw [hkind, ← hx, hturn, if_neg (by simp), if_neg (by decide), hrecord, if_pos rfl, hran]
  have hanswers := answers_of_awaits (s := s.policed x r) [BitVec.ofNat 64 c] hq hawaits
  have hresponded := responded_of_answers (s := s.policed x r) hanswers hq
  have hframe := responseFrame_of_answers (s := s.policed x r) hanswers
  have hpolicer (y : Nat) : ((s.policed x r).respond d.ave d.eng d.thr k [BitVec.ofNat 64 c]).policer y = if y = x then r else s.policer y :=
    (hanswers.part (State.policer · y) fun _ _ => rfl).trans (Tab.get_set (0 : BitVec 128) s.cls.pol x y r)
  exact ⟨_, hrun, r, c, rfl, (hpolicer x).trans (if_pos rfl), hresponded, fun y hy => (hpolicer y).trans (if_neg hy), hframe,
    hanswers.part (·.tbl) fun _ _ => rfl, hanswers.slots hprobe⟩

end

end Sys2Proof

/-- Settles O36: a response leaves its thread as State.answers_respond says, and the oldest turn that waits enters as
State.turnEnters_enterOne says. -/
theorem responsesReachTheThread : Obligations.ResponsesReachTheThread := by
  unfold Obligations.ResponsesReachTheThread
  refine ⟨fun d k q adm s hq hkind hadm hawaits => does_lookupResponse hq hawaits hkind hadm,
    fun d k q adm s hq hkind hprobe hadm hawaits => does_tcamSearchResponse hq hawaits hkind hprobe hadm,
    fun d k q s x prof hq hkind hprobe hawaits => does_policerResponse hq hawaits hkind hprobe, fun l bank s r q h => ?_, fun l bank s r q h => ?_,
    fun p e tb s r q h => ?_⟩
  all_goals exact ⟨_, rfl, State.turnEnters_enterOne h⟩

end

section
/-! SUPPORT. Operation words: what an operation is written with and what a word is read as; the statement O34. -/

open Sys2Proof Sys2Proof.Machine
namespace Sys2Proof
namespace Machine

/-! ### The fields of a word (R157, R169) -/

theorem aluOf_aluCode (fn : AluFn) : aluOf (aluCode fn % 128) = some fn := by cases fn <;> rfl
theorem aluCode_lt (fn : AluFn) : aluCode fn < 128 := by cases fn <;> decide

/-- The upper of two fields that lie side by side. -/
theorem ofNat_upper {w k low : Nat} (x : BitVec w) (hlow : low < k) : BitVec.ofNat w ((x.toNat * k + low) / k) = x := by
  have hdiv : (x.toNat * k + low) / k = x.toNat := by
    rw [Nat.mul_comm, Nat.mul_add_div (by omega), Nat.div_eq_of_lt hlow, Nat.add_zero]
  rw [hdiv]
  exact ofNat_of_mod_eq x (Nat.mod_eq_of_lt x.isLt)

section
variable {op rd ra low : Nat}

theorem bits_opBits_rb (hlow : low < 4096) : bits (opBits op rd ra low) 11 7 = low / 128 := by
  unfold bits opBits
  omega

theorem bits_opBits_pd (hra : ra < 32) (hlow : low < 4096) : bits (opBits op rd ra low) 19 17 = rd % 8 := by
  unfold bits opBits
  omega

theorem bits_opBits_pd_unused (hrd : rd < 32) (hra : ra < 32) (hlow : low < 4096) : bits (opBits op rd ra low) 21 20 = rd / 8 := by
  unfold bits opBits
  omega

theorem opBits_mod_fn : opBits op rd ra low % 128 = low % 128 := by
  unfold opBits
  omega

theorem opBits_mod_low (hlow : low < 4096) : opBits op rd ra low % 4096 = low := by
  unfold opBits
  omega

theorem opBits_mod_rd : opBits op rd 0 0 % 131072 = 0 := by
  unfold opBits
  omega

/-- The fields of a control operation: bits 16:15 name it, and its target lies below them (R169). -/
theorem bits_opBits_control {k : Nat} (target : BitVec 15) (hrd : rd < 32) (hk : k < 4) (hlow : low = k * 32768 + target.toNat) :
    bits (opBits 0x3E rd 0 low) 27 22 = 0x3E ∧ bits (opBits 0x3E rd 0 low) 21 17 = rd ∧ bits (opBits 0x3E rd 0 low) 16 15 = k
      ∧ BitVec.ofNat 15 (opBits 0x3E rd 0 low) = target := by
  have htarget : opBits 0x3E rd 0 low % 2 ^ 15 = target.toNat := by
    unfold opBits
    omega
  refine ⟨?_, ?_, ?_, ofNat_of_mod_eq _ htarget⟩
  all_goals
    unfold bits opBits
    omega

end

theorem Op.code_lt (o : Op) : o.code < 2 ^ 28 := by
  cases o with
  | alu fn rd ra rb =>
    have hfn := aluCode_lt fn
    simp only [Op.code, opBits]
    omega
  | imm fn _ _ _ | shift fn _ _ _ | mem fn _ _ _ =>
    cases fn
    all_goals
      simp only [Op.code, opBits]
      omega
  | send ra last ch =>
    have hlast := b2n_le last
    simp only [Op.code, opBits]
    omega
  | nop | eclr | waitr | brk => decide
  | _ =>
    simp only [Op.code, opBits]
    omega

/-! ### From an operation to its word and back -/

theorem opOfBits_movi (rd : Rg) (v : BitVec 17) : opOfBits (Op.movi rd v).code = some (.movi rd v) := by
  have hop : bits (Op.movi rd v).code 27 22 = 0x0B := by simp only [Op.code, opBits, bits]; omega
  have hrd : bits (Op.movi rd v).code 21 17 = rd.toNat := by simp only [Op.code, opBits, bits]; omega
  have hv : BitVec.ofNat 17 (Op.movi rd v).code = v := ofNat_of_mod_eq _ (by simp only [Op.code, opBits]; omega)
  simp [opOfBits, hop, hrd, hv]

theorem opOfBits_plog (fn : BitVec 7) (pd pa pb : Pr) : opOfBits (Op.plog fn pd pa pb).code = some (.plog fn pd pa pb) := by
  have hop : bits (Op.plog fn pd pa pb).code 27 22 = 0x17 := by simp only [Op.code, opBits, bits]; omega
  have hpd : bits (Op.plog fn pd pa pb).code 21 20 = 0 ∧ bits (Op.plog fn pd pa pb).code 19 17 = pd.toNat := by
    simp only [Op.code, opBits, bits]; omega
  have hpa : bits (Op.plog fn pd pa pb).code 16 15 = 0 ∧ bits (Op.plog fn pd pa pb).code 14 12 = pa.toNat := by
    simp only [Op.code, opBits, bits]; omega
  have hpb : bits (Op.plog fn pd pa pb).code 11 10 = 0 ∧ bits (Op.plog fn pd pa pb).code 9 7 = pb.toNat := by
    simp only [Op.code, opBits, bits]; omega
  have hfn : (Op.plog fn pd pa pb).code % 128 = fn.toNat := by simp only [Op.code, opBits]; omega
  simp [opOfBits, hop, hpd, hpa, hpb, hfn, whenOp]

theorem opOfBits_cmpi {cond : BitVec 3} (pd : Pr) (ra : Rg) (v : BitVec 12) (hcond : cond.toNat ≤ 6) :
    opOfBits (Op.cmpi cond pd ra v).code = some (.cmpi cond pd ra v) := by
  have hpd : BitVec.ofNat 3 (pd.toNat % 8) = pd := ofNat_of_mod_eq _ (by omega)
  obtain rfl | rfl | rfl | rfl | rfl | rfl | rfl : cond = 0 ∨ cond = 1 ∨ cond = 2 ∨ cond = 3 ∨ cond = 4 ∨ cond = 5 ∨ cond = 6 := by
    revert cond
    decide
  all_goals
    simp (disch := omega) [Op.code, opOfBits, bits_opBits_op, bits_opBits_ra, bits_opBits_pd, bits_opBits_pd_unused, opBits_mod_low, whenOp, hpd]
    omega

/-- The rows of R169's table but those of slot 2, whose words are decoded above. -/
theorem opOfBits_code {o : Op} (h : o.ok = true) (hhome : o.homeSlot ≠ 2) : opOfBits o.code = some o := by
  cases o with
  | nop | eclr => rfl
  | alu fn rd ra rb =>
    have hfn := aluCode_lt fn
    simp (disch := omega) [Op.code, opOfBits, bits_opBits_op, bits_opBits_rd, bits_opBits_ra, bits_opBits_rb, opBits_mod_fn, aluOf_aluCode, ofNat_upper]
  | imm fn _ _ _ | mem fn _ _ _ =>
    cases fn <;> simp (disch := omega) [Op.code, opOfBits, bits_opBits_op, bits_opBits_rd, bits_opBits_ra, opBits_mod_low]
  | shift fn rd ra sh =>
    cases fn <;> simp (disch := omega) [Op.code, opOfBits, bits_opBits_op, bits_opBits_rd, bits_opBits_ra, opBits_mod_low, whenOp, sh.isLt]
  | ext rd ra pos len1 | ins rd ra pos len1 =>
    have hlen : BitVec.ofNat 6 (pos.toNat * 64 + len1.toNat) = len1 := ofNat_of_mod_eq _ (by omega)
    simp (disch := omega) [Op.code, opOfBits, bits_opBits_op, bits_opBits_rd, bits_opBits_ra, opBits_mod_low, ofNat_upper, hlen]
  | movi rd v => exact opOfBits_movi rd v
  | limm _ | limmh _ | movp _ => simp (disch := omega) [Op.code, opOfBits, bits_opBits_op, bits_opBits_rd, opBits_mod_rd, whenOp]
  | cmp cond pd ra rb =>
    have hcond : BitVec.ofNat 7 (cond.toNat % 128) = cond := ofNat_of_mod_eq _ (by omega)
    have hpd : BitVec.ofNat 3 (pd.toNat % 8) = pd := ofNat_of_mod_eq _ (by omega)
    simp (disch := omega) [Op.code, opOfBits, bits_opBits_op, bits_opBits_ra, bits_opBits_rb, bits_opBits_pd, bits_opBits_pd_unused, opBits_mod_fn, whenOp,
      hcond, hpd, ofNat_upper]
    omega
  | cmpi cond pd ra v => exact opOfBits_cmpi pd ra v (by simpa [Op.ok] using h)
  | plog fn pd pa pb => exact opOfBits_plog fn pd pa pb
  | pmov _ | eput _ | rds _ _ =>
    simp (disch := omega) [Op.code, opOfBits, bits_opBits_op, bits_opBits_rd, bits_opBits_ra, opBits_mod_low, whenOp]
  | eset ra k => simp (disch := omega) [Op.code, opOfBits, bits_opBits_op, bits_opBits_rd, bits_opBits_ra, opBits_mod_low, whenOp, k.isLt]
  | wrs _ _ | fadds _ _ _ =>
    simp (disch := omega) [Op.code, opOfBits, bits_opBits_op, bits_opBits_rd, bits_opBits_ra, bits_opBits_rb, opBits_mod_fn, whenOp]
  | br target =>
    obtain ⟨hop, hrd, hk, htarget⟩ := bits_opBits_control (rd := 0) (k := 0) target (by decide) (by decide) (Nat.zero_add _).symm
    simp [Op.code, opOfBits, hop, hrd, hk, htarget, whenOp]
  | call rl target =>
    obtain ⟨hop, hrd, hk, htarget⟩ := bits_opBits_control (k := 1) (low := 32768 + target.toNat) target rl.isLt (by decide) (by omega)
    simp [Op.code, opOfBits, hop, hrd, hk, htarget]
  | loop rl target =>
    obtain ⟨hop, hrd, hk, htarget⟩ := bits_opBits_control (k := 2) (low := 65536 + target.toNat) target rl.isLt (by decide) (by omega)
    simp [Op.code, opOfBits, hop, hrd, hk, htarget]
  | jmp rl =>
    obtain ⟨hop, hrd, hk, htarget⟩ := bits_opBits_control (k := 3) (low := 98304) 0 rl.isLt (by decide) rfl
    simp [Op.code, opOfBits, hop, hrd, hk, htarget, whenOp]
  | disp kind ra =>
    have hkind : BitVec.ofNat 3 (opBits 0x3F 0 ra.toNat kind.toNat) = kind := ofNat_of_mod_eq _ (by unfold opBits; omega)
    simp (disch := omega) [Op.code, opOfBits, bits_opBits_op, bits_opBits_rd, bits_opBits_ra, opBits_mod_low, whenOp, kind.isLt, hkind]
  | lkp _ _ _ | tcs _ _ _ | pol _ _ | stat _ _ | waitr | send _ _ _ | recv _ _ | recvt _ _ _ | abort _ | brk => exact absurd rfl hhome

/-! ### From a word to its operation and back -/

theorem forall_mem_whenOp {c : Bool} {o : Op} {P : Op → Prop} : (∀ o' ∈ whenOp c o, P o') ↔ (c = true → P o) := by
  unfold whenOp
  split <;> simp_all

theorem aluCode_of_aluOf {n : Nat} {fn : AluFn} (h : aluOf n = some fn) : aluCode fn = n := by
  unfold aluOf at h
  split at h <;> cases h <;> rfl

theorem b2n_bitOf (n i : Nat) : b2n (bitOf n i) = n / 2 ^ i % 2 := by
  obtain h | h := Nat.mod_two_eq_zero_or_one (n / 2 ^ i)
  · simp [b2n, bitOf, h]
  · simp [b2n, bitOf, h]

theorem ofNat_eq_zero_iff (w n : Nat) : BitVec.ofNat w n = 0 ↔ n % 2 ^ w = 0 := by
  simp [← BitVec.toNat_inj]

/-- Whatever row of R169's table the bits belong to, the operation that it reads from them is written with the same bits: the fields that the
operation holds are the word's, and what the row does not use it requires to be 0. -/
theorem code_of_mem_opOfBits {w : Nat} (hw : w < 2 ^ 28) : ∀ o ∈ opOfBits w, o.code = w := by
  unfold opOfBits
  dsimp only
  split
  case h_2 hop =>
    intro o ho
    obtain ⟨fn, hfn, rfl⟩ := Option.map_eq_some_iff.mp ho
    have hcode := aluCode_of_aluOf hfn
    simp only [Op.code, opBits, BitVec.toNat_ofNat, hcode]
    unfold bits at *
    omega
  case' h_46 hop =>
    obtain hdir | hdir | hdir | hdir : bits w 16 15 = 0 ∨ bits w 16 15 = 1 ∨ bits w 16 15 = 2 ∨ bits w 16 15 = 3 := by
      unfold bits
      omega
    all_goals simp only [hdir]
  all_goals simp only [forall_mem_whenOp, Option.mem_some_iff, forall_eq', Option.not_mem_none, false_imp_iff, implies_true, Bool.and_eq_true,
    beq_iff_eq, decide_eq_true_eq, ofNat_eq_zero_iff]
  all_goals simp only [Op.code, opBits, BitVec.toNat_ofNat, BitVec.reduceToNat, b2n_bitOf]
  all_goals unfold bits at *
  all_goals omega

/-- A word that holds an operation decodes to it. -/
theorem opOf_opWord_of_fits {gd : BitVec 4} {o : Op} (h : opFits gd o = true) : opOf (opWord gd o) = some (gd, o) := by
  unfold opFits at h
  simp only [Bool.and_eq_true, Bool.or_eq_true, bne_iff_ne, ne_eq, beq_iff_eq] at h
  obtain ⟨hok, hnop⟩ := h
  by_cases hop : o = .nop
  · obtain rfl : gd = 0 := hnop.resolve_left (not_not_intro hop)
    rw [hop]
    exact opOf_zero
  by_cases hhome : o.homeSlot = 2
  · cases o with
    | lkp rd ra tb => exact opOf_lkp gd rd ra tb
    | tcs rd off prof => exact opOf_tcs gd rd off prof
    | pol rd ra => exact opOf_pol gd rd ra
    | stat ra rb => exact opOf_stat gd ra rb
    | waitr => exact opOf_waitr gd
    | send ra last ch => exact opOf_send gd ra last ch
    | recv rd ch => exact opOf_recv gd ch (by simpa [Op.ok] using hok)
    | recvt rd pd ch => exact opOf_recvt gd pd ch (by simpa [Op.ok] using hok)
    | abort ra => exact opOf_abort gd ra
    | brk => exact opOf_brk gd
    | _ => cases hhome
  · exact opOf_opWord o.code_lt (opOfBits_code hok hhome) hok hop

theorem opWord_of_opOf {w : Word} {gd : BitVec 4} {o : Op} (h : opOf w = some (gd, o)) : opWord gd o = w ∧ opFits gd o = true := by
  unfold opOf at h
  dsimp only at h
  split at h
  next o' hbits =>
    split at h
    next hfits =>
      obtain ⟨rfl, rfl⟩ := Prod.mk.inj (Option.some.inj h)
      refine ⟨BitVec.eq_of_toNat_eq ?_, hfits⟩
      have hcode := code_of_mem_opOfBits (Nat.mod_lt _ (by decide)) _ hbits
      rw [opWord, hcode, BitVec.toNat_ofNat, BitVec.toNat_ofNat]
      omega
    · cases h
  · cases h

end Machine
end Sys2Proof

/-- Settles O34: a word is its fields, and each row of R169's table reads of them what its operations were written with. -/
theorem operationWordsRoundTrip : Obligations.OperationWordsRoundTrip := by
  unfold Obligations.OperationWordsRoundTrip
  exact ⟨fun _ _ => opOf_opWord_of_fits, fun _ _ _ => opWord_of_opOf⟩

end

section
/-! SUPPORT. A bundle that holds one operation in its home slot and NOP elsewhere; the statement O35. -/

open Sys2Proof Sys2Proof.Machine
namespace Sys2Proof
namespace Machine

/-! ### NOPs around an operation (R156, R160) -/

/-- Slots that hold NOPs. -/
def Nops (l : List SlotOp) : Prop := ∀ x ∈ l, ∃ i, x = nopAt i

theorem Nops.nil : Nops [] := nofun

theorem Nops.cons {l : List SlotOp} (i : Nat) (h : Nops l) : Nops (nopAt i :: l) := by
  intro x hx
  obtain rfl | hx := List.mem_cons.mp hx
  · exact ⟨i, rfl⟩
  · exact h x hx

theorem Nops.of_cons {x : SlotOp} {l : List SlotOp} (h : Nops (x :: l)) : (∃ i, x = nopAt i) ∧ Nops l :=
  ⟨h x List.mem_cons_self, fun y hy => h y (List.mem_cons_of_mem _ hy)⟩

/-- What a rule for a NOP in front makes of all the NOPs in front. -/
theorem Nops.foldr {γ : Type} {f : List SlotOp → γ} (hf : ∀ i l, f (nopAt i :: l) = f l) : ∀ {pre : List SlotOp}, Nops pre → ∀ l, f (pre ++ l) = f l
  | [], _, _ => rfl
  | x :: pre, h, l => by
    obtain ⟨⟨i, rfl⟩, hpre⟩ := h.of_cons
    rw [List.cons_append, hf, Nops.foldr hf hpre]

/-- The operation that a bundle holds alone, in its home slot with its literal. -/
def aloneAt (gd : BitVec 4) (o : Op) (lit : Word) : SlotOp := { slot := o.homeSlot, gd := gd, op := o, lit := if o.literal then lit else 0 }

/-- The operations of a bundle are one in its home slot, and NOPs. -/
def Alone (ops : List SlotOp) (gd : BitVec 4) (o : Op) (lit : Word) : Prop :=
  ∃ pre post, Nops pre ∧ Nops post ∧ ops = pre ++ aloneAt gd o lit :: post

/-! ### The words of such a bundle -/

theorem Op.homeSlot_lt (o : Op) : o.homeSlot < 4 := by
  unfold Op.homeSlot
  cases hfound : (List.range 4).find? o.slotOk with
  | none => decide
  | some i => exact List.mem_range.mp (List.mem_of_find?_eq_some hfound)

theorem Op.homeSlot_of_literal {o : Op} (h : o.literal = true) : o.homeSlot = 0 := by
  cases o
  case limm rd => rfl
  case limmh rd => rfl
  all_goals cases h

theorem Op.slotOk_homeSlot (o : Op) : o.slotOk o.homeSlot = true := by
  cases o
  all_goals rfl


theorem bundleSlots_literal (b : BitVec 128) (n i : Nat) {gd : BitVec 4} {o : Op} (hword : opOf (bundleWord b i) = some (gd, o))
    (hlit : o.literal = true) : bundleSlots b (n + 2) i
      = ({ slot := i, gd := gd, op := o, lit := bundleWord b (i + 1) } :: (bundleSlots b n (i + 2)).1, (bundleSlots b n (i + 2)).2) := by
  simp [bundleSlots, hword, hlit]

/-- Slots of zero words hold NOPs, and none of them faults. -/
theorem bundleSlots_of_zero {b : BitVec 128} : ∀ {n i : Nat}, (∀ k, i ≤ k → k < i + n → bundleWord b k = 0) →
    ∃ l, Nops l ∧ bundleSlots b n i = (l, [])
  | 0, _, _ => ⟨[], .nil, rfl⟩
  | n + 1, i, h => by
    obtain ⟨l, hl, hrest⟩ := bundleSlots_of_zero (b := b) (n := n) (i := i + 1) fun k hi hk => h k (by omega) (by omega)
    refine ⟨nopAt i :: l, hl.cons i, ?_⟩
    rw [bundleSlots_step b n i (by rw [h i (by omega) (by omega), opOf_zero]) rfl, hrest]
    rfl

/-- Zero words in front of a slot hold NOPs. -/
theorem bundleSlots_skip {b : BitVec 128} (n : Nat) : ∀ {m i : Nat}, (∀ k, i ≤ k → k < i + m → bundleWord b k = 0) →
    ∃ l, Nops l ∧ bundleSlots b (m + n) i = (l ++ (bundleSlots b n (i + m)).1, (bundleSlots b n (i + m)).2)
  | 0, i, _ => ⟨[], .nil, by rw [Nat.zero_add]; rfl⟩
  | m + 1, i, h => by
    obtain ⟨l, hl, hrest⟩ := bundleSlots_skip (b := b) n (m := m) (i := i + 1) fun k hi hk => h k (by omega) (by omega)
    refine ⟨nopAt i :: l, hl.cons i, ?_⟩
    rw [Nat.add_right_comm, bundleSlots_step b (m + n) i (by rw [h i (by omega) (by omega), opOf_zero]) rfl, hrest,
      Nat.add_right_comm i 1 m, Nat.add_assoc]
    rfl

section
variable (gd : BitVec 4) (o : Op) (lit : Word)

theorem toNat_soloBundle_of_literal (hlit : o.literal = true) : (soloBundle gd o lit).toNat = (opWord gd o).toNat + lit.toNat * 2 ^ 32 := by
  have hword := (opWord gd o).isLt
  unfold soloBundle
  rw [Op.homeSlot_of_literal hlit, if_pos hlit, BitVec.toNat_ofNat]
  omega

theorem toNat_soloBundle_of_not_literal (hlit : o.literal = false) : (soloBundle gd o lit).toNat = (opWord gd o).toNat * 2 ^ (32 * o.homeSlot) := by
  have hword := (opWord gd o).isLt
  have hhome := o.homeSlot_lt
  unfold soloBundle
  rw [if_neg (by simp [hlit]), Nat.add_zero, BitVec.toNat_ofNat]
  refine Nat.mod_eq_of_lt ?_
  calc (opWord gd o).toNat * 2 ^ (32 * o.homeSlot) < 2 ^ 32 * 2 ^ (32 * o.homeSlot) := by gcongr
    _ = 2 ^ (32 + 32 * o.homeSlot) := (Nat.pow_add ..).symm
    _ ≤ 2 ^ 128 := Nat.pow_le_pow_right (by decide) (by omega)

theorem bundleWord_soloBundle (hlit : o.literal = false) {i : Nat} (hi : i < 4) :
    bundleWord (soloBundle gd o lit) i = if i = o.homeSlot then opWord gd o else 0 := by
  have hword := (opWord gd o).isLt
  have hhome := o.homeSlot_lt
  refine BitVec.eq_of_toNat_eq ?_
  rw [bundleWord, toNat_soloBundle_of_not_literal gd o lit hlit, BitVec.toNat_ofNat]
  generalize o.homeSlot = h at hhome
  obtain hlt | rfl | hlt := Nat.lt_trichotomy i h
  · obtain ⟨d, rfl⟩ := Nat.exists_eq_add_of_lt hlt
    have hshift : (opWord gd o).toNat * 2 ^ (32 * (i + d + 1)) / 2 ^ (32 * i) = (opWord gd o).toNat * 2 ^ (32 * d) * 2 ^ 32 :=
      Nat.div_eq_of_eq_mul_left (by positivity) (by ring)
    rw [hshift, Nat.mul_mod_left, if_neg (by omega)]
    rfl
  · rw [Nat.mul_div_cancel _ (by positivity), if_pos rfl, Nat.mod_eq_of_lt hword]
  · obtain ⟨d, rfl⟩ := Nat.exists_eq_add_of_lt hlt
    have hshift : (opWord gd o).toNat * 2 ^ (32 * h) < 2 ^ (32 * (h + d + 1)) := by
      calc (opWord gd o).toNat * 2 ^ (32 * h) < 2 ^ 32 * 2 ^ (32 * h) := by gcongr
        _ = 2 ^ (32 + 32 * h) := (Nat.pow_add ..).symm
        _ ≤ 2 ^ (32 * (h + d + 1)) := Nat.pow_le_pow_right (by decide) (by omega)
    rw [Nat.div_eq_of_lt hshift, if_neg (by omega)]
    rfl

theorem bundleWord_soloBundle_of_literal (hlit : o.literal = true) (i : Nat) :
    bundleWord (soloBundle gd o lit) i = if i = 0 then opWord gd o else if i = 1 then lit else 0 := by
  have hword := (opWord gd o).isLt
  have hlitLt := lit.isLt
  refine BitVec.eq_of_toNat_eq ?_
  rw [bundleWord, toNat_soloBundle_of_literal gd o lit hlit, BitVec.toNat_ofNat]
  obtain rfl | rfl | hi : i = 0 ∨ i = 1 ∨ 2 ≤ i := by omega
  · rw [if_pos rfl]
    omega
  · rw [if_neg (by decide), if_pos rfl]
    omega
  · have hbound : (opWord gd o).toNat + lit.toNat * 2 ^ 32 < 2 ^ (32 * i) := by
      calc (opWord gd o).toNat + lit.toNat * 2 ^ 32 < 2 ^ (32 * 2) := by omega
        _ ≤ 2 ^ (32 * i) := Nat.pow_le_pow_right (by decide) (by omega)
    rw [Nat.div_eq_of_lt hbound, if_neg (by omega), if_neg (by omega)]
    rfl

/-! ### What such a bundle decodes to -/

variable {gd o}

theorem bundleSlots_soloBundle (hop : opOf (opWord gd o) = some (gd, o)) :
    ∃ ops, Alone ops gd o lit ∧ bundleSlots (soloBundle gd o lit) 4 0 = (ops, []) := by
  cases hlit : o.literal with
  | true =>
    have hwords := bundleWord_soloBundle_of_literal gd o lit hlit
    obtain ⟨post, hpost, hrest⟩ := bundleSlots_of_zero (b := soloBundle gd o lit) (n := 2) (i := 2) fun k hk _ => by
      rw [hwords, if_neg (by omega), if_neg (by omega)]
    refine ⟨_, ⟨[], post, .nil, hpost, rfl⟩, ?_⟩
    rw [bundleSlots_literal _ 2 0 (by rw [hwords, if_pos rfl, hop]) hlit, hrest, hwords, if_neg (by decide), if_pos rfl]
    simp [aloneAt, Op.homeSlot_of_literal hlit, hlit]
  | false =>
    have hhome := o.homeSlot_lt
    have hwords (i : Nat) (hi : i < 4) := bundleWord_soloBundle gd o lit hlit hi
    obtain ⟨pre, hpre, hfront⟩ := bundleSlots_skip (b := soloBundle gd o lit) (3 - o.homeSlot + 1) (m := o.homeSlot) (i := 0) fun k _ hk => by
      rw [hwords k (by omega), if_neg (by omega)]
    obtain ⟨post, hpost, hrest⟩ := bundleSlots_of_zero (b := soloBundle gd o lit) (n := 3 - o.homeSlot) (i := o.homeSlot + 1) fun k hk hk' => by
      rw [hwords k (by omega), if_neg (by omega)]
    refine ⟨_, ⟨pre, post, hpre, hpost, rfl⟩, ?_⟩
    rw [show 4 = o.homeSlot + (3 - o.homeSlot + 1) by omega, hfront, Nat.zero_add,
      bundleSlots_step _ _ _ (by rw [hwords _ hhome, if_pos rfl, hop]) hlit, hrest]
    simp [aloneAt, hlit]

end

/-- One operation among NOPs exceeds no limit (R160). -/
theorem limitFaults_alone (rw : Nat → Nat) {ops : List SlotOp} {gd : BitVec 4} {o : Op} {lit : Word} (h : Alone ops gd o lit) :
    limitFaults rw ops [] false = [] := by
  obtain ⟨pre, post, hpre, hpost, rfl⟩ := h
  rw [hpre.foldr (f := (limitFaults rw · [] false)) fun i l => limitFaults_nopAt rw i l [] false, limitFaults_first, ← post.append_nil,
    hpost.foldr (f := (limitFaults rw · _ _)) fun i l => limitFaults_nopAt rw i l _ _, limitFaults]

theorem slotOk_alone {ops : List SlotOp} {gd : BitVec 4} {o : Op} {lit : Word} (h : Alone ops gd o lit) : ∀ x ∈ ops, x.op.slotOk x.slot = true := by
  obtain ⟨pre, post, hpre, hpost, rfl⟩ := h
  have hnops {l : List SlotOp} (hl : Nops l) (x : SlotOp) (hx : x ∈ l) : x.op.slotOk x.slot = true := by
    obtain ⟨i, rfl⟩ := hl x hx
    rfl
  intro x hx
  obtain hx | hx := List.mem_append.mp hx
  · exact hnops hpre x hx
  obtain rfl | hx := List.mem_cons.mp hx
  · exact o.slotOk_homeSlot
  · exact hnops hpost x hx

theorem decodeBundle_alone (rw : Nat → Nat) {gd : BitVec 4} {o : Op} (lit : Word) (hop : opOf (opWord gd o) = some (gd, o)) :
    ∃ ops, Alone ops gd o lit ∧ decodeBundle rw (soloBundle gd o lit) = (ops, []) := by
  obtain ⟨ops, halone, hslots⟩ := bundleSlots_soloBundle lit hop
  have hmisplaced : (ops.filter fun x => !x.op.slotOk x.slot) = [] :=
    List.filter_eq_nil_iff.mpr fun x hx => by simp [slotOk_alone halone x hx]
  refine ⟨ops, halone, ?_⟩
  unfold decodeBundle
  simp only [hslots, hmisplaced, limitFaults_alone rw halone, List.map_nil, List.append_nil]

/-- Of the operations of such a bundle those that are no NOP. -/
theorem filter_alone {ops : List SlotOp} {gd : BitVec 4} {o : Op} {lit : Word} (h : Alone ops gd o lit) :
    ops.filter (fun x => x.op != .nop) = if o = .nop then [] else [aloneAt gd o lit] := by
  obtain ⟨pre, post, hpre, hpost, rfl⟩ := h
  have hnops {l : List SlotOp} (hl : Nops l) : l.filter (fun x => x.op != .nop) = [] := by
    refine List.filter_eq_nil_iff.mpr fun x hx => ?_
    obtain ⟨i, rfl⟩ := hl x hx
    simp [nopAt]
  rw [List.filter_append, List.filter_cons, hnops hpre, hnops hpost, List.nil_append]
  by_cases ho : o = .nop
  · simp [aloneAt, ho]
  · simp [aloneAt, ho]

end Machine
end Sys2Proof

/-- Settles O35: the words of the bundle are the operation's own, its literal's and zeros, which are NOPs, and one operation exceeds no limit. -/
theorem operationAloneInBundle : Obligations.OperationAloneInBundle := by
  unfold Obligations.OperationAloneInBundle
  intro rw gd o lit hfits
  obtain ⟨ops, halone, hdecode⟩ := decodeBundle_alone rw lit (opOf_opWord_of_fits hfits)
  rw [hdecode]
  exact ⟨rfl, filter_alone halone⟩

end

section
/-! SUPPORT. An operation alone in its bundle: what its issue comes to when it meets no fault, under a true guard and under a false one. -/

open Sys2Proof Sys2Proof.Machine
namespace Sys2Proof
namespace Machine

/-! ### The bundle's operations, faults and branches (R158, R159, R164) -/

/-- An operation that ends its thread's program (R180). -/
def Op.ends : Op → Bool
  | .disp _ _ => true
  | _ => false

section
variable {ops : List SlotOp} {gd : BitVec 4} {o : Op} {lit : Word} (halone : Alone ops gd o lit)
include halone

theorem Alone.forall_of {P : SlotOp → Prop} (hnop : ∀ i, P (nopAt i)) (h : P (aloneAt gd o lit)) : ∀ x ∈ ops, P x := by
  obtain ⟨pre, post, hpre, hpost, rfl⟩ := halone
  have hnops {l : List SlotOp} (hl : Nops l) (x : SlotOp) (hx : x ∈ l) : P x := by
    obtain ⟨i, rfl⟩ := hl x hx
    exact hnop i
  intro x hx
  obtain hx | hx := List.mem_append.mp hx
  · exact hnops hpre x hx
  obtain rfl | hx := List.mem_cons.mp hx
  · exact h
  · exact hnops hpost x hx

/-- A search that no NOP satisfies finds the one operation or nothing. -/
theorem Alone.findSome? {γ : Type} {f : SlotOp → Option γ} (hnop : ∀ i, f (nopAt i) = none) : ops.findSome? f = f (aloneAt gd o lit) := by
  obtain ⟨pre, post, hpre, hpost, rfl⟩ := halone
  have hnops {l : List SlotOp} (hl : Nops l) : l.findSome? f = none := by
    refine List.findSome?_eq_none_iff.mpr fun x hx => ?_
    obtain ⟨i, rfl⟩ := hl x hx
    exact hnop i
  rw [List.findSome?_append, hnops hpre, Option.none_or, List.findSome?_cons, hnops hpost]
  split <;> simp_all

theorem Alone.find? {f : SlotOp → Bool} (hnop : ∀ i, f (nopAt i) = false) :
    ops.find? f = if f (aloneAt gd o lit) then some (aloneAt gd o lit) else none := by
  rw [← List.findSome?_guard, halone.findSome? fun i => by simp [Option.guard, hnop i]]
  rfl

theorem State.applyOps_alone (s₀ s : State) (p e t : Nat) (x : Thr) : State.applyOps s₀ p e t x ops s
    = if guardTrue gd x.p then s₀.opApply p e t x (if o.literal then lit else 0) o s else s := by
  obtain ⟨pre, post, hpre, hpost, rfl⟩ := halone
  have hnops (v : State) {l : List SlotOp} (hl : Nops l) (m : List SlotOp) : State.applyOps s₀ p e t x (l ++ m) v = State.applyOps s₀ p e t x m v :=
    hl.foldr (f := (State.applyOps s₀ p e t x · v)) (fun i l => State.applyOps_nopAt s₀ v p e t x i l) m
  rw [hnops s hpre, State.applyOps, ← post.append_nil, hnops _ hpost, State.applyOps]
  rfl

/-- The operation under a false guard, or one that neither ends the program nor branches, lets the thread go on. -/
theorem State.advance_next (s : State) (p e t : Nat) {x : Thr} (low : Nat) (hpc : x.pc.toNat ≠ 32767)
    (h : guardTrue gd x.p = true → o.ends = false ∧ branchTarget x o = none) : s.advance p e t x low ops = s.goTo p e t (x.pc + 1) := by
  have hends : ops.find? (fun o => guardTrue o.gd x.p && o.op.ends) = none := by
    refine (halone.find? fun i => Bool.and_false _).trans (if_neg ?_)
    cases hgd : guardTrue gd x.p with
    | false => simp [aloneAt, hgd]
    | true => simp [aloneAt, hgd, (h hgd).1]
  have hbranch : ops.findSome? (fun o => if guardTrue o.gd x.p then branchTarget x o.op else none) = none := by
    refine (halone.findSome? fun i => ite_self _).trans ?_
    cases hgd : guardTrue gd x.p with
    | false => simp [aloneAt, hgd]
    | true => simp [aloneAt, hgd, (h hgd).2]
  unfold State.advance
  split
  next hfound => cases hends.symm.trans hfound
  next =>
    rw [hbranch]
    exact if_neg hpc

/-- A branch that is taken: the bundle at its target is due two clocks later (R164). -/
theorem State.advance_branch (s : State) (p e t : Nat) {x : Thr} (low : Nat) {a : BitVec 15} (hgd : guardTrue gd x.p = true)
    (htarget : branchTarget x o = some a) : s.advance p e t x low ops = s.modThread p e t fun y => { y with pc := a, nextTick := s.bus.ticks + 2 } := by
  have hkind : o.ends = false := by
    cases o
    case disp kind ra => cases htarget
    all_goals rfl
  have hends : ops.find? (fun o => guardTrue o.gd x.p && o.op.ends) = none :=
    (halone.find? fun i => Bool.and_false _).trans (if_neg (by simp [aloneAt, hkind]))
  have hbranch : ops.findSome? (fun o => if guardTrue o.gd x.p then branchTarget x o.op else none) = some a :=
    (halone.findSome? fun i => ite_self _).trans ((if_pos hgd).trans htarget)
  unfold State.advance
  split
  next hfound => cases hends.symm.trans hfound
  next => rw [hbranch]

end

/-- A disposition ends the program (R181). -/
theorem State.advance_disp {ops : List SlotOp} {gd : BitVec 4} {kind : BitVec 3} {ra : Rg} {lit : Word} (halone : Alone ops gd (.disp kind ra) lit)
    (s : State) (p e t : Nat) {x : Thr} (low : Nat) (hgd : guardTrue gd x.p = true) :
    s.advance p e t x low ops = s.endProgram p e t x kind.toNat (x.reg ra).toNat := by
  have hends : ops.find? (fun o => guardTrue o.gd x.p && o.op.ends) = some (aloneAt gd (.disp kind ra) lit) :=
    (halone.find? fun i => Bool.and_false _).trans (if_pos (by simp [aloneAt, hgd, Op.ends]))
  unfold State.advance
  split
  next hfound =>
    cases hends.symm.trans hfound
    rfl
  next hnone => cases hends.symm.trans hnone

/-- Only the operations whose guard is true can make a bundle without a faulting slot fault (R158). -/
theorem State.bundleFault_of_guarded {u : State} {p e : Nat} {x : Thr} {b : BitVec 128} {ops : List SlotOp}
    (h : ∀ o ∈ ops, guardTrue o.gd x.p = true → u.opFault p e x (b.toNat % 2 ^ 64) o.op = none) : u.bundleFault p e x b ops [] = none := by
  refine List.findSome?_eq_none_iff.mpr fun i _ => ?_
  rw [if_neg (by simp)]
  split
  · rfl
  next o hfound =>
    split
    next hgd => rw [h o (List.mem_of_find?_eq_some hfound) hgd, Option.map_none]
    next => rfl

/-! ### The issue (R119, R159) -/

/-- A bundle that meets no fault: its operations act on a state in which the issue has begun, and the thread advances. -/
theorem State.issueNow_of_no_fault {s : State} {p e t : Nat} {b : BitVec 128} {ops : List SlotOp} (hst : (s.thread p e t).st ≠ .blockedInt)
    (hdec : decodeBundle s.tdRw b = (ops, [])) (hfault : (s.noted p e t b).bundleFault p e (s.thread p e t) b ops [] = none) :
    ∃ u, s.Begins u p e t ∧ s.issueNow p e t b =
      (let v := (State.applyOps u p e t (s.thread p e t) ops u).advance p e t (s.thread p e t) (b.toNat % 2 ^ 64) ops
       if (s.thread p e t).stepping then v.modThread p e t Thr.stepped else v) := by
  unfold State.noted at hfault
  refine ⟨_, s.begins_begun p e t b (ops.filter fun o => guardTrue o.gd (s.thread p e t).p && o.op.asks).length hst, ?_⟩
  unfold State.issueNow
  simp only [hdec]
  rw [hfault]
  rfl

/-- The issue of an operation alone that meets no fault: the operation acts, if its guard is true, on a state in which the issue has begun, and then
the thread advances. -/
theorem State.runOp_alone {s : State} {t : Tid} {g₀ gd : BitVec 4} {o : Op} {lit : Word} (hissues : Issues s t g₀) (hfits : opFits gd o = true)
    (hfault : guardTrue gd (thr s t).p = true → ∀ (u : State) (low : Nat), s.BusSame u → (∀ p k, u.slot p k = s.slot p k) →
      u.opFault t.ave t.eng (thr s t) low o = none) :
    ∃ ops low u, Alone ops gd o lit ∧ s.Begins u t.ave t.eng t.thr ∧ s.runOp t gd o lit
      = (if guardTrue gd (thr s t).p then u.opApply t.ave t.eng t.thr (thr s t) (if o.literal then lit else 0) o u else u).advance
          t.ave t.eng t.thr (thr s t) low ops := by
  obtain ⟨hcan, hstep, hreqs, hready, -, -, -⟩ := hissues
  have hst := State.ready_of_issues hcan
  obtain ⟨ops, halone, hdecode⟩ := decodeBundle_alone s.tdRw lit (opOf_opWord_of_fits hfits)
  have hnoted := s.traceSame_noted t.ave t.eng t.thr (soloBundle gd o lit)
  have hbus : s.BusSame (s.noted t.ave t.eng t.thr (soloBundle gd o lit)) := ⟨hnoted.reg, hnoted.busSame.late, hnoted.busSame.before⟩
  obtain ⟨u, hu, hrun⟩ := State.issueNow_of_no_fault (by simp [hst]) hdecode
    (State.bundleFault_of_guarded (halone.forall_of (fun _ _ => rfl) fun hgd => hfault hgd _ _ hbus fun p k => hnoted.slot p k))
  refine ⟨ops, (soloBundle gd o lit).toNat % 2 ^ 64, u, halone, hu, ?_⟩
  rw [State.runOp, if_pos hcan, State.issue_idle _ hreqs hready, hrun, State.applyOps_alone halone]
  dsimp only
  rw [show (s.thread t.ave t.eng t.thr).stepping = false from hstep, if_neg (by decide)]
  rfl

end Machine

section
variable {c : Instr} {s : State} {t : Tid} {g₀ gd : BitVec 4} {o : Op} {lit : Word} {P : State → Prop} (hexec : exec c s = .next (s.runOp t gd o lit))
  (hfits : opFits gd o = true)
include hexec hfits

/-- An operation whose guard is false: the thread goes on. -/
theorem does_skippedOp (hissues : Issues s t g₀) (hgd : guardTrue gd (thr s t).p = false) : Does c s (fun u => NoRegResult s u t ∧ EngineMemSame s u) := by
  obtain ⟨ops, low, u, halone, hu, hrun⟩ := State.runOp_alone (lit := lit) hissues hfits (fun h => by rw [hgd] at h; cases h)
  obtain ⟨-, -, -, -, -, -, hpc⟩ := id hissues
  rw [if_neg (by simp [hgd]), State.advance_next halone _ _ _ _ _ hpc fun h => by rw [hgd] at h; cases h] at hrun
  exact ⟨_, hexec.trans (congrArg _ hrun), noRegResult_of_issuing hissues (thr_of_begins hu) (issueFrame_of_begins hu),
    (engineMemSame_of_begins hu).goTo ..⟩

variable (hissues : Issues s t gd) (hfault : ∀ (u : State) (low : Nat), s.BusSame u → (∀ p k, u.slot p k = s.slot p k) →
  u.opFault t.ave t.eng (thr s t) low o = none)
include hissues hfault

/-- An operation that neither branches nor ends the program acts where its issue has begun, and the thread goes on. -/
theorem does_op (hends : o.ends = false) (hbranch : branchTarget (thr s t) o = none)
    (h : ∀ u, s.Begins u t.ave t.eng t.thr →
      P ((u.opApply t.ave t.eng t.thr (thr s t) (if o.literal then lit else 0) o u).goTo t.ave t.eng t.thr ((thr s t).pc + 1))) : Does c s P := by
  obtain ⟨ops, low, u, halone, hu, hrun⟩ := State.runOp_alone (lit := lit) hissues hfits (fun _ => hfault)
  obtain ⟨-, -, -, -, -, hgd, hpc⟩ := id hissues
  rw [if_pos hgd, State.advance_next halone _ _ _ _ _ hpc fun _ => ⟨hends, hbranch⟩] at hrun
  exact ⟨_, hexec.trans (congrArg _ hrun), h u hu⟩

/-- An operation that branches acts where its issue has begun, and the thread goes to the target. -/
theorem does_branch {a : BitVec 15} (htarget : branchTarget (thr s t) o = some a)
    (h : ∀ u v, s.Begins u t.ave t.eng t.thr → v = u.opApply t.ave t.eng t.thr (thr s t) (if o.literal then lit else 0) o u →
      P (v.modThread t.ave t.eng t.thr fun y => { y with pc := a, nextTick := v.bus.ticks + 2 })) : Does c s P := by
  obtain ⟨ops, low, u, halone, hu, hrun⟩ := State.runOp_alone (lit := lit) hissues hfits (fun _ => hfault)
  obtain ⟨-, -, -, -, -, hgd, -⟩ := id hissues
  rw [if_pos hgd, State.advance_branch halone _ _ _ _ _ hgd htarget] at hrun
  exact ⟨_, hexec.trans (congrArg _ hrun), h u _ hu rfl⟩

end

end Sys2Proof
end

section
/-! SUPPORT. Operations that write a register or a predicate of their thread; the statements O27, O28 and O29. -/

open Sys2Proof Sys2Proof.Machine
namespace Sys2Proof
namespace Machine

/-! ### Values (R169 to R171) -/

theorem getLsbD_lowMask {n i : Nat} (hi : i < 64) : (lowMask n).getLsbD i = decide (i < n) := by
  rw [lowMask, BitVec.getLsbD_ofNat, Nat.testBit_two_pow_sub_one, decide_eq_true hi, Bool.true_and]

theorem extResult_eq_bits (a : Dword) (pos len1 : BitVec 6) :
    extResult a pos len1 = BitVec.ofNat 64 (bits a.toNat (pos.toNat + len1.toNat) pos.toNat) := by
  refine BitVec.eq_of_getLsbD_eq fun i hi => ?_
  rw [extResult, BitVec.getLsbD_and, getLsbD_lowMask hi, BitVec.getLsbD_ushiftRight, BitVec.getLsbD_ofNat, bits_testBit, decide_eq_true hi,
    Bool.true_and, Bool.and_comm, ← BitVec.testBit_toNat]
  congr 2
  exact propext (by omega)

theorem getLsbD_insResult (d a : Dword) (pos len1 : BitVec 6) {i : Nat} (hi : i < 64) :
    (insResult d a pos len1).getLsbD i
      = if pos.toNat ≤ i ∧ i ≤ pos.toNat + len1.toNat then a.getLsbD (i - pos.toNat) else d.getLsbD i := by
  have hmask (j : Nat) (hj : j < 64) := getLsbD_lowMask (n := len1.toNat + 1) hj
  simp only [insResult, BitVec.getLsbD_or, BitVec.getLsbD_and, BitVec.getLsbD_not, BitVec.getLsbD_shiftLeft, hi, decide_true, Bool.true_and,
    hmask (i - pos.toNat) (by omega)]
  by_cases hlo : i < pos.toNat
  · rw [if_neg (by omega)]
    simp [hlo]
  by_cases hup : i ≤ pos.toNat + len1.toNat
  · rw [if_pos (by omega)]
    simp [hlo, show i - pos.toNat < len1.toNat + 1 by omega]
  · rw [if_neg (by omega)]
    simp [hlo, show ¬ i - pos.toNat < len1.toNat + 1 by omega]

/-- LIMMH's value: the literal above the register's low half. -/
theorem limmh_eq_append (x : Dword) (lit : Word) : BitVec.ofNat 64 (x.toNat % 2 ^ 32 + lit.toNat * 2 ^ 32) = lit ++ x.setWidth 32 := by
  refine BitVec.eq_of_toNat_eq ?_
  have hlit := lit.isLt
  rw [BitVec.toNat_ofNat, BitVec.toNat_append, BitVec.toNat_setWidth, ← Nat.shiftLeft_add_eq_or_of_lt (Nat.mod_lt _ (by decide)), Nat.shiftLeft_eq]
  omega

section
variable (a b : Dword)

theorem condResult_eq : condResult 0 a b = decide (a = b) := by simp [condResult, Bool.beq_eq_decide_eq]
theorem condResult_ne : condResult 1 a b = decide (a ≠ b) := by simp [condResult, bne, Bool.beq_eq_decide_eq]
theorem condResult_lt : condResult 2 a b = decide (a.toInt < b.toInt) := rfl
theorem condResult_ge : condResult 3 a b = decide (b.toInt ≤ a.toInt) := by
  change (!decide (a.toInt < b.toInt)) = _
  rw [← decide_not]
  simp only [not_lt]
theorem condResult_ltu : condResult 4 a b = decide (a.toNat < b.toNat) := rfl
theorem condResult_geu : condResult 5 a b = decide (b.toNat ≤ a.toNat) := by
  change (!decide (a.toNat < b.toNat)) = _
  rw [← decide_not]
  simp only [not_lt]
theorem condResult_tst : condResult 6 a b = decide (a &&& b ≠ 0) := by simp [condResult, bne, Bool.beq_eq_decide_eq]

end

end Machine

/-! ### The one register or predicate that is written (R163, R169) -/

section
variable {s u : State} {t : Tid} {gd : BitVec 4} (hissues : Issues s t gd) (hu : s.Begins u t.ave t.eng t.thr)
include hissues hu

/-- A thread that its operation changes by a function, and that goes on: what it is then, and what the issue leaves. -/
theorem goesOn_of_modThread {f : Thr → Thr} (hf : ∀ x, (f x).st = x.st ∧ (f x).slot = x.slot ∧ (f x).cbank = x.cbank) :
    let v := (u.modThread t.ave t.eng t.thr f).goTo t.ave t.eng t.thr ((thr s t).pc + 1)
    thr v t = { f ((thr s t).issuing s.bus.ticks) with pc := (thr s t).pc + 1, nextTick := s.bus.ticks + 1 }
      ∧ GoesOn s v t ∧ EngineMemSame s v ∧ IssueFrame s v t := by
  have hself := thr_modThread u t f
  have hticks : (u.modThread t.ave t.eng t.thr f).bus.ticks = s.bus.ticks := (congrArg (·.ticks) (State.setThread_bus ..)).trans hu.ticks
  obtain ⟨hst, hslot, hbank⟩ := hf ((thr s t).issuing s.bus.ticks)
  rw [thr_of_begins hu] at hself
  refine ⟨?_, goesOn_goTo ?_ ?_ ?_ hticks, ((engineMemSame_of_begins hu).modThread ..).goTo .., ((issueFrame_of_begins hu).modThread f).goTo _⟩
  · rw [thr_goTo, hself, hticks]
  · rw [hself, hst]
    exact State.ready_of_issues hissues.1
  · rw [hself, hslot, Thr.issuing]
  · rw [hself, hbank, Thr.issuing]

omit hu in
/-- A thread one of whose g registers its operation has written, and that goes on. -/
theorem wrote_goTo {w : State} {now lat : Nat} {rd : Rg} {v : Dword} (hself : thr w t = ((thr s t).issuing s.bus.ticks).wr now lat rd.toNat v)
    (hframe : IssueFrame s w t) :
    let w' := w.goTo t.ave t.eng t.thr ((thr s t).pc + 1)
    (thr w' t).reg rd = v ∧ (∀ r, r ≠ rd → (thr w' t).reg r = (thr s t).reg r) ∧ (thr w' t).p = (thr s t).p
      ∧ GoesOn s w' t ∧ IssueFrame s w' t := by
  obtain ⟨-, -, -, -, -, -, -, -, -, -, -, hticks, -⟩ := id hframe
  refine ⟨?_, fun r hr => ?_, ?_, goesOn_goTo ?_ ?_ ?_ hticks, hframe.goTo _⟩
  · rw [thr_goTo, hself]
    exact Tab.get_set_self ..
  · rw [thr_goTo, hself]
    exact Tab.get_set_ne _ _ _ fun h => hr (BitVec.eq_of_toNat_eq h)
  · rw [thr_goTo, hself]
    rfl
  all_goals rw [hself, Thr.wr, Thr.issuing]
  exact State.ready_of_issues hissues.1

theorem regResult_of_wr (lat : Nat) (rd : Rg) (v : Dword) :
    RegResult s ((u.modThread t.ave t.eng t.thr fun y => y.wr u.bus.ticks lat rd.toNat v).goTo t.ave t.eng t.thr ((thr s t).pc + 1)) t rd v := by
  have hself := thr_modThread u t fun y => y.wr u.bus.ticks lat rd.toNat v
  rw [thr_of_begins hu] at hself
  obtain ⟨hrd, hothers, hp, hgoes, hframe⟩ := wrote_goTo hissues hself ((issueFrame_of_begins hu).modThread _)
  exact ⟨hrd, hothers, hp, hgoes, ((engineMemSame_of_begins hu).modThread ..).goTo .., hframe⟩

theorem predResult_of_setPred (pd : Pr) (b : Bool) :
    PredResult s ((u.modThread t.ave t.eng t.thr fun y => y.setPred pd.toNat b).goTo t.ave t.eng t.thr ((thr s t).pc + 1)) t pd b := by
  obtain ⟨hself, hgoes, hmem, hframe⟩ := goesOn_of_modThread hissues hu (f := fun y => y.setPred pd.toNat b) fun _ => ⟨rfl, rfl, rfl⟩
  refine ⟨fun i hi => ?_, ?_, hgoes, hmem, hframe⟩
  all_goals rw [hself]
  · exact Thr.getLsbD_setPred _ _ _ hi
  · rfl

end

/-- An operation of the ALU, the predicates and the shared registers: it cannot fault, and neither branches nor ends the program. -/
def Machine.Op.computes : Op → Bool
  | .nop | .alu .. | .imm .. | .shift .. | .ext .. | .ins .. | .movi .. | .limm .. | .limmh .. | .cmp .. | .cmpi .. | .plog .. | .movp .. | .pmov ..
  | .rds .. | .wrs .. | .fadds .. => true
  | _ => false

section
variable {c : Instr} {s : State} {t : Tid} {gd : BitVec 4} {o : Op} {lit : Word} {P : State → Prop} (hexec : exec c s = .next (s.runOp t gd o lit))
  (hfits : opFits gd o = true) (hissues : Issues s t gd) (hcomputes : o.computes = true)
include hexec hfits hissues hcomputes

theorem does_computing (h : ∀ u, s.Begins u t.ave t.eng t.thr →
      P ((u.opApply t.ave t.eng t.thr (thr s t) (if o.literal then lit else 0) o u).goTo t.ave t.eng t.thr ((thr s t).pc + 1))) : Does c s P := by
  have hquiet : (∀ u : State, ∀ low, u.opFault t.ave t.eng (thr s t) low o = none) ∧ o.ends = false ∧ branchTarget (thr s t) o = none := by
    cases o
    case nop | alu | imm | shift | ext | ins | movi | limm | limmh | cmp | cmpi | plog | movp | pmov | rds | wrs | fadds =>
      exact ⟨fun _ _ => rfl, rfl, rfl⟩
    all_goals cases hcomputes
  exact does_op hexec hfits hissues (fun u low _ _ => hquiet.1 u low) hquiet.2.1 hquiet.2.2 h

/-- Such an operation that writes one g register. -/
theorem does_wr {lat : Nat} {rd : Rg} {v : Dword} (happly : ∀ u, s.Begins u t.ave t.eng t.thr →
      u.opApply t.ave t.eng t.thr (thr s t) (if o.literal then lit else 0) o u = u.modThread t.ave t.eng t.thr fun y => y.wr u.bus.ticks lat rd.toNat v) :
    Does c s (fun u => RegResult s u t rd v) := by
  refine does_computing hexec hfits hissues hcomputes fun u hu => ?_
  rw [happly u hu]
  exact regResult_of_wr hissues hu lat rd v

/-- Such an operation that writes one predicate. -/
theorem does_setPred {pd : Pr} {b : Bool} (happly : ∀ u, s.Begins u t.ave t.eng t.thr →
      u.opApply t.ave t.eng t.thr (thr s t) (if o.literal then lit else 0) o u = u.modThread t.ave t.eng t.thr fun y => y.setPred pd.toNat b) :
    Does c s (fun u => PredResult s u t pd b) := by
  refine does_computing hexec hfits hissues hcomputes fun u hu => ?_
  rw [happly u hu]
  exact predResult_of_setPred hissues hu pd b

end

section
variable {c : Instr} {s : State} {t : Tid} {gd : BitVec 4} (hissues : Issues s t gd)
include hissues

/-! ### ALU, immediates and fields (R169, R170) -/

theorem does_alu {fn : AluFn} {rd ra rb : Rg} (hexec : exec c s = .next (s.runOp t gd (.alu fn rd ra rb) 0)) (hrb : aluUnary fn = true → rb = 0) :
    Does c s (fun u => RegResult s u t rd (aluResult fn ((thr s t).reg ra) ((thr s t).reg rb))) := by
  have hfits : opFits gd (.alu fn rd ra rb) = true := by
    cases hfn : aluUnary fn with
    | false => simp [opFits, Op.ok, hfn]
    | true => simp [opFits, Op.ok, hrb hfn]
  exact does_wr hexec hfits hissues rfl fun _ _ => rfl

theorem does_imm {fn : ImmFn} {rd ra : Rg} {v : BitVec 12} (hexec : exec c s = .next (s.runOp t gd (.imm fn rd ra v) 0)) :
    Does c s (fun u => RegResult s u t rd (immResult fn ((thr s t).reg ra) v)) := does_wr hexec rfl hissues rfl fun _ _ => rfl

theorem does_shift {fn : ShiftFn} {rd ra : Rg} {sh : BitVec 6} (hexec : exec c s = .next (s.runOp t gd (.shift fn rd ra sh) 0)) :
    Does c s (fun u => RegResult s u t rd (shiftResult fn ((thr s t).reg ra) sh)) := does_wr hexec rfl hissues rfl fun _ _ => rfl

section
variable {pos len1 : BitVec 6} (hin : pos.toNat + len1.toNat + 1 ≤ 64) (rd ra : Rg)
include hin

theorem does_ext : Does (.ext t gd rd ra pos len1) s (fun u => RegResult s u t rd
    (BitVec.ofNat 64 (bits ((thr s t).reg ra).toNat (pos.toNat + len1.toNat) pos.toNat))) := by
  rw [← extResult_eq_bits]
  exact does_wr (lit := 0) rfl (by simpa [opFits, Op.ok] using hin) hissues rfl fun _ _ => rfl

theorem does_ins : Does (.ins t gd rd ra pos len1) s (fun u => (∃ w, RegResult s u t rd w ∧ ∀ i, i < 64 → w.getLsbD i =
    if pos.toNat ≤ i ∧ i ≤ pos.toNat + len1.toNat then ((thr s t).reg ra).getLsbD (i - pos.toNat) else ((thr s t).reg rd).getLsbD i)) := by
  obtain ⟨u, hexec, hresult⟩ := does_wr (c := .ins t gd rd ra pos len1) (lit := 0) (v := insResult ((thr s t).reg rd) ((thr s t).reg ra) pos len1) rfl
    (by simpa [opFits, Op.ok] using hin) hissues rfl fun _ _ => rfl
  exact ⟨u, hexec, _, hresult, fun i hi => getLsbD_insResult _ _ _ _ hi⟩

end

theorem does_limmh (rd : Rg) (lit : Word) : Does (.limmh t gd rd lit) s (fun u => RegResult s u t rd (lit ++ ((thr s t).reg rd).setWidth 32)) := by
  rw [← limmh_eq_append]
  exact does_wr (o := .limmh rd) rfl rfl hissues rfl fun _ _ => rfl

/-! ### Comparisons and predicates (R169, R171) -/

theorem does_nop (hgd : gd = 0) : Does (.nop t gd) s (fun u => NoRegResult s u t ∧ EngineMemSame s u) := by
  refine does_computing (o := .nop) (lit := 0) rfl (by simp [opFits, Op.ok, hgd]) hissues rfl fun u hu => ?_
  exact ⟨noRegResult_of_issuing hissues (thr_of_begins hu) (issueFrame_of_begins hu), (engineMemSame_of_begins hu).goTo ..⟩

theorem does_cmp {cond : BitVec 7} (hcond : cond.toNat ≤ 6) (pd : Pr) (ra rb : Rg) : Does (.cmp t gd cond pd ra rb) s (fun u =>
    PredResult s u t pd (condResult cond.toNat ((thr s t).reg ra) ((thr s t).reg rb))) :=
  does_setPred (lit := 0) rfl (by simpa [opFits, Op.ok] using hcond) hissues rfl fun _ _ => rfl

theorem does_cmpi {cond : BitVec 3} (hcond : cond.toNat ≤ 6) {pd : Pr} {ra : Rg} {v : BitVec 12}
    (hexec : exec c s = .next (s.runOp t gd (.cmpi cond pd ra v) 0)) {b : Bool} (hb : condResult cond.toNat ((thr s t).reg ra) (v.signExtend 64) = b) :
    Does c s (fun u => PredResult s u t pd b) := by
  rw [← hb]
  exact does_setPred hexec (by simpa [opFits, Op.ok] using hcond) hissues rfl fun _ _ => rfl

theorem does_plog {fn : BitVec 7} (hfn : fn.toNat ≤ 6) (pd pa pb : Pr) : Does (.plog t gd fn pd pa pb) s (fun u => PredResult s u t pd
    (plogResult fn.toNat ((thr s t).p.getLsbD pa.toNat) ((thr s t).p.getLsbD pb.toNat))) :=
  does_setPred (lit := 0) rfl (by simpa [opFits, Op.ok] using hfn) hissues rfl fun _ _ => rfl

theorem does_pmov (ra : Rg) : Does (.pmov t gd ra) s (fun u => (thr u t).p = ((thr s t).reg ra).setWidth 8 ∧ (thr u t).g = (thr s t).g
    ∧ GoesOn s u t ∧ EngineMemSame s u ∧ IssueFrame s u t) := by
  refine does_computing (o := .pmov ra) (lit := 0) rfl rfl hissues rfl fun u hu => ?_
  obtain ⟨hself, hrest⟩ := goesOn_of_modThread hissues hu (f := fun y => { y with p := ((thr s t).reg ra).setWidth 8 }) fun _ => ⟨rfl, rfl, rfl⟩
  exact ⟨(congrArg Thr.p hself).trans rfl, (congrArg Thr.g hself).trans rfl, hrest⟩

/-! ### Shared registers (R161, R162) -/

omit hissues in
theorem sreg_of_begins {u : State} (hu : s.Begins u t.ave t.eng t.thr) (n : Nat) : u.sreg t.ave t.eng n = s.sreg t.ave t.eng n :=
  hu.part (State.sreg · t.ave t.eng n) fun _ _ => rfl

section
variable {n : Rg} (hn : n.toNat ≤ 15)
include hn

theorem does_rds (rd : Rg) : Does (.rds t gd rd n) s (fun u => RegResult s u t rd (s.sreg t.ave t.eng n.toNat)) := by
  refine does_wr (o := .rds rd n) (lit := 0) (lat := 1) rfl (by simpa [opFits, Op.ok] using hn) hissues rfl fun u hu => ?_
  rw [← sreg_of_begins hu]
  rfl

theorem does_wrs (rb : Rg) : Does (.wrs t gd n rb) s (fun u => u.sreg t.ave t.eng n.toNat = (thr s t).reg rb
    ∧ (∀ k, k ≠ sregKey t.ave t.eng n.toNat → Tab.get 0 u.eng.sreg k = Tab.get 0 s.eng.sreg k) ∧ NoRegResult s u t ∧ u.eng.lm = s.eng.lm) := by
  refine does_computing (o := .wrs n rb) (lit := 0) rfl (by simpa [opFits, Op.ok] using hn) hissues rfl fun u hu => ?_
  obtain ⟨hlm, hsreg, -, -, -⟩ := engineMemSame_of_begins hu
  refine ⟨?_, fun k hk => ?_, noRegResult_of_issuing hissues (thr_of_begins (u := u) hu) (issueFrame_of_begins (u := u) hu), ?_⟩
  · exact (setThread_part (State.sreg · t.ave t.eng n.toNat) (fun _ _ _ => rfl) ..).trans (Tab.get_set_self ..)
  · refine (setThread_part (fun v : State => Tab.get 0 v.eng.sreg k) (fun _ _ _ => rfl) ..).trans ?_
    exact (Tab.get_set_ne _ _ _ hk).trans (by rw [hsreg])
  · exact (setThread_part (fun v : State => v.eng.lm) (fun _ _ _ => rfl) ..).trans hlm

omit hissues hn in
theorem opApply_fadds (u : State) (p e x : Nat) (y : Thr) (lit : Word) (rd rb : Rg) : u.opApply p e x y lit (.fadds rd n rb) u
    = (u.modThread p e x fun y => y.wr u.bus.ticks 1 rd.toNat (u.sreg p e n.toNat)).setSreg p e n.toNat (u.sreg p e n.toNat + y.reg rb) := rfl

theorem does_fadds (rd rb : Rg) : Does (.fadds t gd rd n rb) s (fun u => u.sreg t.ave t.eng n.toNat = s.sreg t.ave t.eng n.toNat + (thr s t).reg rb
    ∧ (thr u t).reg rd = s.sreg t.ave t.eng n.toNat ∧ (∀ r, r ≠ rd → (thr u t).reg r = (thr s t).reg r) ∧ (thr u t).p = (thr s t).p
    ∧ GoesOn s u t ∧ IssueFrame s u t) := by
  refine does_computing (o := .fadds rd n rb) (lit := 0) rfl (by simpa [opFits, Op.ok] using hn) hissues rfl fun u hu => ?_
  have hself := thr_modThread u t fun y => y.wr u.bus.ticks 1 rd.toNat (s.sreg t.ave t.eng n.toNat)
  rw [thr_of_begins hu] at hself
  have hframe := (issueFrame_of_begins hu).modThread fun y => y.wr u.bus.ticks 1 rd.toNat (s.sreg t.ave t.eng n.toNat)
  rw [opApply_fadds, sreg_of_begins hu]
  generalize (u.modThread t.ave t.eng t.thr fun y => y.wr u.bus.ticks 1 rd.toNat (s.sreg t.ave t.eng n.toNat)) = w at hself hframe ⊢
  refine ⟨?_, wrote_goTo (w := w.setSreg t.ave t.eng n.toNat _) hissues hself hframe⟩
  exact (setThread_part (State.sreg · t.ave t.eng n.toNat) (fun _ _ _ => rfl) ..).trans (Tab.get_set_self ..)

end

end

end Sys2Proof

/-- Settles O27: an ALU operation's one effect is the register written; an operation under a false guard leaves its thread as the issue does. -/
theorem aluOperationsComplete : Obligations.AluOperationsComplete := by
  unfold Obligations.AluOperationsComplete
  refine ⟨fun t gd rd ra rb s hissues => ?_, fun t gd rd ra rb s hissues hgd => ⟨?_, ?_, ?_⟩⟩
  · have hbinary {c : Instr} {fn : AluFn} (hexec : exec c s = .next (s.runOp t gd (.alu fn rd ra rb) 0)) (hfn : aluUnary fn = false) :=
      does_alu hissues hexec (by simp [hfn])
    have hunary {c : Instr} {fn : AluFn} (hexec : exec c s = .next (s.runOp t gd (.alu fn rd ra 0) 0)) := does_alu hissues hexec fun _ => rfl
    exact ⟨hbinary rfl rfl, hbinary rfl rfl, hbinary rfl rfl, hbinary rfl rfl, hbinary rfl rfl, hbinary rfl rfl, hbinary rfl rfl, hbinary rfl rfl,
      hbinary rfl rfl, hbinary rfl rfl, hbinary rfl rfl, hbinary rfl rfl, hbinary rfl rfl, hbinary rfl rfl, hbinary rfl rfl, hbinary rfl rfl,
      hunary rfl, hunary rfl, hunary rfl, hbinary rfl rfl, hbinary rfl rfl⟩
  · exact does_skippedOp (o := .alu .add rd ra rb) (lit := 0) rfl rfl hissues hgd
  · exact does_skippedOp (o := .wrs 1 rb) (lit := 0) rfl rfl hissues hgd
  · exact does_skippedOp (o := .disp 4 ra) (lit := 0) rfl rfl hissues hgd

/-- Settles O28: each of these operations writes one register and does nothing else; EXT, INS and LIMMH by their bits. -/
theorem immediateOperationsComplete : Obligations.ImmediateOperationsComplete := by
  unfold Obligations.ImmediateOperationsComplete
  intro t gd rd ra v sh pos len1 m lit n s hissues
  exact ⟨does_imm (fn := .addi) hissues rfl, does_imm (fn := .andi) hissues rfl, does_imm (fn := .ori) hissues rfl, does_imm (fn := .xori) hissues rfl,
    does_shift (fn := .shli) hissues rfl, does_shift (fn := .shri) hissues rfl, does_shift (fn := .sari) hissues rfl,
    fun hin => ⟨does_ext hissues hin rd ra, does_ins hissues hin rd ra⟩,
    does_wr (o := .movi rd m) (lit := 0) rfl rfl hissues rfl fun _ _ => rfl, does_wr (o := .limm rd) rfl rfl hissues rfl fun _ _ => rfl,
    does_limmh hissues rd lit, does_wr (o := .movp rd) (lit := 0) rfl rfl hissues rfl fun _ _ => rfl, fun hn => does_rds hissues hn rd⟩

/-- Settles O29: each comparison writes one predicate, with R171's condition of the same number; a shared register is written beside the thread. -/
theorem predicateAndSharedRegisterOperations : Obligations.PredicateAndSharedRegisterOperations := by
  unfold Obligations.PredicateAndSharedRegisterOperations
  refine ⟨fun t s hissues => does_nop hissues rfl, fun t gd cond pd ra rb s hissues hcond => does_cmp hissues hcond pd ra rb,
    fun t gd pd ra v s hissues => ?_, fun t gd fn pd pa pb s hissues hfn => does_plog hissues hfn pd pa pb,
    fun t gd ra s hissues => does_pmov hissues ra, fun t gd rd n rb s hissues hn => ⟨does_wrs hissues hn rb, does_fadds hissues hn rd rb⟩⟩
  exact ⟨does_cmpi (cond := 0) hissues (by decide) rfl (condResult_eq ..), does_cmpi (cond := 1) hissues (by decide) rfl (condResult_ne ..),
    does_cmpi (cond := 2) hissues (by decide) rfl (condResult_lt ..), does_cmpi (cond := 3) hissues (by decide) rfl (condResult_ge ..),
    does_cmpi (cond := 4) hissues (by decide) rfl (condResult_ltu ..), does_cmpi (cond := 5) hissues (by decide) rfl (condResult_geu ..),
    does_cmpi (cond := 6) hissues (by decide) rfl (condResult_tst ..)⟩

end

section
/-! SUPPORT. Operations on the header vector, the local memory and the edit script; the statement O30. -/

open Sys2Proof Sys2Proof.Machine
namespace Sys2Proof
namespace Machine

/-! ### Bytes in memory (R9, R167) -/

/-- Bytes written leave those past them. -/
theorem Tab.get_setList_above {α : Type} [DecidableEq α] (x : α) : ∀ (vs : List α) (t : Tab α) {n m : Nat}, n + vs.length ≤ m →
    Tab.get x (Tab.setList x t n vs) m = Tab.get x t m
  | [], _, _, _, _ => rfl
  | v :: vs, t, n, m, h => by
    rw [List.length_cons] at h
    rw [Tab.setList, Tab.get_setList_above x vs _ (by omega), Tab.get_set_ne x t v (by omega)]

/-- Bytes written leave all others. -/
theorem Tab.get_setList_of_outside {α : Type} [DecidableEq α] (x : α) {vs : List α} (t : Tab α) {n m : Nat} (h : m < n ∨ n + vs.length ≤ m) :
    Tab.get x (Tab.setList x t n vs) m = Tab.get x t m := by
  obtain h | h := h
  · exact Tab.getList_setList_below x vs t n m h
  · exact Tab.get_setList_above x vs t h

theorem length_leBytes : ∀ n k : Nat, (leBytes n k).length = k
  | _, 0 => rfl
  | n, k + 1 => congrArg (· + 1) (length_leBytes (n / 256) k)

theorem length_orderedBytes (le : Bool) (n k : Nat) : (orderedBytes le n k).length = k := by
  cases le
  · exact List.length_reverse.trans (length_leBytes n k)
  · exact length_leBytes n k

end Machine

section
variable {s : State} {t : Tid} {gd : BitVec 4} (hissues : Issues s t gd)
include hissues

/-! ### The slot of the thread's own packet (R113, R166, R177) -/

omit hissues in
theorem thrSlot_of_slot {u : State} {p : Nat} {x : Thr} {sl : Slot} (h : u.slot p x.slot = some sl) : u.thrSlot p x = sl := by
  rw [State.thrSlot, h, Option.getD_some]

/-- An operation that replaces the slot of its thread's packet. -/
theorem wroteSlot_goTo {u : State} (hu : s.Begins u t.ave t.eng t.thr) (k : Nat) (x : Option Slot) :
    let v := (u.setSlot t.ave k x).goTo t.ave t.eng t.thr ((thr s t).pc + 1)
    v.slot t.ave k = x ∧ NoRegResult s v t ∧ v.eng.lm = s.eng.lm ∧ v.eng.sreg = s.eng.sreg := by
  obtain ⟨hlm, hsreg, -, -, -⟩ := engineMemSame_of_begins hu
  refine ⟨?_, noRegResult_of_issuing hissues (thr_of_begins (u := u) hu) (issueFrame_of_begins (u := u) hu), ?_, ?_⟩
  · exact (setThread_part (State.slot · t.ave k) (fun _ _ _ => rfl) ..).trans (State.slot_setSlot_self ..)
  · exact (setThread_part (fun v : State => v.eng.lm) (fun _ _ _ => rfl) ..).trans hlm
  · exact (setThread_part (fun v : State => v.eng.sreg) (fun _ _ _ => rfl) ..).trans hsreg

/-- Bytes stored in the header vector of the thread's packet. -/
theorem wroteHv_goTo {u : State} (hu : s.Begins u t.ave t.eng t.thr) {sl : Slot} (hslot : s.slot t.ave (thr s t).slot = some sl) (a : Nat)
    (bs : List Byte) :
    let v := (u.writeHv t.ave (thr s t).slot a bs).goTo t.ave t.eng t.thr ((thr s t).pc + 1)
    (∃ sl', v.slot t.ave (thr s t).slot = some sl' ∧ Tab.getList 0 sl'.hv a bs.length = bs
      ∧ (∀ b, b < a ∨ a + bs.length ≤ b → Tab.get 0 sl'.hv b = Tab.get 0 sl.hv b) ∧ sl'.script = sl.script)
    ∧ NoRegResult s v t ∧ v.eng.lm = s.eng.lm ∧ v.eng.sreg = s.eng.sreg := by
  have hwrite : u.writeHv t.ave (thr s t).slot a bs = u.setSlot t.ave (thr s t).slot (some { sl with hv := Tab.setList 0 sl.hv a bs }) := by
    rw [State.writeHv, (hu.slot ..).trans hslot]
  obtain ⟨hwrote, hrest⟩ := wroteSlot_goTo hissues hu (thr s t).slot (some { sl with hv := Tab.setList 0 sl.hv a bs })
  rw [hwrite]
  exact ⟨⟨_, hwrote, Tab.getList_setList .., fun b hb => Tab.get_setList_of_outside 0 _ hb, rfl⟩, hrest⟩

/-- Bytes stored in local memory. -/
theorem wroteLm_goTo {u w : State} (hu : s.Begins u t.ave t.eng t.thr) {a : Nat} {bs : List Byte}
    (hw : w = { u with eng := { u.eng with lm := Tab.setList 0 u.eng.lm a bs } }) :
    let v := w.goTo t.ave t.eng t.thr ((thr s t).pc + 1)
    Tab.getList 0 v.eng.lm a bs.length = bs ∧ (∀ b, b < a ∨ a + bs.length ≤ b → Tab.get 0 v.eng.lm b = Tab.get 0 s.eng.lm b)
      ∧ NoRegResult s v t ∧ v.eng.sreg = s.eng.sreg ∧ v.eng.slots = s.eng.slots := by
  obtain ⟨hlm, hsreg, -, hslots, -⟩ := engineMemSame_of_begins hu
  rw [hlm] at hw
  subst hw
  have hwrote := setThread_part (fun v : State => v.eng.lm) (fun _ _ _ => rfl)
  refine ⟨?_, fun b hb => ?_, noRegResult_of_issuing hissues (thr_of_begins (u := u) hu) (issueFrame_of_begins (u := u) hu), ?_, ?_⟩
  · exact (congrArg (Tab.getList 0 · a bs.length) (hwrote ..)).trans (Tab.getList_setList ..)
  · exact (congrArg (Tab.get 0 · b) (hwrote ..)).trans (Tab.get_setList_of_outside 0 _ hb)
  · exact (setThread_part (fun v : State => v.eng.sreg) (fun _ _ _ => rfl) ..).trans hsreg
  · exact (setThread_part (fun v : State => v.eng.slots) (fun _ _ _ => rfl) ..).trans hslots

section
variable {sl : Slot} (hslot : s.slot t.ave (thr s t).slot = some sl) (he : t.eng.val ≠ 34)
include hslot he

/-! ### The header vector (R166, R167) -/

theorem does_hld {ra : Rg} {v : BitVec 12} (hin : ((thr s t).reg ra).toNat + v.toNat % 512 + memSize v ≤ 512) (rd : Rg) :
    Does (.hld t gd rd ra v) s (fun u => RegResult s u t rd
      (BitVec.ofNat 64 (orderedNat (v.getLsbD 9) (Tab.getList 0 sl.hv (((thr s t).reg ra).toNat + v.toNat % 512) (memSize v))))) := by
  refine does_op (o := .mem .hld rd ra v) (lit := 0) rfl rfl hissues (fun u low _ _ => ?_) rfl rfl fun u hu => ?_
  · exact (if_neg he).trans (if_neg (Nat.not_lt.mpr hin))
  · rw [← thrSlot_of_slot ((hu.slot ..).trans hslot)]
    exact regResult_of_wr hissues hu 2 rd _

theorem does_hst {ra : Rg} {v : BitVec 12} (hin : hvWritable (((thr s t).reg ra).toNat + v.toNat % 512) (memSize v) = true) (rd : Rg) :
    Does (.hst t gd rd ra v) s (fun u => (∃ sl', u.slot t.ave (thr s t).slot = some sl'
      ∧ Tab.getList 0 sl'.hv (((thr s t).reg ra).toNat + v.toNat % 512) (memSize v) = orderedBytes (v.getLsbD 9) ((thr s t).reg rd).toNat (memSize v)
      ∧ (∀ a, a < ((thr s t).reg ra).toNat + v.toNat % 512 ∨ ((thr s t).reg ra).toNat + v.toNat % 512 + memSize v ≤ a →
          Tab.get 0 sl'.hv a = Tab.get 0 sl.hv a)
      ∧ sl'.script = sl.script) ∧ NoRegResult s u t ∧ u.eng.lm = s.eng.lm ∧ u.eng.sreg = s.eng.sreg) := by
  refine does_op (o := .mem .hst rd ra v) (lit := 0) rfl rfl hissues (fun u low _ _ => ?_) rfl rfl fun u hu => ?_
  · exact (if_neg he).trans (if_neg (by rw [hvAddr, hin]; decide))
  have hwrote := wroteHv_goTo hissues hu hslot (((thr s t).reg ra).toNat + v.toNat % 512) (orderedBytes (v.getLsbD 9) ((thr s t).reg rd).toNat (memSize v))
  rw [length_orderedBytes] at hwrote
  exact hwrote

end

/-! ### Local memory (R168) -/

section
variable {ra : Rg} {v : BitVec 12} (haligned : lmAddr ((thr s t).reg ra) v % memSize v = 0) (hin : lmAddr ((thr s t).reg ra) v < lmSize t.eng) (rd : Rg)
include haligned hin

theorem does_lld : Does (.lld t gd rd ra v) s (fun u => RegResult s u t rd
    (BitVec.ofNat 64 (leNat (Tab.getList 0 s.eng.lm (lmKey t.ave t.eng (lmAddr ((thr s t).reg ra) v)) (memSize v))))) := by
  refine does_op (o := .mem .lld rd ra v) (lit := 0) rfl rfl hissues (fun u low _ _ => ?_) rfl rfl fun u hu => ?_
  · exact if_neg (by simp [haligned, hin])
  · obtain ⟨hlm, -⟩ := engineMemSame_of_begins hu
    rw [← hlm]
    exact regResult_of_wr hissues hu 2 rd _

theorem does_lst : Does (.lst t gd rd ra v) s (fun u =>
    Tab.getList 0 u.eng.lm (lmKey t.ave t.eng (lmAddr ((thr s t).reg ra) v)) (memSize v) = leBytes ((thr s t).reg rd).toNat (memSize v)
    ∧ (∀ a, a < lmKey t.ave t.eng (lmAddr ((thr s t).reg ra) v) ∨ lmKey t.ave t.eng (lmAddr ((thr s t).reg ra) v) + memSize v ≤ a →
        Tab.get 0 u.eng.lm a = Tab.get 0 s.eng.lm a)
    ∧ NoRegResult s u t ∧ u.eng.sreg = s.eng.sreg ∧ u.eng.slots = s.eng.slots) := by
  refine does_op (o := .mem .lst rd ra v) (lit := 0) rfl rfl hissues (fun u low _ _ => ?_) rfl rfl fun u hu => ?_
  · exact if_neg (by simp [haligned, hin])
  have hwrote := wroteLm_goTo hissues hu (a := lmKey t.ave t.eng (lmAddr ((thr s t).reg ra) v)) (bs := leBytes ((thr s t).reg rd).toNat (memSize v)) rfl
  rw [length_leBytes] at hwrote
  exact hwrote

end

/-! ### The edit script (R177, R182) -/

section
variable {c : Instr} {o : Op} {f : List Byte → List Byte} (hexec : exec c s = .next (s.runOp t gd o 0)) (hfits : opFits gd o = true)
  (hends : o.ends = false) (hbranch : branchTarget (thr s t) o = none)
  (happly : ∀ u : State, u.opApply t.ave t.eng t.thr (thr s t) 0 o u = u.modScript t.ave t.eng t.thr (thr s t).slot f)
include hexec hfits hends hbranch happly

theorem does_script_of_packet {sl : Slot} (hslot : s.slot t.ave (thr s t).slot = some sl) (he : t.eng.val ≠ 34)
    (hfault : ∀ (u : State) (low : Nat), u.scriptOf t.ave t.eng (thr s t) = sl.script → u.opFault t.ave t.eng (thr s t) low o = none) :
    Does c s (fun u => (u.slot t.ave (thr s t).slot) = some { sl with script := f sl.script } ∧ NoRegResult s u t) := by
  refine does_op hexec hfits hissues (fun u low _ hslots => hfault u low ?_) hends hbranch fun u hu => ?_
  · rw [State.scriptOf, if_neg (packetEngine_of_ne he), thrSlot_of_slot ((hslots ..).trans hslot)]
  · rw [ite_self, happly, State.modScript, if_neg (packetEngine_of_ne he), (hu.slot ..).trans hslot]
    obtain ⟨hwrote, hrest, -⟩ := wroteSlot_goTo hissues hu (thr s t).slot (some { sl with script := f sl.script })
    exact ⟨hwrote, hrest⟩

theorem does_script_of_supervisor (he : t.eng.val = 34)
    (hfault : ∀ (u : State) (low : Nat), u.scriptOf t.ave t.eng (thr s t) = (thr s t).script → u.opFault t.ave t.eng (thr s t) low o = none) :
    Does c s (fun u => (thr u t).script = f (thr s t).script ∧ NoRegResult s u t ∧ EngineMemSame s u) := by
  refine does_op hexec hfits hissues (fun u low _ _ => hfault u low (if_pos he)) hends hbranch fun u hu => ?_
  rw [ite_self, happly, State.modScript, if_pos (show (t.eng : Nat) = supEngine from he)]
  obtain ⟨hself, hgoes, hmem, hframe⟩ := goesOn_of_modThread hissues hu (f := fun y => { y with script := f y.script }) fun _ => ⟨rfl, rfl, rfl⟩
  exact ⟨(congrArg Thr.script hself).trans rfl, ⟨(congrArg Thr.g hself).trans rfl, (congrArg Thr.p hself).trans rfl, hgoes, hframe⟩, hmem⟩

end

section
variable {sl : Slot} (hslot : s.slot t.ave (thr s t).slot = some sl) (he : t.eng.val ≠ 34)
include hslot he

theorem does_eput_of_packet (hroom : sl.script.length < 64) (ra : Rg) : Does (.eput t gd ra) s (fun u =>
    u.slot t.ave (thr s t).slot = some { sl with script := sl.script ++ beBytes ((thr s t).reg ra).toNat 8 } ∧ NoRegResult s u t) :=
  does_script_of_packet hissues (o := .eput ra) (f := (· ++ beBytes ((thr s t).reg ra).toNat 8)) rfl rfl rfl rfl (fun _ => rfl) hslot he fun u low hscript =>
    if_neg (by rw [hscript]; exact Nat.not_le.mpr hroom)

theorem does_eset_of_packet {k : BitVec 3} (hin : 8 * k.toNat < sl.script.length) (ra : Rg) : Does (.eset t gd ra k) s (fun u =>
    u.slot t.ave (thr s t).slot = some { sl with script := scriptSet sl.script k.toNat ((thr s t).reg ra) } ∧ NoRegResult s u t) :=
  does_script_of_packet hissues (o := .eset ra k) (f := (scriptSet · k.toNat ((thr s t).reg ra))) rfl rfl rfl rfl (fun _ => rfl) hslot he fun u low hscript =>
    if_neg (by rw [hscript]; exact Nat.not_le.mpr hin)

theorem does_eclr_of_packet : Does (.eclr t gd) s (fun u => u.slot t.ave (thr s t).slot = some { sl with script := [] } ∧ NoRegResult s u t) :=
  does_script_of_packet hissues (o := .eclr) (f := fun _ => []) rfl rfl rfl rfl (fun _ => rfl) hslot he fun _ _ _ => rfl

end

section
variable (he : t.eng.val = 34)
include he

theorem does_eput_of_supervisor (hroom : (thr s t).script.length < 64) (ra : Rg) : Does (.eput t gd ra) s (fun u =>
    (thr u t).script = (thr s t).script ++ beBytes ((thr s t).reg ra).toNat 8 ∧ NoRegResult s u t ∧ EngineMemSame s u) :=
  does_script_of_supervisor hissues (o := .eput ra) (f := (· ++ beBytes ((thr s t).reg ra).toNat 8)) rfl rfl rfl rfl (fun _ => rfl) he fun u low hscript =>
    if_neg (by rw [hscript]; exact Nat.not_le.mpr hroom)

theorem does_eset_of_supervisor {k : BitVec 3} (hin : 8 * k.toNat < (thr s t).script.length) (ra : Rg) : Does (.eset t gd ra k) s (fun u =>
    (thr u t).script = scriptSet (thr s t).script k.toNat ((thr s t).reg ra) ∧ NoRegResult s u t ∧ EngineMemSame s u) :=
  does_script_of_supervisor hissues (o := .eset ra k) (f := (scriptSet · k.toNat ((thr s t).reg ra))) rfl rfl rfl rfl (fun _ => rfl) he fun u low hscript =>
    if_neg (by rw [hscript]; exact Nat.not_le.mpr hin)

theorem does_eclr_of_supervisor : Does (.eclr t gd) s (fun u => (thr u t).script = [] ∧ NoRegResult s u t ∧ EngineMemSame s u) :=
  does_script_of_supervisor hissues (o := .eclr) (f := fun _ => []) rfl rfl rfl rfl (fun _ => rfl) he fun _ _ _ => rfl

end

end

/-- A command does what follows from what it does. -/
theorem Does.mono {c : Instr} {s : State} {P Q : State → Prop} (h : Does c s P) (hPQ : ∀ u, P u → Q u) : Does c s Q :=
  let ⟨u, hexec, hP⟩ := h
  ⟨u, hexec, hPQ u hP⟩

end Sys2Proof

/-- Settles O30: loads write a register from bytes that the issue leaves alone; stores and script operations replace one memory's bytes. -/
theorem memoryOperationsComplete : Obligations.MemoryOperationsComplete := by
  unfold Obligations.MemoryOperationsComplete
  intro t gd rd ra v k sl s hissues hslot
  refine ⟨fun he hin => does_hld hissues hslot he hin rd, fun he hin => does_hst hissues hslot he hin rd,
    fun haligned hin => ⟨does_lld hissues haligned hin rd, does_lst hissues haligned hin rd⟩, fun he hroom => ?_, fun he hin => ?_, fun he => ?_,
    fun he hroom => does_eput_of_supervisor hissues he hroom ra, fun he hin => does_eset_of_supervisor hissues he hin ra,
    fun he => does_eclr_of_supervisor hissues he⟩
  · exact (does_eput_of_packet hissues hslot he hroom ra).mono fun u ⟨hwrote, hrest⟩ => ⟨by rw [hwrote]; rfl, by rw [hwrote]; rfl, hrest⟩
  · exact (does_eset_of_packet hissues hslot he hin ra).mono fun u ⟨hwrote, hrest⟩ => ⟨by rw [hwrote]; rfl, hrest⟩
  · exact (does_eclr_of_packet hissues hslot he).mono fun u ⟨hwrote, hrest⟩ => ⟨by rw [hwrote]; rfl, hrest⟩

end

section
/-! SUPPORT. Branches, calls, loops and dispositions; the statement O33. -/

open Sys2Proof Sys2Proof.Machine
namespace Sys2Proof

section
variable {s : State} {t : Tid} {gd : BitVec 4} (hissues : Issues s t gd)
include hissues

/-! ### Branches, calls and loops (R164, R169) -/

omit hissues in
/-- A thread that is sent to a branch's target. -/
theorem branched {v : State} {y : Thr} (hself : thr v t = y) (hframe : IssueFrame s v t) (a : BitVec 15) :
    let w := v.modThread t.ave t.eng t.thr fun y => { y with pc := a, nextTick := v.bus.ticks + 2 }
    thr w t = { y with pc := a, nextTick := s.bus.ticks + 2 } ∧ IssueFrame s w t := by
  obtain ⟨-, -, -, -, -, -, -, -, -, -, -, hticks, -⟩ := id hframe
  refine ⟨?_, hframe.modThread _⟩
  rw [thr_modThread, hself, hticks]

theorem does_br (a : BitVec 15) : Does (.br t gd a) s (fun u => (thr u t).pc = a ∧ (thr u t).nextTick = s.bus.ticks + 2 ∧ (thr u t).g = (thr s t).g
    ∧ IssueFrame s u t) := by
  refine does_branch (o := .br a) (lit := 0) rfl rfl hissues (fun _ _ _ _ => rfl) rfl fun u v hu hv => ?_
  obtain rfl : v = u := hv
  obtain ⟨hself, hframe⟩ := branched (thr_of_begins hu) (issueFrame_of_begins hu) a
  exact ⟨(congrArg Thr.pc hself).trans rfl, (congrArg Thr.nextTick hself).trans rfl, (congrArg Thr.g hself).trans rfl, hframe⟩

theorem does_jmp (rl : Rg) : Does (.jmp t gd rl) s (fun u => (thr u t).pc = ((thr s t).reg rl).setWidth 15 ∧ (thr u t).g = (thr s t).g
    ∧ IssueFrame s u t) := by
  refine does_branch (o := .jmp rl) (lit := 0) rfl rfl hissues (fun _ _ _ _ => rfl) rfl fun u v hu hv => ?_
  obtain rfl : v = u := hv
  obtain ⟨hself, hframe⟩ := branched (thr_of_begins hu) (issueFrame_of_begins hu) (((thr s t).reg rl).setWidth 15)
  exact ⟨(congrArg Thr.pc hself).trans rfl, (congrArg Thr.g hself).trans rfl, hframe⟩

omit hissues in
/-- A branch that also writes a register. -/
theorem wrote_branched {u : State} (hu : s.Begins u t.ave t.eng t.thr) (rl : Rg) (x : Dword) (a : BitVec 15) :
    let v := u.modThread t.ave t.eng t.thr fun y => y.wr u.bus.ticks 1 rl.toNat x
    let w := v.modThread t.ave t.eng t.thr fun y => { y with pc := a, nextTick := v.bus.ticks + 2 }
    (thr w t).pc = a ∧ (thr w t).reg rl = x ∧ (∀ r, r ≠ rl → (thr w t).reg r = (thr s t).reg r) ∧ IssueFrame s w t := by
  have hself := thr_modThread u t fun y => y.wr u.bus.ticks 1 rl.toNat x
  rw [thr_of_begins hu] at hself
  obtain ⟨hself', hframe⟩ := branched hself ((issueFrame_of_begins hu).modThread _) a
  refine ⟨(congrArg Thr.pc hself').trans rfl, ?_, fun r hr => ?_, hframe⟩
  · exact (congrArg (Thr.reg · rl) hself').trans (Tab.get_set_self ..)
  · exact (congrArg (Thr.reg · r) hself').trans (Tab.get_set_ne _ _ _ fun h => hr (BitVec.eq_of_toNat_eq h))

theorem does_call (rl : Rg) (a : BitVec 15) : Does (.call t gd rl a) s (fun u => (thr u t).pc = a
    ∧ (thr u t).reg rl = BitVec.ofNat 64 ((thr s t).pc.toNat + 1) ∧ (∀ r, r ≠ rl → (thr u t).reg r = (thr s t).reg r) ∧ IssueFrame s u t) := by
  refine does_branch (o := .call rl a) (lit := 0) rfl rfl hissues (fun _ _ _ _ => rfl) rfl fun u v hu hv => ?_
  subst hv
  exact wrote_branched hu rl _ a

theorem does_loop (rl : Rg) (a : BitVec 15) : Does (.loop t gd rl a) s (fun u => (thr u t).reg rl = (thr s t).reg rl - 1
    ∧ (thr u t).pc = (if (thr s t).reg rl = 1 then (thr s t).pc + 1 else a) ∧ IssueFrame s u t) := by
  have hzero : (thr s t).reg rl - 1 = 0 ↔ (thr s t).reg rl = 1 := sub_eq_zero
  by_cases hlast : (thr s t).reg rl = 1
  · rw [if_pos hlast]
    refine does_op (o := .loop rl a) (lit := 0) rfl rfl hissues (fun _ _ _ _ => rfl) rfl (if_pos (hzero.mpr hlast)) fun u hu => ?_
    obtain ⟨hrl, -, -, ⟨hpc, -⟩, -, hframe⟩ := regResult_of_wr hissues hu 1 rl ((thr s t).reg rl - 1)
    exact ⟨hrl, hpc, hframe⟩
  · rw [if_neg hlast]
    refine does_branch (o := .loop rl a) (lit := 0) rfl rfl hissues (fun _ _ _ _ => rfl) (if_neg fun h => hlast (hzero.mp h)) fun u v hu hv => ?_
    subst hv
    obtain ⟨hpc, hrl, -, hframe⟩ := wrote_branched hu rl ((thr s t).reg rl - 1) a
    exact ⟨hrl, hpc, hframe⟩

/-! ### Dispositions (R180, R181) -/

/-- A slot whose packet's program has ended with a disposition, the script kept by those that forward, replicate or punt. -/
def Machine.Slot.ended (sl : Slot) (kind : Nat) (w : Nat) : Slot :=
  { sl with phase := .done, disp := some (dispOf kind w), script := if kind ≤ 2 then sl.script else [] }

omit hissues in
theorem Machine.State.BusSame.badDisp {u : State} (h : s.BusSame u) (kind w : Nat) : u.badDisp kind w = s.badDisp kind w := by
  have hlists : u.replLists = s.replLists := by
    rw [State.replLists, h.fld (by decide), State.replLists]
  unfold State.badDisp
  rw [hlists]

omit hissues in
theorem Machine.State.dispose_of_slot {u : State} {p k : Nat} {sl : Slot} (h : u.slot p k = some sl) (d : Disp) (script : List Byte) :
    u.dispose p k d script = u.setSlot p k (some { sl with phase := .done, disp := some d, script := script }) := by
  rw [State.dispose, h]

omit hissues in
/-- The end of a program: the packet's slot keeps the disposition, and the thread is FREE from the next clock. -/
theorem ended_of_begins {u : State} (hu : s.Begins u t.ave t.eng t.thr) {sl : Slot} (hslot : s.slot t.ave (thr s t).slot = some sl) (kind w : Nat) :
    let v := u.endProgram t.ave t.eng t.thr (thr s t) kind w
    v.slot t.ave (thr s t).slot = some (sl.ended kind w) ∧ thr v t = (thr s t).freed s.bus.ticks := by
  have hslot' : u.slot t.ave (thr s t).slot = some sl := (hu.slot ..).trans hslot
  unfold State.endProgram
  rw [thrSlot_of_slot hslot']
  refine ⟨?_, ?_⟩
  · refine (setThread_part (State.slot · t.ave (thr s t).slot) (fun _ _ _ => rfl) ..).trans ?_
    rw [State.dispose_of_slot (((State.TraceSame.refl u).modSample _ _).slot .. |>.trans hslot')]
    exact State.slot_setSlot_self ..
  · rw [← hu.ticks]
    exact thr_setThread ..

/-- A disposition of a packet thread whose word is within its ranges. -/
theorem does_disp {c : Instr} {kind : BitVec 3} {ra : Rg} {sl : Slot} (hexec : exec c s = .next (s.runOp t gd (.disp kind ra) 0)) (hkind : kind.toNat ≤ 4)
    (he : t.eng.val ≠ 34) (hslot : s.slot t.ave (thr s t).slot = some sl) (hok : s.badDisp kind.toNat ((thr s t).reg ra).toNat = none) :
    Does c s (fun u => u.slot t.ave (thr s t).slot = some (sl.ended kind.toNat ((thr s t).reg ra).toNat) ∧ thr u t = (thr s t).freed s.bus.ticks) := by
  have hfault (u : State) (low : Nat) (hbus : s.BusSame u) : u.opFault t.ave t.eng (thr s t) low (.disp kind ra) = none :=
    (if_neg he).trans (by rw [hbus.badDisp, hok, Option.map_none])
  obtain ⟨ops, low, u, halone, hu, hrun⟩ := State.runOp_alone (lit := 0) hissues (by simpa [opFits, Op.ok] using hkind)
    (fun _ u low hbus _ => hfault u low hbus)
  obtain ⟨-, -, -, -, -, hgd, -⟩ := id hissues
  rw [if_pos hgd, State.advance_disp halone _ _ _ _ _ hgd] at hrun
  exact ⟨_, hexec.trans (congrArg _ hrun), ended_of_begins hu hslot ..⟩

end

end Sys2Proof

/-- Settles O33: a branch writes at most its register before the thread goes to its target; a disposition leaves the slot as `Slot.ended`. -/
theorem controlAndDispositions : Obligations.ControlAndDispositions := by
  unfold Obligations.ControlAndDispositions
  refine ⟨fun t gd rl a s hissues => ⟨does_br hissues a, does_call hissues rl a, does_loop hissues rl a, does_jmp hissues rl⟩,
    fun t gd ra sl s hissues he hslot => ⟨fun hqueue hmode => ?_, fun hlist hmode => ?_, fun hring => ?_, ?_, ?_⟩⟩
  · refine does_disp (kind := 0) hissues rfl (by decide) he hslot ?_
    exact (if_neg (by omega)).trans (if_neg (by omega))
  · refine does_disp (kind := 1) hissues rfl (by decide) he hslot ?_
    exact (if_neg (by omega)).trans (if_neg (by omega))
  · refine (does_disp (kind := 2) hissues rfl (by decide) he hslot (if_neg (by omega))).mono fun u ⟨hend, hfree⟩ => ⟨⟨_, hend, rfl⟩, hfree⟩
  · exact does_disp (kind := 3) hissues rfl (by decide) he hslot rfl
  · exact does_disp (kind := 4) hissues rfl (by decide) he hslot rfl

end

section
/-! SUPPORT. The commands of an edit script; the statement O42. -/

open Sys2Proof Sys2Proof.Machine
namespace Sys2Proof
namespace Machine

/-- The editor's step when the script of the PD that it takes up holds the command next. -/
theorem State.editStep_of_next {s : State} {tk : Taken} {p : Pd} {h : Handle} {j : EditJob} {x : EditCmd} {rest : List Byte}
    (htaken : s.editTaken = some tk) (hp : p = s.pdOf tk.pd) (hh : h = s.handle p.handle) (hj : j = s.editJob h) (hfin : j.fin = false)
    (hread : readEdit j.rest = (x, rest)) :
    s.editStep x = { s with sq := { s.sq with edit := some (j.apply h.frame p.pcdata p.copy x rest) } } := by
  subst hp hh hj
  unfold State.editStep
  rw [htaken]
  dsimp only
  rw [hread, hfin]
  simp

theorem EditJob.apply_fin (j : EditJob) (frame pc : List Byte) (copy : Bool) (rest : List Byte) :
    j.apply frame pc copy .fin rest = { j with rest := [], fin := true } := if_pos rfl

end Machine

/-- A command other than EDIT_END leaves the script as `Edited` says (R178). -/
theorem edited_of_apply (s : State) (j : EditJob) (frame pc : List Byte) (copy : Bool) {x : EditCmd} (hx : x ≠ .fin) (rest : List Byte) :
    Edited s { s with sq := { s.sq with edit := some (j.apply frame pc copy x rest) } } j frame pc copy x rest := by
  unfold Edited EditJob.apply
  rw [if_neg hx]
  cases editRange frame pc copy x with
  | none => rfl
  | some range => simp only [Bool.or_eq_true, decide_eq_true_eq]

end Sys2Proof

/-- Settles O42: when the script holds the command next, the editor's step is `EditJob.apply`, which does what `Edited` says of the command's range. -/
theorem editCommandsAct : Obligations.EditCommandsAct := by
  unfold Obligations.EditCommandsAct
  intro tk p h j s htaken hp hh hj hfin
  have hedits {c : Instr} {x : EditCmd} (hexec : exec c s = .next (s.editStep x)) (hx : x ≠ .fin) (rest : List Byte) (hread : readEdit j.rest = (x, rest)) :
      Does c s (fun t => Edited s t j h.frame p.pcdata p.copy x rest) :=
    ⟨_, hexec.trans (congrArg _ (State.editStep_of_next htaken hp hh hj hfin hread)), edited_of_apply s j _ _ _ hx rest⟩
  refine ⟨fun rest hread => ⟨_, congrArg Host.Outcome.next (State.editStep_of_next htaken hp hh hj hfin hread), ?_⟩, fun _ _ => hedits rfl nofun,
    fun _ _ => hedits rfl nofun, fun _ _ => hedits rfl nofun, fun _ => hedits rfl nofun, fun _ => hedits rfl nofun, fun _ => hedits rfl nofun,
    fun _ _ => hedits rfl nofun⟩
  rw [EditJob.apply_fin]
  exact ⟨rfl, rfl⟩

end
